-- ==== Sys2Proof/Word.lean ====
section
/-! DEFINITION. The plain word types of the Fervia 7200 (00 R9, R13; 03 R62; 06 R148; 07 R172). -/
namespace Sys2Proof

abbrev Byte := BitVec 8
/-- A line of core memory, base memory or DRAM: 64 bytes, byte 0 in bits [7:0] (07 R172). -/
abbrev Line := BitVec 512
/-- The byte image of a vector register: 256 lanes of 32 bits, lane `l` in bits [32l+31:32l] (06 R148). -/
abbrev VReg := BitVec 8192
/-- A mask register: bit `l` governs lane `l` (06 R149). -/
abbrev Mask := BitVec 256
abbrev W64 := BitVec 64
abbrev W32 := BitVec 32

end Sys2Proof
end

