-- ==== Sys2Proof/Syntax.lean ====
section
/-! DEFINITION. The commands: one constructor per row of spec/opcode_table.json, each with the operands the
row's rule gives it. A row that a core executes names the core and carries the bundle field as 03 lays it out;
a row of the mailbox names the slot and carries the command's header fields and payload (13 R350); a timed
event carries the tick at which it falls; a row that meets the physical world carries what the world gives. -/
namespace Sys2Proof

/-- A core of a context: context x0-x15 and program core index (00 Numbering, 01 R18). -/
structure CoreRef where
  ctx : Nat
  core : Nat
  deriving DecidableEq, Repr

/-- The CTL field of a bundle, 48 bits (03 R68). -/
abbrev CtlField := BitVec 48

/-- A flit of 64 bytes (12 R305). -/
abbrev Flit := BitVec 512

/-- The SCALAR field without its SOP, which the constructor names (03 R75). -/
structure ScalarField where
  sd : BitVec 5
  sa : BitVec 5
  sb : BitVec 5
  bimm : Bool
  imm : BitVec 32
  sx : BitVec 8
  deriving DecidableEq, Repr

/-- The VECTOR field without VOP, load and store, which are rows of their own (03 R85). -/
structure VectorField where
  vd : BitVec 6
  va : BitVec 6
  vb : BitVec 6
  vc : BitVec 6
  vm : BitVec 3
  mz : Bool
  vfmt : BitVec 4
  vs : BitVec 5
  vsel : Bool
  vimm : BitVec 16
  deriving DecidableEq, Repr

/-- One 8-bit tap of the TAPS field (03 R80). -/
structure TapField where
  en : Bool
  td : BitVec 5
  inc : Bool
  deriving DecidableEq, Repr

/-- The four ARRAYk fields of a bundle, 24 bits each (03 R84). All four are operands of an array row because
broadcast feeding takes ARRAY0's fields and FEED comes from ARRAY0 and ARRAY2 (04 R105). -/
structure ArrayFields where
  a0 : BitVec 24
  a1 : BitVec 24
  a2 : BitVec 24
  a3 : BitVec 24
  deriving DecidableEq, Repr

/-- What the memory's check bits or parity bits show on an access (03 R92; 04 R121; 07 R178; 08 R217): how many words were
corrected, and the uncorrectable words by `line` and `word` of the access (DEDUCED, log 24). -/
structure Ecc where
  ce : Nat := 0
  ue : List (Nat × Nat) := []
  deriving DecidableEq, Repr

/-- The fetch of a bundle that idles (03 R66, R92): its core, and what the check bits of instruction memory show. -/
structure Fetch where
  core : CoreRef
  ecc : Ecc := {}
  deriving DecidableEq, Repr

/-- No error. -/
def Ecc.none : Ecc := {}
/-- Words corrected, and nothing worse. -/
def Ecc.corrected (n : Nat) : Ecc := { ce := n }
/-- One uncorrectable word. -/
def Ecc.uncorrectable (line word : Nat) : Ecc := { ue := [(line, word)] }
/-- Some word is uncorrectable. -/
def Ecc.bad (e : Ecc) : Bool := !e.ue.isEmpty

/-- What a maintenance frame serves (08 R200). -/
inductive MaintWork where
  | refresh
  | mailbox
  | calibration
  | scrub (e : Ecc)
  deriving DecidableEq, Repr

/-- One frame of a frame group: its header and the flits of its payload (12 R304, R305). -/
structure Frame where
  head : BitVec 20
  flits : List Flit
  deriving DecidableEq, Repr

/-- An idle frame group: the header of its frames and its map flit (12 R304, R306, R307). -/
structure IdleGroup where
  head : BitVec 20
  map : Flit
  deriving DecidableEq, Repr

/-- A flit with the circuit tag of the run that carries it (12 R308). -/
structure RunFlit where
  tag : Nat
  flit : Flit
  deriving DecidableEq, Repr

/-- An inventory or sensor request on the sideband (13 R345): the FRU record, or a numeric sensor of 16 R484. -/
inductive PldmRequest where
  | fru
  | sensor (i : Nat)
  deriving DecidableEq, Repr

/-- A mailbox command as its slot holds it (13 R350); the opcode is the constructor's. -/
structure Cmd where
  seq : Nat
  ctx : Nat
  ctxValid : Bool
  arg : BitVec 64
  payload : List Byte
  deriving DecidableEq, Repr

/-- An item of the mirror stream as the standby receives it (15 R463). -/
inductive MirrorItem where
  | checkpoint (no : Nat) (bytes : List Byte) (digest : BitVec 256)
  | admitted (orbit step pcore endpoint : Nat) (connId : BitVec 32) (index token : Nat) (lines : List Line)
  | boundary (orbit : Nat) (patch : List (BitVec 128))
  | intervention (orbit step kind pcore : Nat) (payload : List Byte)
  | ledgerEntry (orbit : Nat) (entry : List Byte)
  | sealHeader (orbit : Nat) (header : List Byte)
  | orbitEnd (orbit : Nat) (record : List Byte)
  deriving DecidableEq, Repr

/-- What a bring-up stage finds (15 R433-R443): whether the stage's own check passed, the defects found as
FUSE_ENTRY words, the physical cores (site x 80 + physical core) that failed self-test or had not passed it, and
how long the stage took in ms. -/
structure StageReport where
  ok : Bool
  defects : List (BitVec 64)
  failed : List Nat
  ms : Nat
  deriving DecidableEq, Repr

/-- The commands of the part: the rows of spec/opcode_table.json (DESIGN CHOICE, log 152). -/
inductive Instr where
  /-- IDLE_BUNDLE (R66). -/
  | idleBundle (f : Fetch)
  /-- BRK (R66). -/
  | brk (c : CoreRef)
  /-- RDV (R29). -/
  | rdv (c : CoreRef) (f : CtlField)
  /-- FENCE (R31). -/
  | fence (c : CoreRef)
  /-- RDV_FENCE (R32). -/
  | rdvFence (c : CoreRef) (f : CtlField)
  /-- ORBIT_END (R36). -/
  | orbitEnd (c : CoreRef)
  /-- RENDEZVOUS_RELEASE (R263). -/
  | rendezvousRelease (x : Nat)
  /-- FENCE_RELEASE (R31). -/
  | fenceRelease (x : Nat)
  /-- ORBIT_BOUNDARY (R36). -/
  | orbitBoundary (x : Nat)
  /-- JMP (R69). -/
  | jmp (c : CoreRef) (f : CtlField)
  /-- LOOP (R70). -/
  | loop (c : CoreRef) (f : CtlField)
  /-- UBR (R71). -/
  | ubr (c : CoreRef) (f : CtlField)
  /-- FBR (R72). -/
  | fbr (c : CoreRef) (f : CtlField)
  /-- ARMEND (R72). -/
  | armend (c : CoreRef)
  /-- ARM_CUT (R72). -/
  | armCut (c : CoreRef)
  /-- ADD (R76). -/
  | add (c : CoreRef) (f : ScalarField)
  /-- SUB (R76). -/
  | sub (c : CoreRef) (f : ScalarField)
  /-- MUL (R76). -/
  | mul (c : CoreRef) (f : ScalarField)
  /-- AND (R76). -/
  | and (c : CoreRef) (f : ScalarField)
  /-- OR (R76). -/
  | or (c : CoreRef) (f : ScalarField)
  /-- XOR (R76). -/
  | xor (c : CoreRef) (f : ScalarField)
  /-- SHL (R76). -/
  | shl (c : CoreRef) (f : ScalarField)
  /-- SHR (R76). -/
  | shr (c : CoreRef) (f : ScalarField)
  /-- SAR (R76). -/
  | sar (c : CoreRef) (f : ScalarField)
  /-- MIN (R76). -/
  | min (c : CoreRef) (f : ScalarField)
  /-- MAX (R76). -/
  | max (c : CoreRef) (f : ScalarField)
  /-- MINU (R76). -/
  | minu (c : CoreRef) (f : ScalarField)
  /-- MAXU (R76). -/
  | maxu (c : CoreRef) (f : ScalarField)
  /-- SLT (R76). -/
  | slt (c : CoreRef) (f : ScalarField)
  /-- SLTU (R76). -/
  | sltu (c : CoreRef) (f : ScalarField)
  /-- SEQ (R76). -/
  | seq (c : CoreRef) (f : ScalarField)
  /-- CSEL (R76). -/
  | csel (c : CoreRef) (f : ScalarField)
  /-- MOVI (R76). -/
  | movi (c : CoreRef) (f : ScalarField)
  /-- MOVHI (R76). -/
  | movhi (c : CoreRef) (f : ScalarField)
  /-- RDPAR (R76). -/
  | rdpar (c : CoreRef) (f : ScalarField)
  /-- WRPAR (R89). -/
  | wrpar (c : CoreRef) (f : ScalarField)
  /-- RDSTEP (R76). -/
  | rdstep (c : CoreRef) (f : ScalarField)
  /-- RDORBIT (R76). -/
  | rdorbit (c : CoreRef) (f : ScalarField)
  /-- RDPCI (R76). -/
  | rdpci (c : CoreRef) (f : ScalarField)
  /-- RDNCORE (R76). -/
  | rdncore (c : CoreRef) (f : ScalarField)
  /-- RDSEM (R76). -/
  | rdsem (c : CoreRef) (f : ScalarField)
  /-- RDBRK (R76). -/
  | rdbrk (c : CoreRef) (f : ScalarField)
  /-- REDUCE (R79). -/
  | reduce (c : CoreRef) (f : ScalarField)
  /-- RDWIRE (R76). -/
  | rdwire (c : CoreRef) (f : ScalarField)
  /-- LCSET (R70). -/
  | lcset (c : CoreRef) (f : ScalarField)
  /-- TAPSET (R82). -/
  | tapset (c : CoreRef) (f : ScalarField)
  /-- TAIL (R78). -/
  | tail (c : CoreRef) (f : ScalarField)
  /-- READ_TAP (R492). -/
  | readTap (c : CoreRef) (p : BitVec 2) (t : TapField) (e : Ecc)
  /-- WRITE_TAP (R492). -/
  | writeTap (c : CoreRef) (p : BitVec 2) (t : TapField) (e : Ecc)
  /-- CORE_MEM_WRITE_VISIBLE (R174). -/
  | coreMemWriteVisible (c : CoreRef)
  /-- PIPELINE_RESULT (R88). -/
  | pipelineResult (c : CoreRef) (e : Ecc)
  /-- WIRE_LANDING (R79). -/
  | wireLanding (x : Nat)
  /-- ENTER (R98). -/
  | enter (c : CoreRef) (k : BitVec 2) (f : ArrayFields) (e : Ecc)
  /-- SHIFT (R106). -/
  | shift (c : CoreRef) (k : BitVec 2) (f : ArrayFields) (e : Ecc)
  /-- SWAP (R108). -/
  | swap (c : CoreRef) (k : BitVec 2) (f : ArrayFields)
  /-- OPERAND_BUFFER_LANDING (R103). -/
  | operandBufferLanding (c : CoreRef)
  /-- ARRAY_OUTPUT (R110). -/
  | arrayOutput (c : CoreRef)
  /-- FADD (R151). -/
  | fadd (c : CoreRef) (f : VectorField)
  /-- FSUB (R151). -/
  | fsub (c : CoreRef) (f : VectorField)
  /-- FMUL (R151). -/
  | fmul (c : CoreRef) (f : VectorField)
  /-- FMA (R151). -/
  | fma (c : CoreRef) (f : VectorField)
  /-- FNMA (R151). -/
  | fnma (c : CoreRef) (f : VectorField)
  /-- FMIN (R157). -/
  | fmin (c : CoreRef) (f : VectorField)
  /-- FMAX (R157). -/
  | fmax (c : CoreRef) (f : VectorField)
  /-- FABS (R158). -/
  | fabs (c : CoreRef) (f : VectorField)
  /-- FNEG (R158). -/
  | fneg (c : CoreRef) (f : VectorField)
  /-- FCPYS (R158). -/
  | fcpys (c : CoreRef) (f : VectorField)
  /-- FRINT (R158). -/
  | frint (c : CoreRef) (f : VectorField)
  /-- FSCALE (R158). -/
  | fscale (c : CoreRef) (f : VectorField)
  /-- FEXP (R158). -/
  | fexp (c : CoreRef) (f : VectorField)
  /-- FMANT (R158). -/
  | fmant (c : CoreRef) (f : VectorField)
  /-- FCEQ (R151). -/
  | fceq (c : CoreRef) (f : VectorField)
  /-- FCLT (R151). -/
  | fclt (c : CoreRef) (f : VectorField)
  /-- FCLE (R151). -/
  | fcle (c : CoreRef) (f : VectorField)
  /-- FCUN (R151). -/
  | fcun (c : CoreRef) (f : VectorField)
  /-- FCLASS (R158). -/
  | fclass (c : CoreRef) (f : VectorField)
  /-- ICEQ (R151). -/
  | iceq (c : CoreRef) (f : VectorField)
  /-- ICLT (R151). -/
  | iclt (c : CoreRef) (f : VectorField)
  /-- ICLTU (R151). -/
  | icltu (c : CoreRef) (f : VectorField)
  /-- SEL (R151). -/
  | sel (c : CoreRef) (f : VectorField)
  /-- KAND (R151). -/
  | kand (c : CoreRef) (f : VectorField)
  /-- KOR (R151). -/
  | kor (c : CoreRef) (f : VectorField)
  /-- KXOR (R151). -/
  | kxor (c : CoreRef) (f : VectorField)
  /-- KNOT (R151). -/
  | knot (c : CoreRef) (f : VectorField)
  /-- IADD (R151). -/
  | iadd (c : CoreRef) (f : VectorField)
  /-- ISUB (R151). -/
  | isub (c : CoreRef) (f : VectorField)
  /-- IMUL (R151). -/
  | imul (c : CoreRef) (f : VectorField)
  /-- IAND (R151). -/
  | iand (c : CoreRef) (f : VectorField)
  /-- IOR (R151). -/
  | ior (c : CoreRef) (f : VectorField)
  /-- IXOR (R151). -/
  | ixor (c : CoreRef) (f : VectorField)
  /-- ISHL (R151). -/
  | ishl (c : CoreRef) (f : VectorField)
  /-- ISHR (R151). -/
  | ishr (c : CoreRef) (f : VectorField)
  /-- ISAR (R151). -/
  | isar (c : CoreRef) (f : VectorField)
  /-- IMIN (R151). -/
  | imin (c : CoreRef) (f : VectorField)
  /-- IMAX (R151). -/
  | imax (c : CoreRef) (f : VectorField)
  /-- UMIN (R151). -/
  | umin (c : CoreRef) (f : VectorField)
  /-- UMAX (R151). -/
  | umax (c : CoreRef) (f : VectorField)
  /-- MOV (R151). -/
  | mov (c : CoreRef) (f : VectorField)
  /-- VEC_MOVI (R151). -/
  | vecMovi (c : CoreRef) (f : VectorField)
  /-- LANEID (R151). -/
  | laneid (c : CoreRef) (f : VectorField)
  /-- VROTL (R151). -/
  | vrotl (c : CoreRef) (f : VectorField)
  /-- VLBC (R151). -/
  | vlbc (c : CoreRef) (f : VectorField)
  /-- CVTF (R160). -/
  | cvtf (c : CoreRef) (f : VectorField)
  /-- CVTW (R160). -/
  | cvtw (c : CoreRef) (f : VectorField)
  /-- CVTMX (R162). -/
  | cvtmx (c : CoreRef) (f : VectorField)
  /-- CVTWMX (R162). -/
  | cvtwmx (c : CoreRef) (f : VectorField)
  /-- FTOI (R159). -/
  | ftoi (c : CoreRef) (f : VectorField)
  /-- ITOF (R159). -/
  | itof (c : CoreRef) (f : VectorField)
  /-- VTAIL (R163). -/
  | vtail (c : CoreRef) (f : VectorField)
  /-- VTAILU (R163). -/
  | vtailu (c : CoreRef) (f : VectorField)
  /-- RFSUM (R164). -/
  | rfsum (c : CoreRef) (f : VectorField)
  /-- RFMAX (R164). -/
  | rfmax (c : CoreRef) (f : VectorField)
  /-- RFMIN (R164). -/
  | rfmin (c : CoreRef) (f : VectorField)
  /-- RISUM (R164). -/
  | risum (c : CoreRef) (f : VectorField)
  /-- RUSUM (R164). -/
  | rusum (c : CoreRef) (f : VectorField)
  /-- RIMAX (R164). -/
  | rimax (c : CoreRef) (f : VectorField)
  /-- RIMIN (R164). -/
  | rimin (c : CoreRef) (f : VectorField)
  /-- RAND (R164). -/
  | rand (c : CoreRef) (f : VectorField)
  /-- ROR (R164). -/
  | ror (c : CoreRef) (f : VectorField)
  /-- RARGMAX (R164). -/
  | rargmax (c : CoreRef) (f : VectorField)
  /-- RKCNT (R164). -/
  | rkcnt (c : CoreRef) (f : VectorField)
  /-- VECTOR_LOAD (R86). -/
  | vectorLoad (c : CoreRef) (r : BitVec 6)
  /-- VECTOR_STORE (R86). -/
  | vectorStore (c : CoreRef) (r : BitVec 6)
  /-- DRAM_TO_CORE (R209). -/
  | dramToCore (c : CoreRef) (sd : BitVec 8)
  /-- CORE_TO_DRAM (R209). -/
  | coreToDram (c : CoreRef) (sd : BitVec 8)
  /-- BASE_TO_CORE (R213). -/
  | baseToCore (c : CoreRef) (sd : BitVec 8)
  /-- CORE_TO_BASE (R213). -/
  | coreToBase (c : CoreRef) (sd : BitVec 8)
  /-- DRAM_TO_BASE (R213). -/
  | dramToBase (c : CoreRef) (sd : BitVec 8)
  /-- BASE_TO_DRAM (R213). -/
  | baseToDram (c : CoreRef) (sd : BitVec 8)
  /-- COMET (R214). -/
  | comet (c : CoreRef) (sd : BitVec 8)
  /-- DRAM_SLOT (R198). -/
  | dramSlot (d ch : Nat) (e : Ecc)
  /-- MAINTENANCE_FRAME (R200). -/
  | maintenanceFrame (d ch : Nat) (w : MaintWork)
  /-- DRAM_LINE_LANDS (R206). -/
  | dramLineLands (d : Nat) (i : Nat) (t : Nat)
  /-- DRAM_WRITE_COMMIT (R216). -/
  | dramWriteCommit (d : Nat) (i : Nat)
  /-- STAGING_DEPARTURE (R213). -/
  | stagingDeparture (x : Nat)
  /-- BASE_LINE_LANDS (R213). -/
  | baseLineLands (x : Nat)
  /-- BASE_BANK_ACCESS (R191). -/
  | baseBankAccess (x : Nat) (e : List Ecc)
  /-- BASE_SCRUB_SLOT (R192). -/
  | baseScrubSlot (q bank : Nat) (e : Ecc)
  /-- TRANSIT_LINE_ARRIVAL (R240). -/
  | transitLineArrival (x : Nat)
  /-- SEND (R254). -/
  | send (c : CoreRef) (sep : BitVec 4)
  /-- ELAST (R254). -/
  | elast (c : CoreRef) (sep : BitVec 4) (token : BitVec 16)
  /-- RECV (R256). -/
  | recv (c : CoreRef) (rep : BitVec 4) (e : Ecc)
  /-- SEMOP_ADD (R87). -/
  | semopAdd (c : CoreRef) (n : BitVec 6) (v : BitVec 16)
  /-- SEMOP_SUB (R87). -/
  | semopSub (c : CoreRef) (n : BitVec 6) (v : BitVec 16)
  /-- CHAN_LINES_ARRIVE (R259). -/
  | chanLinesArrive (x : Nat)
  /-- ENTRY_HEADER_ARRIVE (R259). -/
  | entryHeaderArrive (x : Nat)
  /-- LOCKED_CREDIT_RETURN (R259). -/
  | lockedCreditReturn (x : Nat)
  /-- STALL (R270). -/
  | stall (x : Nat) (t : Nat)
  /-- DEADLINE_MISS (R220). -/
  | deadlineMiss (x : Nat) (t : Nat)
  /-- WAIT_MISS (R220). -/
  | waitMiss (x : Nat) (t : Nat)
  /-- ORBIT_ABANDON (R221). -/
  | orbitAbandon (x : Nat)
  /-- BEAT (R273). -/
  | beat (d : Nat) (replicaPs : Nat)
  /-- PACE_SWITCH (R290). -/
  | paceSwitch (t : Nat)
  /-- OSC_TRIM (R299). -/
  | oscTrim (d : Nat) (move : Option Bool)
  /-- DRAM_RETRAIN (R298). -/
  | dramRetrain (d : Nat) (t : Nat)
  /-- LINK_ADAPTATION (R298). -/
  | linkAdaptation (p : Nat) (t : Nat)
  /-- POWER_CAP_CONTROL (R484). -/
  | powerCapControl (watts : Nat) (t : Nat)
  /-- TIME_REQ_SEND (R341). -/
  | timeReqSend (t : Nat) (ps : Nat)
  /-- TIME_REQ (R341). -/
  | timeReq (p : Nat) (f : Flit) (t : Nat) (ps : Nat)
  /-- TIME_RESP (R295). -/
  | timeResp (p : Nat) (f : Flit) (t : Nat) (ps : Nat)
  /-- TIME_HOLDOVER (R296). -/
  | timeHoldover (t : Nat)
  /-- PORT_TRAINING_START (R314). -/
  | portTrainingStart (p : Nat)
  /-- SIGNAL_LOCK (R314). -/
  | signalLock (p : Nat) (lanes : BitVec 9)
  /-- EQUALISATION_DONE (R314). -/
  | equalisationDone (p : Nat) (lanes : BitVec 9)
  /-- FRAME_LOCK (R317). -/
  | frameLock (p : Nat) (code : BitVec 24) (port : BitVec 5) (lanes : BitVec 9)
  /-- DWELL_END (R316). -/
  | dwellEnd (p : Nat) (own : List Nat) (partner : List (BitVec 8)) (t : Nat)
  /-- RETRAIN_DELAY_EXPIRY (R319). -/
  | retrainDelayExpiry (p : Nat) (t : Nat)
  /-- LANE_BER_CHECK (R318). -/
  | laneBerCheck (p : Nat) (errors : List Nat) (t : Nat)
  /-- DATA_FRAME_GROUP (R311). -/
  | dataFrameGroup (p : Nat) (ok : Bool) (heads : List (BitVec 20)) (payloads : List (List Flit)) (t : Nat)
  /-- IDLE_FRAME_GROUP (R306). -/
  | idleFrameGroup (p : Nat) (g : IdleGroup) (t : Nat)
  /-- CALIBRATION_GROUP (R306). -/
  | calibrationGroup (p : Nat)
  /-- FSEQ_GAP_TIMEOUT (R312). -/
  | fseqGapTimeout (p : Nat)
  /-- HEARTBEAT_SEND (R322). -/
  | heartbeatSend (p : Nat) (t : Nat)
  /-- PORT_SILENT (R323). -/
  | portSilent (p : Nat) (t : Nat)
  /-- ABSENCE_RETURN_BY (R324). -/
  | absenceReturnBy (p : Nat) (t : Nat)
  /-- ENTRY_END (R313). -/
  | entryEnd (p : Nat) (f : Flit)
  /-- ENTRY_CREDIT (R257). -/
  | entryCredit (p : Nat) (f : Flit)
  /-- OPEN (R339). -/
  | openFlit (p : Nat) (f : Flit)
  /-- OPEN_ACK (R339). -/
  | openAck (p : Nat) (f : Flit)
  /-- CLOSE (R313). -/
  | closeFlit (p : Nat) (f : Flit)
  /-- BREAK (R265). -/
  | breakFlit (p : Nat) (f : Flit)
  /-- MGMT (R346). -/
  | mgmt (p : Nat) (f : RunFlit)
  /-- FAULT_FRONT (R326). -/
  | faultFront (p : Nat) (f : Flit)
  /-- ABSENCE (R324). -/
  | absence (p : Nat) (f : Flit)
  /-- REMOTE_RD (R218). -/
  | remoteRd (p : Nat) (f : Flit)
  /-- CAL (R313). -/
  | calFlit (p : Nat) (f : Flit)
  /-- REFCLK_LOSS (R488). -/
  | refclkLoss (t : Nat)
  /-- MCTP_MESSAGE (R345). -/
  | mctpMessage (vendor : BitVec 16) (body : List Byte)
  /-- PLDM_REQUEST (R345). -/
  | pldmRequest (r : PldmRequest)
  /-- ELECTION_CLOSE (R357). -/
  | electionClose (t : Nat)
  /-- LEASE_EXPIRY (R360). -/
  | leaseExpiry (t : Nat)
  /-- PARKED_READ_SERVED (R354). -/
  | parkedReadServed (m : Nat)
  /-- PARKED_READ_TIMEOUT (R354). -/
  | parkedReadTimeout (m : Nat) (t : Nat)
  /-- NOP (R363). -/
  | nopCmd (m : Nat) (q : Cmd)
  /-- CLAIM (R356). -/
  | claim (m : Nat) (q : Cmd)
  /-- RENEW (R358). -/
  | renew (m : Nat) (q : Cmd)
  /-- HANDOVER (R359). -/
  | handover (m : Nat) (q : Cmd)
  /-- RELEASE (R359). -/
  | releaseOwner (m : Nat) (q : Cmd)
  /-- OWNER_READ (R363). -/
  | ownerRead (m : Nat) (q : Cmd)
  /-- SETTING_READ (R367). -/
  | settingRead (m : Nat) (q : Cmd)
  /-- SETTING_WRITE (R368). -/
  | settingWrite (m : Nat) (q : Cmd)
  /-- BEGIN (R370). -/
  | beginTxn (m : Nat) (q : Cmd)
  /-- SET (R370). -/
  | setStage (m : Nat) (q : Cmd)
  /-- COMMIT_BOUNDARY (R371). -/
  | commitBoundary (m : Nat) (q : Cmd)
  /-- COMMIT_TICK (R288). -/
  | commitTick (m : Nat) (q : Cmd)
  /-- TXN_APPLY_TICK (R372). -/
  | txnApplyTick (t : Nat)
  /-- ROLLBACK (R373). -/
  | rollback (m : Nat) (q : Cmd)
  /-- TXN_READ (R365). -/
  | txnRead (m : Nat) (q : Cmd)
  /-- CONTEXT_CREATE (R375). -/
  | contextCreate (m : Nat) (q : Cmd)
  /-- CONTEXT_ZEROED (R375). -/
  | contextZeroed (x : Nat)
  /-- CONTEXT_DESTROY (R376). -/
  | contextDestroy (m : Nat) (q : Cmd)
  /-- CONTEXT_START (R376). -/
  | contextStart (m : Nat) (q : Cmd)
  /-- CONTEXT_STOP (R376). -/
  | contextStop (m : Nat) (q : Cmd)
  /-- EVICT (R382). -/
  | evict (m : Nat) (q : Cmd)
  /-- PATCH_STAGE (R91). -/
  | patchStage (m : Nat) (q : Cmd)
  /-- JOB_OPEN (R384). -/
  | jobOpen (m : Nat) (q : Cmd)
  /-- JOB_CLOSE (R384). -/
  | jobClose (m : Nat) (q : Cmd)
  /-- IMAGE_LOAD (R378). -/
  | imageLoad (m : Nat) (q : Cmd)
  /-- IMAGE_RECEIVED (R41). -/
  | imageReceived (x : Nat)
  /-- WEIGHT_LOAD (R400). -/
  | weightLoad (m : Nat) (q : Cmd)
  /-- WEIGHT_SWAP (R405). -/
  | weightSwap (m : Nat) (q : Cmd)
  /-- ANCHOR_INSTALL (R399). -/
  | anchorInstall (m : Nat) (q : Cmd)
  /-- ANCHOR_TABLE_READ (R430). -/
  | anchorTableRead (m : Nat) (q : Cmd)
  /-- ANCHOR_REMOVE (R399). -/
  | anchorRemove (m : Nat) (q : Cmd)
  /-- LEDGER_READ (R430). -/
  | ledgerRead (m : Nat) (q : Cmd)
  /-- ATTEST (R425). -/
  | attest (m : Nat) (q : Cmd)
  /-- REPLAY_ARM_SET (R428). -/
  | replayArmSet (m : Nat) (q : Cmd)
  /-- REPLAY_ARM_APPEND (R428). -/
  | replayArmAppend (m : Nat) (q : Cmd)
  /-- MEM_READ (R55). -/
  | memRead (m : Nat) (q : Cmd)
  /-- MEM_WRITE (R55). -/
  | memWrite (m : Nat) (q : Cmd)
  /-- DEBUG_HOLD (R34). -/
  | debugHold (m : Nat) (q : Cmd)
  /-- DEBUG_RELEASE (R363). -/
  | debugRelease (m : Nat) (q : Cmd)
  /-- BRK_ARM (R66). -/
  | brkArm (m : Nat) (q : Cmd)
  /-- BRK_DISARM (R66). -/
  | brkDisarm (m : Nat) (q : Cmd)
  /-- SEM_SET (R271). -/
  | semSet (m : Nat) (q : Cmd)
  /-- VREG_READ (R169). -/
  | vregRead (m : Nat) (q : Cmd)
  /-- QUEUE_READ (R271). -/
  | queueRead (m : Nat) (q : Cmd)
  /-- IMEM_OVERRIDE (R94). -/
  | imemOverride (m : Nat) (q : Cmd)
  /-- BASE_MEM_STATUS (R193). -/
  | baseMemStatus (m : Nat) (q : Cmd)
  /-- STACK_STATUS (R223). -/
  | stackStatus (m : Nat) (q : Cmd)
  /-- HUB_STATUS (R245). -/
  | hubStatus (m : Nat) (q : Cmd)
  /-- PACE_STATUS (R300). -/
  | paceStatus (m : Nat) (q : Cmd)
  /-- PORT_MAP (R321). -/
  | portMap (m : Nat) (q : Cmd)
  /-- SLOT_TABLE_READ (R234). -/
  | slotTableRead (m : Nat) (q : Cmd)
  /-- CALENDAR_READ (R299). -/
  | calendarRead (m : Nat) (q : Cmd)
  /-- GRANT_TABLE_READ (R241). -/
  | grantTableRead (m : Nat) (q : Cmd)
  /-- GRANT_ISSUE (R241). -/
  | grantIssue (m : Nat) (q : Cmd)
  /-- GRANT_REVOKE (R241). -/
  | grantRevoke (m : Nat) (q : Cmd)
  /-- CONN_OPEN (R267). -/
  | connOpen (m : Nat) (q : Cmd)
  /-- CONN_OPEN_TIMEOUT (R267). -/
  | connOpenTimeout (connId : BitVec 32) (t : Nat)
  /-- CONN_CLOSE (R267). -/
  | connClose (m : Nat) (q : Cmd)
  /-- PORT_RETRAIN (R318). -/
  | portRetrain (m : Nat) (q : Cmd)
  /-- TIME_SET (R295). -/
  | timeSet (m : Nat) (q : Cmd)
  /-- EVENT_READ (R385). -/
  | eventRead (m : Nat) (q : Cmd)
  /-- EVENT_ACK (R387). -/
  | eventAck (m : Nat) (q : Cmd)
  /-- RESET (R453). -/
  | resetCmd (m : Nat) (q : Cmd)
  /-- RECOVERY_READ (R470). -/
  | recoveryRead (m : Nat) (q : Cmd)
  /-- READY_REPORT (R445). -/
  | readyReport (m : Nat) (q : Cmd)
  /-- FUSE_MAP_READ (R470). -/
  | fuseMapRead (m : Nat) (q : Cmd)
  /-- FIELD_REPAIR_ADD (R441). -/
  | fieldRepairAdd (m : Nat) (q : Cmd)
  /-- FIELD_REPAIR_REMOVE (R441). -/
  | fieldRepairRemove (m : Nat) (q : Cmd)
  /-- HALO_PAIR (R460). -/
  | haloPair (m : Nat) (q : Cmd)
  /-- HALO_STANDBY (R460). -/
  | haloStandby (m : Nat) (q : Cmd)
  /-- HALO_UNPAIR (R460). -/
  | haloUnpair (m : Nat) (q : Cmd)
  /-- TAKEOVER (R465). -/
  | takeover (m : Nat) (q : Cmd)
  /-- HALO_RESUME (R468). -/
  | haloResume (m : Nat) (q : Cmd)
  /-- CHECKPOINT_RESTORE (R469). -/
  | checkpointRestore (m : Nat) (q : Cmd)
  /-- CHECKPOINT_READ (R469). -/
  | checkpointRead (m : Nat) (q : Cmd)
  /-- HALO_STATUS (R469). -/
  | haloStatus (m : Nat) (q : Cmd)
  /-- FW_STAGE_BULK (R438). -/
  | fwStageBulk (m : Nat) (q : Cmd)
  /-- FW_STAGE_CHUNK (R438). -/
  | fwStageChunk (m : Nat) (q : Cmd)
  /-- MIRROR_ITEM (R463). -/
  | mirrorItem (pair : BitVec 32) (item : MirrorItem)
  /-- MIRROR_ACK (R464). -/
  | mirrorAck (pair : BitVec 32) (orbit : Nat) (ckpt : Option Nat)
  /-- BATCH_CLOSE_TIMER (R417). -/
  | batchCloseTimer (stream : Nat) (t : Nat)
  /-- SEAL_SIGNED (R418). -/
  | sealSigned
  /-- HOLDUP_GUARD_CONFIRM (R422). -/
  | holdupGuardConfirm (energy : Nat)
  /-- FLASH_STORE_DONE (R423). -/
  | flashStoreDone
  /-- MOD_RESET_N_RELEASE (R433). -/
  | modResetNRelease (sbSel : Bool) (energy : Nat)
  /-- BRINGUP_STAGE_END (R433). -/
  | bringupStageEnd (r : StageReport)
  /-- STAGE_LIMIT_EXPIRY (R434). -/
  | stageLimitExpiry (r : StageReport)
  /-- LINKS_UNCONFIGURED (R434). -/
  | linksUnconfigured
  /-- ECLIPSE_FROZEN (R448). -/
  | eclipseFrozen
  /-- ECLIPSE_BUDGET_EXPIRY (R449). -/
  | eclipseBudgetExpiry (t : Nat)
  /-- RESET_RESTORE_DONE (R450). -/
  | resetRestoreDone
  /-- CORE_FAULT (R455). -/
  | coreFault (core : Nat) (t : Nat)
  /-- CLUSTER_FAULT (R454). -/
  | clusterFault (site cluster : Nat) (t : Nat)
  /-- PACE_FAULT (R454). -/
  | paceFault (d : Nat) (t : Nat)
  /-- BASE_FAULT (R454). -/
  | baseFault (u : Nat) (t : Nat)
  /-- STACK_FAULT (R454). -/
  | stackFault (u : Nat) (t : Nat)
  /-- SEAM_FAULT (R454). -/
  | seamFault (t : Nat)
  /-- MC_WATCHDOG (R454). -/
  | mcWatchdog (t : Nat)
  /-- PWR_EN_ASSERT (R478). -/
  | pwrEnAssert (energy : Nat)
  /-- INPUT_POWER_FAIL (R482). -/
  | inputPowerFail (cause : BitVec 2) (energy : Nat) (t : Nat)
  /-- EMERGENCY_SEAL_DONE (R482). -/
  | emergencySealDone (energy : Nat)
  /-- MOD_RESET_N_ASSERT (R480). -/
  | modResetNAssert
  /-- THERMAL_SAMPLE (R486). -/
  | thermalSample (sensor : Nat) (temp : Nat) (t : Nat)
  /-- THERMAL_TRIP (R487). -/
  | thermalTrip (sensor : Nat) (temp : Nat) (t : Nat)
  /-- TAP_EXTEST (R489). -/
  | tapExtest
  /-- TAP_SAMPLE_PRELOAD (R489). -/
  | tapSamplePreload
  /-- TAP_BYPASS (R489). -/
  | tapBypass
  /-- TAP_IDCODE (R489). -/
  | tapIdcode
  /-- TRST_N (R489). -/
  | trstN (low : Bool)
  /-- HOLDUP_BANK_CHARGED (R481). -/
  | holdupBankCharged (energy : Nat)
  /-- ABSENT_PARTNER_RETURNS (R319). -/
  | absentPartnerReturns (p : Nat)
  /-- RESOURCES_RELEASED (R376). -/
  | resourcesReleased (x : Nat)
  deriving DecidableEq, Repr

end Sys2Proof
end

