-- ==== Sys2Proof/Decode.lean ====
section
/-! DEFINITION. The command that a table word spells. spec/opcode_table.json gives no row any bits (every row has
an empty list of fields), so no word spells a command. -/
namespace Sys2Proof

/-- The command whose bits are `w`; no row of the table gives bits. -/
def decodeTableWord (_nbits _w : Nat) : Option Instr := none

end Sys2Proof
end

