-- ==== Sys2Proof/Machine/Table.lean ====
section
/-! DEFINITION. Sparse tables: a list of key and value pairs in one canonical form, and its two operations. -/
namespace Sys2Proof

/-- A sparse table from numbers to values. In canonical form the keys rise strictly and no entry equals
what an unlisted key reads as. -/
abbrev Tab (α : Type) := List (Nat × α)

namespace Tab
variable {α : Type}

/-- What key `k` reads as; an unlisted key reads as `d`. -/
def get (d : α) : Tab α → Nat → α
  | [], _ => d
  | (k, v) :: r, i => if i = k then v else get d r i

/-- Insert at its place in key order, over an entry of the same key. -/
def ins : Tab α → Nat → α → Tab α
  | [], i, x => [(i, x)]
  | (k, v) :: r, i, x =>
    if i < k then (i, x) :: (k, v) :: r else if i = k then (i, x) :: r else (k, v) :: ins r i x

/-- Remove key `i`. -/
def del : Tab α → Nat → Tab α
  | [], _ => []
  | (k, v) :: r, i => if i = k then del r i else (k, v) :: del r i

/-- Write `x` at key `i`, keeping the canonical form: writing the default removes the entry. -/
def set [DecidableEq α] (d : α) (t : Tab α) (i : Nat) (x : α) : Tab α :=
  if x = d then del t i else ins t i x

def modify [DecidableEq α] (d : α) (t : Tab α) (i : Nat) (f : α → α) : Tab α :=
  set d t i (f (get d t i))

/-- All keys of `t` lie above `lo`, rise strictly, and no entry equals the default. -/
def wfFrom [DecidableEq α] (d : α) : Option Nat → Tab α → Bool
  | _, [] => true
  | lo, (k, v) :: r =>
    (match lo with | none => true | some l => decide (l < k)) && decide (v ≠ d) && wfFrom d (some k) r

/-- The canonical form. -/
def wf [DecidableEq α] (d : α) (t : Tab α) : Bool := wfFrom d none t

end Tab
end Sys2Proof
end

