-- ==== Sys2Proof/Machine/Bits.lean ====
section
/-! DEFINITION. Bit fields, byte order and packing helpers (00 R9, R13). -/
namespace Sys2Proof

/-- `len` bits of `w` from bit `lo` up. -/
def fld (w lo len : Nat) : Nat := (w >>> lo) % 2 ^ len

/-- One bit of a number. -/
def bit (w i : Nat) : Bool := w.testBit i

/-- `w` with `len` bits from `lo` replaced by the low bits of `v`. -/
def putFld (w lo len v : Nat) : Nat := w - (fld w lo len <<< lo) + ((v % 2 ^ len) <<< lo)

def bvf {n : Nat} (w : BitVec n) (lo len : Nat) : Nat := fld w.toNat lo len
def bvp {n : Nat} (w : BitVec n) (lo len v : Nat) : BitVec n := BitVec.ofNat n (putFld w.toNat lo len v)

/-- `v` as a two's-complement number of `len` bits. -/
def sInt (len v : Nat) : Int :=
  let x := v % 2 ^ len
  if x < 2 ^ (len - 1) then (x : Int) else (x : Int) - (2 ^ len : Nat)

/-- The residue of `z` modulo `n`, from 0 to `n - 1`; 0 for `n = 0`. -/
def resid (z : Int) (n : Nat) : Nat := (z % (n : Int)).toNat

/-- Fields (width, value) laid side by side, the first in the lowest bits (DESIGN CHOICE, log 37). -/
def pack : List (Nat × Nat) → Nat
  | [] => 0
  | (w, v) :: r => v % 2 ^ w + (pack r <<< w)

def b2n (b : Bool) : Nat := if b then 1 else 0

/-- The low `n` bytes of `v`, byte 0 first. -/
def bytesOf : Nat → Nat → List Byte
  | 0, _ => []
  | n + 1, v => BitVec.ofNat 8 v :: bytesOf n (v >>> 8)

/-- Bytes read as a little-endian number. -/
def natOf : List Byte → Nat
  | [] => 0
  | b :: r => b.toNat + (natOf r <<< 8)

/-- A little-endian number of `n` bytes at byte offset `o`; bytes beyond the end read 0. -/
def leAt (l : List Byte) (o n : Nat) : Nat := natOf ((l.drop o).take n)

/-- Bytes cut into pieces of `n`, the last one shorter (fuel: the list's length). -/
def chunksOf (n : Nat) : Nat → List α → List (List α)
  | 0, _ => []
  | f + 1, l => if l.isEmpty then [] else l.take n :: chunksOf n f (l.drop n)

/-- `l` with `b` in place of the bytes from offset `o`. -/
def putBytes (l : List Byte) (o : Nat) (b : List Byte) : List Byte := l.take o ++ b ++ l.drop (o + b.length)

/-- Exactly `n` bytes: cut, or filled with zeros. -/
def padTo (n : Nat) (l : List Byte) : List Byte := l.take n ++ List.replicate (n - l.length) 0

/-- The bits of `w` in the fields of a list, each its lowest bit and width: a record whose RSVD bits read as 0. -/
def maskBits (l : List (Nat × Nat)) (w : Nat) : Nat :=
  Nat.land w (l.foldl (fun m q => Nat.lor m ((2 ^ q.2 - 1) * 2 ^ q.1)) 0)

def lineOf (l : List Byte) : Line := BitVec.ofNat 512 (natOf (l.take 64))
def lineBytes (l : Line) : List Byte := bytesOf 64 l.toNat
def byteAt (l : Line) (i : Nat) : Nat := fld l.toNat (8 * i) 8

def satAdd (lim a b : Nat) : Nat := min lim (a + b)

/-- Lane `l` of a vector register. -/
def laneOf (v : VReg) (l : Nat) : Nat := fld v.toNat (32 * l) 32

/-- A register from its lanes, lane 0 first, each of `w` bits. -/
def joinBits (w : Nat) (l : List Nat) : Nat := l.foldr (fun x acc => x % 2 ^ w + (acc <<< w)) 0

def vregOf (l : List Nat) : VReg := BitVec.ofNat 8192 (joinBits 32 l)
def maskOf (l : List Bool) : Mask := BitVec.ofNat 256 (joinBits 1 (l.map b2n))

/-- The numbers of the set bits of `w` below `n`, rising. -/
def bitsUp (n w : Nat) : List Nat := (List.range n).filter (fun i => w.testBit i)

/-- Rotate a 32-bit word left. -/
def rotl32 (x : W32) (k : Nat) : W32 := x.rotateLeft k

/-- The first element a test accepts, with its position. -/
def findIdxOpt (p : α → Bool) : List α → Option (Nat × α)
  | [] => none
  | x :: r => if p x then some (0, x) else (findIdxOpt p r).map (fun q => (q.1 + 1, q.2))

end Sys2Proof
end

