-- ==== Sys2Proof/Machine/CoreState.lean ====
section
/-! DEFINITION. The state of one logical core: registers, pipelines, arrays, memories at the core, channels,
reports (03, 04, 06, 07, 08, 10). Every field's default value is its value after module reset. -/
namespace Sys2Proof.Machine
open Sys2Proof

/-- A tap descriptor (03 R81). `stride` holds its 14 bits; `len` 0 encodes 8,192. -/
structure TapDesc where
  base : Nat := 0
  len : Nat := 0
  stride : Nat := 0
  width : Nat := 0
  cur : Nat := 0
  deriving DecidableEq, Repr

/-- The sequencer of a core: bank, bundle address, repeats, and the arm of a fenced local branch
(03 R66-R73, R93, R95). `started` says that the repeat count of the bundle at `baddr` has been fixed (R67);
`target` is where a branch taken at this step goes. -/
structure Seq where
  bank : Bool := false
  staged : Bool := false
  baddr : Nat := 0
  repLeft : Nat := 0
  started : Bool := false
  inArm : Bool := false
  armLeft : Nat := 0
  armJoin : Nat := 0
  armEnded : Bool := false
  target : Option Nat := none
  deriving DecidableEq, Repr

/-- Where a scalar result goes (03 R76, R88). -/
inductive SDest where
  | sr (n : Nat)
  | par (n : Nat)
  | lc (n : Nat)
  deriving DecidableEq, Repr

/-- A scalar result in flight: usable from step `due`; `red` marks a vector reduction (03 R77, R88). -/
structure ScalarRes where
  due : Nat
  issued : Nat
  red : Bool
  dest : SDest
  val : W64
  deriving DecidableEq, Repr

/-- A vector or mask result in flight: `en` marks the bits it writes (06 R154, R155). `reg` 64 + n is mask n. -/
structure VecRes where
  due : Nat
  issued : Nat
  load : Bool
  reg : Nat
  en : VReg
  data : VReg
  deriving DecidableEq, Repr

/-- One register set of an array: rows of 32 cells of 16 bits, CEXP, SIDE, ROWEXP (04 R96, R107). -/
structure RegSet where
  rows : Tab Line := []
  cexp : BitVec 256 := 0
  side : BitVec 512 := 0
  rowexp : Tab (Int × Int) := []
  deriving DecidableEq, Repr

/-- A matrix array (04 R96, R101, R106, R123). `busyTo` is the first step after an open BF16-class interval. -/
structure ArrayUnit where
  front : RegSet := {}
  back : RegSet := {}
  shiftCount : Nat := 0
  frontSet : Bool := false
  busyTo : Nat := 0
  paritySeen : Bool := false
  deriving DecidableEq, Repr

/-- An entry in flight on array `k`: output placed at step `due` on drain lines (04 R110, R111). -/
structure DrainRes where
  k : Nat
  wide : Bool
  due : Nat
  issued : Nat
  lines : List (Nat × Line)
  deriving DecidableEq, Repr

/-- A write of core memory issued at step `issued`, readable from `issued + 2` (07 R174). -/
structure MemWrite where
  issued : Nat
  line : Nat
  data : Line
  port : Nat
  baddr : Nat
  deriving DecidableEq, Repr

/-- An unlanded vector range of the issue range checker (07 R182): reads at steps `issued + 1` to `upto`. -/
structure VecRange where
  reg : Nat
  issued : Nat
  upto : Nat
  load : Bool
  baddr : Nat
  deriving DecidableEq, Repr

/-- A landing ring or the staging entries of a stack (08 R204-R206, R213). `unlanded` holds the allocation
numbers whose lines have not landed, `bad` the positions whose line was read with an uncorrectable error (08 R217).
`fresh` are lines that landed at wall time during the step under way, by allocation number and with such a mark: a
consumption takes a position as the step's start left it (R205). `skip` are the staging numbers of issues that move
nothing, which no departure will pass (R493). -/
structure Ring where
  lines : Tab Line := []
  a : Nat := 0
  u : Nat := 0
  unlanded : List Nat := []
  bad : List Nat := []
  fresh : List (Nat × Line × Bool) := []
  skip : List Nat := []
  deriving DecidableEq, Repr

/-- A semaphore (10 R246). -/
structure Sem where
  value : Nat := 0
  pending : Nat := 0
  brk : Bool := false
  deriving DecidableEq, Repr

/-- State of an endpoint (10 R265, R272). -/
inductive EpState where
  | unbound
  | bound
  | broken
  deriving DecidableEq, Repr

/-- A peer of an elastic send end (10 R268). `tag` is the circuit's tag on `port`. -/
structure Peer where
  code : Nat
  ctx : Nat
  core : Nat
  ep : Nat
  port : Nat
  tag : Nat
  deriving DecidableEq, Repr

/-- A send endpoint (10 R254, R257, R272). `started` marks an open entry, `no` numbers the entries sent, `drop` that it
is being discarded, `taken` its lines in order; `count` is COUNT_M1 + 1 of its CONN_SPEC (R268). -/
structure SendEp where
  state : EpState := .unbound
  elastic : Bool := false
  kind : Nat := 0
  cls : Bool := false
  csem : Nat := 0
  esize : Nat := 0
  depth : Nat := 0
  inFlight : Nat := 0
  fill : Nat := 0
  overflow : Bool := false
  discards : Nat := 0
  connId : Nat := 0
  started : Bool := false
  drop : Bool := false
  taken : List Line := []
  dstCore : Nat := 0
  dstEp : Nat := 0
  index : Nat := 0
  no : Nat := 0
  peers : List Peer := []
  freed : List Nat := []
  order : Nat := 0
  count : Nat := 1
  deriving DecidableEq, Repr

/-- A complete entry in a receive queue (10 R255). `no` numbers the entries of its sub-queue from binding. -/
structure Entry where
  no : Nat
  token : Nat
  lines : Nat
  admitted : Bool
  deriving DecidableEq, Repr

/-- One sub-queue of a receive endpoint: complete entries not freed, oldest first; how many have completed;
tokens of complete entries whose round is not (10 R260);
lines of the entry now arriving (10 R255). -/
structure SubQueue where
  entries : List Entry := []
  done : Nat := 0
  tokens : List Nat := []
  arrived : Nat := 0
  deriving DecidableEq, Repr

/-- A receive endpoint (10 R253, R255, R256, R260, R272). `rounds` counts completed rounds of a gather; `count` is
COUNT_M1 + 1 of its CONN_SPEC (R268). -/
structure RecvEp where
  state : EpState := .unbound
  elastic : Bool := false
  kind : Nat := 0
  cls : Bool := false
  asem : Nat := 0
  esize : Nat := 0
  depth : Nat := 0
  senders : Nat := 1
  rdptr : Nat := 0
  cursor : Nat := 0
  base : Nat := 0
  connId : Nat := 0
  rounds : Nat := 0
  subs : Tab SubQueue := []
  srcs : List (Nat × Nat × Nat) := []
  credits : List (Nat × Nat × Nat) := []
  order : Nat := 0
  count : Nat := 1
  deriving DecidableEq, Repr

/-- A tap access of the current step (03 R80, R82; 07 R173): the lines it names in order. -/
structure TapReq where
  port : Nat
  td : Nat
  inc : Bool
  lines : List Nat
  ecc : Ecc
  deriving DecidableEq, Repr

/-- Array actions of the current step (04 R109); `enterBad` and `shiftBad` mark data whose parity does not match
(04 R121). -/
structure ArrayReq where
  k : Nat
  f : ArrayFields
  enter : Bool := false
  shift : Bool := false
  swap : Bool := false
  enterBad : Bool := false
  shiftBad : Bool := false
  deriving DecidableEq, Repr

/-- An overlap the issue range checker has seen at this step, with its rank among the step's (07 R183). -/
structure Overlap where
  rank : Nat
  vec : Bool
  port : Nat
  target : Nat
  wport : Nat
  age : Nat
  wbaddr : Nat
  operand : Nat
  deriving DecidableEq, Repr

/-- What the bundle of the current step has issued and the end of the step resolves: nothing in it depends on
the order in which the rows of one step were taken (03 R64, R82; 07 R173, R175; 10 R247). `given` says that rows
have presented this core's bundle of the step (R62: one bundle per step); `issue` is the descriptor issued,
`newArm` the arm an FBR starts (length, join, first address), `recvTd`
the descriptor the port 3 write tap names, its EN set or not (10 R256). -/
structure StepWork where
  given : Bool := false
  issue : Option Nat := none
  newArm : Option (Nat × Nat × Nat) := none
  armEnd : Bool := false
  reads : List TapReq := []
  writes : List TapReq := []
  vlde : Option Nat := none
  vste : Option Nat := none
  send : Option Nat := none
  elast : Option (Nat × Nat) := none
  recv : Option Nat := none
  recvTd : Nat := 0
  recvEcc : Ecc := .none
  arrays : List ArrayReq := []
  tapsets : List (Nat × Nat × W64) := []
  sems : List (Nat × Int) := []
  loopDec : Option Nat := none
  overlaps : List Overlap := []
  deriving DecidableEq, Repr

/-- The report registers of a core that the control window shows (07 R185; 08 R222; 09 R244; 10 R272), with the
core's sticky flags of the orbit (01 R26); `ceRaised` says that the orbit's MEM_CE_THRESHOLD of this core has been
raised (07 R179). -/
structure Reports where
  conf : Tab W64 := []
  confFirst : W64 := 0
  ecc : W64 := 0
  ueFirst : W64 := 0
  ircFirst : W64 := 0
  ircAddr : W64 := 0
  ircCount : W64 := 0
  lateSeen : Bool := false
  overSeen : Bool := false
  landFirst : W64 := 0
  transit : W64 := 0
  fwFirst : W64 := 0
  chan : W64 := 0
  chanFirst : W64 := 0
  armCut : Bool := false
  eccUe : Bool := false
  tierMiss : Bool := false
  ceRaised : Bool := false
  deriving DecidableEq, Repr

/-- One logical core. `prev` is the sequencer as the last ended step had it, which the control window shows during a
freeze (03 R95). `semIn` are semaphore changes that take effect at the current step and are summed before
any read of the step (10 R247). Registers without a reset value in the spec begin at 0 (DESIGN CHOICE, log 7). -/
structure Core where
  seq : Seq := {}
  prev : Seq := {}
  sr : Tab W64 := []
  par : Tab W64 := []
  lc : Tab (BitVec 16) := []
  taps : Tab TapDesc := []
  pipe : List ScalarRes := []
  vpipe : List VecRes := []
  vregs : Tab VReg := []
  masks : Tab Mask := []
  opbuf : Tab Line := []
  opland : List (Nat × Nat × Line) := []
  drain : Tab Line := []
  drainIn : List DrainRes := []
  arrays : Tab ArrayUnit := []
  memWrites : List MemWrite := []
  ranges : List VecRange := []
  sdCur : Tab Nat := []
  ring : Ring := {}
  sems : Tab Sem := []
  sendEps : Tab SendEp := []
  recvEps : Tab RecvEp := []
  store : Tab Line := []
  semIn : List (Nat × Int) := []
  work : StepWork := {}
  rep : Reports := {}
  deriving DecidableEq, Repr

end Sys2Proof.Machine
end

