-- ==== Sys2Proof/Machine/CtxState.lean ====
section
/-! DEFINITION. The state of one context: its place, steps, freeze and holds, images, parameters patched, the
reduction wire, traffic in flight, and what the orbit's record gathers (01, 03 R79-R91, 08 R219-R221, 09, 10,
13 R374-R384). -/
namespace Sys2Proof.Machine
open Sys2Proof

/-- STATE of a context (13 R374). -/
inductive CtxPhase where
  | free
  | creating
  | idle
  | running
  | stopping
  | destroying
  deriving DecidableEq, Repr

/-- One listed condition of a rendezvous (03 R74; 10 R262). `consume` is CA or CB. -/
structure Cond where
  core : Nat
  second : Bool
  sem : Nat
  thr : Nat
  consume : Bool
  deriving DecidableEq, Repr

/-- A freeze of the step wave (01 R29-R36). `rdvBy` and `endBy` are the program cores that carry a rendezvous or
orbit-end control at the step. `settled` says that the step's results have been resolved, so that no further
field of the step acts; `step` is then the freezing step. `abandon` marks an orbit ended by the deadline monitor (08 R221). -/
structure Freeze where
  step : Nat := 0
  since : Nat := 0
  rdvBy : List Nat := []
  fence : Bool := false
  endBy : List Nat := []
  conds : List Cond := []
  settled : Bool := false
  stallRaised : Bool := false
  waitRaised : Bool := false
  abandon : Bool := false
  deriving DecidableEq, Repr

/-- The kinds of hold (01 R33). -/
structure Holds where
  eclipse : Bool := false
  debug : Bool := false
  weightSwap : Bool := false
  checkpoint : Bool := false
  mirrorLag : Bool := false
  ledger : Bool := false
  deriving DecidableEq, Repr

/-- A section of a program image (13 R379). -/
structure Section where
  typ : Nat
  core : Nat
  bytes : List Byte
  deriving DecidableEq, Repr

/-- A program image as loaded: header fields, sections, digest, and what the load reserved: the phase offset, the
physical seam lanes per program-quadrant pair, the 1 GiB granules per program stack, the 1 MiB granules per
program quadrant, and the first store line of each locked receive end: core, endpoint, line, length (09 R239; 10 R253;
13 R378-R380). -/
structure Image where
  cores : Nat := 0
  lead : Nat := 0
  split : Nat := 0
  remoteOpen : Bool := false
  drams : Nat := 0
  seedMask : W64 := 0
  sections : List Section := []
  digest : BitVec 256 := 0
  delta : Nat := 0
  lanes : List (Nat × List Nat) := []
  dram : List (List Nat) := []
  base : List (List Nat) := []
  lockBases : List (Nat × Nat × Nat × Nat) := []
  deriving DecidableEq, Repr

/-- A reduction in flight to a wire slot (03 R79). -/
structure WireRes where
  due : Nat
  slot : Nat
  val : W64
  deriving DecidableEq, Repr

/-- A contribution of the current step to a wire slot (03 R79). -/
structure WireIn where
  slot : Nat
  core : Nat
  op : Nat
  val : W64
  deriving DecidableEq, Repr

/-- What travels inside the module at steps (09 R228, R235; 10 R259). -/
inductive Cargo where
  /-- One line of a channel entry: receiver core, endpoint, sub-queue, entry number, position. -/
  | chanLine (dst ep sub no pos : Nat) (data : Line)
  /-- The header of an entry. -/
  | header (dst ep sub token lines : Nat)
  /-- The credit of a freed entry to a send endpoint. -/
  | credit (src ep : Nat)
  /-- A read request that reaches its banks: quadrant, lines asked for, the stack the data is for (none: the
  issuer's ring), descriptor, positions or stack lines, latency of the data leg, transposed width (3: none). -/
  | baseRead (quad : Nat) (lines : List Nat) (toStack : Option Nat) (sd : Nat) (pos : List Nat) (tout xw : Nat)
  /-- A line for a landing-ring position. -/
  | ringLine (pos : Nat) (data : Option Line)
  /-- Lines that reach their banks to be written. -/
  | baseWrite (quad : Nat) (lines : List (Nat × Line))
  /-- A staging departure: stack, entry, quadrant, line, and the descriptor issued. -/
  | departure (stack entry quad line sd : Nat)
  /-- A line for a stack's write queue. -/
  | dramLine (stack line : Nat) (data : Line)
  deriving DecidableEq, Repr

/-- Traffic in flight: the step at which it takes effect, the step and the program core of its source action, and
its position in the transfer. `lost` is the cause for which a firewall drops it, at step `dropAt`; `counted` says
that the drop has taken place (09 R240, R244). `via` are the quadrants whose hubs its route crosses in order, `seam` the
step at which it takes the first seam link of the route (09 R228). -/
structure Flight where
  due : Nat
  step : Nat
  src : Nat
  j : Nat
  cargo : Cargo
  lost : Option Nat := none
  dropAt : Nat := 0
  counted : Bool := false
  via : List Nat := []
  seam : Nat := 0
  deriving DecidableEq, Repr

/-- One admission item or send item of the orbit (14 R413, R414). -/
structure DigestItem where
  step : Nat
  core : Nat
  ep : Nat
  digest : BitVec 256
  deriving DecidableEq, Repr

/-- A binding or unbinding that waits for the context's next orbit boundary (10 R267, R268): `base` is the first store
line reserved for a receive end, `made` numbers the opens, `broken` says that the connection has broken while the end
waits (R264). -/
structure Bind where
  unbind : Bool
  send : Bool
  core : Nat
  ep : Nat
  kind : Nat
  cls : Bool
  sem : Nat
  esize : Nat
  depth : Nat
  count : Nat
  index : Nat
  connId : Nat
  peers : List Peer
  ticket : Nat
  base : Nat := 0
  made : Nat := 0
  broken : Bool := false
  deriving DecidableEq, Repr

/-- The deadline monitor's records (08 R220; 13 R383). -/
structure RtStatus where
  deadlineMisses : Nat := 0
  waitMisses : Nat := 0
  deadlineStep : Nat := 0
  waitStep : Nat := 0
  waitTick : Nat := 0
  deadlineRaised : Bool := false
  waitRaised : Bool := false
  abandon : Bool := false
  deriving DecidableEq, Repr

/-- What the context status keeps of the last completed orbit (13 R383). -/
structure LastOrbit where
  sticky : Nat := 0
  endTick : Nat := 0
  freezeTicks : Nat := 0
  flags : W64 := 0
  records : Tab (List Byte) := []
  rt : RtStatus := {}
  deriving DecidableEq, Repr

/-- The open job of a context (13 R384). -/
structure Job where
  id : Nat := 0
  layout : List Nat := []
  modules : List Nat := []
  deriving DecidableEq, Repr

end Sys2Proof.Machine
end

