-- ==== Sys2Proof/Machine/NetState.lean ====
section
/-! DEFINITION. The state of the DRAM stacks, base memory, the transit network's grants and hubs
(07 R188-R193, 08 R194-R223, 09 R230-R245). -/
namespace Sys2Proof.Machine
open Sys2Proof

/-- Where a line read from DRAM goes (08 R204, R213-R215, R218). -/
inductive DramDest where
  /-- Landing rings: receiving program core and the allocation number of the position. -/
  | rings (taps : List (Nat × Nat))
  /-- A staging entry of the stack, by allocation number. -/
  | staging (no : Nat)
  /-- A remote reader: port and the request flit. -/
  | remote (port : Nat) (f : Flit)
  deriving DecidableEq, Repr

/-- A request to a DRAM channel (08 R198, R212). `line` is a stack line; `ctxLine` the context line it was
addressed as. `data` is the line written, or the line a served read has captured. `group`, `at'`, `xw` place the
line in a transposed block (08 R211; `xw` 3: none). -/
structure DramReq where
  ctx : Nat
  step : Nat
  core : Nat
  j : Nat
  line : Nat
  ctxLine : Nat
  write : Bool
  data : Option Line := none
  dest : DramDest := .rings []
  tick : Nat := 0
  group : Nat := 0
  at' : Nat := 0
  xw : Nat := 3
  ue : Bool := false
  landed : Bool := false
  deriving DecidableEq, Repr

/-- One DRAM stack (08 R194-R223). `slots` counts, per channel, the pattern slots of its period gone by (R196); `scrubPos` the lines
its scrub has read. `waiting` is kept in the order of R198; `served` are reads on their way to
landing, `unsettled` writes taken by a channel and not yet committed. -/
structure Stack where
  waiting : List DramReq := []
  served : List DramReq := []
  unsettled : List DramReq := []
  remote : List DramReq := []
  staging : Ring := {}
  split : Nat := 0
  remoteOpen : Bool := false
  slots : Tab Nat := []
  scrubPos : Tab Nat := []
  ce : Nat := 0
  ue : Nat := 0
  maxNs : Nat := 0
  over180 : Nat := 0
  scrubPasses : Nat := 0
  nextGroup : Nat := 0
  deriving DecidableEq, Repr

/-- Base memory of one quadrant: the scrub's place and the status of R193. -/
structure BaseMem where
  ce : Nat := 0
  ue : Nat := 0
  scrubPasses : Nat := 0
  ueLine : Nat := 0
  ueWord : Nat := 0
  ueByScrub : Bool := false
  scrubPos : Tab Nat := []
  deriving DecidableEq, Repr

/-- A transit-through grant (09 R241). -/
structure Grant where
  ctx : Nat := 0
  quad : Nat := 0
  valid : Bool := false
  seamLanes : Nat := 0
  linkLanes : Nat := 0
  master : Nat := 0
  issued : Nat := 0
  deriving DecidableEq, Repr

/-- What the hub of a quadrant counts (09 R245). -/
structure Hub where
  drops : Nat := 0
  inReset : Bool := false
  deriving DecidableEq, Repr

end Sys2Proof.Machine
end

