-- ==== Sys2Proof/Machine/PaceState.lean ====
section
/-! DEFINITION. The state of the pace domains, the time base, the calibration calendar and the event ring
(11 R273-R301; 13 R385-R390). -/
namespace Sys2Proof.Machine
open Sys2Proof

/-- One pace domain (11 R273-R300). Paces in MHz, margins in ps. `recent` are the beats and holds of the microsecond past,
the latest first: how long each was in ps, and whether it was a beat; `holdPs` is the time spent holding. -/
structure Domain where
  beats : Nat := 0
  detached : Bool := false
  profile : Nat := 1
  target : Nat := 1600
  trim : Nat := 0
  margin : Int := 0
  marginMin : Int := 32767
  curMhz : Nat := 0
  minMhz : Nat := 2047
  stretch : Nat := 0
  holdPs : Nat := 0
  recent : List (Nat × Bool) := []
  lastWarn : Option Nat := none
  deriving DecidableEq, Repr

/-- A pending profile change (11 R287-R290, R298). -/
structure PacePend where
  tick : Nat
  profile : Nat
  deferred : Bool
  deriving DecidableEq, Repr

/-- The time counter and its alignment (11 R292-R297, R301). `good` counts consecutive measurements within 0.25 ns;
`asked` holds what the follower's request in progress recorded at its sending: its SEQ, tick and ps; `askedAt` is the tick
of the request that the last measurement answered. -/
structure TimeBase where
  now : Nat := 0
  state : Nat := 0
  loaded : Bool := false
  parent : Option Nat := none
  offset : Int := 0
  lastSync : Nat := 0
  good : Nat := 0
  asked : Option (Nat × Nat × Nat) := none
  askedAt : Option Nat := none
  seq : Nat := 0
  pend : Option PacePend := none
  deriving DecidableEq, Repr

/-- A calibration window (11 R299); `used` that its work is done. -/
structure CalEntry where
  kind : Nat
  unit : Nat
  start : Nat
  stop : Nat
  used : Bool := false
  deriving DecidableEq, Repr

/-- An event (13 R385). -/
structure Event where
  seq : Nat
  code : Nat
  sev : Nat
  ctx : Option Nat
  tick : Nat
  unit : Nat
  data : Nat
  deriving DecidableEq, Repr

/-- The event ring (13 R385-R387): the held events, oldest first, and for each severity the highest SEQ overwritten. -/
structure EventRing where
  held : List Event := []
  gone : List Nat := [0, 0, 0, 0]
  nextSeq : Nat := 1
  ackSeq : Nat := 0
  alert : Bool := false
  deriving DecidableEq, Repr

end Sys2Proof.Machine
end

