-- ==== Sys2Proof/Machine/LinkState.lean ====
section
/-! DEFINITION. The state of the link ports, bundles, circuits and elastic connections under way
(12 R302-R343; 10 R264-R268; 13 R378). -/
namespace Sys2Proof.Machine
open Sys2Proof

/-- STATE of a port (12 R321). -/
inductive PortPhase where
  | down
  | training
  | dwell
  | up
  | failed
  | lost
  | absentPlanned
  | miswired
  deriving DecidableEq, Repr

/-- Phase of training (12 R314). -/
inductive TrainPhase where
  | signal
  | equalise
  | frameLock
  | dwell
  deriving DecidableEq, Repr

/-- One link port (12 R302-R324). Lane sets are bit masks of pl0-pl8, `active` in logical-lane order; `ber` the
BER_CODE of each lane. `since` is the tick the port entered FAILED or DOWN; `heard` the tick of the last valid
heartbeat and `beat` that of the last multiple of 1,000 ticks whose heartbeat was sent; `watch` that R323 watches the
port, `silent` that it went DOWN by silence; `returnBy` the partner's planned absence, `planned` this module's; `groups`
the frame groups received since training and `sentGroups` those sent, `fails` consecutive data groups that failed FEC; `swap`
failing lanes, each with the spare that takes its place at the next calibration group; `asks` the tick of the last time
request from the partner itself; `heads` and `mapSent` the frame headers and the map flit of the last group sent; `tdepth`
the partner's time depth. -/
structure Port where
  phase : PortPhase := .down
  train : TrainPhase := .signal
  lanes : Nat := 0
  width : Nat := 0
  ready : Nat := 0
  weak : Nat := 0
  active : List Nat := []
  ber : List Nat := [0, 0, 0, 0, 0, 0, 0, 0, 0]
  partner : Nat := 16777215
  partnerPort : Nat := 0
  miswired : Bool := false
  upSince : Nat := 0
  since : Nat := 0
  heard : Nat := 0
  beat : Nat := 0
  returnBy : Option Nat := none
  planned : Bool := false
  tdepth : Nat := 15
  groups : Nat := 0
  sentGroups : Nat := 0
  fails : Nat := 0
  swap : List (Nat × Nat) := []
  watch : Bool := false
  silent : Bool := false
  asks : Option Nat := none
  heads : List (BitVec 20) := []
  mapSent : Flit := 0
  deriving DecidableEq, Repr

/-- A flit with the run that carries it (12 R308): virtual lane, control or data, circuit tag. `on` is the member port that
must carry it, where it names one (12 R324); `origin` the bundle whose receive buffer a through flit takes up until it goes on
(12 R310). -/
structure Tagged where
  vl : Nat
  ctl : Bool
  tag : Nat
  flit : Flit
  on : Option Nat := none
  origin : Option Nat := none
  deriving DecidableEq, Repr

/-- A data frame group with its sequence number and the port that carried it. -/
structure Group where
  fseq : Nat
  flits : List Tagged
  port : Nat := 0
  deriving DecidableEq, Repr

/-- One bundle (12 R307-R312), keyed by its first port (12 R311).
`sent` is the last FSEQ sent and `replay` the groups not acknowledged; `got` the last FSEQ received in order,
`held` groups received ahead of order, `seen` the last FSEQ that an idle group has named; `credits` what the sender may
still send per virtual lane, `buffered` the flits in the receive buffer of each, `freed` the credits still to return;
`waiting` flits that have not left, `turn` the circuit served last and `left` the flits that its weight still gives it;
`tags` the outgoing tags in use. -/
structure Bundle where
  sent : Nat := 0
  replay : List Group := []
  got : Nat := 0
  held : List Group := []
  seen : Nat := 0
  nak : Bool := false
  credits : List Nat := [2048, 2048, 16, 256, 64]
  buffered : List Nat := [0, 0, 0, 0, 0]
  freed : List Nat := [0, 0, 0, 0, 0]
  waiting : List Tagged := []
  turn : Nat := 0
  left : Nat := 0
  resent : Nat := 0
  tags : List Nat := []
  deriving DecidableEq, Repr

/-- What a circuit leads to (12 R339). -/
inductive CircuitEnd where
  /-- A receive end of this module: context, program core, endpoint, gather index. -/
  | recv (ctx core ep index : Nat)
  /-- A send end of this module: credits come back to it. -/
  | send (ctx core ep peer : Nat)
  /-- Through traffic to another bundle and tag. -/
  | through (port tag : Nat)
  /-- The management endpoint of a context: bulk bytes. -/
  | bulk (ctx : Nat)
  deriving DecidableEq, Repr

/-- A circuit by its incoming port and tag (12 R339). `lines` are data lines received and not yet ended by an
ENTRY_END; `src` and `dst` are the codes of its OPEN; `rev` is the tag of the reverse circuit on the same bundle. -/
structure Circuit where
  port : Nat
  tag : Nat
  dest : CircuitEnd
  connId : Nat
  cls : Bool
  src : Nat
  dst : Nat
  rev : Nat := 0
  lines : List Line := []
  deriving DecidableEq, Repr

/-- An elastic send end being opened (10 R267): acknowledgements still expected and when it was asked. -/
structure Opening where
  bind : Bind
  ctx : Nat
  slot : Nat
  deadline : Nat
  waiting : List Nat
  deriving DecidableEq, Repr

/-- A bulk connection of a context's management endpoint (13 R378; 14 R400, R430): the bytes received and not yet used, and
the entries among them whose credits are still owed (DESIGN CHOICE, log 48). -/
structure Bulk where
  connId : Nat
  ctx : Nat
  port : Nat
  tag : Nat
  bytes : List Byte := []
  owed : Nat := 0
  broken : Bool := false
  deriving DecidableEq, Repr

/-- A front handled within the last 10 ms (12 R326). -/
structure Front where
  lost : Nat
  job : Nat
  tick : Nat
  deriving DecidableEq, Repr

/-- The link block of the module. -/
structure Links where
  ports : Tab Port := []
  bundles : Tab Bundle := []
  circuits : List Circuit := []
  openings : List Opening := []
  bulks : List Bulk := []
  fronts : List Front := []
  deriving DecidableEq, Repr

end Sys2Proof.Machine
end

