-- ==== Sys2Proof/Machine/MboxState.lean ====
section
/-! DEFINITION. The state of the management core: slots, ownership, settings, transactions, tickets
(13 R344-R373). -/
namespace Sys2Proof.Machine
open Sys2Proof

/-- A claim standing in an open election (13 R356, R357). -/
structure Claim where
  seq : Nat
  priority : Nat
  nonce : Nat
  deriving DecidableEq, Repr

/-- One master slot (13 R344-R354). `command` and `response` are the contents of its areas; `parked` the command
bytes of a parked read and the tick its service started; `assembling` the bytes gathered from MGMT flits; `port` and `tag`
the path of the last flit received, the tag being that towards the master on its circuit, or 0. -/
structure Slot where
  command : List Byte := []
  response : List Byte := []
  posted : Bool := false
  inService : Bool := false
  parked : Option Nat := none
  claim : Option Claim := none
  respValid : Bool := false
  lastSeq : Nat := 0
  outstanding : Nat := 0
  busyRefusals : Nat := 0
  agent : Nat := 16777215
  bound : Bool := false
  transport : Nat := 0
  port : Nat := 0
  tag : Nat := 0
  assembling : Option (List Byte) := none
  deriving DecidableEq, Repr

/-- A management message on its way out: the slot whose master it is for, the port and the circuit tag of the path, 0
where the port's partner is the master (13 R346). -/
structure Message where
  slot : Nat
  port : Nat
  tag : Nat
  bytes : List Byte
  deriving DecidableEq, Repr

/-- A deferred command (13 R355): what it waits for is named by `kind` and `key`. -/
structure Deferred where
  ticket : Nat
  slot : Nat
  ctx : Option Nat
  opcode : Nat
  key : Nat
  aux : Nat := 0
  data : List Byte := []
  started : Nat := 0
  deriving DecidableEq, Repr

/-- A staged setting: SID and value, kept in the order of their first SET; `order` numbers its latest SET, or the
acceptance of a lone write (13 R370-R372). -/
structure Staged where
  sid : Nat
  value : Nat
  order : Nat := 0
  deriving DecidableEq, Repr

/-- A committed transaction that has not fully applied (13 R371, R372). `tick` is its apply tick in tick mode.
`applied` counts the settings in force, `order` is the place of its acceptance. -/
structure Committed where
  tick : Option Nat
  rest : List Staged
  applied : Nat
  order : Nat
  slot : Nat
  deriving DecidableEq, Repr

/-- The management core (13). `lone` are class L writes waiting for their context's boundary. `settings` holds the
settings written, by SID; a SID not listed reads as its registry default. `accepted` numbers SETs and acceptances.
`opened` numbers the connections opened. `messages` are the responses that leave next, `forward` the events that do, each
with its slot and SEQ; `mctp` is the last response on the sideband. `pldm` and `fru` are the answers to inventory and
sensor requests. -/
structure Mbox where
  slots : Tab Slot := []
  owner : Option Nat := none
  leaseEnd : Nat := 0
  election : Option Nat := none
  settings : Tab (Option Nat) := []
  lone : List Staged := []
  txn : Option (List Staged) := none
  txnSlot : Nat := 0
  committed : Option Committed := none
  accepted : Nat := 0
  opened : Nat := 0
  tickets : Nat := 0
  deferred : List Deferred := []
  round : Nat := 0
  messages : List Message := []
  forward : List (Nat × Nat) := []
  mctp : List Byte := []
  pldm : List (Nat × Nat) := []
  fru : List Byte := []
  discards : Nat := 0
  deriving DecidableEq, Repr

end Sys2Proof.Machine
end

