-- ==== Sys2Proof/Machine/LedgerState.lean ====
section
/-! DEFINITION. The state of weights, anchors, the ledger unit and its keys, and what a replay is armed with
(14 R391-R432). -/
namespace Sys2Proof.Machine
open Sys2Proof

/-- STATE of WEIGHT_STATUS (14 R402). -/
inductive WeightPhase where
  | none
  | loading
  | valid
  | swapPending
  | swapping
  | invalid
  deriving DecidableEq, Repr

/-- A weight image that has passed checks 1-5 of R400: its header, segment table and leaf table, and the anchor that
signed it. -/
structure WImage where
  header : List Byte := []
  table : List Byte := []
  leaves : List (BitVec 256) := []
  anchor : Nat := 0
  deriving DecidableEq, Repr

/-- The tier data of one PLACE 3 segment that this orbit has admitted: chunks compared and the bytes of the chunk
under way (14 R404). -/
structure TierStream where
  pcore : Nat
  ep : Nat
  chunk : Nat := 0
  bytes : List Byte := []
  deriving DecidableEq, Repr

/-- The weights of a context (14 R400-R408). `force` is the image in force, `next` the one being checked, loaded or
swapped in, from bulk connection `conn` with length `len` under ticket `ticket`; `written` counts the chunks written,
`heldAt` the tick a swap's hold began; `swap` marks a swap. -/
structure Weights where
  phase : WeightPhase := .none
  force : Option WImage := none
  next : Option WImage := none
  busy : Bool := false
  swap : Bool := false
  conn : Nat := 0
  len : Nat := 0
  ticket : Nat := 0
  slot : Nat := 0
  written : Nat := 0
  heldAt : Nat := 0
  changed : Bool := false
  tier : List TierStream := []
  deriving DecidableEq, Repr

/-- A trust anchor (14 R399). -/
structure Anchor where
  id : Nat := 0
  mask : Nat := 0
  valid : Bool := false
  key : List Byte := []
  installed : Nat := 0
  deriving DecidableEq, Repr

/-- A ledger entry (14 R410, R415): its 256 bytes and the tick at which it was written. -/
structure LEntry where
  tick : Nat
  bytes : List Byte
  deriving DecidableEq, Repr

/-- A batch (14 R417, R418): open while `closeTick` is none, signed once it has a seal header. `own` is false for the
entries of a halo partner. -/
structure Batch where
  stream : Nat
  entries : List LEntry
  closeTick : Nat := 0
  sealNo : Nat := 0
  sigIndex : Nat := 0
  header : List Byte := []
  signature : List Byte := []
  spilled : Bool := false
  delivered : Bool := false
  mirrored : Bool := false
  deriving DecidableEq, Repr

/-- A stream of the ledger (14 R409, R417). -/
structure LStream where
  opened : List LEntry := []
  count : Nat := 0
  sealNo : Nat := 0
  prev : BitVec 256 := 0
  lastClose : Nat := 0
  deriving DecidableEq, Repr

/-- A LEDGER_READ that delivers (14 R430). -/
structure LRead where
  conn : Nat
  stream : Nat
  sealFrom : Nat
  boot : Nat
  follow : Bool
  ticket : Nat
  slot : Nat
  skipped : Nat := 0
  deriving DecidableEq, Repr

/-- A signing key's indices (14 R423): the next index, the persisted boundary. -/
structure SignKey where
  next : Nat := 0
  bound : Nat := 0
  deriving DecidableEq, Repr

/-- The ledger unit (14 R409-R423). `closed` are batches that wait for a signature, in order of close. -/
structure Ledger where
  streams : Tab LStream := []
  closed : List Batch := []
  held : List Batch := []
  reads : List LRead := []
  records : Nat := 0
  highRaised : Bool := false
  fullRaised : Bool := false
  deriving DecidableEq, Repr

/-- What REPLAY_ARM and CHECKPOINT_RESTORE have set for a context (14 R428, R429; 15 R469): the orbit number, the
parameter values, the entries to apply; `run` marks the orbits of an armed run, `logged` that its entry is written;
`ckpt` the checkpoint the next start begins from. -/
structure Replay where
  armed : Bool := false
  orbit : Option Nat := none
  pars : List W64 := []
  entries : List (List Byte) := []
  run : Bool := false
  ckpt : Option (List Byte) := none
  deriving DecidableEq, Repr

end Sys2Proof.Machine
end

