-- ==== Sys2Proof/Machine/BootState.lean ====
section
/-! DEFINITION. The state of flash, bring-up, resets and faults, the halo partner, power, heat and the TAP
(15 R433-R473, 16 R474-R490). -/
namespace Sys2Proof.Machine
open Sys2Proof

/-- A store to flash (14 R422): it waits for the hold-up guard, then takes its time. -/
inductive FlashStore where
  | ledgerIndex (bound : Nat)
  | identityIndex (bound : Nat)
  | bootCount (n : Nat)
  | repairs (l : List (BitVec 64))
  | firmware (copy : Nat) (bytes : List Byte) (ticket slot : Nat)
  deriving DecidableEq, Repr

/-- Flash (14 R409, R423; 15 R436, R439; 16 R482). `copies` are FW0 and FW1, `selector` the preferred one. -/
structure Flash where
  bootCount : Nat := 0
  repairs : List (BitVec 64) := []
  copies : Tab (List Byte) := []
  selector : Nat := 0
  spill : List Batch := []
  ledgerKey : SignKey := {}
  identityKey : SignKey := {}
  waiting : List FlashStore := []
  storing : Option FlashStore := none
  deriving DecidableEq, Repr

/-- Bring-up (15 R433-R445). `phase` is READY_REPORT's STATE. `failed`, `stacks` and `bases` are the units failed or
withdrawn for this boot; `staging` is a firmware copy that arrives in chunks; `count` is the boot count (14 R409).
`since` is the tick the stage began. -/
structure Boot where
  phase : Nat := 0
  stage : Nat := 1
  rom : Bool := false
  count : Nat := 0
  running : Nat := 0
  fwVersion : W64 := 0
  fwDigest : BitVec 256 := 0
  failed : Nat := 0
  drams : Nat := 0
  bases : Nat := 0
  fails : Nat := 0
  added : Nat := 0
  stageMs : List Nat := [0, 0, 0, 0, 0]
  readyTick : Nat := 0
  merged : List (BitVec 64) := []
  unconfigured : Bool := false
  since : Nat := 0
  staging : List Byte := []
  deriving DecidableEq, Repr

/-- A fault or a requested reset (15 R446-R459). Scope 0 core, 1 cluster, 2 partition, 3 module; kind 0 is a RESET
command. `step` is the step of R448 it has reached; `forced` that contexts not frozen in time are cut. -/
structure Recovery where
  kind : Nat
  scope : Nat
  target : Nat
  merged : Bool := false
  forced : Bool := false
  tick : Nat := 0
  step : Nat := 0
  since : Nat := 0
  ticket : Nat := 0
  slot : Nat := 0
  cutMask : Nat := 0
  cores : List Nat := []
  deriving DecidableEq, Repr

/-- Recoveries: the one that runs, the queue, and when each physical core last completed one (15 R455-R458). -/
structure Recoveries where
  running : Option Recovery := none
  queue : List Recovery := []
  lastCore : Tab Nat := []
  deriving DecidableEq, Repr

/-- STATE of HALO_STATUS (15 R469). -/
inductive HaloPhase where
  | unpaired
  | active
  | suspended
  | takingOver
  | takenOver
  | diverged
  deriving DecidableEq, Repr

/-- A REGION (15 R460). -/
structure Region where
  mem : Nat
  target : Nat
  first : Nat
  lines : Nat
  deriving DecidableEq, Repr

/-- A checkpoint held by a standby (15 R462). -/
structure Checkpoint where
  no : Nat
  bytes : List Byte
  deriving DecidableEq, Repr

/-- A halo pairing, by context (15 R460-R469). `buffers` are program stack and first line; `out` are items sent and not
acknowledged, `items` the mirror items held since the newest complete checkpoint, in order; `ckptOpen` that the last
checkpoint is not acknowledged; `catchUp` runs the context's catch-up orbits up to the mirror point; `force` asks for a
checkpoint at the next boundary; `inputUsed` and `inputSince` are the bytes of admitted entries mirrored since the last
complete checkpoint and since the last one taken (R464). -/
structure Halo where
  phase : HaloPhase := .unpaired
  standby : Bool := false
  partner : Nat := 16777215
  pairId : Nat := 0
  regions : List Region := []
  buffers : List (Nat × Nat) := []
  mirrorPoint : Option Nat := none
  ckptNo : Option Nat := none
  ckptOrbit : Nat := 0
  nextCkpt : Nat := 0
  ckptOpen : Bool := false
  out : List MirrorItem := []
  lastSeal : Nat := 0
  skipped : Nat := 0
  ckpts : List Checkpoint := []
  items : List MirrorItem := []
  catchUp : Bool := false
  force : Bool := false
  inputUsed : Nat := 0
  inputSince : Nat := 0
  sealHeader : List Byte := []
  ticket : Nat := 0
  slot : Nat := 0
  resume : Bool := false
  deriving DecidableEq, Repr

/-- Power, heat, the sideband pins and the TAP (16). Energies are in 0.01 J. `watts` and `temps` are
the last samples of the input power and of the sensors in 0.25 °C, `draws` counts the readings taken from the world
(the model's own); `paced` is the tick at which the firmware last moved the targets. `ir` is the TAP's instruction:
0 IDCODE, 1 BYPASS, 2 SAMPLE/PRELOAD, 3 EXTEST (DEDUCED, log 151). -/
structure Power where
  management : Bool := true
  compute : Bool := true
  powerGood : Bool := true
  pwrEn : Bool := true
  modReset : Bool := false
  tripLatch : Bool := false
  holdupOk : Bool := true
  energy : Nat := 3000
  sbI3c : Bool := false
  refclkLost : Bool := false
  sealing : Bool := false
  halted : Bool := false
  capSince : Option Nat := none
  capRaised : Bool := false
  paced : Option Nat := none
  watts : Nat := 0
  temps : Tab Nat := []
  draws : Nat := 0
  warned : List Nat := []
  throttled : List Nat := []
  ir : Nat := 0
  trst : Bool := false
  deriving DecidableEq, Repr

end Sys2Proof.Machine
end

