-- ==== Sys2Proof/Machine/State.lean ====
section
/-! DEFINITION. The state of the block, its faults and refusals, and the state after reset. -/
namespace Sys2Proof.Machine
open Sys2Proof

/-- One context x0-x15 (01 R20-R36; 13 R374-R384). `sites` are its physical sites in program-site order and `quads`
the physical quadrant of each program quadrant index (09 R232). `step` counts the orbit's steps from its entry step; the
step counter of R20 is its low 48 bits. `resume` holds, after a release, the tick the
freeze began and the step that begins at the next router phase (09 R230). `dram` and `base` are the granules allocated
to it per program stack and per program quadrant, lowest context line first (07 R189, 08 R194). `item` is the next item
of R36 while a boundary or a start is under way, 0 otherwise. `ahead` counts, per site domain, beats taken towards the
next step (11 R273). `listed` are the (step, core, semaphore) that the last release lets a bundle read unexposed (01
R28). -/
structure Ctx where
  phase : CtxPhase := .free
  sites : List Nat := []
  quads : List Nat := []
  step : Nat := 0
  orbit : Nat := 0
  freeze : Option Freeze := none
  resume : Option (Nat × Nat) := none
  item : Nat := 0
  holds : Holds := {}
  ahead : Tab Nat := []
  image : Option Image := none
  staged : Option Image := none
  loading : Option Nat := none
  patch : List (BitVec 128) := []
  patchNew : Bool := false
  armed : Bool := false
  wire : Tab W64 := []
  wires : List WireRes := []
  wireIn : List WireIn := []
  flights : List Flight := []
  baseWrites : List (Nat × Nat × Nat × Line) := []
  removed : List Nat := []
  flags : W64 := 0
  listed : List (Nat × Nat × Nat) := []
  skew : Bool := false
  ircOn : Bool := false
  entryTick : Nat := 0
  freezeTicks : Nat := 0
  inputs : List DigestItem := []
  outputs : List DigestItem := []
  interventions : Nat := 0
  rt : RtStatus := {}
  stallReport : List Byte := []
  last : LastOrbit := {}
  binds : List Bind := []
  job : Job := {}
  weights : Weights := {}
  dram : List (List Nat) := []
  base : List (List Nat) := []
  replay : Replay := {}
  halo : Halo := {}
  imageChanged : Bool := false
  takeover : Bool := false
  startOrbit : Option Nat := none
  paramDigest : BitVec 256 := 0
  seeds : List W64 := []
  startWeights : BitVec 256 := 0
  startImage : BitVec 256 := 0
  selfLost : Bool := false
  deriving DecidableEq, Repr

/-- Why a meaning would stop the machine. No meaning raises one: every command has an effect (95). Kept because
the interface names the type; raising it would be safe. -/
inductive Fault where
  /-- Raised by no meaning. -/
  | unmapped
  deriving DecidableEq, Repr

/-- Why a meaning is missing. -/
inductive Refusal where
  /-- Raised by the arm of a command that has no meaning yet; safe. -/
  | notModelled (mnemonic : String)
  deriving DecidableEq, Repr

/-- What the fuses of the module fix (02 R45, R58; 15 R436, R439; log 8). `variant`: 0 KFM-7200G, 1 P, 2 C. -/
structure Fuses where
  variant : Nat := 0
  serial : List Byte := List.replicate 16 32
  entries : List (BitVec 64) := []
  rollback : Nat := 0
  deriving DecidableEq, Repr

/-- The state of the block. -/
structure State where
  pending : List Instr := []
  time : TimeBase := {}
  domains : Tab Domain := []
  calendar : List CalEntry := []
  events : EventRing := {}
  cores : Tab Core := []
  ctxs : Tab Ctx := []
  mem : List Host.Cell := []
  drams : Tab Stack := []
  base : Tab BaseMem := []
  hubs : Tab Hub := []
  grants : List Grant := []
  links : Links := {}
  mbox : Mbox := {}
  fuses : Fuses := {}
  anchors : Tab Anchor := []
  ledger : Ledger := {}
  flash : Flash := {}
  boot : Boot := {}
  recovery : Recoveries := {}
  power : Power := {}
  deriving DecidableEq, Repr

/-- The machine right after reset (DESIGN CHOICE, log 4). -/
def State.reset : State := {}

end Sys2Proof.Machine
end

