-- ==== Sys2Proof/Machine/Ops.lean ====
section
/-! DEFINITION. The named operations every meaning is written over: reading and changing a context, a core, a
unit; memory; settings; events; sections of a program image. -/
namespace Sys2Proof.Machine
open Sys2Proof

/-- What a meaning answers. -/
abbrev Out := Host.Outcome State Fault Refusal

/-- A command that writes no memory completes: the queue and every byte of memory stand (DEDUCED, log 1). -/
def quiet (s t : State) : Out := .next { t with pending := s.pending, mem := s.mem }

/-- A command completes: the queue stands. -/
def done (s t : State) : Out := .next { t with pending := s.pending }

/-- The state a meaning leaves. -/
def after (o : Out) (s : State) : State := match o with | .next t => t | .fault _ => s | .refused _ => s

/-! ### Records by number -/

def State.ctx (s : State) (x : Nat) : Ctx := s.ctxs.get {} x
def State.setCtx (s : State) (x : Nat) (c : Ctx) : State := { s with ctxs := s.ctxs.set {} x c }
def State.modCtx (s : State) (x : Nat) (f : Ctx → Ctx) : State := s.setCtx x (f (s.ctx x))
def State.coreAt (s : State) (l : Nat) : Core := s.cores.get {} l
def State.setCore (s : State) (l : Nat) (c : Core) : State := { s with cores := s.cores.set {} l c }
def State.modCore (s : State) (l : Nat) (f : Core → Core) : State := s.setCore l (f (s.coreAt l))
def State.stack (s : State) (d : Nat) : Stack := s.drams.get {} d
def State.setStack (s : State) (d : Nat) (k : Stack) : State := { s with drams := s.drams.set {} d k }
def State.modStack (s : State) (d : Nat) (f : Stack → Stack) : State := s.setStack d (f (s.stack d))
def State.baseOf (s : State) (q : Nat) : BaseMem := s.base.get {} q
def State.modBase (s : State) (q : Nat) (f : BaseMem → BaseMem) : State :=
  { s with base := s.base.set {} q (f (s.baseOf q)) }
def State.hub (s : State) (q : Nat) : Hub := s.hubs.get {} q
def State.modHub (s : State) (q : Nat) (f : Hub → Hub) : State := { s with hubs := s.hubs.set {} q (f (s.hub q)) }
def State.domain (s : State) (d : Nat) : Domain := s.domains.get {} d
def State.setDomain (s : State) (d : Nat) (v : Domain) : State := { s with domains := s.domains.set {} d v }
def State.port (s : State) (p : Nat) : Port := s.links.ports.get {} p
def State.setPort (s : State) (p : Nat) (v : Port) : State :=
  { s with links := { s.links with ports := s.links.ports.set {} p v } }
def State.modPort (s : State) (p : Nat) (f : Port → Port) : State := s.setPort p (f (s.port p))
def State.slot (s : State) (m : Nat) : Slot := s.mbox.slots.get {} m
def State.setSlot (s : State) (m : Nat) (v : Slot) : State :=
  { s with mbox := { s.mbox with slots := s.mbox.slots.set {} m v } }
def State.modSlot (s : State) (m : Nat) (f : Slot → Slot) : State := s.setSlot m (f (s.slot m))

/-- The tick now (11 R292). -/
def State.now (s : State) : Nat := s.time.now

/-- The tick of a timed event: the counter never decreases (11 R292; log 3; DESIGN CHOICE, log 156). -/
def State.atTick (s : State) (t : Nat) : State :=
  { s with time := { s.time with now := Nat.max s.time.now t % 2 ^ 64 } }

/-! ### Placement -/

/-- The 48-bit step counter (01 R20): it wraps, while `step` goes on, so that what is in flight lands at its time. -/
def Ctx.counter (x : Ctx) : Nat := x.step % 2 ^ 48

/-- Cores of the context (09 R233). -/
def Ctx.ncores (x : Ctx) : Nat := 72 * x.sites.length

/-- The logical core of program core `p` (01 R18; 09 R232). -/
def Ctx.logical (x : Ctx) (p : Nat) : Nat := x.sites.getD (p / 72) 0 * 72 + p % 72

/-- Program cores of the context, rising. -/
def Ctx.cores (x : Ctx) : List Nat := List.range x.ncores

def State.core (s : State) (c : CoreRef) : Core := s.coreAt ((s.ctx c.ctx).logical c.core)
def State.modCoreOf (s : State) (x : Nat) (p : Nat) (f : Core → Core) : State :=
  s.modCore ((s.ctx x).logical p) f

/-- Apply a function to every core of a context in program core order. -/
def State.mapCores (s : State) (x : Nat) (f : Nat → Core → Core) : State :=
  (s.ctx x).cores.foldl (fun s p => s.modCoreOf x p (f p)) s

/-- The quadrant of a site (02 R43). -/
def quadOfSite (site : Nat) : Nat := site / 4

/-- Whether a context executes bundles: RUNNING or STOPPING (13 R374). -/
def Ctx.active (x : Ctx) : Bool := x.phase = .running || x.phase = .stopping

/-- Whether the step wave stands (01 R29-R33): a settled freeze, or a release that awaits its phase. -/
def Ctx.frozen (x : Ctx) : Bool :=
  x.resume.isSome || (match x.freeze with | none => false | some f => f.settled)

/-- Whether the fields of this step may still act on core `c` (03 R62, R72; 01 R29): the context runs, its wave
moves, and the core is not in the idle steps that end an arm. -/
def State.live (s : State) (c : CoreRef) : Bool :=
  (s.ctx c.ctx).active && !(s.ctx c.ctx).frozen && decide (c.core < (s.ctx c.ctx).ncores)
    && !(s.core c).seq.armEnded

/-- Change the core `c` names, if the fields of this step may act on it; the rows have then presented its bundle
(log 13). -/
def State.onCore (s : State) (c : CoreRef) (f : Core → Core) : State :=
  if s.live c then
    s.modCoreOf c.ctx c.core (fun k => { f k with work := { (f k).work with given := true } })
  else s

/-! ### Memory (02 R52; 07 R172; log 6) -/

abbrev Memory := List Host.Cell

/-- The byte at an address; a byte nothing has written reads zero. -/
def Memory.byte (m : Memory) (a : Nat) : Byte := Tab.get (0 : Byte) m a

def Memory.writeByte (m : Memory) (a : Nat) (b : Byte) : Memory := Tab.set (0 : Byte) m a b

/-- The canonical form of memory. -/
def Memory.wf (m : Memory) : Bool := Tab.wf (0 : Byte) m

def Memory.bytes (m : Memory) (a n : Nat) : List Byte := (List.range n).map (fun i => Memory.byte m (a + i))

def Memory.write (m : Memory) (a : Nat) : List Byte → Memory
  | [] => m
  | b :: r => Memory.write (Memory.writeByte m a b) (a + 1) r

def Memory.line (m : Memory) (a : Nat) : Line := lineOf (Memory.bytes m a 64)
def Memory.writeLine (m : Memory) (a : Nat) (l : Line) : Memory := Memory.write m a (lineBytes l)

/-- Write zero to the bytes from `a` up to `a + n`. -/
def Memory.clear (m : Memory) (a n : Nat) : Memory := m.filter (fun c => !(decide (a ≤ c.1) && decide (c.1 < a + n)))

def dramAddr (stack line : Nat) : Nat := stack * 17179869184 + 64 * line
def baseAddr (quad line : Nat) : Nat := 1099511627776 + quad * 67108864 + 64 * line
def coreAddr (logical line : Nat) : Nat := 2199023255552 + logical * 524288 + 64 * line
def imemAddr (logical : Nat) (bank : Bool) (baddr : Nat) : Nat :=
  3298534883328 + logical * 131072 + (if bank then 65536 else 0) + 64 * baddr

/-- The stack line a request reaches: a KFM-7200P ignores bit 33 of a stack offset (02 R54), which is bit 27 of the
line number. -/
def foldLine (variant line : Nat) : Nat := if variant = 1 then line % 134217728 else line % 268435456

/-! ### Settings (13 R367-R369) -/

/-- Registry defaults by setting number; those that depend on the context are written when it is created, and
PORT_ROLE when no value is written follows the mode (12 R337). -/
def settingDefault (num : Nat) : Nat :=
  match num with
  | 0x01 => 1
  | 0x02 => 15
  | 0x11 => 16777215
  | 0x20 => 16777215
  | 0x21 => 1
  | 0x22 => 2
  | 0x40 => 64
  | 0x42 => 50000000
  | 0x53 => 16
  | 0x54 => 1000
  | 0x55 => 8
  | 0x60 => 1
  | 0x61 => 1
  | 0x70 => 100000000
  | 0x71 => 1
  | 0x72 => 1
  | 0x73 => 2
  | _ => 0

def State.settingRaw (s : State) (sid : Nat) : Option Nat := s.mbox.settings.get none sid
def State.setting (s : State) (num inst : Nat) : Nat :=
  (s.settingRaw (inst * 65536 + num)).getD (settingDefault num)
def State.setSetting (s : State) (sid v : Nat) : State :=
  { s with mbox := { s.mbox with settings := s.mbox.settings.set none sid (some v) } }

/-! ### Events (13 R385-R390) -/

/-- SEVERITY by event code (13 R390; 14 R432; 15 R473; 16 R490). -/
def eventSeverity (code : Nat) : Nat :=
  match code with
  | 0x01 => 0 | 0x02 => 0 | 0x03 => 1 | 0x04 => 0 | 0x05 => 1 | 0x06 => 1 | 0x07 => 1
  | 0x10 => 2 | 0x11 => 1 | 0x12 => 2 | 0x13 => 2 | 0x14 => 2 | 0x15 => 2
  | 0x20 => 1 | 0x21 => 1 | 0x22 => 1 | 0x30 => 0
  | 0x40 => 1 | 0x41 => 0 | 0x42 => 0 | 0x43 => 1 | 0x44 => 1
  | 0x50 => 1 | 0x51 => 2 | 0x52 => 3 | 0x53 => 3 | 0x54 => 3
  | 0x80 => 0 | 0x81 => 0 | 0x82 => 2 | 0x83 => 3 | 0x84 => 1 | 0x85 => 2 | 0x86 => 1 | 0x87 => 1 | 0x88 => 0
  | 0x100 => 0 | 0x101 => 0 | 0x102 => 3 | 0x103 => 2 | 0x104 => 2 | 0x105 => 2
  | 0x110 => 2 | 0x111 => 0 | 0x112 => 2 | 0x113 => 0 | 0x114 => 1 | 0x115 => 2 | 0x116 => 3
  | 0x120 => 0 | 0x121 => 2 | 0x122 => 0 | 0x123 => 3 | 0x124 => 1 | 0x125 => 3 | 0x126 => 3 | 0x130 => 0
  | 0x200 => 3 | 0x201 => 1 | 0x202 => 1 | 0x203 => 3 | 0x204 => 2 | 0x205 => 3
  | _ => 0

/-- Insert an event among those of its tick, by ascending CODE and then UNIT (13 R386). Acknowledged events keep
their place, and nothing passes TIME_LOADED. The list is newest first (DEDUCED, log 23). -/
def eventInsert (ack : Nat) (e : Event) : List Event → List Event
  | [] => [e]
  | h :: r =>
    if h.tick = e.tick && decide (ack < h.seq) && h.code ≠ 0x43 && e.code ≠ 0x43 &&
        (decide (e.code < h.code) || (decide (e.code = h.code) && decide (e.unit < h.unit))) then
      { h with seq := e.seq } :: eventInsert ack { e with seq := h.seq } r
    else e :: h :: r

/-- The 32 bytes of an event entry (R385). -/
def Event.bytes (e : Event) : List Byte :=
  bytesOf 32 (pack [(32, e.seq), (16, e.code), (2, e.sev), (2, 0), (4, e.ctx.getD 0), (1, b2n e.ctx.isSome), (7, 0),
    (64, e.tick), (16, e.unit), (16, 0), (96, e.data)])

/-- The slots that an event is forwarded to (R389). -/
def State.forwards (s : State) : List Nat :=
  [1, 2, 3, 4, 5, 6, 7].filter (fun m => (s.slot m).bound && decide (s.setting 0x21 m = 1))

/-- An event message: a response with SEQ 0 and STATUS OK whose payload is the entry (R351, R389). -/
def eventMessage (e : Event) : List Byte := bytesOf 16 (pack [(32, 0), (12, 32)]) ++ e.bytes

/-- A message on the path that the commands of a slot arrived by; a slot that no path has reached has none (R346, R389). -/
def State.letter (s : State) (m : Nat) (b : List Byte) : List Message :=
  let v := s.slot m
  if v.bound && (v.transport = 1 || v.transport = 2) then [⟨m, v.port, v.tag, b⟩] else []

/-- An event at or above the level has a SEQ above ACK_SEQ, held or overwritten (R387). -/
def EventRing.alerting (r : EventRing) (level : Nat) : Bool :=
  r.held.any (fun e => decide (level ≤ e.sev) && decide (r.ackSeq < e.seq))
    || (List.range 4).any (fun v => decide (level ≤ v) && decide (r.ackSeq < r.gone.getD v 0))

/-- An event takes the next SEQ; the ring keeps the 256 most recent (13 R385, R386). -/
def EventRing.add (r : EventRing) (e : Event) : EventRing :=
  let l := eventInsert r.ackSeq e r.held.reverse
  { r with held := (l.take 256).reverse, nextSeq := r.nextSeq + 1
           gone := (l.drop 256).foldl (fun g o => g.set o.sev (Nat.max (g.getD o.sev 0) o.seq)) r.gone }

/-- Raise an event at the tick now (13 R385). Each slot that takes events is sent it with the messages that leave next, in
SEQ order (R389); one that leaves the ring before that is sent first. -/
def State.raiseSev (s : State) (code sev : Nat) (ctx : Option Nat) (unit data : Nat) : State :=
  let e : Event := { seq := s.events.nextSeq, code, sev, ctx, tick := s.now, unit := unit % 65536,
                     data := data % 2 ^ 96 }
  let r := s.events.add e
  let lost := s.events.held.filter (fun o => r.held.all (fun h => h.seq ≠ o.seq))
  let early := lost.flatMap (fun o => (s.mbox.forward.filter (fun f => f.2 = o.seq)).flatMap (fun f => s.letter f.1 (eventMessage o)))
  { s with events := { r with alert := r.alerting (s.setting 0x22 0) || s.boot.rom || s.boot.phase = 2 }
           mbox := { s.mbox with
             messages := s.mbox.messages ++ early
             forward := s.mbox.forward.filter (fun f => lost.all (fun o => f.2 ≠ o.seq)) ++ s.forwards.map (fun m => (m, e.seq)) } }

def State.raise (s : State) (code : Nat) (ctx : Option Nat) (unit data : Nat) : State :=
  s.raiseSev code (eventSeverity code) ctx unit data

/-! ### Deferred commands (13 R355) -/

/-- A new ticket of a deferred command (R355). -/
def State.newTicket (s : State) : State × Nat :=
  let t := s.mbox.tickets + 1
  ({ s with mbox := { s.mbox with tickets := t } }, t)

/-- A deferred command ends: COMMAND_DONE with its ticket, status and DETAIL (R355). -/
def State.finish (s : State) (ticket status detail : Nat) : State :=
  match s.mbox.deferred.find? (fun d => d.ticket = ticket) with
  | none => s
  | some d =>
    let s := { s with mbox := { s.mbox with deferred := s.mbox.deferred.erase d } }
    let s := s.modSlot d.slot (fun v => { v with outstanding := v.outstanding - 1 })
    s.raise 1 none d.slot (pack [(32, ticket), (16, status), (16, 0), (32, detail)])

/-- The deferred command of an opcode and key. -/
def State.findDeferred (s : State) (opcode key : Nat) : Option Deferred :=
  s.mbox.deferred.find? (fun d => d.opcode = opcode && d.key = key)

/-- End every deferred command of an opcode and key. -/
def State.finishAll (s : State) (opcode key status detail : Nat) : State :=
  (s.mbox.deferred.filter (fun d => d.opcode = opcode && d.key = key)).foldl
    (fun s d => s.finish d.ticket status detail) s

/-! ### Sections of a program image (13 R379) -/

/-- The bytes of a section: a core's own, or the one that names 7FFh. -/
def Image.sect (i : Image) (typ core : Nat) : List Byte :=
  match i.sections.find? (fun q => q.typ = typ && q.core = core) with
  | some q => q.bytes
  | none =>
    match i.sections.find? (fun q => q.typ = typ && q.core = 2047) with
    | some q => q.bytes
    | none => []

/-- The installed image of a context; an empty one where none is. -/
def Ctx.img (x : Ctx) : Image := x.image.getD {}

/-- The lead Λ of a lead profile (01 R21). -/
def leadOf (profile : Nat) : Nat := if profile = 0 then 261 else if profile = 1 then 306 else 333

/-- A value of the list at most once, kept in rising order. -/
def insertNat (a : Nat) : List Nat → List Nat
  | [] => [a]
  | b :: r => if a < b then a :: b :: r else if a = b then b :: r else b :: insertNat a r

end Sys2Proof.Machine
end

