-- ==== Sys2Proof/Machine/Flags.lean ====
section
/-! DEFINITION. The flags: the orbit's record flags (14 R411), the sticky flags of a core and their firsts
(01 R26, R28; 07 R185; 08 R222; 09 R244; 10 R272), and what an ECC outcome reports (07 R178). -/
namespace Sys2Proof.Machine
open Sys2Proof

/-- Bit numbers of ORBIT_FLAGS (14 R411). -/
def fTimingExposed : Nat := 0
def fLandingLate : Nat := 1
def fLandingOverwrite : Nat := 2
def fRecvUnadmitted : Nat := 3
def fSemUnadmitted : Nat := 4
def fBrokenSeen : Nat := 5
def fEccUe : Nat := 6
def fAbandoned : Nat := 7
def fTransitLost : Nat := 8
def fSendOverflow : Nat := 9
def fArmCut : Nat := 10
def fRdvSkew : Nat := 11
def fFwDrop : Nat := 12
def fDeadlineMiss : Nat := 13
def fWaitMiss : Nat := 14
def fIntervened : Nat := 15
def fSeedsPartial : Nat := 16
def fTierMismatch : Nat := 17
def fWeightChanged : Nat := 18
def fImageChanged : Nat := 19
def fReplay : Nat := 20
def fTakeover : Nat := 21

/-- Set a record flag of the orbit in progress; bits 1-5 also set TIMING_EXPOSED (14 R411). -/
def Ctx.flag (x : Ctx) (b : Nat) : Ctx :=
  let t : Nat := if 1 ≤ b ∧ b ≤ 5 then 1 else 0
  { x with flags := x.flags ||| BitVec.ofNat 64 (2 ^ b) ||| BitVec.ofNat 64 t }

def State.flagCtx (s : State) (x b : Nat) : State := s.modCtx x (fun c => c.flag b)

/-- Whether the record names determinism class D1 (01 R37). -/
def classD1 (flags : W64) : Bool :=
  !(flags.toNat.testBit fTimingExposed || flags.toNat.testBit fEccUe || flags.toNat.testBit fAbandoned
    || flags.toNat.testBit fTransitLost)

/-- Add to a saturating count held in bits [lo+len-1:lo] of a report register. -/
def addFld (w : W64) (lo len k : Nat) : W64 := bvp w lo len (Nat.min (2 ^ len - 1) (bvf w lo len + k))

/-- A 64-bit register from its fields, lowest first. -/
def reg64 (l : List (Nat × Nat)) : W64 := BitVec.ofNat 64 (pack l)

/-- LANDING_LATE or LANDING_OVERWRITE at core `p`: report of the core and flag of the orbit (08 R206, R222). -/
def State.landingFault (s : State) (x p : Nat) (ovl staging : Bool) (pos step : Nat) : State :=
  let s := s.flagCtx x (if ovl then fLandingOverwrite else fLandingLate)
  s.modCoreOf x p (fun c =>
    let r := c.rep
    let r := if ovl then { r with overSeen := true } else { r with lateSeen := true }
    let first := reg64 [(48, step), (1, 1), (1, b2n ovl), (1, b2n staging), (10, pos)]
    { c with rep := if r.landFirst.toNat.testBit 48 then r else { r with landFirst := first } })

/-- CHAN_STATE bits and CHAN_FIRST (10 R272): 0 overflow, 1 RECV_UNADMITTED, 2 SEM_UNADMITTED, 3 broken. Of several of
one step, CHAN_FIRST records the one met first: reads of semaphores and endpoints as their rows act, then at the end of
the step RECV before SEND (DESIGN CHOICE, log 161). -/
def Core.chanFault (c : Core) (b index step : Nat) : Core :=
  let r := { c.rep with chan := c.rep.chan ||| BitVec.ofNat 64 (2 ^ b) }
  let first := reg64 [(48, step), (2, b), (6, index), (1, 1)]
  { c with rep := if r.chanFirst.toNat.testBit 56 then r else { r with chanFirst := first } }

/-- A broken marker or state that a bundle or a release depended on (01 R28; 10 R263, R265). -/
def State.brokenSeen (s : State) (x p index step : Nat) : State :=
  (s.flagCtx x fBrokenSeen).modCoreOf x p (fun c => c.chanFault 3 index step)

/-- The first line dropped by a firewall, and the counts (09 R240, R244). -/
def State.fwDrop (s : State) (x p cause j step quad : Nat) : State :=
  let s := s.modHub quad (fun h => { h with drops := satAdd (2 ^ 32 - 1) h.drops 1 })
  let s := if cause = 2 then s.flagCtx x fTransitLost else s
  (s.flagCtx x fFwDrop).modCoreOf x p (fun c =>
    let t := addFld (c.rep.transit ||| BitVec.ofNat 64 (if cause = 2 then 3 else 1)) 16 32 1
    let r := { c.rep with transit := t }
    let first := reg64 [(48, step), (1, 1), (2, cause), (6, j)]
    { c with rep := if r.fwFirst.toNat.testBit 48 then r else { r with fwFirst := first } })

/-- ARM_CUT of a core (03 R72, R73). -/
def State.armCutAt (s : State) (x p : Nat) : State :=
  (s.flagCtx x fArmCut).modCoreOf x p (fun c => { c with rep := { c.rep with armCut := true } })

/-- MEM_CE_THRESHOLD once per core and orbit, when the count has reached the threshold (07 R179). -/
def State.ceThreshold (s : State) (x p : Nat) : State :=
  let t := s.setting 0x40 x
  let r := (s.core ⟨x, p⟩).rep
  if t ≠ 0 ∧ r.ceRaised = false ∧ t ≤ bvf r.ecc 0 32 then
    (s.modCoreOf x p (fun c => { c with rep := { c.rep with ceRaised := true } })).raise 0x11 (some x) p (s.ctx x).orbit
  else s

/-- Corrected words at a core: CE_COUNT, and MEM_CE_THRESHOLD where it is reached (07 R178, R179). -/
def State.memCe (s : State) (x p n : Nat) : State :=
  if n = 0 then s
  else (s.modCoreOf x p (fun c => { c with rep := { c.rep with ecc := addFld c.rep.ecc 0 32 n } })).ceThreshold x p

/-- An uncorrectable word met at a core: flag, UE_COUNT, MEM_UE (07 R178). -/
def State.memUe (s : State) (x p port step line word : Nat) : State :=
  let s := (s.flagCtx x fEccUe).modCoreOf x p (fun c =>
    { c with rep := { c.rep with eccUe := true, ecc := addFld c.rep.ecc 32 16 1 } })
  s.raise 0x10 (some x) p (pack [(48, step), (8, port), (16, line), (8, word)])

/-- The first uncorrectable error of the orbit in core memory or the register file (`src` 1) is recorded (07 R178, R185). -/
def State.memUeFirst (s : State) (x p src step line word : Nat) : State :=
  s.modCoreOf x p (fun c =>
    if c.rep.ecc.toNat.testBit 48 then c
    else { c with rep := { c.rep with ecc := c.rep.ecc ||| reg64 [(48, 0), (1, 1), (1, src)],
                                      ueFirst := reg64 [(48, step), (13, line), (3, word)] } })

/-- An ECC outcome met by a read of core memory or the vector register file at step `step` (07 R178, R179):
`src` 1 is the register file. The data is used as stored. -/
def State.eccRead (s : State) (x p port src step : Nat) (e : Ecc) : State :=
  e.ue.foldl (fun s u => (s.memUeFirst x p src step u.1 u.2).memUe x p port step u.1 u.2) (s.memCe x p e.ce)

/-- A bundle with an uncorrectable error in instruction memory (03 R92): flagged, counted in UE_COUNT, and reported by
MEM_UE with port 0 and the bundle's address as its line (DESIGN CHOICE, log 24). -/
def State.fetchUe (s : State) (x p step baddr : Nat) (e : Ecc) : State :=
  e.ue.foldl (fun s u => s.memUe x p 0 step baddr u.2) s

/-- A parity mismatch of an array, the operand buffer or the drain window (04 R121; 07 R178). -/
def State.parity (s : State) (x p k step : Nat) : State :=
  let s := s.flagCtx x fEccUe
  let s := s.modCoreOf x p (fun c =>
    { c with arrays := c.arrays.modify {} k (fun a => { a with paritySeen := true }),
             rep := { c.rep with eccUe := true } })
  s.raise 0x15 (some x) p (pack [(48, step), (8, k)])

end Sys2Proof.Machine
end

