-- ==== Sys2Proof/Machine/Operands.lean ====
section
/-! DEFINITION. Operand forms: the fields of a bundle (03 R63-R87), tap descriptors (03 R81), stream descriptors
(08 R208), the records of an image's sections (03 R90; 09 R234; 10 R252), and operand reads of the scalar unit. -/
namespace Sys2Proof.Machine
open Sys2Proof

/-! ### Fields of a bundle (03 R63) -/

abbrev Bundle64 := BitVec 512

def Bundle64.hdr (b : Bundle64) : Nat := bvf b 0 8
def Bundle64.bfmt (b : Bundle64) : Nat := bvf b 0 4
def Bundle64.brk (b : Bundle64) : Bool := bit b.toNat 4
def Bundle64.rcount (b : Bundle64) : Nat := bvf b 8 12
def Bundle64.rsrc (b : Bundle64) : Bool := bit b.toNat 20
def Bundle64.ctl (b : Bundle64) : CtlField := BitVec.ofNat 48 (bvf b 24 48)
def Bundle64.sop (b : Bundle64) : Nat := bvf b 72 8

def Bundle64.scalar (b : Bundle64) : ScalarField :=
  { sd := BitVec.ofNat 5 (bvf b 80 5), sa := BitVec.ofNat 5 (bvf b 85 5), sb := BitVec.ofNat 5 (bvf b 90 5),
    bimm := bit b.toNat 95, imm := BitVec.ofNat 32 (bvf b 96 32), sx := BitVec.ofNat 8 (bvf b 128 8) }

def Bundle64.vop (b : Bundle64) : Nat := bvf b 136 8

def Bundle64.vector (b : Bundle64) : VectorField :=
  { vd := BitVec.ofNat 6 (bvf b 144 6), va := BitVec.ofNat 6 (bvf b 150 6), vb := BitVec.ofNat 6 (bvf b 156 6),
    vc := BitVec.ofNat 6 (bvf b 162 6), vm := BitVec.ofNat 3 (bvf b 168 3), mz := bit b.toNat 171,
    vfmt := BitVec.ofNat 4 (bvf b 172 4), vs := BitVec.ofNat 5 (bvf b 176 5), vsel := bit b.toNat 181,
    vimm := BitVec.ofNat 16 (bvf b 182 16) }

def Bundle64.vlde (b : Bundle64) : Bool := bit b.toNat 198
def Bundle64.vldr (b : Bundle64) : Nat := bvf b 199 6
def Bundle64.vste (b : Bundle64) : Bool := bit b.toNat 205
def Bundle64.vstr (b : Bundle64) : Nat := bvf b 206 6
def Bundle64.arrays (b : Bundle64) : ArrayFields :=
  { a0 := BitVec.ofNat 24 (bvf b 216 24), a1 := BitVec.ofNat 24 (bvf b 240 24),
    a2 := BitVec.ofNat 24 (bvf b 264 24), a3 := BitVec.ofNat 24 (bvf b 288 24) }

/-- The tap of port `p` in direction `w` (true: write), if EN is set (03 R80). -/
def Bundle64.tap (b : Bundle64) (p : Nat) (w : Bool) : TapField :=
  let v := bvf b (312 + 16 * p + (if w then 8 else 0)) 8
  { en := bit v 0, td := BitVec.ofNat 5 (fld v 1 5), inc := bit v 6 }

def Bundle64.sen (b : Bundle64) : Bool := bit b.toNat 376
def Bundle64.sdesc (b : Bundle64) : Nat := bvf b 377 8
def Bundle64.chan (b : Bundle64) : Nat := bvf b 392 64

/-! ### The control field (03 R68-R74) -/

def ctlOp (f : CtlField) : Nat := bvf f 0 4
def ctlTarget (f : CtlField) : Nat := bvf f 4 10
def ctlLcsel (f : CtlField) : Nat := bvf f 14 2
def ctlCond (f : CtlField) : Nat := bvf f 14 3
def ctlWsel (f : CtlField) : Nat := bvf f 17 2
def ctlJoin (f : CtlField) : Nat := bvf f 14 10
def ctlArmLen (f : CtlField) : Nat := bvf f 24 10 + 1
def ctlArmCond (f : CtlField) : Nat := bvf f 34 3
def ctlCsr (f : CtlField) : Nat := bvf f 37 5

/-- The conditions A and B a rendezvous control lists on program core `p`; semaphores 48-63 name none, and B is
ignored where it names A's semaphore (03 R74; 10 R262). -/
def ctlConds (f : CtlField) (p : Nat) : List Cond :=
  let a := bvf f 14 6
  let b := bvf f 31 6
  (if a < 48 then [⟨p, false, a, bvf f 20 10, bit f.toNat 30⟩] else [])
    ++ (if b < 48 ∧ a ≠ b then [⟨p, true, b, bvf f 37 10, bit f.toNat 47⟩] else [])

/-- A COND code on a signed value (03 R71). -/
def condHolds (code : Nat) (v : Int) : Bool :=
  match code with
  | 0 => v = 0
  | 1 => v ≠ 0
  | 2 => v < 0
  | 3 => 0 ≤ v
  | 4 => 0 < v
  | 5 => v ≤ 0
  | _ => false

/-! ### ARRAYk fields (03 R84) -/

def arrField (f : ArrayFields) (k : Nat) : Nat :=
  if k = 0 then f.a0.toNat else if k = 1 then f.a1.toNat else if k = 2 then f.a2.toNat else f.a3.toNat
def arrEnter (w : Nat) : Bool := bit w 0
def arrShift (w : Nat) : Bool := bit w 1
def arrSwap (w : Nat) : Bool := bit w 2
def arrFmt (w : Nat) : Nat := fld w 4 4
/-- FORM: true is wide; codes 10b and 11b act as deep. -/
def arrWide (w : Nat) : Bool := fld w 8 2 = 1
def arrSplit (w : Nat) : Bool := bit w 10
def arrObuf (w : Nat) : Nat := fld w 11 4
def arrSbuf (w : Nat) : Nat := fld w 15 4
def arrAcc (w : Nat) : Nat := fld w 19 2

/-! ### Tap descriptors (03 R81, R82) -/

def TapDesc.ofWord (w : Nat) : TapDesc :=
  { base := fld w 0 13, len := fld w 13 13, stride := fld w 26 14, width := fld w 40 3, cur := fld w 43 13 }

def TapDesc.word (t : TapDesc) : Nat := pack [(13, t.base), (13, t.len), (14, t.stride), (3, t.width), (13, t.cur)]

/-- LEN; 0 encodes 8,192. -/
def TapDesc.lines (t : TapDesc) : Nat := if t.len = 0 then 8192 else t.len

/-- W, the lines per access. -/
def TapDesc.w (t : TapDesc) : Nat :=
  if t.width = 0 then 1 else if t.width = 1 then 2 else if t.width = 2 then 4 else if t.width = 3 then 8
  else if t.width = 4 then 16 else 1

/-- The lines an access touches, in order (R82). -/
def TapDesc.access (t : TapDesc) : List Nat :=
  (List.range t.w).map (fun j => (t.base + (t.cur + j) % t.lines) % 8192)

/-- The advance of a descriptor at the end of a step (R82). -/
def TapDesc.advance (t : TapDesc) : TapDesc :=
  { t with cur := resid ((t.cur : Int) + sInt 14 t.stride) t.lines }

/-- A TAPSET of field `k` with value `v` (R76, R82). -/
def TapDesc.setField (t : TapDesc) (k : Nat) (v : W64) : TapDesc :=
  match k with
  | 0 => { t with base := bvf v 0 13 }
  | 1 => { t with len := bvf v 0 13 }
  | 2 => { t with stride := bvf v 0 14 }
  | 3 => { t with cur := resid v.toInt t.lines }
  | 4 => { t with width := bvf v 0 3 }
  | _ => t

/-! ### Stream descriptors (08 R208-R211) -/

/-- A stream descriptor as the image holds it; CUR is the core's. -/
structure StreamDesc where
  kind : Nat := 0
  xpose : Bool := false
  xw : Nat := 0
  tgt : Nat := 0
  cnt : Nat := 0
  route : Nat := 0
  pen : Bool := false
  ppar : Nat := 0
  base : Nat := 0
  len : Nat := 0
  stride : Nat := 0
  istride : Nat := 0
  bbase : Nat := 0
  btgt : Nat := 0
  deriving DecidableEq, Repr

def StreamDesc.ofWord (w : Nat) : StreamDesc :=
  { kind := fld w 0 4, xpose := bit w 4, xw := fld w 5 2, tgt := fld w 8 4, cnt := fld w 12 6, route := fld w 18 6,
    pen := bit w 24, ppar := fld w 25 6, base := fld w 32 32, len := fld w 64 32, stride := fld w 96 32,
    istride := fld w 128 32, bbase := fld w 192 20, btgt := fld w 212 4 }

def StreamDesc.lines (d : StreamDesc) : Nat := if d.len = 0 then 2 ^ 32 else d.len

/-- Lines of a transposed block; none where XPOSE is clear or XW is 11b (08 R211). -/
def StreamDesc.block (d : StreamDesc) : Option Nat :=
  if d.xpose && d.xw ≠ 3 then some (8 * 2 ^ d.xw) else none

/-- Lines an inbound issue moves: CNT + 1, or its block. -/
def StreamDesc.count (d : StreamDesc) : Nat := d.block.getD (d.cnt + 1)

/-- o(j) of R210. -/
def StreamDesc.offset (d : StreamDesc) (cur j : Nat) : Nat :=
  resid ((cur : Int) + (j : Int) * sInt 32 d.istride) d.lines

/-- CUR after an issue (R210). -/
def StreamDesc.advance (d : StreamDesc) (cur : Nat) : Nat := resid ((cur : Int) + sInt 32 d.stride) d.lines

/-- Descriptor `n` of program core `p`. -/
def Image.desc (i : Image) (p n : Nat) : StreamDesc := StreamDesc.ofWord (leAt (i.sect 3 p) (32 * n) 32)

/-- Initial tap descriptor `n` of program core `p`. -/
def Image.tap (i : Image) (p n : Nat) : TapDesc := { TapDesc.ofWord (leAt (i.sect 2 p) (8 * n) 8) with cur := 0 }

/-- Initial VALUE of semaphore `n` of program core `p` (10 R248). -/
def Image.sem (i : Image) (p n : Nat) : Nat := leAt (i.sect 4 p) (4 * n) 4

/-- Whether the bundle address is on the core's exemption list (07 R183). -/
def Image.exempt (i : Image) (p baddr : Nat) : Bool :=
  (chunksOf 2 64 (i.sect 5 p)).any (fun b => natOf b % 1024 = baddr)

def Image.par (i : Image) (n : Nat) : W64 := BitVec.ofNat 64 (leAt (i.sect 6 2047) (8 * n) 8)

/-- Lines of the allocation the image declares in program stack `k` (08 R195). -/
def Image.stackLines (i : Image) (k : Nat) : Nat := leAt (i.sect 11 2047) (4 * k) 4

/-- The lines of that allocation that the context holds: an EVICT takes granules from the top (13 R382; log 18). -/
def Image.heldLines (i : Image) (k : Nat) : Nat :=
  Nat.min (i.stackLines k) (16777216 * (i.dram.getD k []).length)

/-- The program cores that tap comet route `r` (08 R214). -/
def Image.taps (i : Image) (r : Nat) : List Nat :=
  (bitsUp 1152 (leAt (i.sect 9 2047) (256 * r) 144)).filter (fun k => decide (k < i.cores))

/-- The wait budget the image lists for a bundle address (08 R219). -/
def Image.waitBudget (i : Image) (baddr : Nat) : Option Nat :=
  ((chunksOf 8 32 (i.sect 10 2047)).find? (fun b => leAt b 0 2 % 1024 = baddr)).map (fun b => leAt b 4 4)

/-! ### The slot table (09 R234) and the locked connection table (10 R252) -/

/-- A transit entry. -/
structure TransitEntry where
  kind : Nat
  via : Nat
  src : Nat
  dst : Nat
  aux : Nat
  lane0 : Nat
  nl : Nat
  start : Nat
  period : Nat
  count : Nat
  deriving DecidableEq, Repr

def TransitEntry.ofWord (w : Nat) : TransitEntry :=
  { kind := fld w 0 4, via := fld w 4 2, src := fld w 8 11, dst := fld w 19 11, aux := fld w 30 8,
    lane0 := fld w 40 7, nl := fld w 47 7 + 1, start := fld w 64 48, period := fld w 112 16,
    count := fld w 128 32 }

/-- Whether step `n` is an occurrence of the entry (R235), by the step counter (01 R20). -/
def TransitEntry.occurs (e : TransitEntry) (n : Nat) : Bool :=
  let n := n % 2 ^ 48
  if n < e.start then false
  else if e.period = 0 then n = e.start
  else (n - e.start) % e.period = 0 && (e.count = 0 || decide ((n - e.start) / e.period < e.count))

def Image.slotHeader (i : Image) : Nat := leAt (i.sect 7 2047) 0 64
def Image.slotEntries (i : Image) : List TransitEntry :=
  (List.range (fld i.slotHeader 0 13)).map (fun e => TransitEntry.ofWord (leAt (i.sect 7 2047) (64 + 32 * e) 32))
def Image.memPhase (i : Image) (j : Nat) : Nat := fld i.slotHeader (32 + 16 * j) 16
def Image.seamLanes (i : Image) (pair : Nat) : Nat := fld i.slotHeader (96 + 8 * pair) 8

/-- A locked connection (10 R252). -/
structure LockedConn where
  kind : Nat
  src : Nat
  sep : Nat
  dst : Nat
  rep : Nat
  index : Nat
  senders : Nat
  esize : Nat
  depth : Nat
  csem : Nat
  asem : Nat
  deriving DecidableEq, Repr

def LockedConn.ofWord (w : Nat) : LockedConn :=
  { kind := fld w 0 4, src := fld w 4 11, sep := fld w 15 4, dst := fld w 19 11, rep := fld w 30 4,
    index := fld w 34 6, senders := fld w 40 6 + 1, esize := fld w 46 6 + 1, depth := fld w 52 4 + 1,
    csem := fld w 56 6, asem := fld w 62 6 }

/-- The locked connections of the image that bind something: KIND 1 or 2. -/
def Image.locked (i : Image) : List LockedConn :=
  ((chunksOf 16 4096 (i.sect 8 2047)).map (fun b => LockedConn.ofWord (natOf b))).filter
    (fun c => c.kind = 1 || c.kind = 2)

/-! ### Scalar operands (03 R75) -/

def Core.sra (c : Core) (n : Nat) : W64 := c.sr.get 0 n

/-- Operand B: IMM sign-extended, or sr[SB]. -/
def Core.operandB (c : Core) (f : ScalarField) : W64 :=
  if f.bimm then f.imm.signExtend 64 else c.sra f.sb.toNat

end Sys2Proof.Machine
end

