-- ==== Sys2Proof/Machine/Landing.lean ====
section
/-! DEFINITION. Results reach their registers: the landings of one core at the start of a step, and of the
reduction wire (03 R64, R77, R79, R88; 04 R103, R111; 06 R155; 07 R174). -/
namespace Sys2Proof.Machine
open Sys2Proof

/-- Insert before the first element that must come after `a`. -/
def insertBy (le : α → α → Bool) (a : α) : List α → List α
  | [] => [a]
  | b :: r => if le a b then a :: b :: r else b :: insertBy le a r

/-- A stable sort by `le`. -/
def sortBy (le : α → α → Bool) : List α → List α
  | [] => []
  | a :: r => insertBy le a (sortBy le r)

/-- Landing order of scalar results: the step due, then the step of issue, a reduction before a scalar operation of
one step, so that the one that stands lands last (03 R77). -/
def ScalarRes.le (a b : ScalarRes) : Bool :=
  decide (a.due < b.due) || (a.due = b.due && (decide (a.issued < b.issued) ||
    (a.issued = b.issued && (a.red || !b.red))))

def VecRes.le (a b : VecRes) : Bool :=
  decide (a.due < b.due) || (a.due = b.due && decide (a.issued ≤ b.issued))

def DrainRes.le (a b : DrainRes) : Bool :=
  decide (a.due < b.due) || (a.due = b.due && decide (a.issued ≤ b.issued))

/-- A scalar result takes its place. -/
def Core.putScalar (c : Core) (r : ScalarRes) : Core :=
  match r.dest with
  | .sr n => { c with sr := c.sr.set 0 n r.val }
  | .par n => { c with par := c.par.set 0 n r.val }
  | .lc n => { c with lc := c.lc.set 0 n (BitVec.ofNat 16 r.val.toNat) }

/-- A vector or mask result replaces the bits it writes. -/
def Core.putVector (c : Core) (r : VecRes) : Core :=
  if r.reg < 64 then
    let old := c.vregs.get 0 r.reg
    { c with vregs := c.vregs.set 0 r.reg ((old &&& ~~~r.en) ||| (r.data &&& r.en)) }
  else
    let old := c.masks.get 0 (r.reg - 64)
    let en := BitVec.ofNat 256 r.en.toNat
    { c with masks := c.masks.set 0 (r.reg - 64) ((old &&& ~~~en) ||| (BitVec.ofNat 256 r.data.toNat &&& en)) }

/-- An array output takes the drain lines it writes (04 R111, R112). -/
def Core.putDrain (c : Core) (r : DrainRes) : Core :=
  { c with drain := r.lines.foldl (fun t l => t.set 0 l.1 l.2) c.drain }

/-- Scalar and vector results due at step `n` reach their registers (PIPELINE_RESULT). -/
def Core.landResults (c : Core) (n : Nat) : Core :=
  let c1 := (sortBy ScalarRes.le (c.pipe.filter (fun r => decide (r.due ≤ n)))).foldl Core.putScalar c
  let c2 := (sortBy VecRes.le (c.vpipe.filter (fun r => decide (r.due ≤ n)))).foldl Core.putVector c1
  { c2 with pipe := c.pipe.filter (fun r => decide (n < r.due)),
            vpipe := c.vpipe.filter (fun r => decide (n < r.due)) }

/-- Lines due at step `n` replace their operand-buffer slots (OPERAND_BUFFER_LANDING, 04 R103). -/
def Core.landOpbuf (c : Core) (n : Nat) : Core :=
  { c with opbuf := (c.opland.filter (fun r => decide (r.1 ≤ n))).foldl (fun t r => t.set 0 r.2.1 r.2.2) c.opbuf,
           opland := c.opland.filter (fun r => decide (n < r.1)) }

/-- Outputs due at step `n` take their place in the drain window (ARRAY_OUTPUT, 04 R111). -/
def Core.landDrain (c : Core) (n : Nat) : Core :=
  let c' := (sortBy DrainRes.le (c.drainIn.filter (fun r => decide (r.due ≤ n)))).foldl Core.putDrain c
  { c' with drainIn := c.drainIn.filter (fun r => decide (n < r.due)) }

/-- The core as the start of step `n` finds it. -/
def Core.at' (c : Core) (n : Nat) : Core := ((c.landResults n).landOpbuf n).landDrain n

/-- Core-memory writes readable at step `n`: issued at or before step `n - 2` (07 R174). -/
def MemWrite.visible (n : Nat) (w : MemWrite) : Bool := decide (w.issued + 2 ≤ n)

/-- A line of core memory as a read issued at step `n` finds it (07 R174). -/
def State.lineAt (s : State) (logical : Nat) (c : Core) (n line : Nat) : Line :=
  match (c.memWrites.filter (fun w => w.line = line && w.visible n)).getLast? with
  | some w => w.data
  | none => Memory.line s.mem (coreAddr logical line)

/-- The writes readable at step `n` enter core memory (CORE_MEM_WRITE_VISIBLE). -/
def State.landMem (s : State) (logical n : Nat) : State :=
  let c := s.coreAt logical
  { s.setCore logical { c with memWrites := c.memWrites.filter (fun w => !w.visible n) } with
    mem := (c.memWrites.filter (fun w => w.visible n)).foldl
      (fun m w => Memory.writeLine m (coreAddr logical w.line) w.data) s.mem }

/-- Reductions due at step `n` land in their wire slots, the latest issued last (WIRE_LANDING, 03 R79). -/
def Ctx.landWires (x : Ctx) (n : Nat) : Ctx :=
  { x with
    wire := (sortBy (fun a b => decide (a.due ≤ b.due)) (x.wires.filter (fun r => decide (r.due ≤ n)))).foldl
      (fun t r => t.set 0 r.slot r.val) x.wire
    wires := x.wires.filter (fun r => decide (n < r.due)) }

/-- Wire slot `k` as the start of step `n` finds it. -/
def Ctx.wireAt (x : Ctx) (n k : Nat) : W64 := (x.landWires n).wire.get 0 k

end Sys2Proof.Machine
end

