-- ==== Sys2Proof/Machine/Flights.lean ====
section
/-! DEFINITION. Routes and latencies of the transit network (09 R227-R237), and the arrival of what is in flight:
channel lines, headers and credits (10 R259, R260), base-memory requests and lines (07 R190, R191; 08 R213), and the
drops of the firewall (09 R240). -/
namespace Sys2Proof.Machine
open Sys2Proof

/-! ### Routes -/

/-- Seams between two quadrants (02 R42). -/
def seams (a b : Nat) : Nat := if a = b then 0 else if Nat.xor a b = 3 then 2 else 1

/-- T of R228 from router-to-router links `h` and seam links `s`. -/
def transitT (h s : Nat) : Nat := 2 * h + 4 + 6 * s

/-- The physical quadrant of a program core. -/
def Ctx.quadOf (x : Ctx) (p : Nat) : Nat := quadOfSite (x.sites.getD (p / 72) 0)

/-- Latency between two program cores (09 R228). -/
def Ctx.coreT (x : Ctx) (p q : Nat) : Nat :=
  if p / 72 = q / 72 then 4
  else let s := seams (x.quadOf p) (x.quadOf q); transitT (2 + s) s

/-- Latency between a site router and a port of the hub of quadrant `q`. -/
def Ctx.siteT (x : Ctx) (p q : Nat) : Nat := let s := seams (x.quadOf p) q; transitT (1 + s) s

/-- Latency between a stream port of quadrant `a` and a memory port of quadrant `b`. -/
def hubT (a b : Nat) : Nat := transitT (seams a b) (seams a b)

/-- The quadrants whose hubs a route between quadrants `a` and `b` passes, VIA naming a program quadrant (R227). -/
def Ctx.hubs (x : Ctx) (a b via : Nat) : List Nat :=
  if a = b then [a] else if seams a b = 1 then [a, b] else [a, x.quads.getD via 0, b]

def Ctx.coreHubs (x : Ctx) (p q via : Nat) : List Nat :=
  if p / 72 = q / 72 then [] else x.hubs (x.quadOf p) (x.quadOf q) via

/-- The transit entry that covers a source action at step `n`: TKIND, SRC and AUX (R235). Of two that cover one action on
disjoint lanes the first in the table gives its lanes and VIA (DESIGN CHOICE, log 171). -/
def Image.covering (i : Image) (kind src aux n : Nat) : Option TransitEntry :=
  i.slotEntries.find? (fun e => e.kind = kind && e.src = src && e.occurs n &&
    (if kind = 1 then e.aux % 16 = aux else e.aux = aux))

/-- Why line `j` of a leg is dropped, if it is (R237, R240, R243): no occurrence, a line beyond the lane count, or a
hub whose cells were removed. -/
def Ctx.lostCause (x : Ctx) (e : Option TransitEntry) (j : Nat) (via : List Nat) : Option Nat :=
  match e with
  | none => some 0
  | some e => if e.nl ≤ j then some 1 else if via.any (fun q => x.removed.contains q) then some 2 else none

/-- The step at which a line reaches the hub at place `k`, at least 1, of its route: it takes one seam link for each
hub past the first, 8 steps apart (R228). -/
def Flight.reaches (f : Flight) (k : Nat) : Nat := f.seam + 8 * (k - 1)

/-- The first hub of a line's route whose cells a test says are gone, by its place. -/
def Flight.gone (f : Flight) (removed : Nat → Bool) : Option Nat := (findIdxOpt removed f.via).map (·.1)

/-- A line of a leg on its route, injected at step `inj` at a core or site router, or at a hub: `e` is the transit
entry that covers its source action, `line` its position in the leg (R235). What no cell admits is dropped at its first
router; what cells removed by R243 would have admitted, at the hub before (DEDUCED, log 27). -/
def Ctx.onRoute (x : Ctx) (e : Option TransitEntry) (line : Nat) (via : List Nat) (inj : Nat) (hub : Bool) (f : Flight) :
    Flight :=
  let lost := x.lostCause e line via
  let f := { f with via, lost, seam := if hub then inj + 2 else inj + 4 }
  { f with dropAt := if lost = some 2 then f.reaches ((f.gone x.removed.contains).getD 1) else inj + 2 }

/-! ### Semaphores (10 R246, R247) -/

/-- A signed change, clamped; a clamp counts in SAT_COUNT. -/
def Core.clampSem (c : Core) (n : Nat) (v : Int) (pend : Bool) : Core :=
  let top : Int := 2147483647
  let w := (max 0 (min top v)).toNat
  let c := if v < 0 ∨ top < v then { c with rep := { c.rep with chan := addFld c.rep.chan 16 32 1 } } else c
  { c with sems := c.sems.modify {} n (fun q => if pend then { q with pending := w } else { q with value := w }) }

/-- The sum of the changes to semaphore `n`. -/
def semSum (l : List (Nat × Int)) (n : Nat) : Int := ((l.filter (fun d => d.1 = n)).map (·.2)).sum

/-- One clamped sum per semaphore that changes (R247). -/
def Core.applySems (c : Core) (l : List (Nat × Int)) : Core :=
  (l.foldr (fun d acc => insertNat d.1 acc) []).foldl
    (fun c n => c.clampSem n ((c.sems.get {} n).value + semSum l n) false) c

/-- The changes that take effect at this step are applied. -/
def Core.landSems (c : Core) : Core := { c.applySems c.semIn with semIn := [] }

/-- An elastic addition to PENDING, at its tick (R247). -/
def Core.addPending (c : Core) (n k : Nat) : Core := c.clampSem n ((c.sems.get {} n).pending + k) true

/-! ### Channel arrivals -/

def RecvEp.sub (e : RecvEp) (i : Nat) : SubQueue := e.subs.get {} i

/-- The line of the receive store that holds line `pos` of entry `no` of sub-queue `i` (10 R253, R255). -/
def RecvEp.slotLine (e : RecvEp) (i no pos : Nat) : Nat :=
  e.base + (i * e.depth + no % (Nat.max 1 e.depth)) * e.esize + pos

/-- Rounds complete when every sub-queue holds their entry (R260). Answers the tokens of the rounds that complete. -/
def RecvEp.takeRounds : Nat → RecvEp → List Nat → RecvEp × List Nat
  | 0, e, acc => (e, acc)
  | f + 1, e, acc =>
    if (List.range e.senders).all (fun i => !(e.sub i).tokens.isEmpty) then
      let sum := ((List.range e.senders).map (fun i => (e.sub i).tokens.headD 0)).sum
      let subs := (List.range e.senders).foldl
        (fun t i => t.modify {} i (fun q => { q with tokens := q.tokens.tail })) e.subs
      RecvEp.takeRounds f { e with subs, rounds := e.rounds + 1 } (acc ++ [sum])
    else (e, acc)

/-- A header arrives: the entry completes. Answers the endpoint and what its semaphore gains (R255, R259, R260). -/
def RecvEp.complete (e : RecvEp) (i token lines : Nat) (admitted : Bool) : RecvEp × Nat :=
  let q := e.sub i
  let q := { q with entries := q.entries ++ [⟨q.done, token, lines, admitted⟩], done := q.done + 1, arrived := 0 }
  if e.kind = 2 then
    let e := { e with subs := e.subs.set {} i { q with tokens := q.tokens ++ [token] } }
    let (e, sums) := RecvEp.takeRounds 17 e []
    (e, sums.sum)
  else ({ e with subs := e.subs.set {} i q }, token)

/-- A locked line, header or credit takes effect. -/
def State.arriveChannel (s : State) (x : Nat) (f : Flight) : State :=
  match f.cargo with
  | .chanLine dst ep sub no pos data =>
    if f.lost.isSome then s
    else s.modCoreOf x dst (fun c =>
      let e := c.recvEps.get {} ep
      if pos < e.esize then { c with store := c.store.set 0 (e.slotLine sub no pos) data } else c)
  | .header dst ep sub token lines =>
    s.modCoreOf x dst (fun c =>
      let r := (c.recvEps.get {} ep).complete sub token lines true
      { c with recvEps := c.recvEps.set {} ep r.1, semIn := c.semIn ++ [(r.1.asem, (r.2 : Int))] })
  | .credit src ep =>
    s.modCoreOf x src (fun c =>
      let e := c.sendEps.get {} ep
      { c with sendEps := c.sendEps.set {} ep { e with inFlight := e.inFlight - 1 },
               semIn := c.semIn ++ [(e.csem, 1)] })
  | _ => s

/-! ### Transposition in transfer (07 R186; 08 R211) -/

/-- The lines of a 32 x 32 block transposed; elements of 4, 8 or 16 bits by XW. -/
def transposeBlock (xw : Nat) (l : List Line) : List Line :=
  let e := 4 * 2 ^ xw
  let big := joinBits 512 (l.map BitVec.toNat)
  let out := joinBits e ((List.range 1024).map (fun k => fld big (e * (32 * (k % 32) + k / 32)) e))
  (List.range (8 * 2 ^ xw)).map (fun j => BitVec.ofNat 512 (fld out (512 * j) 512))

/-! ### Landing rings and staging (08 R204-R206) -/

/-- Allocation number `no` lands: a line takes its position, with the mark of an uncorrectable error of its read
(R217); a dropped one leaves the position as it was. -/
def Ring.landLine (r : Ring) (size no : Nat) (data : Option (Line × Bool)) : Ring :=
  let r := { r with unlanded := r.unlanded.filter (· ≠ no) }
  match data with
  | none => r
  | some d => { r with lines := r.lines.set 0 (no % size) d.1,
                       bad := if d.2 then insertNat (no % size) r.bad else r.bad.filter (fun k => k ≠ no % size) }

/-- The lines that landed during a step take their positions as it ends (R205). -/
def Ring.join (r : Ring) : Ring :=
  { r.fresh.foldl (fun r f => r.landLine 512 f.1 (some f.2)) r with fresh := [] }

/-- A landing over an allocation not consumed: a line of allocation `no` finds an earlier allocation of its position
past U, one that moves nothing left aside (08 R206, R493). -/
def Ring.overwrites (r : Ring) (size no : Nat) : Bool :=
  (List.range (no / size)).any (fun i =>
    let m := no - size * (i + 1)
    decide (r.u ≤ m) && !r.skip.contains m)

/-- A staging entry departs: U passes it, and the entries before it that move nothing. -/
def Ring.pass : Nat → Ring → Ring
  | 0, r => { r with u := r.u + 1 }
  | f + 1, r =>
    if r.skip.contains r.u then Ring.pass f { r with u := r.u + 1, skip := r.skip.filter (· ≠ r.u) }
    else { r with u := r.u + 1 }

/-- LANDING_OVERWRITE of a line for core `p`'s ring. -/
def State.overwriteCheck (s : State) (x p no : Nat) : State :=
  if (s.core ⟨x, p⟩).ring.overwrites 512 no then s.landingFault x p true false (no % 512) (s.ctx x).counter else s

/-- A base-memory line lands in core `p`'s ring at its step. -/
def State.landRing (s : State) (x p no : Nat) (data : Option Line) : State :=
  let s := if data.isSome then s.overwriteCheck x p no else s
  s.modCoreOf x p (fun c => { c with ring := c.ring.landLine 512 no (data.map (·, false)) })

/-- A line for a landing ring arrives; one that a firewall dropped leaves its position unchanged (09 R240). -/
def State.arriveRing (s : State) (x : Nat) (f : Flight) : State :=
  match f.cargo with
  | .ringLine no data => s.landRing x f.src no (if f.lost.isSome then none else data)
  | _ => s

/-- A DRAM line lands in core `p`'s ring at wall time: during a step it waits for the step's end (R205, R206). -/
def State.landDramRing (s : State) (x p no : Nat) (data : Line) (ue : Bool) : State :=
  let moving := (s.ctx x).active && !(s.ctx x).frozen
  (s.overwriteCheck x p no).modCoreOf x p (fun c => { c with
    ring := if moving then { c.ring with fresh := c.ring.fresh ++ [(no, data, ue)] }
            else c.ring.landLine 512 no (some (data, ue)) })

/-! ### Base memory (07 R188-R191) -/

/-- Base-memory line of a context as the image's allocation places it: granule and line within it (07 R189). -/
def Image.basePhys (i : Image) (j line : Nat) : Option Nat :=
  (i.base.getD j []).getD (line / 16384) 0 |> fun g =>
    if (line / 16384) < (i.base.getD j []).length then some (g * 16384 + line % 16384) else none

/-- Lines of the context's base allocation in program quadrant `j`. -/
def Image.baseLines (i : Image) (j : Nat) : Nat := 16384 * (i.base.getD j []).length

/-- A base line as a request that reaches its bank at step `a` finds it: writes that reached it by `a - 3`. -/
def State.baseLineAt (s : State) (x : Nat) (a quad line : Nat) : Line :=
  match ((s.ctx x).baseWrites.filter (fun w => w.2.1 = quad && w.2.2.1 = line && decide (w.1 + 3 ≤ a))).getLast? with
  | some w => w.2.2.2
  | none => Memory.line s.mem (baseAddr quad line)

/-- The physical stack of a program stack: the one paired with its site (08 R195). -/
def Ctx.stackOf (x : Ctx) (k : Nat) : Nat := x.sites.getD k 0

/-- Requests of one direction at the banks of a quadrant at one step, in key order: each with the line it
addresses; answers the line each receives (reads), the lowest key of a bank winning (07 R175, R190). -/
def bankWinner (reqs : List Nat) (banks line : Nat) : Nat :=
  (reqs.find? (fun l => l % banks = line % banks)).getD line

/-- Writes of one step that land: the first of each bank. -/
def bankLanding (banks : Nat) : List Nat → List (Nat × Line) → List (Nat × Line)
  | _, [] => []
  | seen, (l, d) :: r =>
    if seen.contains (l % banks) then bankLanding banks seen r
    else (l, d) :: bankLanding banks (l % banks :: seen) r

/-- Flights of a context in the order of their keys: step, program core, position. -/
def Flight.le (a b : Flight) : Bool :=
  decide (a.due < b.due) || (a.due = b.due && (decide (a.step < b.step) || (a.step = b.step &&
    (decide (a.src < b.src) || (a.src = b.src && decide (a.j ≤ b.j))))))

/-- The order of requests at a bank: program core, then position (07 R190); the issue step breaks a tie that the
rule leaves (DESIGN CHOICE, log 164). -/
def Flight.bankLe (a b : Flight) : Bool :=
  decide (a.src < b.src) || (a.src = b.src && (decide (a.j < b.j) || (a.j = b.j && decide (a.step ≤ b.step))))

/-- The data leg of a base read that reached its bank at step `a` (08 R213; 09 R235). -/
def baseDataFlights (x : Ctx) (f : Flight) (data : List Line) : List Flight :=
  match f.cargo with
  | .baseRead quad _ toStack sd pos tout xw =>
    let data := if xw = 3 then data else transposeBlock xw data
    let e := x.img.covering (if toStack.isSome then 5 else 2) f.src sd f.step
    let via := match toStack with
      | some d => x.hubs quad (quadOfSite (x.stackOf d)) ((e.map (·.via)).getD 0)
      | none => f.via.reverse
    (List.range data.length).map (fun j =>
      let l := data.getD j 0
      let due := f.due + 4 + tout + (if toStack.isSome then 0 else 1)
      let cargo := match toStack with
        | some d => Cargo.dramLine d (pos.getD j 0) l
        | none => Cargo.ringLine (pos.getD j 0) (some l)
      x.onRoute e j via (f.due + 4) true { due, step := f.step, src := f.src, j, cargo })
  | _ => []

/-- A request or line due at a base-memory bank (BASE_BANK_ACCESS). A request that the firewall dropped reads
nothing, and its positions count as landed, unchanged, at their due step. -/
def State.arriveBase (s : State) (x : Nat) (all : List Flight) (f : Flight) : State :=
  match f.cargo with
  | .baseRead quad lines _ _ _ _ _ =>
    let reqs := (sortBy Flight.bankLe (all.filter (fun g => g.due = f.due && g.lost.isNone))).flatMap (fun g =>
      match g.cargo with
      | .baseRead q l _ _ _ _ _ => if q = quad then l else []
      | _ => [])
    let data := lines.map (fun l => s.baseLineAt x f.due quad (bankWinner reqs 128 l))
    let out := baseDataFlights (s.ctx x) f data
    let out := if f.lost.isNone then out else out.map (fun g => { g with lost := f.lost, counted := true })
    s.modCtx x (fun c => { c with flights := c.flights ++ out })
  | .baseWrite quad lines =>
    if f.lost.isSome then s
    else
      let reqs := (sortBy Flight.bankLe (all.filter (fun g => g.due = f.due && g.lost.isNone))).flatMap (fun g =>
        match g.cargo with
        | .baseWrite q l => if q = quad then l.map (fun w => (w.1, (g.src, g.j, g.step))) else []
        | _ => [])
      let mine := lines.filter (fun w =>
        (reqs.find? (fun r => r.1 % 128 = w.1 % 128)).map (·.2) = some (f.src, f.j, f.step))
      s.modCtx x (fun c => { c with baseWrites := c.baseWrites ++ mine.map (fun w => (f.due, quad, w.1, w.2)) })
  | _ => s

/-- Base writes readable at step `n` enter base memory. -/
def State.landBaseWrites (s : State) (x n : Nat) : State :=
  let w := (s.ctx x).baseWrites
  { s.modCtx x (fun c => { c with baseWrites := w.filter (fun v => !decide (v.1 + 3 ≤ n)) }) with
    mem := (w.filter (fun v => decide (v.1 + 3 ≤ n))).foldl
      (fun m v => Memory.writeLine m (baseAddr v.2.1 v.2.2.1) v.2.2.2) s.mem }

/-! ### Taking flights that are due -/

def Flight.isChanLine (f : Flight) : Bool := match f.cargo with | .chanLine .. => true | _ => false
def Flight.isHeader (f : Flight) : Bool := match f.cargo with | .header .. => true | _ => false
def Flight.isCredit (f : Flight) : Bool := match f.cargo with | .credit .. => true | _ => false
def Flight.isBank (f : Flight) : Bool :=
  match f.cargo with | .baseRead .. => true | .baseWrite .. => true | _ => false
def Flight.isRing (f : Flight) : Bool := match f.cargo with | .ringLine .. => true | _ => false
def Flight.isDeparture (f : Flight) : Bool := match f.cargo with | .departure .. => true | _ => false
def Flight.isDramLine (f : Flight) : Bool := match f.cargo with | .dramLine .. => true | _ => false

/-- Take the flights of one kind that are due by step `n`, in key order, and let each act. -/
def State.takeFlightsBy (s : State) (x n : Nat) (kind : Flight → Bool) (act : List Flight → State → Flight → State) :
    State :=
  let due := sortBy Flight.le ((s.ctx x).flights.filter (fun f => kind f && decide (f.due ≤ n)))
  let s := s.modCtx x (fun c => { c with flights := c.flights.filter (fun f => !(kind f && decide (f.due ≤ n))) })
  due.foldl (act due) s

/-- Take the flights of one kind that are due at the context's step. -/
def State.takeFlights (s : State) (x : Nat) (kind : Flight → Bool) (act : List Flight → State → Flight → State) :
    State := s.takeFlightsBy x (s.ctx x).step kind act

/-- Locked lines, headers and credits that arrive at the freezing step itself take effect as the freeze begins: their
effect is dated one step after their arrival, and only what is due later stands still (10 R247, R259, R262)
(DEDUCED, log 139). -/
def State.landLocked (s : State) (x : Nat) : State :=
  let n := (s.ctx x).step + 1
  let s := s.takeFlightsBy x n Flight.isChanLine (fun _ s f => s.arriveChannel x f)
  let s := s.takeFlightsBy x n Flight.isHeader (fun _ s f => s.arriveChannel x f)
  s.takeFlightsBy x n Flight.isCredit (fun _ s f => s.arriveChannel x f)

/-- The quadrant whose firewall drops a line: for cells removed, the last hub before them, or the hub they were
removed from where the line was inside it; otherwise the quadrant of its first router (09 R240, R243). -/
def State.dropQuad (s : State) (x : Nat) (f : Flight) : Nat :=
  let first := f.via.headD ((s.ctx x).quadOf f.src)
  if f.lost = some 2 then
    match f.gone (s.ctx x).removed.contains with
    | some k => f.via.getD (if f.dropAt ≤ f.reaches k then k - 1 else k) first
    | none => first
  else first

/-- The firewall drops the lines whose step has come (FIREWALL_DROP, 09 R240) (DEDUCED, log 27). -/
def State.dropLost (s : State) (x : Nat) : State :=
  let n := (s.ctx x).step
  let due := fun f : Flight => f.lost.isSome && !f.counted && decide (f.dropAt ≤ n)
  let lost := sortBy Flight.le ((s.ctx x).flights.filter due)
  let s := s.modCtx x (fun c => { c with flights := c.flights.map (fun f => if due f then { f with counted := true } else f) })
  lost.foldl (fun s f => s.fwDrop x f.src (f.lost.getD 0) f.j f.step (s.dropQuad x f)) s

end Sys2Proof.Machine
end

