-- ==== Sys2Proof/Machine/Elastic.lean ====
section
/-! DEFINITION. The elastic side of channels: flits onto a bundle (12 R305-R312), entries and credits leaving and
arriving at ticks (10 R255, R257, R260, R261), and broken ends (10 R264-R266). A connection inside the module uses
port number 20 (log 14). -/
namespace Sys2Proof.Machine
open Sys2Proof

/-- The port number that stands for this module itself. -/
def localPort : Nat := 20

/-- The member ports of the torus direction a port lies in (12 R330). -/
def directionPorts (p : Nat) : List Nat :=
  if [0, 5, 10].contains p then [0, 5, 10] else if [1, 6, 11].contains p then [1, 6, 11]
  else if [2, 7, 12].contains p then [2, 7, 12] else if [3, 8, 15].contains p then [3, 8, 15]
  else if [4, 13, 16].contains p then [4, 13, 16] else if [9, 14, 17].contains p then [9, 14, 17] else [p]

/-- The default role of a port (12 R337), by mode, GROUPS and this module's code. -/
def defaultRole (mode groups code p : Nat) : Nat :=
  if p = 18 then 5
  else
    let slot := if mode = 0 then
        (code % 128) % 4 + 4 * (((code / 128) % 128) % 4) + 16 * (((code / 16384) % 128) % 2)
      else if mode = 1 then code % 16 + 16 * ((code / 16) % 64 % 2) else code % 32
    if p = 19 ∧ slot % 16 = 0 then 6
    else if mode = 0 then (if p < 18 then 1 else 0)
    else if mode = 1 then
      if p < 15 then 2
      else
        let k := if p = 19 then 47 + code % 16 else 3 * (code % 16) + (p - 15)
        if ((code / 16) % 64 + k + 1) % 64 < groups then 3 else 0
    else (if p < 18 then 4 else 0)

/-- The role in force of a port. -/
def State.role (s : State) (p : Nat) : Nat :=
  match s.settingRaw (p * 65536 + 0x14) with
  | some r => r
  | none => defaultRole (s.setting 0x10 0) (s.setting 0x13 0) (s.setting 0x11 0) p

/-- A bundle is named by its first port: in torus mode the first member of the direction that keeps its role, otherwise
the port itself (12 R311, R337). -/
def State.bundleOf (s : State) (p : Nat) : Nat :=
  if s.setting 0x10 0 = 0 ∧ s.role p = 1 then ((directionPorts p).find? (fun q => s.role q = 1)).getD p else p
def State.bundle (s : State) (b : Nat) : Bundle := s.links.bundles.get {} b
def State.setBundle (s : State) (b : Nat) (v : Bundle) : State :=
  { s with links := { s.links with bundles := s.links.bundles.set {} b v } }

def State.code (s : State) : Nat := s.setting 0x11 0
def State.mode (s : State) : Nat := s.setting 0x10 0
def State.isUp (s : State) (p : Nat) : Bool := (s.port p).phase = .up

/-- This module's time depth (12 R341). -/
def State.tdepth (s : State) : Nat :=
  match s.time.state with
  | 1 => 0
  | 0 => 15
  | 4 => 15
  | _ => match s.time.parent with
    | some p => Nat.min 14 ((s.port p).tdepth + 1)
    | none => 15

/-! ### Frame groups sent (12 R304-R312) -/

/-- The header of each frame of a group (R304): FSEQ, FTYPE, LANE. -/
def frameHead (fseq ftype lane : Nat) : BitVec 20 := BitVec.ofNat 20 (pack [(12, fseq), (2, ftype), (3, lane), (3, 0)])

/-- Lanes of a width. -/
def widthLanes (w : Nat) : Nat := if w = 0 then 0 else 2 ^ w

/-- The map flit that port `p` sends, with its first run (R307). -/
def State.mapFlit (s : State) (p : Nat) (hb : Bool) (run : Nat := 0) : Flit :=
  let b := s.bundle (s.bundleOf p)
  BitVec.ofNat 512 (pack [(12, b.got), (1, b2n b.nak), (3, 0), (12, b.freed.getD 0 0), (12, b.freed.getD 1 0),
    (12, b.freed.getD 2 0), (12, b.freed.getD 3 0), (12, b.freed.getD 4 0), (4, 0), (48, run), (336, 0), (1, b2n hb),
    (1, b2n (s.port p).planned), (4, s.tdepth), (2, 0), (24, s.code), (5, p)])

/-- The run of a group that carries one flit, at place 1 (R308). -/
def Tagged.run (t : Tagged) : Nat := pack [(7, 1), (7, 1), (3, t.vl), (1, b2n t.ctl), (16, t.tag), (14, 0)]

/-- A group leaves a port. Every 256th is a calibration group, which the port sends by itself (R306) (DESIGN CHOICE,
log 172). -/
def Port.sends (q : Port) (fseq ftype : Nat) (m : Flit) (beat : Nat) : Port :=
  { q with heads := (List.range (widthLanes q.width)).map (frameHead fseq ftype), mapSent := m, beat
           sentGroups := q.sentGroups + (if q.sentGroups % 256 = 254 then 2 else 1) }

/-- The heartbeat of the last multiple of 1,000 ticks is still to go (R322). -/
def State.beatDue (s : State) (p : Nat) : Bool := decide ((s.port p).beat < s.now / 1000 * 1000)

/-- A data or idle group leaves port `p`: acknowledgement, NAK, credits and a heartbeat that is due leave with it. -/
def State.sendGroup (s : State) (p fseq ftype run : Nat) : State :=
  let hb := s.beatDue p
  let m := s.mapFlit p hb run
  let b := s.bundleOf p
  (s.modPort p (fun q => q.sends fseq ftype m (if hb then s.now / 1000 * 1000 else q.beat))).setBundle b
    { s.bundle b with freed := [0, 0, 0, 0, 0], nak := false }

/-- A port with no data flit to send sends idle groups (R306); the model sends one where its map flit says what the
partner has not heard (DESIGN CHOICE, log 172). -/
def State.sendIdle (s : State) (p : Nat) : State :=
  let b := s.bundle (s.bundleOf p)
  if s.isUp p && (b.nak || b.freed.any (· ≠ 0) || fld (s.port p).mapSent.toNat 0 12 ≠ b.got) then s.sendGroup p b.sent 1 0 else s

/-! ### Flits that wait (12 R309, R310, R339) -/

/-- One field of a control flit. -/
def flitAt (f : Flit) (o n : Nat) : Nat := fld f.toNat (8 * o) (8 * n)

/-- The circuit that a flit belongs to on its bundle: the tag of a data flit or an entry end, 0 for every other. -/
def Tagged.circuit (t : Tagged) : Nat :=
  if !t.ctl then t.tag else if flitAt t.flit 0 1 = 1 then flitAt t.flit 2 2 else 0

/-- A flit leaves the receive buffer of its lane: its credit is to be returned (R310). -/
def State.freeFlit (s : State) (b vl : Nat) : State :=
  let v := s.bundle b
  s.setBundle b { v with freed := v.freed.set vl (satAdd 4095 (v.freed.getD vl 0) 1), buffered := v.buffered.set vl (v.buffered.getD vl 0 - 1) }

/-- The UP member that carries a flit: the one it names, otherwise the lowest-numbered (R311) (DESIGN CHOICE, log 172). -/
def State.memberFor (s : State) (b : Nat) (t : Tagged) : Option Nat :=
  match t.on with
  | some p => if s.isUp p then some p else none
  | none => (List.range 20).find? (fun p => s.isUp p && s.bundleOf p = b)

/-- The flits that may leave next: the first of each circuit and lane, with a credit of the lane, room for replay and a
member to carry it (R310-R312). -/
def State.candidates (s : State) (b : Nat) : List Tagged :=
  let v := s.bundle b
  if 512 ≤ v.replay.length then []
  else
    let firsts := v.waiting.foldl (fun (l : List Tagged) t =>
      if l.any (fun u => u.circuit = t.circuit && u.vl = t.vl) then l else l ++ [t]) []
    firsts.filter (fun t => decide (0 < v.credits.getD t.vl 0) && (s.memberFor b t).isSome)

/-- The context whose end or bulk connection sends on a tag of a bundle. -/
def State.tagOwner (s : State) (b tag : Nat) : Option Nat :=
  let ours : Peer → Bool := fun q => q.port ≠ localPort && s.bundleOf q.port = b && q.tag = tag
  match (List.range 16).find? (fun x => (s.ctx x).cores.any (fun p =>
      (s.core ⟨x, p⟩).sendEps.any (fun e => e.2.elastic && e.2.peers.any ours))) with
  | some x => some x
  | none => s.links.circuits.findSome? (fun c => if c.port = b && c.rev = tag then
      (match c.dest with | .bulk x => some x | .recv x _ _ _ => some x | _ => none) else none)

/-- The weight of a circuit on its bundle: its context's link share; through circuits share what is left equally (R339)
(DESIGN CHOICE, log 173). -/
def State.weightOf (s : State) (b tag : Nat) : Nat :=
  match s.tagOwner b tag with
  | some x => s.setting 0x53 x
  | none =>
    let shares := ((List.range 16).map (fun x => if (s.ctx x).phase = .free then 0 else s.setting 0x53 x)).sum
    let n := (s.links.circuits.filter (fun c => match c.dest with | .through q _ => q = b | _ => false)).length
    Nat.max 1 ((4096 - shares) / Nat.max 1 n)

/-- The next flit that leaves, by weighted round robin over circuits; what belongs to none goes first (R339) (DESIGN
CHOICE, log 173). -/
def State.nextFlit (s : State) (b : Nat) : Option Tagged :=
  let v := s.bundle b
  let l := s.candidates b
  let others := sortBy (fun (t u : Tagged) => decide (t.circuit ≤ u.circuit)) (l.filter (fun t => t.circuit ≠ 0))
  match l.find? (fun t => t.circuit = 0) with
  | some t => some t
  | none => match others.find? (fun t => t.circuit = v.turn && decide (0 < v.left)) with
    | some t => some t
    | none => match others.find? (fun t => decide (v.turn < t.circuit)) with
      | some t => some t
      | none => others.head?

/-- A flit leaves in a data group of its own, kept for replay until acknowledged (log 15). -/
def State.sendNext (s : State) (b p : Nat) (t : Tagged) : State :=
  let v := s.bundle b
  let n := (v.sent + 1) % 4096
  let c := t.circuit
  let left := if c = 0 then v.left else if c = v.turn && decide (0 < v.left) then v.left - 1 else s.weightOf b c - 1
  let s := s.setBundle b { v with
    credits := v.credits.set t.vl (v.credits.getD t.vl 0 - 1), sent := n, replay := v.replay ++ [⟨n, [t], p⟩]
    waiting := v.waiting.erase t, turn := if c = 0 then v.turn else c, left }
  let s := s.sendGroup p n 0 t.run
  match t.origin with
  | some o => s.freeFlit o t.vl
  | none => s

/-- Flits leave as credits and members allow (fuel: the flits that wait). -/
def State.pumpMany (b : Nat) : Nat → State → State
  | 0, s => s
  | f + 1, s =>
    match s.nextFlit b with
    | none => s
    | some t => State.pumpMany b f (s.sendNext b ((s.memberFor b t).getD 0) t)

def State.pump (s : State) (b : Nat) : State := State.pumpMany b (s.bundle b).waiting.length s

/-- A flit joins those that wait on a bundle. -/
def State.queueFlit (s : State) (b : Nat) (t : Tagged) : State :=
  let v := s.bundle b
  (s.setBundle b { v with waiting := v.waiting ++ [t] }).pump b

def State.sendFlit (s : State) (p vl : Nat) (ctl : Bool) (tag : Nat) (f : Flit) : State :=
  s.queueFlit (s.bundleOf p) { vl, ctl, tag, flit := f }

/-- A control flit from its fields: byte offset, bytes, value (12 R313). -/
def ctlFlit (l : List (Nat × Nat × Nat)) : Flit :=
  BitVec.ofNat 512 (l.foldl (fun w q => putFld w (8 * q.1) (8 * q.2.1) q.2.2) 0)

def State.sendCtl (s : State) (p vl : Nat) (l : List (Nat × Nat × Nat)) : State :=
  s.sendFlit p vl true 0 (ctlFlit l)

/-! ### Entries arriving -/

/-- The lines of an entry take their slot and its header completes it (10 R255); the semaphore's PENDING grows
(10 R247, R260). -/
def State.arriveEntry (s : State) (x p ep index token : Nat) (lines : List Line) : State :=
  s.modCoreOf x p (fun c =>
    let e := c.recvEps.get {} ep
    if e.state ≠ .bound ∨ ¬e.elastic then c
    else
      let i := if e.kind = 2 then index else 0
      let no := (e.sub i).done
      let store := (List.range (Nat.min lines.length e.esize)).foldl
        (fun t j => t.set 0 (e.slotLine i no j) (lines.getD j 0)) c.store
      let r := e.complete i token (Nat.min lines.length e.esize) false
      { c with store, recvEps := c.recvEps.set {} ep r.1 }.addPending r.1.asem r.2)

/-- A credit reaches an elastic send end: on a multicast only when the last receiver has freed the entry
(10 R257, R261). -/
def SendEp.credit (e : SendEp) (peer k : Nat) : SendEp × Nat :=
  let n := Nat.max 1 e.peers.length
  let freed := (List.range n).map (fun i => e.freed.getD i 0 + (if i = peer then k else 0))
  let m := freed.foldl Nat.min (freed.headD 0)
  ({ e with freed := freed.map (· - m), inFlight := e.inFlight - m }, m)

def State.arriveCredit (s : State) (x p ep peer k : Nat) : State :=
  s.modCoreOf x p (fun c =>
    let e := c.sendEps.get {} ep
    if e.state = .unbound ∨ ¬e.elastic then c
    else
      let r := e.credit peer k
      { c with sendEps := c.sendEps.set {} ep r.1 }.addPending e.csem r.2)

/-! ### Catch-up orbits (15 R465) -/

/-- The first admitted entry the mirror holds for an endpoint's sub-queue in an orbit, and the items left. -/
def takeAdmitted (orbit p ep i : Nat) : List MirrorItem → Option (Nat × List Line) × List MirrorItem
  | [] => (none, [])
  | m :: r =>
    match m with
    | .admitted o _ q e _ j token lines =>
      if o = orbit && q = p && e = ep && j = i then (some (token, lines), r)
      else let (a, r') := takeAdmitted orbit p ep i r; (a, m :: r')
    | _ => let (a, r') := takeAdmitted orbit p ep i r; (a, m :: r')

/-- The firmware supplies the next mirrored entry of an endpoint's sub-queue. -/
def State.supply (s : State) (x p ep i : Nat) : State :=
  let h := (s.ctx x).halo
  if !h.catchUp then s
  else match takeAdmitted (s.ctx x).orbit p ep i h.items with
    | (some (token, lines), rest) =>
      (s.modCtx x (fun c => { c with halo := { c.halo with items := rest } })).arriveEntry x p ep i token lines
    | (none, _) => s

/-! ### Entries and credits leaving -/

/-- An entry leaves an elastic send end to every peer (10 R254, R261; 12 R313). In a catch-up orbit it is discarded
and its credit returns at once, as if every receiver had freed it (15 R465). -/
def State.leaveEntry (s : State) (x p sep token : Nat) (lines : List Line) : State :=
  let e := (s.core ⟨x, p⟩).sendEps.get {} sep
  let vl := if e.cls then 1 else 0
  if (s.ctx x).halo.catchUp then
    (List.range (Nat.max 1 e.peers.length)).foldl (fun s i => s.arriveCredit x p sep i 1) s
  else e.peers.foldl (fun s q =>
    if q.port = localPort then s.arriveEntry q.ctx q.core q.ep e.index token lines
    else
      let s := lines.foldl (fun s l => s.sendFlit q.port vl false q.tag l) s
      s.sendCtl q.port vl [(0, 1, 1), (2, 2, q.tag), (4, 2, token), (6, 1, lines.length), (7, 1, e.index)]) s

/-- A peer is endpoint `ep` of a core of this module. -/
def Peer.isHere (x p ep : Nat) (t : Peer) : Bool := t.port = localPort && t.ctx = x && t.core = p && t.ep = ep

/-- A credit leaves a receive end towards the sender of sub-queue `i` (10 R257); in a catch-up orbit the next mirrored
entry takes the place. -/
def State.returnCredit (s : State) (x p ep i : Nat) : State :=
  let e := (s.core ⟨x, p⟩).recvEps.get {} ep
  if (s.ctx x).halo.catchUp then s.supply x p ep i
  else match s.links.circuits.find? (fun c => match c.dest with
    | .recv y q r j => y = x && q = p && r = ep && j = i && c.connId = e.connId
    | _ => false) with
  | some c => s.sendCtl c.port 3 [(0, 1, 2), (2, 2, c.rev), (4, 1, 1)]
  | none =>
    let senders := (List.range 16).flatMap (fun y => (s.ctx y).cores.flatMap (fun q =>
      (((s.core ⟨y, q⟩).sendEps.filter (fun v => v.2.elastic && v.2.connId = e.connId && (v.2.kind ≠ 2 || v.2.index = i) &&
        v.2.peers.any (Peer.isHere x p ep))).map
          (fun v => (y, q, v.1, v.2.peers)))))
    match senders.head? with
    | some (y, q, sep, peers) =>
      s.arriveCredit y q sep ((findIdxOpt (Peer.isHere x p ep) peers).map (·.1) |>.getD 0) 1
    | none => s

/-! ### Broken ends (10 R264, R265) -/

/-- The send end learns of the break. -/
def Core.breakSend (c : Core) (ep : Nat) : Core :=
  let e := c.sendEps.get {} ep
  if e.state ≠ .bound ∨ ¬e.elastic then c
  else { c with sendEps := c.sendEps.set {} ep { e with state := .broken },
                sems := c.sems.modify {} e.csem (fun q => { q with brk := true }) }

/-- The receive end learns of the break; an entry whose header has not arrived is discarded. -/
def Core.breakRecv (c : Core) (ep : Nat) : Core :=
  let e := c.recvEps.get {} ep
  if e.state ≠ .bound ∨ ¬e.elastic then c
  else { c with recvEps := c.recvEps.set {} ep
                  { e with state := .broken, subs := e.subs.map (fun q => (q.1, { q.2 with arrived := 0 })) },
                sems := c.sems.modify {} e.asem (fun q => { q with brk := true }) }

/-- Break every elastic end of a core that a test on its CONN_ID and kind of end accepts. -/
def Core.breakEnds (c : Core) (p : Bool → Nat → Nat → Bool) : Core :=
  let c := (c.sendEps.filter (fun e => e.2.elastic && p true e.1 e.2.connId)).foldl (fun c e => c.breakSend e.1) c
  (c.recvEps.filter (fun e => e.2.elastic && p false e.1 e.2.connId)).foldl (fun c e => c.breakRecv e.1) c

/-- A send end that waits to bind learns of the break: it is broken when it binds. -/
def Bind.breakSend (b : Bind) (connId : Nat) : Bind :=
  if b.send && !b.unbind && b.connId = connId then { b with broken := true } else b

/-- Break the ends of a connection in every context but the cores a test excludes: those bound, those acknowledged that
wait to bind, those of which some peer has acknowledged. -/
def State.breakConn (s : State) (connId : Nat) (keep : Nat → Nat → Bool) : State :=
  let s := (List.range 16).foldl (fun s x =>
    let s := s.modCtx x (fun c => { c with binds := c.binds.map (fun b => if keep x b.core then b else b.breakSend connId) })
    (s.ctx x).cores.foldl (fun s p =>
      if keep x p then s else s.modCoreOf x p (fun c => c.breakEnds (fun _ _ id => id = connId))) s) s
  { s with links := { s.links with openings := s.links.openings.map (fun o =>
      if o.waiting.length < o.bind.peers.length && !keep o.ctx o.bind.core then { o with bind := o.bind.breakSend connId } else o) } }

end Sys2Proof.Machine
end

