-- ==== Sys2Proof/Machine/Streams.lean ====
section
/-! DEFINITION. Stream descriptors issue (08 R204-R215, R493), and the queue of a DRAM channel (08 R198, R212). -/
namespace Sys2Proof.Machine
open Sys2Proof

/-- KFM variant: 0 G, 1 P, 2 C (00 Numbering) (DESIGN CHOICE, log 5). -/
def State.variant (s : State) : Nat := s.fuses.variant

/-- Context line of line `j` of an issue (R210). -/
def ctxLineOf (d : StreamDesc) (cur par size j : Nat) : Nat :=
  if size = 0 then 0 else (d.base + par + d.offset cur j) % size

/-- Stack line of a context line (08 R194, R195). -/
def Image.stackLine (i : Image) (variant k line : Nat) : Nat :=
  foldLine variant ((i.dram.getD k []).getD (line / 16777216) 0 * 16777216 + line % 16777216)


/-- Order of R198: issue step, program core of the issuer, line position. -/
def DramReq.le (a b : DramReq) : Bool :=
  decide (a.step < b.step) || (a.step = b.step && (decide (a.core < b.core) ||
    (a.core = b.core && decide (a.j ≤ b.j))))

/-- A request joins its stack's waiting requests in their order. -/
def Stack.enqueue (k : Stack) (r : DramReq) : Stack := { k with waiting := insertBy DramReq.le r k.waiting }

/-- Allocate `n` positions of a ring; answers the allocation numbers (08 R204). -/
def Ring.alloc (r : Ring) (n : Nat) (landed : Bool) : Ring × List Nat :=
  let nos := (List.range n).map (r.a + ·)
  ({ r with a := r.a + n, unlanded := if landed then r.unlanded else r.unlanded ++ nos }, nos)

def State.allocRing (s : State) (x p n : Nat) (landed : Bool) : State × List Nat :=
  let r := (s.core ⟨x, p⟩).ring.alloc n landed
  (s.modCoreOf x p (fun c => { c with ring := r.1 }), r.2)

/-- Reads of an issue join the stack: `dest` gives the destination of line `j`. -/
def State.enqueueReads (s : State) (x p : Nat) (d : StreamDesc) (cur par n : Nat) (dest : Nat → DramDest) : State :=
  let c := s.ctx x
  let i := c.img
  let k := c.stackOf d.tgt
  let g := (s.stack k).nextGroup
  let reqs : List DramReq := (List.range d.count).map (fun j =>
    let line := ctxLineOf d cur par (i.heldLines d.tgt) j
    { ctx := x, step := n, core := p, j, line := i.stackLine s.variant d.tgt line, ctxLine := line, write := false,
      dest := dest j, tick := s.now, group := g, at' := j, xw := (if d.block.isSome then d.xw else 3) })
  s.modStack k (fun q => { reqs.foldl Stack.enqueue q with nextGroup := g + 1 })

/-- Writes of an issue join the stack, ordered at step `n`. -/
def State.enqueueWrite (s : State) (x p n j k ctxLine line : Nat) (data : Line) : State :=
  s.modStack k (fun q => q.enqueue
    { ctx := x, step := n, core := p, j, line, ctxLine, write := true, data := some data, tick := s.now })

/-- Issue descriptor `n` of program core `p`: `lines` are the lines the port 0 read tap of the step delivers, none
where its EN is clear; `par` reads the core's parameter registers as they stood at the start of the step. -/
def State.issueStream (s : State) (x p sd : Nat) (lines : Option (List Line)) (par : Nat → W64) : State :=
  let c := s.ctx x
  let i := c.img
  let n := c.step
  let d := i.desc p sd
  let cur := (s.core ⟨x, p⟩).sdCur.get 0 sd
  let pv := if d.pen then bvf (par d.ppar) 0 32 else 0
  let advance := fun s : State => s.modCoreOf x p (fun k => { k with sdCur := k.sdCur.set 0 sd (d.advance cur) })
  let quad := c.quads.getD d.tgt 0
  let bquad := c.quads.getD d.btgt 0
  let out := match lines with
    | none => []
    | some l => if d.block = some l.length then transposeBlock d.xw l else l
  let leg := fun (kind j b inj : Nat) (f : Flight) =>
    let e := i.covering kind p sd n
    c.onRoute e j (c.hubs (c.quadOf p) b ((e.map (·.via)).getD 0)) inj false f
  let gone := i.heldLines d.tgt = 0
  match d.kind with
  | 1 =>
    let (s, nos) := s.allocRing x p d.count gone
    if gone then advance s else advance (s.enqueueReads x p d cur pv n (fun j => .rings [(p, nos.getD j 0)]))
  | 2 =>
    if gone then advance s else advance ((List.range out.length).foldl (fun s j =>
      let line := ctxLineOf d cur pv (i.heldLines d.tgt) j
      s.enqueueWrite x p n j (c.stackOf d.tgt) line (i.stackLine s.variant d.tgt line) (out.getD j 0)) s)
  | 3 =>
    let size := i.baseLines d.tgt
    let (s, nos) := s.allocRing x p d.count (size = 0)
    if size = 0 then advance s
    else
      let phys := (List.range d.count).map (fun j => (i.basePhys d.tgt (ctxLineOf d cur pv size j)).getD 0)
      let t := c.siteT p quad
      let f := leg 2 0 quad (n + 2)
        { due := n + 2 + t, step := n, src := p, j := 0,
          cargo := .baseRead quad phys none sd nos t (if d.block.isSome then d.xw else 3) }
      advance (s.modCtx x (fun c => { c with flights := c.flights ++ [f] }))
  | 4 =>
    let size := i.baseLines d.tgt
    if size = 0 then advance s
    else
      let fs := (List.range out.length).map (fun j => leg 3 j quad (n + 5)
        { due := n + 5 + c.siteT p quad, step := n, src := p, j,
          cargo := .baseWrite quad [((i.basePhys d.tgt (ctxLineOf d cur pv size j)).getD 0, out.getD j 0)] })
      advance (s.modCtx x (fun c => { c with flights := c.flights ++ fs }))
  | 5 =>
    let size := i.baseLines d.btgt
    let k := c.stackOf d.tgt
    let r := (s.stack k).staging.alloc d.count (size = 0 || gone)
    let dud := size = 0 || gone
    let s := s.modStack k (fun q => { q with staging := if dud then { r.1 with skip := r.1.skip ++ r.2 } else r.1 })
    if dud then advance s
    else
      let s := s.enqueueReads x p d cur pv n (fun j => .staging (r.2.getD j 0))
      let fs := (List.range d.count).map (fun j =>
        { due := n + leadOf i.lead, step := n, src := p, j,
          cargo := .departure k (r.2.getD j 0) bquad ((i.basePhys d.btgt ((d.bbase + d.offset cur j) % size)).getD 0) sd
          : Flight })
      advance (s.modCtx x (fun c => { c with flights := c.flights ++ fs }))
  | 6 =>
    let size := i.baseLines d.btgt
    if size = 0 || gone then advance s
    else
      let js := List.range d.count
      let phys := js.map (fun j => (i.basePhys d.btgt ((d.bbase + d.offset cur j) % size)).getD 0)
      let pos := js.map (fun j => ctxLineOf d cur pv (i.heldLines d.tgt) j)
      let f := leg 5 0 bquad (n + 2)
        { due := n + 2 + c.siteT p bquad, step := n, src := p, j := 0,
          cargo := .baseRead bquad phys (some d.tgt) sd pos
            (hubT bquad (quadOfSite (c.stackOf d.tgt))) (if d.block.isSome then d.xw else 3) }
      advance (s.modCtx x (fun c => { c with flights := c.flights ++ [f] }))
  | 7 =>
    let taps := i.taps d.route
    if taps.isEmpty then advance s
    else
      let r := taps.foldl (fun (acc : State × List (Nat × List Nat)) t =>
        let a := acc.1.allocRing x t d.count gone
        (a.1, acc.2 ++ [(t, a.2)])) (s, [])
      if gone then advance r.1 else advance (r.1.enqueueReads x p d cur pv n (fun j => .rings (r.2.map (fun q => (q.1, q.2.getD j 0)))))
  | _ => s

/-- A staging entry departs at its step, with its contents as they stand (STAGING_DEPARTURE, 08 R213). -/
def State.depart (s : State) (x : Nat) (f : Flight) : State :=
  match f.cargo with
  | .departure k no quad line sd =>
    let st := (s.stack k).staging
    let s := if st.unlanded.contains no then s.landingFault x f.src false true (no % 1024) (f.due % 2 ^ 48) else s
    let data := st.lines.get 0 (no % 1024)
    let s := if st.bad.contains (no % 1024) then s.flagCtx x fEccUe else s
    let s := s.modStack k (fun q => { q with staging := Ring.pass q.staging.skip.length q.staging })
    let c := s.ctx x
    let a := quadOfSite k
    let e := c.img.covering 4 f.src sd f.step
    let v := c.hubs a quad ((e.map (·.via)).getD 0)
    s.modCtx x (fun c => { c with flights := c.flights ++ [c.onRoute e f.j v (f.due + 2) true
      { due := f.due + 2 + hubT a quad, step := f.step, src := f.src, j := f.j, cargo := .baseWrite quad [(line, data)] }] })
  | _ => s

/-- A line from base memory joins the write queue of its stack, ordered at its issue step (08 R213). -/
def State.arriveDramLine (s : State) (x : Nat) (f : Flight) : State :=
  match f.cargo with
  | .dramLine k line data =>
    if f.lost.isSome then s
    else
      let c := s.ctx x
      s.enqueueWrite x f.src f.step f.j (c.stackOf k) line (c.img.stackLine s.variant k line) data
  | _ => s

/-- Everything due at the context's step takes effect: arrivals, landings, results, semaphore sums, visible writes
(01 R24). -/
def State.landAll (s : State) (x : Nat) : State :=
  let n := (s.ctx x).step
  let s := s.dropLost x
  let s := s.takeFlights x Flight.isChanLine (fun _ s f => s.arriveChannel x f)
  let s := s.takeFlights x Flight.isHeader (fun _ s f => s.arriveChannel x f)
  let s := s.takeFlights x Flight.isCredit (fun _ s f => s.arriveChannel x f)
  let s := s.takeFlights x Flight.isDeparture (fun _ s f => s.depart x f)
  let s := s.takeFlights x Flight.isBank (fun all s f => s.arriveBase x all f)
  let s := s.takeFlights x Flight.isRing (fun _ s f => s.arriveRing x f)
  let s := s.takeFlights x Flight.isDramLine (fun _ s f => s.arriveDramLine x f)
  let s := s.landBaseWrites x n
  let s := (s.ctx x).cores.foldl (fun s p => s.landMem ((s.ctx x).logical p) n) s
  let s := s.mapCores x (fun _ c => (c.at' n).landSems)
  s.modCtx x (fun c => c.landWires n)

end Sys2Proof.Machine
end

