-- ==== Sys2Proof/Config.lean ====
section
/-! DEFINITION. What the spec leaves to keys, to one device or to the physical world: uninterpreted constants and
functions (log 8, 9, 19, 20, 56, 64, 65, 90, 109, 141, 143, 174, 177, 179). None has a body, so no statement can rest on
a value of theirs. -/
namespace Sys2Proof

/-- Whether a signature verifies over a message under a public key: RFC 8391, SP 800-208 (14 R395, R424). -/
opaque Config.verify (key message signature : List Byte) : Bool

/-- The signature of a message by the ledger key under an index (14 R418). -/
opaque Config.signLedger (index : Nat) (message : List Byte) : List Byte

/-- The signature of a message by the identity key under an index (14 R425). -/
opaque Config.signIdentity (index : Nat) (message : List Byte) : List Byte

/-- The module's public keys and the firmware key of the boot ROM, 68 bytes each (14 R424; 15 R436). -/
opaque Config.ledgerKey : List Byte
opaque Config.identityKey : List Byte
opaque Config.firmwareKey : List Byte

/-- The public key of the device CA and its signature of a message; the index under which the identity key signed the
ledger certificate; what a certificate holds in bytes 1 to 7 (14 R424). -/
opaque Config.deviceCa : List Byte
opaque Config.signDevice (message : List Byte) : List Byte
opaque Config.certIndex : Nat
opaque Config.certBytes : List Byte

/-- Spares the spec does not count: bond lanes of a unit, repairable rows of a stack (15 R439). -/
opaque Config.bondSpares : Nat
opaque Config.dramSpares : Nat

/-- Input voltage in 0.05 V and current in 0.1 A as the n-th request finds them (16 R484). -/
opaque Config.inputVolts (n : Nat) : Nat
opaque Config.inputAmps (n : Nat) : Nat
/-- Coolant inlet temperature in 0.25 °C as the n-th request finds it (16 R484). -/
opaque Config.inletTemp (n : Nat) : Nat

/-- Bytes of the input buffer of a halo partner, which its own HALO_STANDBY names (15 R464) (DESIGN CHOICE, log 56). -/
opaque Config.partnerInput (pair : Nat) : Nat

/-- Whether the partner of a pairing meets its share of the conditions of R460 or R468, as the n-th request finds it. -/
opaque Config.partnerAgrees (pair n : Nat) : Bool

/-- Energy in 0.01 J of a store to flash that is no signing boundary and no boot count (14 R422) (DESIGN CHOICE,
log 141). -/
opaque Config.storeEnergy : Nat

/-- KEY_ID of the identity key of a halo partner (14 R415). -/
opaque Config.partnerKeyId (pair : Nat) : List Byte

/-- The MCTP vendor identifier that the FRU record reports (13 R345) (DESIGN CHOICE, log 143). -/
opaque Config.vendorId : BitVec 16

/-- What the FRU record holds beside the vendor identifier and the serial number (13 R345) (DESIGN CHOICE, log 143). -/
opaque Config.fruRest : List Byte

/-- The module code of the installation's time root (12 R340) (DESIGN CHOICE, log 64). -/
opaque Config.rootCode : Nat

/-- 1 MiB granules of base memory that the firmware would give an image in a program quadrant (07 R189) (DESIGN
CHOICE, log 90). -/
opaque Config.baseGranules (digest : BitVec 256) (quad quota : Nat) : Nat

/-- The module code of the bridge module that a host link adapter is attached to, by the adapter's code (12 R338) (DESIGN
CHOICE, log 174). -/
opaque Config.bridgeModule (adapter : Nat) : Nat

/-- By how many 0.01 % the target period that a domain's oscillator realises under a trim code differs from its nominal
value, before the bound of 0.5 % (11 R275, R299) (DESIGN CHOICE, log 177). -/
opaque Config.oscError (domain trim : Nat) : Int

/-- Residence in ps of the n-th time flit that the module forwards or answers (12 R341) (DESIGN CHOICE, log 65). -/
opaque Config.residencePs (n : Nat) : Nat

/-- FW_VERSION and FW_DIGEST of the firmware copy that a module leaves the factory with in place `n` (15 R436). -/
opaque Config.factoryVersion (n : Nat) : BitVec 64
opaque Config.factoryDigest (n : Nat) : BitVec 256

/-- Bits 1:0 of ECLIPSE_BEGIN's DATA, which 15 R473 gives to the scope and to the mask both (DESIGN CHOICE, log
109). -/
opaque Config.eclipseBits (scope mask : Nat) : Nat

end Sys2Proof
end

