-- ==== Sys2Proof/Machine/Formats.lean ====
section
/-! DEFINITION. Number formats: element decoding, rounding to a format, conversion with saturation and stochastic
rounding, FP32 arithmetic on exact values, the canonical tree, the Tail generator (05). -/
namespace Sys2Proof.Machine
open Sys2Proof

/-- An exact dyadic value z × 2^e. -/
structure Dyad where
  z : Int
  e : Int
  deriving DecidableEq, Repr

/-- z × 2^(e - g) for g ≤ e. -/
def Dyad.at (d : Dyad) (g : Int) : Int := d.z * 2 ^ (d.e - g).toNat

def Dyad.add (a b : Dyad) : Dyad := let g := min a.e b.e; ⟨a.at g + b.at g, g⟩
def Dyad.mul (a b : Dyad) : Dyad := ⟨a.z * b.z, a.e + b.e⟩
def Dyad.neg (a : Dyad) : Dyad := ⟨-a.z, a.e⟩
def Dyad.lt (a b : Dyad) : Bool := let g := min a.e b.e; a.at g < b.at g
def Dyad.eq (a b : Dyad) : Bool := let g := min a.e b.e; a.at g = b.at g

/-- A floating-point format (R125): exponent and mantissa bits, bias, and its specials: 0 none, 1 E4M3's single
NaN, 2 as IEEE 754. -/
structure Fmt where
  eb : Nat
  mb : Nat
  bias : Nat
  sp : Nat
  deriving DecidableEq, Repr

def e2m1 : Fmt := ⟨2, 1, 1, 0⟩
def e2m3 : Fmt := ⟨2, 3, 1, 0⟩
def e3m2 : Fmt := ⟨3, 2, 3, 0⟩
def e4m3 : Fmt := ⟨4, 3, 7, 1⟩
def e5m2 : Fmt := ⟨5, 2, 15, 2⟩
def bf16 : Fmt := ⟨8, 7, 127, 2⟩
def fp16 : Fmt := ⟨5, 10, 15, 2⟩
def fp32 : Fmt := ⟨8, 23, 127, 2⟩

def Fmt.emin (f : Fmt) : Int := 1 - (f.bias : Int)
def Fmt.width (f : Fmt) : Nat := 1 + f.eb + f.mb
def Fmt.infCode (f : Fmt) : Nat := (2 ^ f.eb - 1) * 2 ^ f.mb

/-- The largest finite code, without its sign. -/
def Fmt.maxCode (f : Fmt) : Nat :=
  if f.sp = 2 then f.infCode - 1 else if f.sp = 1 then 2 ^ (f.eb + f.mb) - 2 else 2 ^ (f.eb + f.mb) - 1

/-- A decoded element (R125, R126): sign, significand, exponent, element exponent, and class (0 finite, 1 infinity,
2 NaN). -/
structure Elem where
  neg : Bool
  m : Nat
  e : Int
  ex : Int
  cls : Nat
  deriving DecidableEq, Repr

def Fmt.decode (f : Fmt) (w : Nat) : Elem :=
  let neg := bit w (f.eb + f.mb)
  let field := fld w f.mb f.eb
  let man := fld w 0 f.mb
  let cls := if f.sp = 2 ∧ field = 2 ^ f.eb - 1 then (if man = 0 then 1 else 2)
    else if f.sp = 1 ∧ field = 2 ^ f.eb - 1 ∧ man = 2 ^ f.mb - 1 then 2 else 0
  if field = 0 then ⟨neg, man, f.emin - f.mb, f.emin, cls⟩
  else ⟨neg, 2 ^ f.mb + man, (field : Int) - f.bias - f.mb, (field : Int) - f.bias, cls⟩

def Elem.dyad (x : Elem) : Dyad := ⟨if x.neg then -(x.m : Int) else x.m, x.e⟩

/-- An integer element of `n` bits: |x| with exponent `e` and fixed element exponent `ex` (R125). -/
def intElem (n : Nat) (e ex : Int) (w : Nat) : Elem :=
  let v := sInt n w
  ⟨decide (v < 0), v.natAbs, e, ex, 0⟩

/-- Grid exponent for magnitude m × 2^e in format `f`, subnormals included. -/
def Fmt.quantum (f : Fmt) (m : Nat) (e : Int) : Int := max ((Nat.log2 m : Int) + e) f.emin - f.mb

/-- m × 2^e on the grid 2^g: the quotient toward zero, the remainder and its denominator's exponent. -/
def gridDiv (m : Nat) (e g : Int) : Nat × Nat × Nat :=
  if g ≤ e then (m * 2 ^ (e - g).toNat, 0, 0)
  else let k := (g - e).toNat; (m / 2 ^ k, m % 2 ^ k, k)

/-- Round half to even. -/
def rne (q r k : Nat) : Nat :=
  if r = 0 then q
  else if r * 2 < 2 ^ k then q
  else if r * 2 > 2 ^ k then q + 1
  else if q % 2 = 0 then q else q + 1

/-- Step up when D + r reaches 2^32, D the floor of the fraction × 2^32 (R137). -/
def stochUp (q r k draw : Nat) : Nat :=
  if r = 0 then q else if 2 ^ 32 ≤ r * 2 ^ 32 / 2 ^ k + draw then q + 1 else q

/-- The code of m × 2^e in format `f` before any overflow: `up` rounds the quotient on the grid. The codes of a
format continue beyond its range on the same grid. -/
def Fmt.codeOf (f : Fmt) (up : Nat → Nat → Nat → Nat) (m : Nat) (e : Int) : Nat :=
  if m = 0 then 0
  else
    let g := f.quantum m e
    let d := gridDiv m e g
    (g + f.mb - f.emin).toNat * 2 ^ f.mb + up d.1 d.2.1 d.2.2

/-- Overflow result without its sign: infinity, or the largest finite code (R135). -/
def Fmt.overflow (f : Fmt) : Nat := if f.sp = 2 then f.infCode else f.maxCode

def Fmt.withSign (f : Fmt) (neg : Bool) (code : Nat) : Nat := code + (if neg then 2 ^ (f.eb + f.mb) else 0)

/-- A finite value rounded to a format (R133-R135). -/
def Fmt.round (f : Fmt) (up : Nat → Nat → Nat → Nat) (neg : Bool) (m : Nat) (e : Int) : Nat :=
  let c := f.codeOf up m e
  f.withSign neg (if f.maxCode < c then f.overflow else c)

/-- NaN of a target (R135): +0 where it has none. -/
def Fmt.nan (f : Fmt) : Nat :=
  if f.sp = 0 then 0 else if f.sp = 1 then 127 else if f.mb = 2 then 127
  else f.infCode + 2 ^ (f.mb - 1)

/-- An element converted to a format. -/
def Fmt.convert (f : Fmt) (up : Nat → Nat → Nat → Nat) (x : Elem) : Nat :=
  if x.cls = 2 then f.nan
  else if x.cls = 1 then f.withSign x.neg f.overflow
  else f.round up x.neg x.m x.e

/-- An element converted to a two's-complement integer of `n` bits, saturating; NaN gives 0 (R135). -/
def toIntN (n : Nat) (up : Nat → Nat → Nat → Nat) (x : Elem) : Nat :=
  let lim := if x.neg then 2 ^ (n - 1) else 2 ^ (n - 1) - 1
  let v := if x.cls = 2 then 0
    else if x.cls = 1 then lim
    else let d := gridDiv x.m x.e 0; Nat.min lim (up d.1 d.2.1 d.2.2)
  if x.neg then (2 ^ n - v) % 2 ^ n else v

/-! ### FP32 -/

def qnan32 : Nat := 0x7FC00000

def f32 (w : Nat) : Elem := fp32.decode w

/-- round_fp32 (R133): zero gives +0. -/
def roundFp32 (z g : Int) : Nat := if z = 0 then 0 else fp32.round rne (decide (z < 0)) z.natAbs g

/-- A dyadic result in format `f`; an exact zero takes the sign given. -/
def Fmt.ofDyad (f : Fmt) (zneg : Bool) (d : Dyad) : Nat :=
  if d.z = 0 then f.withSign zneg 0 else f.round rne (decide (d.z < 0)) d.z.natAbs d.e

/-- Sum of two elements of a format, one rounding (06 R156): a NaN or infinities of both signs give NaN; an exact
zero sum is -0 only if both are negative zeros. -/
def Fmt.addE (f : Fmt) (a b : Elem) : Nat :=
  if a.cls = 2 ∨ b.cls = 2 then f.nan
  else if a.cls = 1 then (if b.cls = 1 ∧ a.neg ≠ b.neg then f.nan else f.withSign a.neg f.infCode)
  else if b.cls = 1 then f.withSign b.neg f.infCode
  else f.ofDyad (a.m = 0 && b.m = 0 && a.neg && b.neg) (a.dyad.add b.dyad)

def Fmt.mulE (f : Fmt) (a b : Elem) : Nat :=
  let neg := a.neg != b.neg
  if a.cls = 2 ∨ b.cls = 2 then f.nan
  else if a.cls = 1 ∨ b.cls = 1 then
    if (a.cls = 1 ∧ b.cls = 0 ∧ b.m = 0) ∨ (b.cls = 1 ∧ a.cls = 0 ∧ a.m = 0) then f.nan
    else f.withSign neg f.infCode
  else f.ofDyad neg (a.dyad.mul b.dyad)

/-- a × b + c with one rounding. -/
def Fmt.fmaE (f : Fmt) (a b c : Elem) : Nat :=
  let pneg := a.neg != b.neg
  if a.cls = 2 ∨ b.cls = 2 ∨ c.cls = 2 then f.nan
  else if a.cls = 1 ∨ b.cls = 1 then
    if (a.cls = 1 ∧ b.cls = 0 ∧ b.m = 0) ∨ (b.cls = 1 ∧ a.cls = 0 ∧ a.m = 0) then f.nan
    else if c.cls = 1 ∧ c.neg ≠ pneg then f.nan
    else f.withSign pneg f.infCode
  else if c.cls = 1 then f.withSign c.neg f.infCode
  else f.ofDyad ((a.m = 0 || b.m = 0) && c.m = 0 && pneg && c.neg) ((a.dyad.mul b.dyad).add c.dyad)

def fadd (a b : Nat) : Nat := fp32.addE (f32 a) (f32 b)

/-! ### The canonical tree (R139) -/

/-- One level: neighbours combine, a last one without a sibling passes up. -/
def treeLevel (op : α → α → α) : List α → List α
  | a :: b :: r => op a b :: treeLevel op r
  | l => l

/-- The root over at most 2^fuel leaves. -/
def treeRoot (op : α → α → α) (d : α) : Nat → List α → α
  | 0, l => l.headD d
  | f + 1, l => match l with
    | [] => d
    | [a] => a
    | l => treeRoot op d f (treeLevel op l)

/-! ### The Tail generator (R143) -/

def tailRound (k : W32) (w : W32 × W32 × W32 × W32) : W32 × W32 × W32 × W32 :=
  let w0 := w.1 + (w.2.1 ^^^ k)
  let w3 := rotl32 (w.2.2.2 ^^^ w0) 16
  let w2 := w.2.2.1 + w3
  let w1 := rotl32 (w.2.1 ^^^ w2) 12
  (w0, w1, w2, w3)

/-- The draw of five coordinates (R143, R144). -/
def tail (seed orbit : W64) (step core lane : Nat) : W32 :=
  let s0 : W32 := BitVec.ofNat 32 (bvf seed 0 32)
  let s1 : W32 := BitVec.ofNat 32 (bvf seed 32 32)
  let w : W32 × W32 × W32 × W32 :=
    (BitVec.ofNat 32 (fld step 0 32), BitVec.ofNat 32 (fld step 32 16 + fld core 0 16 * 65536),
     BitVec.ofNat 32 (bvf orbit 0 32), BitVec.ofNat 32 (bvf orbit 32 24 + fld lane 0 8 * 16777216))
  let w := tailRound s0 w
  let w := tailRound (s1 + 0x9E3779B9#32) w
  let w := tailRound (s0 + 0x3C6EF372#32) w
  let w := tailRound (s1 + 0xDAA66D2B#32) w
  w.1 ^^^ w.2.1 ^^^ w.2.2.1 ^^^ w.2.2.2

/-- A draw as a uniform FP32 value (R147). -/
def uniform32 (r : W32) : Nat := fp32.round rne false (r.toNat / 256) (-24)

/-! ### Array input formats (02 ARRAY_FORMATS; 04 R100) -/

/-- Class of an array format: 0 FP4, 1 FP8, 2 BF16. -/
def fmtClass (k : Nat) : Nat := if k = 0 ∨ k = 5 ∨ k = 9 then 0 else if k = 7 ∨ k = 8 then 2 else 1

/-- Bits of an element as it stands in a cell (04 R97). -/
def fmtBits (k : Nat) : Nat := if fmtClass k = 0 then 4 else if fmtClass k = 2 then 16
  else if k = 1 ∨ k = 2 ∨ k = 10 then 6 else 8

/-- The element of format `k`; `sel` chooses the second element type of MXFP6 and MXFP8 (04 R102). -/
def decodeElem (k : Nat) (sel : Bool) (w : Nat) : Elem :=
  match k with
  | 0 => e2m1.decode w
  | 1 => e2m3.decode w
  | 2 => e3m2.decode w
  | 3 => e4m3.decode w
  | 4 => e5m2.decode w
  | 5 => intElem 4 0 3 w
  | 6 => intElem 8 0 7 w
  | 7 => bf16.decode w
  | 8 => fp16.decode w
  | 9 => e2m1.decode w
  | 10 => if sel then e3m2.decode w else e2m3.decode w
  | 11 => if sel then e5m2.decode w else e4m3.decode w
  | _ => intElem 8 (-6) 1 w

/-- emin of the format, or its fixed element exponent. -/
def fmtEmin (k : Nat) (sel : Bool) : Int :=
  match k with
  | 0 => 0
  | 1 => 0
  | 2 => -2
  | 3 => -6
  | 4 => -14
  | 5 => 3
  | 6 => 7
  | 7 => -126
  | 8 => -14
  | 9 => 0
  | 10 => if sel then -2 else 0
  | 11 => if sel then -14 else -6
  | _ => 1

def fmtIsMx (k : Nat) : Bool := decide (9 ≤ k)
def fmtIsInt (k : Nat) : Bool := k = 5 || k = 6 || k = 12

/-- The largest element exponent over non-special elements; emin where there is none (R128, R129). -/
def maxExp (k : Nat) (sel : Bool) (l : List Elem) : Int :=
  match (l.filter (fun x => x.cls = 0)).map (·.ex) with
  | [] => fmtEmin k sel
  | a :: r => r.foldl max a

/-! ### The tile (R129-R133) -/

/-- One product: the two elements and their scale exponents; `none` is a NaN scale. -/
structure Prod' where
  x : Elem
  cx : Option Int
  y : Elem
  cy : Option Int
  deriving DecidableEq, Repr

/-- What one array's entry adds to a tile: its products and its maxima. -/
structure Part where
  prods : List Prod'
  ea : Int
  sa : Int
  ew : Int
  sw : Int
  deriving DecidableEq, Repr

/-- Members of a chain joined (04 R113, R115). -/
def Part.join (a b : Part) : Part :=
  ⟨a.prods ++ b.prods, max a.ea b.ea, max a.sa b.sa, max a.ew b.ew, max a.sw b.sw⟩

/-- A product on the grid (R130). -/
def Prod'.grid (p : Prod') (g : Int) : Int :=
  let mp := p.x.m * p.y.m
  let sh := p.x.e + p.y.e + p.cx.getD 0 + p.cy.getD 0 - g
  let q : Nat := if mp = 0 then 0
    else if 0 ≤ sh then Nat.min (mp * 2 ^ (Nat.min sh.toNat 64)) (2 ^ 48 - 1)
    else mp / 2 ^ (-sh).toNat
  if p.x.neg != p.y.neg then -(q : Int) else q

def Prod'.isNan (p : Prod') : Bool := p.x.cls = 2 || p.y.cls = 2 || p.cx.isNone || p.cy.isNone
def Prod'.infZero (p : Prod') : Bool :=
  (p.x.cls = 1 && p.y.cls = 0 && p.y.m = 0) || (p.y.cls = 1 && p.x.cls = 0 && p.x.m = 0)
def Prod'.isInf (p : Prod') : Bool := p.x.cls = 1 || p.y.cls = 1

/-- The FP32 result of a tile (R129-R133). -/
def Part.result (t : Part) : Nat :=
  let infs := (t.prods.filter Prod'.isInf).map (fun p => p.x.neg != p.y.neg)
  if t.prods.any Prod'.isNan then qnan32
  else if t.prods.any Prod'.infZero then qnan32
  else if infs.contains true && infs.contains false then qnan32
  else match infs with
    | n :: _ => fp32.withSign n fp32.infCode
    | [] =>
      let g := t.ea + t.sa + t.ew + t.sw + 2 - 48
      roundFp32 (t.prods.foldl (fun a p => a + p.grid g) 0) g

/-! ### MX blocks (R127, R136) -/

/-- The scale exponent of an E8M0 byte; FFh is a NaN scale. -/
def scaleExp (v : Nat) : Option Int := if v = 255 then none else some ((v : Int) - 127)

/-- emax of an MX element type. -/
def mxEmax (k : Nat) (sel : Bool) : Int :=
  match k with
  | 9 => 2
  | 10 => if sel then 4 else 2
  | 11 => if sel then 15 else 8
  | _ => 0

/-- An MX block of FP32 values: scale byte and elements (R136). `up` may depend on the position, for stochastic
rounding. -/
def mxBlock (k : Nat) (sel : Bool) (up : Nat → Nat → Nat → Nat → Nat) (v : List Nat) : Nat × List Nat :=
  let xs := v.map f32
  if xs.any (fun x => x.cls ≠ 0) then (255, v.map (fun _ => 0))
  else
    let mags := (xs.filter (fun x => x.m ≠ 0)).map (·.ex)
    let ex := match mags with
      | [] => 0
      | a :: r => max (-127) (min 127 (r.foldl max a - mxEmax k sel))
    let one := fun (i : Nat) (x : Elem) =>
      match k with
      | 9 => e2m1.convert (up i) { x with e := x.e - ex }
      | 10 => (if sel then e3m2 else e2m3).convert (up i) { x with e := x.e - ex }
      | 11 => (if sel then e5m2 else e4m3).convert (up i) { x with e := x.e - ex }
      | _ => toIntN 8 (up i) { x with e := x.e + 6 - ex }
    ((ex + 127).toNat, (List.range xs.length).map (fun i => one i (xs.getD i (f32 0))))

end Sys2Proof.Machine
end

