-- ==== Sys2Proof/Machine/Digest.lean ====
section
/-! DEFINITION. Digests: SHAKE256 (FIPS 202) with a 256-bit output under a domain tag (14 R391), Merkle roots over
the canonical tree's shape (14 R392), and the digest of an entry. -/
namespace Sys2Proof.Machine
open Sys2Proof

/-- Rotation offsets of rho, lane x + 5y (FIPS 202). -/
def keccakRot : List Nat :=
  [0, 1, 62, 28, 27, 36, 44, 6, 55, 20, 3, 10, 43, 25, 39, 41, 45, 15, 21, 8, 18, 2, 61, 56, 14]

/-- Round constants of iota (FIPS 202). -/
def keccakRC : List W64 :=
  [0x0000000000000001, 0x0000000000008082, 0x800000000000808A, 0x8000000080008000, 0x000000000000808B,
   0x0000000080000001, 0x8000000080008081, 0x8000000000008009, 0x000000000000008A, 0x0000000000000088,
   0x0000000080008009, 0x000000008000000A] ++
  [0x000000008000808B, 0x800000000000008B, 0x8000000000008089, 0x8000000000008003, 0x8000000000008002,
   0x8000000000000080, 0x000000000000800A, 0x800000008000000A, 0x8000000080008081, 0x8000000000008080,
   0x0000000080000001, 0x8000000080008008]

/-- One round of Keccak-f[1600] on 25 lanes. -/
def keccakRound (a : List W64) (rc : W64) : List W64 :=
  let c := (List.range 5).map (fun x => (List.range 5).foldl (fun v y => v ^^^ a.getD (x + 5 * y) 0) 0)
  let d := (List.range 5).map (fun x => c.getD ((x + 4) % 5) 0 ^^^ (c.getD ((x + 1) % 5) 0).rotateLeft 1)
  let t := (List.range 25).map (fun i => a.getD i 0 ^^^ d.getD (i % 5) 0)
  let b := (List.range 25).map (fun i =>
    -- lane (x', y') of pi comes from (x, y) with x' = y, y' = 2x + 3y
    let x' := i % 5
    let y' := i / 5
    let x := (x' + 3 * y') % 5
    (t.getD (x + 5 * x') 0).rotateLeft (keccakRot.getD (x + 5 * x') 0))
  let e := (List.range 25).map (fun i =>
    let r := 5 * (i / 5)
    b.getD i 0 ^^^ (~~~(b.getD (r + (i + 1) % 5) 0) &&& b.getD (r + (i + 2) % 5) 0))
  match e with
  | [] => []
  | h :: r => (h ^^^ rc) :: r

def keccakF (a : List W64) : List W64 := keccakRC.foldl keccakRound a

/-- Add a block of bytes to the state's lanes. -/
def absorb (a : List W64) (block : List Byte) : List W64 :=
  keccakF ((List.range 25).map (fun i => a.getD i 0 ^^^ BitVec.ofNat 64 (leAt block (8 * i) 8)))

/-- SHAKE256 with 32 bytes of output. -/
def shake256 (m : List Byte) : BitVec 256 :=
  let r := m.length % 136
  let pad : List Byte := if r = 135 then [0x9F] else [0x1F] ++ List.replicate (134 - r) 0 ++ [0x80]
  let a := (chunksOf 136 (m.length + 2) (m ++ pad)).foldl absorb (List.replicate 25 0)
  BitVec.ofNat 256 (joinBits 64 ((a.take 4).map BitVec.toNat))

/-- A digest under a domain tag (R391). -/
def digest (tag : Nat) (data : List Byte) : BitVec 256 := shake256 (BitVec.ofNat 8 tag :: data)

def digestBytes (d : BitVec 256) : List Byte := bytesOf 32 d.toNat

/-- A tree node: the tag-11h digest of its children (R392). -/
def nodeDigest (a b : BitVec 256) : BitVec 256 := digest 0x11 (digestBytes a ++ digestBytes b)

/-- One level of the tree: neighbours combine, a last one passes up unchanged. -/
def merkleLevel : List (BitVec 256) → List (BitVec 256)
  | a :: b :: r => nodeDigest a b :: merkleLevel r
  | l => l

/-- The root of a Merkle tree over at most 2^fuel leaves; zero over none. -/
def merkleRoot : Nat → List (BitVec 256) → BitVec 256
  | 0, l => l.headD 0
  | f + 1, l => match l with
    | [] => 0
    | [a] => a
    | l => merkleRoot f (merkleLevel l)

/-- The digest of an admitted (tag 07h) or sent (08h) entry (R391). -/
def entryDigest (tag conn index token : Nat) (lines : List Line) : BitVec 256 :=
  digest tag (bytesOf 4 conn ++ bytesOf 1 index ++ bytesOf 2 token ++ bytesOf 1 lines.length
    ++ lines.flatMap lineBytes)

/-- KEY_ID of a public key: OID, root and seed as RFC 8391 encodes them (R391). -/
def keyId (key : List Byte) : List Byte := (digestBytes (digest 0x13 key)).take 16

end Sys2Proof.Machine
end

