-- ==== Sys2Proof/Machine/Ports.lean ====
section
/-! DEFINITION. The end of a step at one core: bank conflicts (07 R173-R176), the issue range checker (07 R182,
R183), what the four ports move (03 R80, R492; 08 R205; 10 R254-R258), taps and the sequencer (03 R69-R73, R82). -/
namespace Sys2Proof.Machine
open Sys2Proof

/-- A request of a tap access: its key (port, position) and its line (07 R173). -/
structure PortReq where
  port : Nat
  j : Nat
  line : Nat
  data : Line := 0
  deriving DecidableEq, Repr

def PortReq.le (a b : PortReq) : Bool := decide (a.port < b.port) || (a.port = b.port && decide (a.j ≤ b.j))

/-- The requests of the accesses of one direction, lowest key first. -/
def requestsOf (l : List TapReq) : List PortReq :=
  sortBy PortReq.le (l.flatMap (fun t => (List.range t.lines.length).map (fun j =>
    { port := t.port, j, line := t.lines.getD j 0 })))

/-- The request that wins bank `b`: the lowest key (07 R175). -/
def winner (reqs : List PortReq) (b : Nat) : Option PortReq := reqs.find? (fun r => r.line % 32 = b)

/-- Requests that lose: reads whose line differs from the winner's, writes that are not the winner. -/
def losers (write : Bool) (reqs : List PortReq) : List PortReq :=
  reqs.filter (fun r => match winner reqs (r.line % 32) with
    | none => false
    | some w => if write then !(w.port = r.port && w.j = r.j) else w.line ≠ r.line)

/-- Count the lost requests and record the first conflict of the orbit: the lowest bank, a read before a write
(07 R176, R185). -/
def Core.countConflicts (c : Core) (n : Nat) (lostR lostW : List PortReq) : Core :=
  let conf := (List.range 4).foldl (fun t p =>
    let r := (lostR.filter (fun q => q.port = p)).length
    let w := (lostW.filter (fun q => q.port = p)).length
    t.modify 0 p (fun v => addFld (addFld v 0 32 r) 32 32 w)) c.rep.conf
  let firstIn : Nat → Option (Nat × Nat) := fun b =>
    match lostR.find? (fun q => q.line % 32 = b) with
    | some q => some (q.port, 0)
    | none => (lostW.find? (fun q => q.line % 32 = b)).map (fun q => (q.port, 1))
  let first := (List.range 32).foldl (fun (acc : Option (Nat × Nat × Nat)) b =>
    match acc with | some v => some v | none => (firstIn b).map (fun v => (b, v.1, v.2))) none
  match first with
  | none => c
  | some (b, port, dir) =>
    let w := reg64 [(48, n), (5, b), (2, port), (1, dir), (1, 1)]
    { c with rep := { c.rep with conf, confFirst := if c.rep.confFirst.toNat.testBit 56 then c.rep.confFirst else w } }

/-- Count overlaps and record the first of the orbit (07 R183, R185): core memory before vector, then by rank
(DEDUCED, log 30). -/
def Core.countOverlaps (c : Core) (n baddr : Nat) (l : List Overlap) : Core :=
  match sortBy (fun a b : Overlap => decide (a.rank ≤ b.rank)) l with
  | [] => c
  | o :: _ =>
    let r := { c.rep with ircCount := addFld c.rep.ircCount 0 32 l.length }
    if r.ircFirst.toNat.testBit 48 then { c with rep := r }
    else
      let a := reg64 [(48, n), (1, 1), (1, b2n o.vec), (2, o.port), (10, baddr)]
      let b := reg64 [(13, o.target), (2, o.wport), (3, o.age), (10, o.wbaddr), (2, o.operand)]
      { c with rep := { r with ircFirst := a, ircAddr := b } }

/-- Reads of this step that meet a write issued at the step before (07 R182, R183). -/
def Core.memOverlaps (c : Core) (n : Nat) (reqs : List PortReq) : List Overlap :=
  reqs.flatMap (fun r =>
    match (c.memWrites.filter (fun w => w.line = r.line && w.issued + 1 = n)).getLast? with
    | some w => [{ rank := 64 * r.port + r.j, vec := false, port := r.port, target := r.line, wport := w.port,
                   age := 1, wbaddr := w.baddr, operand := 0 }]
    | none => [])

/-- A vector register operand that meets an unlanded range; `operand` 0 VA, 1 VB, 2 VC, 3 VSTR. -/
def Core.vecOverlap (c : Core) (n reg operand : Nat) : List Overlap :=
  let l := c.ranges.filter (fun v => v.reg = reg && decide (v.issued < n) && decide (n ≤ v.upto))
  match (sortBy (fun a b : VecRange => decide (a.issued < b.issued) || (a.issued = b.issued && a.load)) l).getLast? with
  | some v => [{ rank := 1000 + operand, vec := true, port := 0, target := reg, wport := 0, age := n - v.issued,
                 wbaddr := v.baddr, operand }]
  | none => []

/-! ### Port 0: the landing ring (08 R205, R206) -/

/-- The position that consumption `no` names: its contents, and whether the line is late. -/
def Ring.position (r : Ring) (no : Nat) : Line × Bool :=
  let newest := if no < r.a then no else no - 512 * ((no - r.a) / 512 + 1)
  (r.lines.get 0 (no % 512), if no < r.a then r.unlanded.contains no
    else decide (512 * ((no - r.a) / 512 + 1) ≤ no) && r.unlanded.contains newest)

/-- Consume `w` positions at step `n` (LANDING_CONSUME). Answers the lines. -/
def State.consume (s : State) (x p w n : Nat) : State × List Line :=
  let r := (s.core ⟨x, p⟩).ring
  let nos := (List.range w).map (r.u + ·)
  let s := nos.foldl (fun s no => if (r.position no).2 then s.landingFault x p false false (no % 512) n else s) s
  let s := if nos.any (fun no => r.bad.contains (no % 512)) then s.flagCtx x fEccUe else s
  (s.modCoreOf x p (fun c => { c with ring := { c.ring with u := c.ring.u + w } }), nos.map (fun no => (r.position no).1))

/-! ### Port 3: sending (10 R254, R257-R259) -/

/-- The binding of a locked send endpoint. -/
def Image.lockedFrom (i : Image) (p sep : Nat) : Option LockedConn :=
  i.locked.find? (fun c => c.src = p && c.sep = sep)

/-- Lines and header of a locked send at step `n` (10 R259). -/
def lockedSend (x : Ctx) (c : LockedConn) (e : SendEp) (lines : List Line) (token : Option Nat) : List Flight :=
  let n := x.step
  let t := x.coreT c.src c.dst
  let ent := x.img.covering 1 c.src c.sep n
  let via := x.coreHubs c.src c.dst ((ent.map (·.via)).getD 0)
  let sub := if c.kind = 2 then c.index else 0
  let body := ((List.range lines.length).filter (fun j => decide (e.fill + j < c.esize))).map (fun j =>
    x.onRoute ent j via (n + 3) false
      { due := n + 4 + t, step := n, src := c.src, j,
        cargo := .chanLine c.dst c.rep sub e.no (e.fill + j) (lines.getD j 0) })
  match token with
  | none => body
  | some k => body ++ [{ due := n + 4 + t, step := n, src := c.src, j := lines.length,
                         cargo := .header c.dst c.rep sub k (Nat.min (e.fill + lines.length) c.esize) }]

/-- SEND with its tap's lines, and ELAST with its token, on endpoint `sep` at the context's step. An entry that
leaves an elastic end is digested (14 R414). -/
def State.sendStep (s : State) (x p sep : Nat) (lines : Option (List Line))
    (token : Option Nat) : State :=
  let c := s.ctx x
  let e := (s.core ⟨x, p⟩).sendEps.get {} sep
  let put := fun (s : State) (e : SendEp) => s.modCoreOf x p (fun k => { k with sendEps := k.sendEps.set {} sep e })
  let lost := fun e : SendEp => { e with discards := satAdd 65535 e.discards 1 }
  match e.state with
  | .unbound => if token.isSome then put s (lost e) else s
  | .broken =>
    if token.isSome then put s { lost e with started := false, drop := false, fill := 0, taken := [] } else s
  | .bound =>
    if lines.isNone && token.isNone then s
    else
      let ovl := !e.started && decide (e.depth ≤ e.inFlight)
      let e1 := if e.started then e
        else if ovl then { lost e with started := true, drop := true, overflow := true }
        else { e with started := true, drop := false, inFlight := e.inFlight + 1 }
      let s := if ovl then
        (s.flagCtx x fSendOverflow).modCoreOf x p (fun k => k.chanFault 0 sep c.step) else s
      let l := lines.getD []
      let fs := if e1.drop || e1.elastic then []
        else match c.img.lockedFrom p sep with
          | some k => lockedSend c k e1 l token
          | none => []
      let s := s.modCtx x (fun c => { c with flights := c.flights ++ fs })
      let taken := if e1.elastic then (e1.taken ++ l).take e1.esize else []
      match token with
      | none => put s { e1 with fill := e1.fill + l.length, taken }
      | some k =>
        let s := put s { e1 with fill := 0, taken := [], started := false, drop := false,
                                 no := if e1.drop then e1.no else e1.no + 1 }
        if e1.elastic && !e1.drop then
          let s := s.modCtx x (fun c => { c with outputs := c.outputs ++ [⟨c.counter, p, sep, entryDigest 8 e.connId e.index k taken⟩] })
          s.leaveEntry x p sep k taken
        else s

/-! ### Port 3: receiving (10 R256, R260) -/

/-- RECV at the context's step through the port 3 write tap of `w` lines, `en` its EN. Answers the lines it
writes. -/
def State.recvStep (s : State) (x p ep : Nat) (en : Bool) (w : Nat) : State × List Line :=
  let c := s.ctx x
  let k := s.core ⟨x, p⟩
  let e := k.recvEps.get {} ep
  if e.state = .unbound then (s, [])
  else
    let i := if e.kind = 2 then e.rdptr else 0
    let q := e.sub i
    let head := q.entries.head?
    let no := (head.map (·.no)).getD q.done
    let lines := if !en then [] else (List.range w).map (fun j =>
      if e.esize ≤ e.cursor + j then 0 else k.store.get 0 (e.slotLine i no (e.cursor + j)))
    let ready := match head with
      | none => false
      | some h => !e.elastic || h.admitted
    if !ready then
      let s := if e.elastic then
        (s.flagCtx x fRecvUnadmitted).modCoreOf x p (fun k => k.chanFault 1 ep c.step) else s
      (s, lines)
    else
      let cur := e.cursor + w
      let put := fun (s : State) (e : RecvEp) => s.modCoreOf x p (fun k => { k with recvEps := k.recvEps.set {} ep e })
      if cur < e.esize then (put s { e with cursor := cur }, lines)
      else
        let e' := { e with cursor := 0, subs := e.subs.set {} i { q with entries := q.entries.tail },
                           rdptr := if e.kind = 2 then (e.rdptr + 1) % Nat.max 1 e.senders else e.rdptr }
        let s := put s e'
        if e.elastic then (s.returnCredit x p ep i, lines)
        else match c.img.locked.find? (fun l => l.dst = p && l.rep = ep && (l.kind ≠ 2 || l.index = i)) with
          | some l => (s.modCtx x (fun c => { c with flights := c.flights ++
              [{ due := c.step + c.coreT l.src p + 1, step := c.step, src := p, j := 0, cargo := .credit l.src l.sep }] }), lines)
          | none => (s, lines)

/-! ### Taps and the sequencer -/

/-- At the end of the step each descriptor that an enabled tap with INC names advances once, and TAPSETs are applied
after (03 R82). -/
def Core.tapsStep (c : Core) : Core :=
  let inc := ((c.work.reads ++ c.work.writes).filter (·.inc)).map (·.td)
  let taps := (inc.foldr insertNat []).foldl (fun t d => t.modify {} d TapDesc.advance) c.taps
  { c with taps := c.work.tapsets.foldl (fun t q => t.modify {} q.1 (fun d => d.setField q.2.1 q.2.2)) taps }

/-- The next bundle (03 R67, R69, R72). Answers whether the arm was cut (DEDUCED, log 136). -/
def Core.seqStep (c : Core) : Core × Bool :=
  let q := c.seq
  let next := match q.target with | some t => t | none => (q.baddr + 1) % 1024
  let moved : Seq := if 0 < q.repLeft then { q with repLeft := q.repLeft - 1, target := none }
    else { q with baddr := next, started := false, target := none }
  let ended := q.armEnded || c.work.armEnd
  if q.inArm then
    if q.armLeft ≤ 1 then
      ({ c with seq := { q with baddr := q.armJoin, repLeft := 0, started := false, inArm := false, armLeft := 0,
                                armEnded := false, target := none } }, !ended)
    else if ended then ({ c with seq := { q with armLeft := q.armLeft - 1, armEnded := true, target := none } }, false)
    else ({ c with seq := { moved with armLeft := q.armLeft - 1 } }, false)
  else match c.work.newArm with
    | some (len, join, first) =>
      ({ c with seq := { q with baddr := first, repLeft := 0, started := false, target := none, inArm := true,
                                armLeft := len, armJoin := join, armEnded := false } }, false)
    | none => ({ c with seq := moved }, false)

end Sys2Proof.Machine
end

