-- ==== Sys2Proof/Machine/ArrayUnits.lean ====
section
/-! DEFINITION. The matrix arrays at one step: feeding, entries and their tiles, the accumulation chain, background
load and swap (04 R96-R116). -/
namespace Sys2Proof.Machine
open Sys2Proof

/-- The number of format `AFMT`s: 13-15 are reserved (03 R84). -/
def fmtValid (k : Nat) : Bool := decide (k < 13)

/-- Bytes of consecutive operand-buffer slots from `o` on, slot numbers modulo 16 (04 R104). -/
def Core.slots (c : Core) (o n : Nat) : Nat :=
  joinBits 512 ((List.range n).map (fun i => (c.opbuf.get 0 ((o + i) % 16)).toNat))

/-- A streaming vector: its elements and, per 32 elements, the scale exponents. -/
structure Stream where
  elems : List Elem
  scales : List (Option Int)
  deriving DecidableEq, Repr

/-- Element types' selector of an MX scale line (04 R102) (DEDUCED, log 25). -/
def scaleSel (k scale : Nat) : Bool := if k = 10 then bit scale 504 else if k = 11 then bit scale 505 else false

/-- The streaming vectors of an entry, and the selector its scale line gives (04 R104). -/
def Core.streams (c : Core) (k : Nat) (wide : Bool) (obuf : Nat) : List Stream × Bool :=
  let n := if wide then 128 else 64
  let cls := fmtClass k
  let dataSlots := if cls = 2 then n / 32 else n / 64
  let data := c.slots obuf dataSlots
  let scale := (c.opbuf.get 0 ((obuf + dataSlots) % 16)).toNat
  let sel := scaleSel k scale
  let vec := fun (v : Nat) =>
    let el := (List.range n).map (fun i =>
      decodeElem k sel (if cls = 0 then fld data (8 * i + 4 * v) 4 else if cls = 2 then fld data (16 * i) 16
        else fld data (8 * i) (fmtBits k)))
    let sc := (List.range (n / 32)).map (fun q =>
      if fmtIsMx k then scaleExp (fld scale (8 * (v * (n / 32) + q)) 8) else some 0)
    ({ elems := el, scales := sc } : Stream)
  ((List.range (if cls = 0 then 2 else 1)).map vec, sel)

/-- Cell (r, c) of a set: 16 bits (04 R96). -/
def RegSet.cell (s : RegSet) (r c : Nat) : Nat := fld (s.rows.get 0 r).toNat (16 * c) 16

/-- What one array adds to the tile of output `o` (a column in deep form, a wide row in wide form) from one
streaming vector (04 R98, R99; 05 R129). Of a ROWEXP pair an entry takes the value for its own element type, E3M2 or
E5M2 the second, also where its format is not an MX one and no scale line selects (DEDUCED, log 25). -/
def RegSet.part (s : RegSet) (k : Nat) (sel wide : Bool) (v : Stream) (o : Nat) : Part :=
  let n := if wide then 128 else 64
  let at' := fun i => if wide then (4 * o + i / 32, i % 32) else (i, o)
  let side := fun i =>
    if fmtIsMx k then scaleExp (fld s.side.toNat (8 * (if wide then 4 * o + i / 32 else 32 * (i / 32) + o)) 8)
    else some 0
  let prods := (List.range n).map (fun i =>
    let rc := at' i
    { x := v.elems.getD i (decodeElem k sel 0), cx := v.scales.getD (i / 32) (some 0),
      y := decodeElem k sel (fld (s.cell rc.1 rc.2) 0 (fmtBits k)), cy := side i : Prod' })
  let top := fun (l : List (Option Int)) => match l.filterMap id with
    | [] => 0
    | a :: r => r.foldl max a
  let rowexp := (List.range 4).map (fun q =>
    let p := s.rowexp.get (0, 0) (4 * o + q)
    if sel || k = 2 || k = 4 then p.2 else p.1)
  let ew := if fmtIsInt k then fmtEmin k sel
    else if wide then (rowexp.foldl max (rowexp.headD 0))
    else ((fld s.cexp.toNat (8 * o) 8 : Nat) : Int) - 128
  { prods, ea := maxExp k sel v.elems, sa := top v.scales, ew,
    sw := top ((List.range (n / 32)).map (fun q => side (32 * q))) }

/-- An entry that takes place on array `k` at this step: its effective format and form, ACC, and its parts per
vector and output. -/
structure EntryNow where
  k : Nat
  fmt : Nat
  wide : Bool
  acc : Nat
  parts : List (List Part)
  deriving DecidableEq, Repr

/-- The fields of array `k`'s actions of the step, merged over the rows that named it. -/
def Core.arrayReq (c : Core) (k : Nat) : Option ArrayReq :=
  (c.work.arrays.filter (fun r => r.k = k)).foldl (fun acc r => match acc with
    | none => some r
    | some a => some { a with enter := a.enter || r.enter, shift := a.shift || r.shift, swap := a.swap || r.swap
                              enterBad := a.enterBad || r.enterBad, shiftBad := a.shiftBad || r.shiftBad })
    none

/-- Effective OBUF, AFMT and FORM come from ARRAY0 under broadcast (04 R105). -/
def effective (r : ArrayReq) : Nat :=
  let feed := if r.k < 2 then arrSplit (arrField r.f 0) else arrSplit (arrField r.f 2)
  if feed then arrField r.f r.k else arrField r.f 0

/-- The entries that take place: ENTER set, no open BF16-class interval, a format that is not reserved (04 R101). -/
def Core.entries (c : Core) (n : Nat) : List EntryNow :=
  (List.range 4).filterMap (fun k => match c.arrayReq k with
    | none => none
    | some r =>
      let w := effective r
      let u := c.arrays.get {} k
      if !r.enter || decide (n < u.busyTo) || !fmtValid (arrFmt w) then none
      else
        let st := c.streams (arrFmt w) (arrWide w) (arrObuf w)
        some { k, fmt := arrFmt w, wide := arrWide w, acc := arrAcc (arrField r.f k),
               parts := st.1.map (fun v => (List.range (if arrWide w then 16 else 32)).map
                 (fun o => u.front.part (arrFmt w) st.2 (arrWide w) v o)) })

/-- The arrays of the mismatches that the step's entries and SHIFTs read (04 R121). A SHIFT that shares its step with a
SWAP reads its slot whatever the count was (R109). -/
def Core.parityArrays (c : Core) (n : Nat) : List Nat :=
  (List.range 4).flatMap (fun k => match c.arrayReq k with
    | none => []
    | some r =>
      let entry := r.enterBad && (c.entries n).any (fun e => e.k = k)
      let shift := r.shiftBad && fmtValid (arrFmt (arrField r.f k)) && (r.swap || decide ((c.arrays.get {} k).shiftCount < 64))
      (if entry then [k] else []) ++ (if shift then [k] else []))

/-- The chain a0 to a3 (04 R113, R114): the partial passed on, and the tiles placed. -/
def chainStep (e : EntryNow) (carry : Option EntryNow) : Option EntryNow × Option (List (List Part)) :=
  let acc := if e.wide && e.acc = 2 then 3 else e.acc
  let inc := match carry with
    | none => none
    | some p => if p.k + 1 = e.k ∧ p.wide = e.wide ∧ fmtClass p.fmt = fmtClass e.fmt then some p.parts else none
  let joined := match inc with
    | none => e.parts
    | some q => List.zipWith (List.zipWith Part.join) q e.parts
  match acc with
  | 0 => (none, some e.parts)
  | 1 => (some e, none)
  | 2 => (some { e with parts := joined }, none)
  | _ => (none, some joined)

/-- Drain lines of an output (04 R112): results of vector A, then of vector B. -/
def drainLines (k : Nat) (wide : Bool) (cls : Nat) (tiles : List (List Part)) : List (Nat × Line) :=
  let res := tiles.map (fun l => l.map Part.result)
  let line := fun (l : List Nat) => (BitVec.ofNat 512 (joinBits 32 l) : Line)
  let a := res.getD 0 []
  let b := res.getD 1 []
  if wide then (4 * k, line (a.take 16)) :: (if cls = 0 then [(4 * k + 1, line (b.take 16))] else [])
  else [(4 * k, line (a.take 16)), (4 * k + 1, line ((a.drop 16).take 16))] ++
    (if cls = 0 then [(4 * k + 2, line (b.take 16)), (4 * k + 3, line ((b.drop 16).take 16))] else [])

/-- The step's entries on their way; an entry whose partial passes on places no line. -/
def chainOutputs (n : Nat) : List EntryNow → Option EntryNow → List DrainRes
  | [], _ => []
  | e :: r, carry =>
    let (c, out) := chainStep e carry
    [{ k := e.k, wide := e.wide, due := n + (if e.wide then 24 else 72), issued := n,
       lines := (match out with
         | none => []
         | some t => drainLines e.k e.wide (fmtClass e.fmt) t) : DrainRes }] ++ chainOutputs n r c

/-- A row of the back set from slot SBUF, with its side piece and ROWEXP (04 R106, R107). -/
def ArrayUnit.shiftIn (u : ArrayUnit) (c : Core) (k w : Nat) : ArrayUnit :=
  let fmt := arrFmt w
  if !fmtValid fmt || decide (64 ≤ u.shiftCount) then u
  else
    let row := u.shiftCount
    let s := (c.opbuf.get 0 (arrSbuf w)).toNat
    let cells := (List.range 32).map (fun q =>
      match fmtClass fmt with
      | 0 => fld s (128 * k + 4 * q) 4
      | 1 => fld s (256 * (k % 2) + 8 * q) (fmtBits fmt)
      | _ => fld s (16 * q) 16)
    let exps := fun sel => maxExp fmt sel (cells.map (decodeElem fmt sel))
    let b := u.back
    let b := { b with rows := b.rows.set 0 row (BitVec.ofNat 512 (joinBits 16 cells)),
                      rowexp := b.rowexp.set (0, 0) row (exps false, exps (fmt = 10 || fmt = 11)) }
    let piece := fld (c.opbuf.get 0 ((arrSbuf w + 1) % 16)).toNat (128 * k) 128
    let b := if row < 2 then { b with cexp := bvp b.cexp (128 * row) 128 piece }
      else if row < 6 then { b with side := bvp b.side (128 * (row - 2)) 128 piece }
      else b
    { u with back := b, shiftCount := row + 1 }

/-- SWAP (04 R108). -/
def ArrayUnit.swap (u : ArrayUnit) : ArrayUnit :=
  { u with front := u.back, back := u.front, shiftCount := 0, frontSet := !u.frontSet }

/-- The array actions of the step (04 R109): entries use the old front set, then SWAP, then SHIFT. -/
def Core.arrayStep (c : Core) (n : Nat) : Core :=
  let es := c.entries n
  let c' := { c with drainIn := c.drainIn ++ chainOutputs n es none }
  (List.range 4).foldl (fun a k => match c.arrayReq k with
    | none => a
    | some r =>
      let u := c.arrays.get {} k
      let u := if es.any (fun e => e.k = k && fmtClass e.fmt = 2) then { u with busyTo := n + 4 } else u
      let u := if r.swap then u.swap else u
      let u := if r.shift then u.shiftIn c k (arrField r.f k) else u
      { a with arrays := a.arrays.set {} k u }) c'

end Sys2Proof.Machine
end

