-- ==== Sys2Proof/Machine/Scalar.lean ====
section
/-! DEFINITION. The scalar operations (03 R75-R79, R88). Each reads its operands as they stand at the start of the
step (R64) and puts its result in flight to land at the step R88 gives. -/
namespace Sys2Proof.Machine
open Sys2Proof

/-- The step at which the fields of core `c` act. -/
def State.stepOf (s : State) (c : CoreRef) : Nat := (s.ctx c.ctx).step

/-- Put a scalar result in flight. -/
def Core.issue (k : Core) (n lat : Nat) (d : SDest) (v : W64) : Core :=
  { k with pipe := k.pipe ++ [{ due := n + lat, issued := n, red := false, dest := d, val := v }] }

/-- An operation on sa and B, of latency `lat`. -/
def State.scalarOp (s : State) (c : CoreRef) (f : ScalarField) (lat : Nat) (op : W64 → W64 → W64) : State :=
  let n := s.stepOf c
  s.onCore c (fun k =>
    let v := k.at' n
    k.issue n lat (.sr f.sd.toNat) (op (v.sra f.sa.toNat) (v.operandB f)))

/-- An operation whose result is a function of the core at the start of the step. -/
def State.scalarFrom (s : State) (c : CoreRef) (f : ScalarField) (lat : Nat) (val : Core → W64) : State :=
  let n := s.stepOf c
  s.onCore c (fun k => k.issue n lat (.sr f.sd.toNat) (val (k.at' n)))

def execAdd (c : CoreRef) (f : ScalarField) (s : State) : Out := .next (s.scalarOp c f 1 (fun a b => a + b))
def execSub (c : CoreRef) (f : ScalarField) (s : State) : Out := .next (s.scalarOp c f 1 (fun a b => a - b))
def execMul (c : CoreRef) (f : ScalarField) (s : State) : Out := .next (s.scalarOp c f 2 (fun a b => a * b))
def execAnd (c : CoreRef) (f : ScalarField) (s : State) : Out := .next (s.scalarOp c f 1 (fun a b => a &&& b))
def execOr (c : CoreRef) (f : ScalarField) (s : State) : Out := .next (s.scalarOp c f 1 (fun a b => a ||| b))
def execXor (c : CoreRef) (f : ScalarField) (s : State) : Out := .next (s.scalarOp c f 1 (fun a b => a ^^^ b))
def execShl (c : CoreRef) (f : ScalarField) (s : State) : Out :=
  .next (s.scalarOp c f 1 (fun a b => a <<< (b.toNat % 64)))
def execShr (c : CoreRef) (f : ScalarField) (s : State) : Out :=
  .next (s.scalarOp c f 1 (fun a b => a >>> (b.toNat % 64)))
def execSar (c : CoreRef) (f : ScalarField) (s : State) : Out :=
  .next (s.scalarOp c f 1 (fun a b => a.sshiftRight (b.toNat % 64)))
def execMin (c : CoreRef) (f : ScalarField) (s : State) : Out :=
  .next (s.scalarOp c f 1 (fun a b => if a.slt b then a else b))
def execMax (c : CoreRef) (f : ScalarField) (s : State) : Out :=
  .next (s.scalarOp c f 1 (fun a b => if a.slt b then b else a))
def execMinu (c : CoreRef) (f : ScalarField) (s : State) : Out :=
  .next (s.scalarOp c f 1 (fun a b => if a.ult b then a else b))
def execMaxu (c : CoreRef) (f : ScalarField) (s : State) : Out :=
  .next (s.scalarOp c f 1 (fun a b => if a.ult b then b else a))
def execSlt (c : CoreRef) (f : ScalarField) (s : State) : Out :=
  .next (s.scalarOp c f 1 (fun a b => if a.slt b then 1 else 0))
def execSltu (c : CoreRef) (f : ScalarField) (s : State) : Out :=
  .next (s.scalarOp c f 1 (fun a b => if a.ult b then 1 else 0))
def execSeq (c : CoreRef) (f : ScalarField) (s : State) : Out :=
  .next (s.scalarOp c f 1 (fun a b => if a = b then 1 else 0))

/-- CSEL: sa if sr[SB] is not 0, else sd as it stood; BIMM is ignored (R76). -/
def execCsel (c : CoreRef) (f : ScalarField) (s : State) : Out :=
  .next (s.scalarFrom c f 1 (fun k => if k.sra f.sb.toNat ≠ 0 then k.sra f.sa.toNat else k.sra f.sd.toNat))

def execMovi (c : CoreRef) (f : ScalarField) (s : State) : Out :=
  .next (s.scalarFrom c f 1 (fun _ => f.imm.signExtend 64))

/-- MOVHI: IMM in the high half over the low half of sd as it stood (R76). -/
def execMovhi (c : CoreRef) (f : ScalarField) (s : State) : Out :=
  .next (s.scalarFrom c f 1 (fun k => f.imm ++ (k.sra f.sd.toNat).setWidth 32))

def execRdpar (c : CoreRef) (f : ScalarField) (s : State) : Out :=
  .next (s.scalarFrom c f 1 (fun k => k.par.get 0 (bvf f.sx 0 6)))

def execWrpar (c : CoreRef) (f : ScalarField) (s : State) : Out :=
  let n := s.stepOf c
  .next (s.onCore c (fun k => k.issue n 1 (.par (bvf f.sx 0 6)) ((k.at' n).sra f.sa.toNat)))

def execRdstep (c : CoreRef) (f : ScalarField) (s : State) : Out :=
  let n := s.stepOf c
  .next (s.scalarFrom c f 1 (fun _ => BitVec.ofNat 64 (n % 2 ^ 48)))

def execRdorbit (c : CoreRef) (f : ScalarField) (s : State) : Out :=
  let o := (s.ctx c.ctx).orbit
  .next (s.scalarFrom c f 1 (fun _ => BitVec.ofNat 64 o))

def execRdpci (c : CoreRef) (f : ScalarField) (s : State) : Out :=
  .next (s.scalarFrom c f 1 (fun _ => BitVec.ofNat 64 c.core))

def execRdncore (c : CoreRef) (f : ScalarField) (s : State) : Out :=
  let k := (s.ctx c.ctx).img.cores
  .next (s.scalarFrom c f 1 (fun _ => BitVec.ofNat 64 k))

/-! ### Semaphores and broken state (10 R246, R265; 01 R28) -/

/-- What the channels bring at the start of the step has arrived: the view a read of the step has (10 R247, R259). -/
def State.chanView (s : State) (x : Nat) : State :=
  let s := s.takeFlights x Flight.isChanLine (fun _ s f => s.arriveChannel x f)
  let s := s.takeFlights x Flight.isHeader (fun _ s f => s.arriveChannel x f)
  let s := s.takeFlights x Flight.isCredit (fun _ s f => s.arriveChannel x f)
  s.mapCores x (fun _ c => c.landSems)

/-- Whether an elastic path changes semaphore `n`: it is bound to an elastic endpoint (10 R248). -/
def Core.elasticSem (c : Core) (n : Nat) : Bool :=
  c.sendEps.any (fun e => e.2.state ≠ .unbound && e.2.elastic && e.2.csem = n) ||
    c.recvEps.any (fun e => e.2.state ≠ .unbound && e.2.elastic && e.2.asem = n)

/-- RDSEM (R76): BRK in bit 31 and VALUE below it; 0 beyond sem47. A read at a step at which no rendezvous has just
listed an elastic semaphore is SEM_UNADMITTED, and one that finds BRK set is BROKEN_SEEN (01 R28). -/
def execRdsem (c : CoreRef) (f : ScalarField) (s : State) : Out :=
  let i := bvf f.sx 0 6
  let n := s.stepOf c
  let k := (s.chanView c.ctx).core c
  let q : Sem := if i < 48 then k.sems.get {} i else {}
  let t := s.scalarFrom c f 1 (fun _ => BitVec.ofNat 64 (q.value + (if q.brk then 2 ^ 31 else 0)))
  if s.live c then
    let exposed := decide (i < 48) && k.elasticSem i && !(s.ctx c.ctx).listed.contains (n, c.core, i)
    let t := if exposed then
      (t.flagCtx c.ctx fSemUnadmitted).modCoreOf c.ctx c.core (fun k => k.chanFault 2 i n) else t
    .next (if q.brk then t.brokenSeen c.ctx c.core i n else t)
  else .next t

/-- The semaphore and the broken state of an endpoint: SX[4] selects send (1) or receive (0). -/
def Core.endpointBroken (k : Core) (send : Bool) (e : Nat) : Bool × Nat :=
  if send then
    let q := k.sendEps.get {} e
    (q.elastic && q.state = .broken, q.csem)
  else
    let q := k.recvEps.get {} e
    (q.elastic && q.state = .broken, q.asem)

/-- RDBRK (R76, R28; 10 R265): 1 if the endpoint is broken; an unbound endpoint and one of a locked connection
return 0. -/
def execRdbrk (c : CoreRef) (f : ScalarField) (s : State) : Out :=
  let b := (s.core c).endpointBroken (bit f.sx.toNat 4) (bvf f.sx 0 4)
  let t := s.scalarFrom c f 1 (fun _ => if b.1 then 1 else 0)
  .next (if s.live c && b.1 then t.brokenSeen c.ctx c.core b.2 (s.stepOf c) else t)

/-! ### The wire, loop counters, taps, the Tail generator -/

/-- REDUCE (R79): code 7 contributes nothing. -/
def execReduce (c : CoreRef) (f : ScalarField) (s : State) : Out :=
  let n := s.stepOf c
  let v := ((s.core c).at' n).sra f.sa.toNat
  let t := s.onCore c id
  .next (if s.live c && decide (bvf f.sx 2 3 ≠ 7) then
    t.modCtx c.ctx (fun x => { x with wireIn := x.wireIn ++ [⟨bvf f.sx 0 2, c.core, bvf f.sx 2 3, v⟩] })
  else t)

def execRdwire (c : CoreRef) (f : ScalarField) (s : State) : Out :=
  let v := (s.ctx c.ctx).wireAt (s.stepOf c) (bvf f.sx 0 2)
  .next (s.scalarFrom c f 1 (fun _ => v))

/-- LCSET (R70, R76). -/
def execLcset (c : CoreRef) (f : ScalarField) (s : State) : Out :=
  let n := s.stepOf c
  .next (s.onCore c (fun k => k.issue n 1 (.lc (bvf f.sx 0 2))
    (BitVec.ofNat 64 (if bit f.sx.toNat 2 then bvf ((k.at' n).par.get 0 (bvf f.imm 0 6)) 0 16 else bvf f.imm 0 16))))

/-- TAPSET (R76, R82): applied at the end of the step, after the increments. -/
def execTapset (c : CoreRef) (f : ScalarField) (s : State) : Out :=
  let n := s.stepOf c
  .next (s.onCore c (fun k => { k with work := { k.work with
    tapsets := k.work.tapsets ++ [(bvf f.sx 0 5, bvf f.imm 0 3, (k.at' n).sra f.sa.toNat)] } }))

/-- TAIL (R78; 05 R143). -/
def execTail (c : CoreRef) (f : ScalarField) (s : State) : Out :=
  let o := BitVec.ofNat 64 (s.ctx c.ctx).orbit
  .next (s.scalarFrom c f 4 (fun k => (Machine.tail (k.par.get 0 (bvf f.sx 0 6)) o (bvf (k.sra f.sa.toNat) 0 48)
    (bvf (k.sra f.sb.toNat) 0 16) (bvf f.imm 0 8)).setWidth 64))

end Sys2Proof.Machine
end

