-- ==== Sys2Proof/Machine/VecOps.lean ====
section
/-! DEFINITION. What every vector operation shares: operand B, masks, the parts a conversion moves, the issue of a
result, and the lane functions of the floating-point operations (06 R148-R164). -/
namespace Sys2Proof.Machine
open Sys2Proof

/-! ### Operands and masks -/

/-- Mask register `n`: k0 reads as all ones (06 R149). -/
def Core.maskReg (k : Core) (n : Nat) : Mask := if n = 0 then BitVec.allOnes 256 else k.masks.get 0 n

/-- The operands of a vector operation, as the start of the step finds them: registers VA, B, VC, the mask VM, and
the core. -/
structure VecArgs where
  k : Core
  a : VReg
  b : VReg
  c : VReg
  m : Mask
  deriving DecidableEq, Repr

/-- A value in every lane. -/
def splat (w : Nat) : VReg := vregOf (List.replicate 256 w)

def Core.vecArgs (k : Core) (f : VectorField) : VecArgs :=
  { k, a := k.vregs.get 0 f.va.toNat,
    b := if f.vsel then splat (bvf (k.sra f.vs.toNat) 0 32) else k.vregs.get 0 f.vb.toNat,
    c := k.vregs.get 0 f.vc.toNat, m := k.maskReg f.vm.toNat }

/-- A written register: its number (64 + n is mask n), the bits written, the data. -/
structure VecWrite where
  reg : Nat
  en : VReg
  data : VReg
  deriving DecidableEq, Repr

/-- The lanes an operation writes to VD under its mask (R154). -/
def lanesOut (f : VectorField) (m : Mask) (v : List Nat) : VecWrite :=
  { reg := f.vd.toNat,
    en := vregOf ((List.range 256).map (fun l => if bit m.toNat l || f.mz then 2 ^ 32 - 1 else 0)),
    data := vregOf ((List.range 256).map (fun l => if bit m.toNat l then v.getD l 0 else 0)) }

/-- The bits an operation writes to k[VD[2:0]] under its mask; writes to k0 are ignored (R149, R154). -/
def maskOut (f : VectorField) (m : Mask) (v : Nat) : List VecWrite :=
  let d := bvf f.vd 0 3
  if d = 0 then []
  else [{ reg := 64 + d,
          en := BitVec.ofNat 8192 (if f.mz then 2 ^ 256 - 1 else m.toNat),
          data := BitVec.ofNat 8192 (v &&& m.toNat) }]

/-- The vector registers an operation reads, by operand (0 VA, 1 VB, 2 VC); VB only where VSEL is 0 (R152). -/
def usesA (f : VectorField) : List (Nat × Nat) := [(0, f.va.toNat)]
def usesB (f : VectorField) : List (Nat × Nat) := if f.vsel then [] else [(1, f.vb.toNat)]
def usesC (f : VectorField) : List (Nat × Nat) := [(2, f.vc.toNat)]

/-- A use of vector registers that the issue range checker sees, where it is on and the bundle is not exempt
(07 R182, R183). -/
def State.ircSees (s : State) (c : CoreRef) : Bool :=
  (s.ctx c.ctx).ircOn && !(s.ctx c.ctx).img.exempt c.core (s.core c).seq.baddr

/-- Issue a vector operation: its writes are in flight for `lat` steps, and it makes its destinations unlanded.
`ok` is false for a VFMT that the operation does not take, which empties it (R152); a VFMT of 10-15 is reserved for
every operation (DEDUCED, log 29). -/
def State.vecOp (s : State) (c : CoreRef) (f : VectorField) (ok : Bool) (lat : Nat) (uses : List (Nat × Nat))
    (res : VecArgs → List VecWrite) : State :=
  let n := s.stepOf c
  if !ok || decide (9 < f.vfmt.toNat) then s.onCore c id
  else
    let sees := s.ircSees c
    let on := (s.ctx c.ctx).ircOn
    s.onCore c (fun k =>
      let out := res ((k.at' n).vecArgs f)
      let ovl := if sees then uses.flatMap (fun u => k.vecOverlap n u.2 u.1) else []
      let rs : List VecRange := (out.filter (fun w => decide (w.reg < 64))).map (fun w =>
        { reg := w.reg, issued := n, upto := n + lat - 1, load := false, baddr := k.seq.baddr })
      { k with vpipe := k.vpipe ++ out.map (fun w =>
                 ({ due := n + lat, issued := n, load := false, reg := w.reg, en := w.en, data := w.data } : VecRes)),
               ranges := if on then k.ranges ++ rs else k.ranges,
               work := { k.work with overlaps := k.work.overlaps ++ ovl } })

/-- A lane operation on VA, B and VC. -/
def State.vecLanes (s : State) (c : CoreRef) (f : VectorField) (ok : Bool) (lat : Nat) (uses : List (Nat × Nat))
    (op : Nat → Nat → Nat → Nat) : State :=
  s.vecOp c f ok lat uses (fun g =>
    [lanesOut f g.m ((List.range 256).map (fun l => op (laneOf g.a l) (laneOf g.b l) (laneOf g.c l)))])

/-- An operation on FP32 lanes, or on the two BF16 elements of each lane (R156). -/
def State.vecFloat (s : State) (c : CoreRef) (f : VectorField) (lat : Nat) (uses : List (Nat × Nat))
    (op : Fmt → Nat → Nat → Nat → Nat) : State :=
  if f.vfmt = 1 then
    s.vecLanes c f true lat uses (fun a b d =>
      op bf16 (fld a 0 16) (fld b 0 16) (fld d 0 16) + op bf16 (fld a 16 16) (fld b 16 16) (fld d 16 16) * 65536)
  else s.vecLanes c f (f.vfmt = 0) lat uses (op fp32)

/-- A compare into k[VD[2:0]]. -/
def State.vecCompare (s : State) (c : CoreRef) (f : VectorField) (ok : Bool) (uses : List (Nat × Nat))
    (op : Nat → Nat → Bool) : State :=
  s.vecOp c f ok 2 uses (fun g =>
    maskOut f g.m (joinBits 1 ((List.range 256).map (fun l => b2n (op (laneOf g.a l) (laneOf g.b l))))))

/-- A mask operation on k[VA[2:0]] and k[VB[2:0]]. -/
def State.vecMask (s : State) (c : CoreRef) (f : VectorField) (op : Mask → Mask → Mask) : State :=
  s.vecOp c f true 2 [] (fun g =>
    maskOut f g.m (op (g.k.maskReg (bvf f.va 0 3)) (g.k.maskReg (bvf f.vb 0 3))).toNat)

/-- A reduction of VA to sr[VS] (R164): `m` are the unmasked lanes. -/
def State.vecReduce (s : State) (c : CoreRef) (f : VectorField) (ok : Bool) (uses : List (Nat × Nat))
    (val : VecArgs → List (Bool × Nat) → W64) : State :=
  let n := s.stepOf c
  if !ok || decide (9 < f.vfmt.toNat) then s.onCore c id
  else
    let sees := s.ircSees c
    s.onCore c (fun k =>
      let g := (k.at' n).vecArgs f
      let lanes := (List.range 256).map (fun l => (bit g.m.toNat l, laneOf g.a l))
      let ovl := if sees then uses.flatMap (fun u => k.vecOverlap n u.2 u.1) else []
      { k with pipe := k.pipe ++ [{ due := n + 8, issued := n, red := true, dest := .sr f.vs.toNat,
                                    val := val g lanes }],
               work := { k.work with overlaps := k.work.overlaps ++ ovl } })

/-! ### Lane functions on floating-point codes (R156-R159) -/

def Fmt.isNan (f : Fmt) (w : Nat) : Bool := (f.decode w).cls = 2
def Fmt.mag (f : Fmt) (w : Nat) : Nat := fld w 0 (f.eb + f.mb)
def Fmt.sign (f : Fmt) (w : Nat) : Bool := bit w (f.eb + f.mb)

/-- The order of R157: -0 below +0. -/
def Fmt.orderKey (f : Fmt) (w : Nat) : Int := if f.sign w then -(f.mag w : Int) - 1 else f.mag w

/-- The order of the compares: -0 equals +0. -/
def Fmt.cmpKey (f : Fmt) (w : Nat) : Int := if f.sign w then -(f.mag w : Int) else f.mag w

def fMin (f : Fmt) (a b : Nat) : Nat :=
  if f.isNan a || f.isNan b then f.nan else if f.orderKey a < f.orderKey b then a else b
def fMax (f : Fmt) (a b : Nat) : Nat :=
  if f.isNan a || f.isNan b then f.nan else if f.orderKey a < f.orderKey b then b else a

/-- Sign operations: a NaN in `a` gives the NaN pattern (R158). -/
def fSign (f : Fmt) (a : Nat) (neg : Bool) : Nat := if f.isNan a then f.nan else f.withSign neg (f.mag a)

def Elem.negate (x : Elem) : Elem := { x with neg := !x.neg }

/-- FRINT (R158). -/
def fRint (a : Nat) : Nat :=
  let x := f32 a
  if x.cls = 2 then qnan32 else if x.cls = 1 then a
  else let d := gridDiv x.m x.e 0; fp32.round rne x.neg (rne d.1 d.2.1 d.2.2) 0

/-- FSCALE (R158): beyond 400 either way every finite value has already overflowed or vanished. -/
def fScale (a b : Nat) : Nat :=
  let x := f32 a
  if x.cls = 2 then qnan32 else if x.cls = 1 then a
  else fp32.round rne x.neg x.m (x.e + max (-400) (min 400 (sInt 32 b)))

/-- An integer as 32 bits. -/
def i32 (z : Int) : Nat := (z % 4294967296).toNat

/-- FEXP (R158). -/
def fExp (a : Nat) : Nat :=
  let x := f32 a
  if x.cls ≠ 0 then 128 else if x.m = 0 then i32 (-150) else i32 ((Nat.log2 x.m : Int) + x.e)

/-- FMANT (R158). -/
def fMant (a : Nat) : Nat :=
  let x := f32 a
  if x.cls = 2 then qnan32 else if x.cls = 1 then fp32.infCode else if x.m = 0 then 0
  else fp32.round rne false x.m (-(Nat.log2 x.m : Int))

/-- The class number of a value, the bit of VIMM[8:0] that selects it (R158). -/
def fClass (a : Nat) : Nat :=
  let x := f32 a
  if x.cls = 2 then 8
  else if x.cls = 1 then (if x.neg then 0 else 7)
  else if x.m = 0 then (if x.neg then 3 else 4)
  else if fld a 23 8 = 0 then (if x.neg then 2 else 5)
  else (if x.neg then 1 else 6)

/-- An element's value as FP32: exact, or rounded once where a scale takes part (R160, R162). -/
def Elem.toF32 (x : Elem) : Nat :=
  if x.cls = 2 then qnan32 else if x.cls = 1 then fp32.withSign x.neg fp32.infCode
  else fp32.round rne x.neg x.m x.e

/-! ### Conversions (R160-R162) -/

/-- Bit place and width of element `e` in its part (R160). -/
def partPlace (vfmt vimm e : Nat) : Nat × Nat :=
  if vfmt = 1 ∨ vfmt = 2 then (8 * (512 * (vimm % 2) + 2 * e), 16)
  else if vfmt = 7 ∨ vfmt = 9 then
    if bit vimm 3 then (8 * (256 * fld vimm 1 2 + e) + 4 * (vimm % 2), 4)
    else (8 * (128 * (vimm % 8) + e / 2) + 4 * (e % 2), 4)
  else (8 * (256 * (vimm % 4) + e), 8)

/-- An FP32 value converted to format VFMT under R135. -/
def toNarrow (vfmt : Nat) (up : Nat → Nat → Nat → Nat) (w : Nat) : Nat :=
  let x := f32 w
  match vfmt with
  | 1 => bf16.convert up x
  | 2 => fp16.convert up x
  | 3 => e4m3.convert up x
  | 4 => e5m2.convert up x
  | 5 => e2m3.convert up x
  | 6 => e3m2.convert up x
  | 7 => e2m1.convert up x
  | 8 => toIntN 8 up x
  | _ => toIntN 4 up x

/-- An element of format VFMT; `mx` makes code 8 the MXINT8 element (R153). -/
def narrowElem (mx : Bool) (vfmt w : Nat) : Elem :=
  match vfmt with
  | 1 => bf16.decode w
  | 2 => fp16.decode w
  | 3 => e4m3.decode w
  | 4 => e5m2.decode w
  | 5 => e2m3.decode w
  | 6 => e3m2.decode w
  | 7 => e2m1.decode w
  | 8 => if mx then intElem 8 (-6) 1 w else intElem 8 0 7 w
  | _ => intElem 4 0 3 w

/-- MX format number and selector of an element type VFMT 3-8 (R162). -/
def mxKind (vfmt : Nat) : Nat × Bool :=
  match vfmt with
  | 3 => (11, false)
  | 4 => (11, true)
  | 5 => (10, false)
  | 6 => (10, true)
  | 7 => (9, false)
  | _ => (12, false)

/-- Rounding of a conversion: stochastic with VIMM[4], draw `e` on lane `e` (R161). -/
def cvtRound (k : Core) (orbit : W64) (f : VectorField) (e : Nat) : Nat → Nat → Nat → Nat :=
  let im := f.vimm.toNat
  if bit im 4 then
    let r := Machine.tail (k.par.get 0 (fld im 5 6)) orbit (bvf (k.sra f.vs.toNat) 0 48)
      (bvf (k.sra (bvf f.vb 0 5)) 0 16) e
    fun q rem sh => stochUp q rem sh r.toNat
  else rne

/-- The elements a conversion writes to its part of VD under the mask (R154, R160). -/
def partOut (f : VectorField) (m : Mask) (el : List Nat) : VecWrite :=
  let im := f.vimm.toNat
  let acc := (List.range 256).foldl (fun (acc : Nat × Nat) e =>
    let on := bit m.toNat e
    if on || f.mz then
      let p := partPlace f.vfmt.toNat im e
      (acc.1 ||| ((2 ^ p.2 - 1) <<< p.1), if on then acc.2 ||| ((el.getD e 0 % 2 ^ p.2) <<< p.1) else acc.2)
    else acc) (0, 0)
  { reg := f.vd.toNat, en := BitVec.ofNat 8192 acc.1, data := BitVec.ofNat 8192 acc.2 }

/-- The eight blocks of CVTMX: scale bytes and elements; masked lanes count as zero and so take no part (R162). -/
def mxBlocks (f : VectorField) (m : Mask) (a : VReg) (up : Nat → Nat → Nat → Nat → Nat) : List (Nat × List Nat) :=
  let k := mxKind f.vfmt.toNat
  (List.range 8).map (fun b =>
    mxBlock k.1 k.2 (fun i => up (32 * b + i)) ((List.range 32).map (fun i =>
      if bit m.toNat (32 * b + i) then laneOf a (32 * b + i) else 0)))

/-- The scale bytes CVTMX writes to VC. -/
def scaleOut (f : VectorField) (sc : List Nat) : VecWrite :=
  let t := bvf f.vimm 0 3
  { reg := f.vc.toNat, en := BitVec.ofNat 8192 ((2 ^ 64 - 1) <<< (64 * t)),
    data := BitVec.ofNat 8192 (joinBits 8 sc <<< (64 * t)) }

/-- The Tail draw of lane `l` (R163). -/
def vtailLane (k : Core) (orbit : W64) (f : VectorField) (l : Nat) : W32 :=
  Machine.tail (k.par.get 0 (bvf f.vimm 0 6)) orbit (bvf (k.sra f.vs.toNat) 0 48) (bvf (k.sra (bvf f.vb 0 5)) 0 16) l

end Sys2Proof.Machine
end

