-- ==== Sys2Proof/Machine/Vector.lean ====
section
/-! DEFINITION. The vector operations (06 R151-R164), the vector load and store (03 R86). -/
namespace Sys2Proof.Machine
open Sys2Proof

/-! ### Floating-point arithmetic -/

def execFadd (c : CoreRef) (f : VectorField) (s : State) : Out :=
  .next (s.vecFloat c f 4 (usesA f ++ usesB f) (fun t a b _ => t.addE (t.decode a) (t.decode b)))
def execFsub (c : CoreRef) (f : VectorField) (s : State) : Out :=
  .next (s.vecFloat c f 4 (usesA f ++ usesB f) (fun t a b _ => t.addE (t.decode a) (t.decode b).negate))
def execFmul (c : CoreRef) (f : VectorField) (s : State) : Out :=
  .next (s.vecFloat c f 4 (usesA f ++ usesB f) (fun t a b _ => t.mulE (t.decode a) (t.decode b)))
def execFma (c : CoreRef) (f : VectorField) (s : State) : Out :=
  .next (s.vecFloat c f 4 (usesA f ++ usesB f ++ usesC f)
    (fun t a b d => t.fmaE (t.decode a) (t.decode b) (t.decode d)))
def execFnma (c : CoreRef) (f : VectorField) (s : State) : Out :=
  .next (s.vecFloat c f 4 (usesA f ++ usesB f ++ usesC f)
    (fun t a b d => t.fmaE (t.decode a).negate (t.decode b) (t.decode d)))
def execFmin (c : CoreRef) (f : VectorField) (s : State) : Out :=
  .next (s.vecFloat c f 2 (usesA f ++ usesB f) (fun t a b _ => fMin t a b))
def execFmax (c : CoreRef) (f : VectorField) (s : State) : Out :=
  .next (s.vecFloat c f 2 (usesA f ++ usesB f) (fun t a b _ => fMax t a b))
def execFabs (c : CoreRef) (f : VectorField) (s : State) : Out :=
  .next (s.vecFloat c f 2 (usesA f) (fun t a _ _ => fSign t a false))
def execFneg (c : CoreRef) (f : VectorField) (s : State) : Out :=
  .next (s.vecFloat c f 2 (usesA f) (fun t a _ _ => fSign t a !(t.sign a)))
def execFcpys (c : CoreRef) (f : VectorField) (s : State) : Out :=
  .next (s.vecFloat c f 2 (usesA f ++ usesB f) (fun t a b _ => fSign t a (t.sign b)))
def execFrint (c : CoreRef) (f : VectorField) (s : State) : Out :=
  .next (s.vecLanes c f (f.vfmt = 0) 4 (usesA f) (fun a _ _ => fRint a))
def execFscale (c : CoreRef) (f : VectorField) (s : State) : Out :=
  .next (s.vecLanes c f (f.vfmt = 0) 4 (usesA f ++ usesB f) (fun a b _ => fScale a b))
def execFexp (c : CoreRef) (f : VectorField) (s : State) : Out :=
  .next (s.vecLanes c f (f.vfmt = 0) 2 (usesA f) (fun a _ _ => fExp a))
def execFmant (c : CoreRef) (f : VectorField) (s : State) : Out :=
  .next (s.vecLanes c f (f.vfmt = 0) 2 (usesA f) (fun a _ _ => fMant a))

/-! ### Compares and masks -/

def execFceq (c : CoreRef) (f : VectorField) (s : State) : Out :=
  .next (s.vecCompare c f (f.vfmt = 0) (usesA f ++ usesB f) (fun a b =>
    !fp32.isNan a && !fp32.isNan b && decide (fp32.cmpKey a = fp32.cmpKey b)))
def execFclt (c : CoreRef) (f : VectorField) (s : State) : Out :=
  .next (s.vecCompare c f (f.vfmt = 0) (usesA f ++ usesB f) (fun a b =>
    !fp32.isNan a && !fp32.isNan b && decide (fp32.cmpKey a < fp32.cmpKey b)))
def execFcle (c : CoreRef) (f : VectorField) (s : State) : Out :=
  .next (s.vecCompare c f (f.vfmt = 0) (usesA f ++ usesB f) (fun a b =>
    !fp32.isNan a && !fp32.isNan b && decide (fp32.cmpKey a ≤ fp32.cmpKey b)))
def execFcun (c : CoreRef) (f : VectorField) (s : State) : Out :=
  .next (s.vecCompare c f (f.vfmt = 0) (usesA f ++ usesB f) (fun a b => fp32.isNan a || fp32.isNan b))
def execFclass (c : CoreRef) (f : VectorField) (s : State) : Out :=
  .next (s.vecCompare c f (f.vfmt = 0) (usesA f) (fun a _ => bit f.vimm.toNat (fClass a)))
def execIceq (c : CoreRef) (f : VectorField) (s : State) : Out :=
  .next (s.vecCompare c f true (usesA f ++ usesB f) (fun a b => decide (a = b)))
def execIclt (c : CoreRef) (f : VectorField) (s : State) : Out :=
  .next (s.vecCompare c f true (usesA f ++ usesB f) (fun a b => decide (sInt 32 a < sInt 32 b)))
def execIcltu (c : CoreRef) (f : VectorField) (s : State) : Out :=
  .next (s.vecCompare c f true (usesA f ++ usesB f) (fun a b => decide (a < b)))

/-- SEL: VA where the bit of k[VC[2:0]] is set, else B. -/
def execSel (c : CoreRef) (f : VectorField) (s : State) : Out :=
  .next (s.vecOp c f true 2 (usesA f ++ usesB f) (fun g =>
    let k := g.k.maskReg (bvf f.vc 0 3)
    [lanesOut f g.m ((List.range 256).map (fun l => if bit k.toNat l then laneOf g.a l else laneOf g.b l))]))

def execKand (c : CoreRef) (f : VectorField) (s : State) : Out := .next (s.vecMask c f (fun a b => a &&& b))
def execKor (c : CoreRef) (f : VectorField) (s : State) : Out := .next (s.vecMask c f (fun a b => a ||| b))
def execKxor (c : CoreRef) (f : VectorField) (s : State) : Out := .next (s.vecMask c f (fun a b => a ^^^ b))
def execKnot (c : CoreRef) (f : VectorField) (s : State) : Out := .next (s.vecMask c f (fun a _ => ~~~a))

/-! ### Integer operations and moves -/

/-- An integer operation on VA and B. -/
def State.vecInt (s : State) (c : CoreRef) (f : VectorField) (lat : Nat) (op : Nat → Nat → Nat) : State :=
  s.vecLanes c f true lat (usesA f ++ usesB f) (fun a b _ => op a b)

def execIadd (c : CoreRef) (f : VectorField) (s : State) : Out := .next (s.vecInt c f 2 (fun a b => a + b))
def execIsub (c : CoreRef) (f : VectorField) (s : State) : Out := .next (s.vecInt c f 2 (fun a b => a + (2 ^ 32 - b)))
def execImul (c : CoreRef) (f : VectorField) (s : State) : Out := .next (s.vecInt c f 4 (fun a b => a * b))
def execIand (c : CoreRef) (f : VectorField) (s : State) : Out := .next (s.vecInt c f 2 (fun a b => a &&& b))
def execIor (c : CoreRef) (f : VectorField) (s : State) : Out := .next (s.vecInt c f 2 (fun a b => a ||| b))
def execIxor (c : CoreRef) (f : VectorField) (s : State) : Out := .next (s.vecInt c f 2 (fun a b => a ^^^ b))
def execIshl (c : CoreRef) (f : VectorField) (s : State) : Out := .next (s.vecInt c f 2 (fun a b => a <<< (b % 32)))
def execIshr (c : CoreRef) (f : VectorField) (s : State) : Out := .next (s.vecInt c f 2 (fun a b => a >>> (b % 32)))
def execIsar (c : CoreRef) (f : VectorField) (s : State) : Out :=
  .next (s.vecInt c f 2 (fun a b => i32 (sInt 32 a / (2 ^ (b % 32) : Nat))))
def execImin (c : CoreRef) (f : VectorField) (s : State) : Out :=
  .next (s.vecInt c f 2 (fun a b => if sInt 32 a < sInt 32 b then a else b))
def execImax (c : CoreRef) (f : VectorField) (s : State) : Out :=
  .next (s.vecInt c f 2 (fun a b => if sInt 32 a < sInt 32 b then b else a))
def execUmin (c : CoreRef) (f : VectorField) (s : State) : Out := .next (s.vecInt c f 2 Nat.min)
def execUmax (c : CoreRef) (f : VectorField) (s : State) : Out := .next (s.vecInt c f 2 Nat.max)
def execMov (c : CoreRef) (f : VectorField) (s : State) : Out :=
  .next (s.vecLanes c f true 2 (usesB f) (fun _ b _ => b))
def execVecMovi (c : CoreRef) (f : VectorField) (s : State) : Out :=
  .next (s.vecLanes c f true 2 [] (fun _ _ _ => (f.vimm.signExtend 32).toNat))
def execLaneid (c : CoreRef) (f : VectorField) (s : State) : Out :=
  .next (s.vecOp c f true 2 [] (fun g => [lanesOut f g.m (List.range 256)]))

/-- The lane amount s: VIMM[7:0], or sr[VS][7:0] with VSEL (R151). -/
def VecArgs.amount (g : VecArgs) (f : VectorField) : Nat :=
  if f.vsel then bvf (g.k.sra f.vs.toNat) 0 8 else bvf f.vimm 0 8

def execVrotl (c : CoreRef) (f : VectorField) (s : State) : Out :=
  .next (s.vecOp c f true 2 (usesA f) (fun g =>
    [lanesOut f g.m ((List.range 256).map (fun l => laneOf g.a ((l + g.amount f) % 256)))]))
def execVlbc (c : CoreRef) (f : VectorField) (s : State) : Out :=
  .next (s.vecOp c f true 2 (usesA f) (fun g => [lanesOut f g.m (List.replicate 256 (laneOf g.a (g.amount f)))]))

/-! ### Conversions and draws -/

/-- CVTF (R160, R161): VFMT 1-9. -/
def execCvtf (c : CoreRef) (f : VectorField) (s : State) : Out :=
  let o := BitVec.ofNat 64 (s.ctx c.ctx).orbit
  .next (s.vecOp c f (decide (1 ≤ f.vfmt.toNat)) 4 (usesA f) (fun g =>
    [partOut f g.m ((List.range 256).map (fun e => toNarrow f.vfmt.toNat (cvtRound g.k o f e) (laneOf g.a e)))]))

/-- CVTW (R160). -/
def execCvtw (c : CoreRef) (f : VectorField) (s : State) : Out :=
  .next (s.vecOp c f (decide (1 ≤ f.vfmt.toNat)) 4 (usesA f) (fun g =>
    [lanesOut f g.m ((List.range 256).map (fun e =>
      let p := partPlace f.vfmt.toNat f.vimm.toNat e
      (narrowElem false f.vfmt.toNat (fld g.a.toNat p.1 p.2)).toF32))]))

/-- Whether VFMT is one of 3-8 (R151). -/
def mxFmt (f : VectorField) : Bool := decide (3 ≤ f.vfmt.toNat) && decide (f.vfmt.toNat ≤ 8)

/-- CVTMX (R162): the scale bytes are written after the elements (DEDUCED, log 28). -/
def execCvtmx (c : CoreRef) (f : VectorField) (s : State) : Out :=
  let o := BitVec.ofNat 64 (s.ctx c.ctx).orbit
  .next (s.vecOp c f (mxFmt f) 4 (usesA f) (fun g =>
    let bl := mxBlocks f g.m g.a (cvtRound g.k o f)
    [partOut f g.m (bl.flatMap (·.2)), scaleOut f (bl.map (·.1))]))

/-- CVTWMX (R162). -/
def execCvtwmx (c : CoreRef) (f : VectorField) (s : State) : Out :=
  .next (s.vecOp c f (mxFmt f) 4 (usesA f ++ usesC f) (fun g =>
    [lanesOut f g.m ((List.range 256).map (fun e =>
      let p := partPlace f.vfmt.toNat f.vimm.toNat e
      let x := narrowElem true f.vfmt.toNat (fld g.a.toNat p.1 p.2)
      match scaleExp (fld g.c.toNat (8 * (8 * bvf f.vimm 0 3 + e / 32)) 8) with
      | none => qnan32
      | some sc => { x with e := x.e + sc }.toF32))]))

/-- FTOI (R159): to nearest even, or toward zero with VIMM[0]. -/
def execFtoi (c : CoreRef) (f : VectorField) (s : State) : Out :=
  .next (s.vecLanes c f true 4 (usesA f) (fun a _ _ =>
    toIntN 32 (if bit f.vimm.toNat 0 then fun q _ _ => q else rne) (f32 a)))
def execItof (c : CoreRef) (f : VectorField) (s : State) : Out :=
  .next (s.vecLanes c f true 4 (usesA f) (fun a _ _ => (intElem 32 0 31 a).toF32))

def execVtail (c : CoreRef) (f : VectorField) (s : State) : Out :=
  let o := BitVec.ofNat 64 (s.ctx c.ctx).orbit
  .next (s.vecOp c f true 4 [] (fun g =>
    [lanesOut f g.m ((List.range 256).map (fun l => (vtailLane g.k o f l).toNat))]))
def execVtailu (c : CoreRef) (f : VectorField) (s : State) : Out :=
  let o := BitVec.ofNat 64 (s.ctx c.ctx).orbit
  .next (s.vecOp c f true 4 [] (fun g =>
    [lanesOut f g.m ((List.range 256).map (fun l => uniform32 (vtailLane g.k o f l)))]))

/-! ### Reductions (R164) -/

/-- The lanes with an identity in place of masked ones. -/
def lanesOr (idn : Nat) (l : List (Bool × Nat)) : List Nat := l.map (fun q => if q.1 then q.2 else idn)
def unmasked (l : List (Bool × Nat)) : List Nat := (l.filter (·.1)).map (·.2)

/-- An integer as a 64-bit register value. -/
def w64 (z : Int) : W64 := BitVec.ofInt 64 z

def execRfsum (c : CoreRef) (f : VectorField) (s : State) : Out :=
  .next (s.vecReduce c f (f.vfmt = 0) (usesA f) (fun _ l =>
    BitVec.ofNat 64 (treeRoot Machine.fadd 0 8 (lanesOr 0x80000000 l))))
def execRfmax (c : CoreRef) (f : VectorField) (s : State) : Out :=
  .next (s.vecReduce c f (f.vfmt = 0) (usesA f) (fun _ l =>
    BitVec.ofNat 64 ((unmasked l).foldl (fMax fp32) 0xFF800000)))
def execRfmin (c : CoreRef) (f : VectorField) (s : State) : Out :=
  .next (s.vecReduce c f (f.vfmt = 0) (usesA f) (fun _ l =>
    BitVec.ofNat 64 ((unmasked l).foldl (fMin fp32) 0x7F800000)))
def execRisum (c : CoreRef) (f : VectorField) (s : State) : Out :=
  .next (s.vecReduce c f true (usesA f) (fun _ l => w64 ((unmasked l).foldl (fun a v => a + sInt 32 v) 0)))
def execRusum (c : CoreRef) (f : VectorField) (s : State) : Out :=
  .next (s.vecReduce c f true (usesA f) (fun _ l => BitVec.ofNat 64 (unmasked l).sum))
def execRimax (c : CoreRef) (f : VectorField) (s : State) : Out :=
  .next (s.vecReduce c f true (usesA f) (fun _ l =>
    w64 ((unmasked l).foldl (fun a v => max a (sInt 32 v)) (-2147483648))))
def execRimin (c : CoreRef) (f : VectorField) (s : State) : Out :=
  .next (s.vecReduce c f true (usesA f) (fun _ l =>
    w64 ((unmasked l).foldl (fun a v => min a (sInt 32 v)) 2147483647)))
def execRand (c : CoreRef) (f : VectorField) (s : State) : Out :=
  .next (s.vecReduce c f true (usesA f) (fun _ l =>
    BitVec.ofNat 64 ((unmasked l).foldl (fun a v => a &&& v) 0xFFFFFFFF)))
def execRor (c : CoreRef) (f : VectorField) (s : State) : Out :=
  .next (s.vecReduce c f true (usesA f) (fun _ l => BitVec.ofNat 64 ((unmasked l).foldl (fun a v => a ||| v) 0)))

/-- RARGMAX: the lowest lane that holds the greatest value; 256 if none qualifies. -/
def argMax (l : List (Bool × Nat)) : Nat :=
  let best := (List.range l.length).foldl (fun (acc : Option (Int × Nat)) i =>
    let q := l.getD i (false, 0)
    if !q.1 || fp32.isNan q.2 then acc
    else match acc with
      | none => some (fp32.orderKey q.2, i)
      | some b => if b.1 < fp32.orderKey q.2 then some (fp32.orderKey q.2, i) else acc) none
  (best.map (·.2)).getD 256

def execRargmax (c : CoreRef) (f : VectorField) (s : State) : Out :=
  .next (s.vecReduce c f (f.vfmt = 0) (usesA f) (fun _ l => BitVec.ofNat 64 (argMax l)))
def execRkcnt (c : CoreRef) (f : VectorField) (s : State) : Out :=
  .next (s.vecReduce c f true [] (fun g _ =>
    BitVec.ofNat 64 (bitsUp 256 (g.k.maskReg (bvf f.va 0 3) &&& g.m).toNat).length))

/-! ### Load and store (03 R86) -/

/-- VLDE: the port 2 read tap of the step loads register `r` when the step ends. -/
def execVectorLoad (c : CoreRef) (r : BitVec 6) (s : State) : Out :=
  .next (s.onCore c (fun k => { k with work := { k.work with vlde := some r.toNat } }))

/-- VSTE: register `r` as the step began goes through the port 2 write tap of the step. -/
def execVectorStore (c : CoreRef) (r : BitVec 6) (s : State) : Out :=
  .next (s.onCore c (fun k => { k with work := { k.work with vste := some r.toNat } }))

end Sys2Proof.Machine
end

