-- ==== Sys2Proof/Machine/Control.lean ====
section
/-! DEFINITION. The header and control field of a bundle: idle steps, breakpoints, rendezvous, fence, orbit end,
jumps, loops and branches (03 R66-R74; 01 R29-R36). -/
namespace Sys2Proof.Machine
open Sys2Proof

/-- Present a bundle of core `c` that issues nothing more. -/
def State.present (s : State) (c : CoreRef) : State := s.onCore c id

/-- IDLE_BUNDLE (R66, R92): one idle step. A bundle fetched with an uncorrectable error idles whatever its BFMT is, and is
reported. -/
def execIdleBundle (f : Fetch) (s : State) : Out :=
  let c := f.core
  let t := s.present c
  quiet s (if s.live c then t.fetchUe c.ctx c.core (s.stepOf c) (s.core c).seq.baddr f.ecc else t)

/-- BRK (R66): with breakpoints armed it requests a debug hold, which the next freeze meets (01 R34). -/
def execBrk (c : CoreRef) (s : State) : Out :=
  let t := s.present c
  .next (if s.live c && (s.ctx c.ctx).armed then
    t.modCtx c.ctx (fun x => { x with holds := { x.holds with debug := true } }) else t)

/-- Whether CTL acts at this step: the last repetition (R67). -/
def State.ctlActs (s : State) (c : CoreRef) : Bool := s.live c && decide ((s.core c).seq.repLeft = 0)

/-- A control that acts only outside an arm: inside one it acts as NONE and sets ARM_CUT (R73). -/
def State.outsideArm (s : State) (c : CoreRef) (f : State → State) : State :=
  let t := s.present c
  if !s.ctlActs c then t
  else if (s.core c).seq.inArm then t.armCutAt c.ctx c.core
  else f t

/-- Begin or widen the freeze of the context at its step. -/
def State.freezeBy (s : State) (x : Nat) (f : Freeze → Freeze) : State :=
  s.modCtx x (fun c => { c with freeze := some (f (c.freeze.getD { since := s.now })) })

/-- A rendezvous control with its conditions (R29, R74; 10 R262). -/
def State.rendezvous (s : State) (c : CoreRef) (f : CtlField) : State :=
  s.freezeBy c.ctx (fun z => { z with rdvBy := insertNat c.core z.rdvBy, conds := z.conds ++ ctlConds f c.core })

def execRdv (c : CoreRef) (f : CtlField) (s : State) : Out :=
  .next (s.outsideArm c (fun t => t.rendezvous c f))

/-- FENCE (R31). -/
def execFence (c : CoreRef) (s : State) : Out :=
  .next (s.outsideArm c (fun t => t.freezeBy c.ctx (fun z => { z with fence := true })))

/-- RDV_FENCE (R32). -/
def execRdvFence (c : CoreRef) (f : CtlField) (s : State) : Out :=
  .next (s.outsideArm c (fun t => (t.rendezvous c f).freezeBy c.ctx (fun z => { z with fence := true })))

/-- ORBIT_END (R36): a rendezvous of all cores together with a fence. -/
def execOrbitEnd (c : CoreRef) (s : State) : Out :=
  .next (s.outsideArm c (fun t =>
    t.freezeBy c.ctx (fun z => { z with endBy := insertNat c.core z.endBy, fence := true })))

/-- Where the next step executes. -/
def Core.branchTo (k : Core) (t : Nat) : Core := { k with seq := { k.seq with target := some t } }

def execJmp (c : CoreRef) (f : CtlField) (s : State) : Out :=
  .next (if s.ctlActs c then s.onCore c (fun k => k.branchTo (ctlTarget f)) else s.present c)

/-- LOOP (R70): decided from the counter as it stood at the start of the step. -/
def execLoop (c : CoreRef) (f : CtlField) (s : State) : Out :=
  let n := s.stepOf c
  .next (if s.ctlActs c then
    s.onCore c (fun k =>
      if (k.at' n).lc.get 0 (ctlLcsel f) ≠ 0 then
        { k.branchTo (ctlTarget f) with work := { k.work with loopDec := some (ctlLcsel f) } }
      else k)
  else s.present c)

/-- UBR (R71): tests a wire slot, alike on every core. -/
def execUbr (c : CoreRef) (f : CtlField) (s : State) : Out :=
  let v := (s.ctx c.ctx).wireAt (s.stepOf c) (ctlWsel f)
  .next (s.outsideArm c (fun t =>
    if condHolds (ctlCond f) v.toInt then t.onCore c (fun k => k.branchTo (ctlTarget f)) else t))

/-- FBR (R72): starts an arm of L steps at TARGET or at the next address. -/
def execFbr (c : CoreRef) (f : CtlField) (s : State) : Out :=
  let n := s.stepOf c
  .next (s.outsideArm c (fun t => t.onCore c (fun k =>
    let taken := condHolds (ctlArmCond f) ((k.at' n).sra (ctlCsr f)).toInt
    let first := if taken then ctlTarget f else (k.seq.baddr + 1) % 1024
    { k with work := { k.work with newArm := some (ctlArmLen f, ctlJoin f, first) } })))

/-- ARMEND (R72, R73): ends the arm that is running; outside an arm it acts as NONE. -/
def execArmend (c : CoreRef) (s : State) : Out :=
  .next (if s.ctlActs c && (s.core c).seq.inArm then
    s.onCore c (fun k => { k with work := { k.work with armEnd := true } }) else s.present c)

/-- ARM_CUT (R72): the last step of an arm that has not reached ARMEND abandons its repeat and sets the flag; JOIN
executes at the next step. -/
def execArmCut (c : CoreRef) (s : State) : Out :=
  let q := (s.core c).seq
  .next (if s.live c && q.inArm && decide (q.armLeft ≤ 1) && !(s.core c).work.armEnd then
    (s.armCutAt c.ctx c.core).modCoreOf c.ctx c.core (fun k =>
      { k with seq := { k.seq with repLeft := 0, target := none } })
  else s)

end Sys2Proof.Machine
end

