-- ==== Sys2Proof/Machine/CoreRows.lean ====
section
/-! DEFINITION. The rest of a bundle's fields: stream taps (03 R80-R82, R492), array controls (R84), the issue of
stream descriptors (R83), the channel field (R87; 10 R254-R258), and the results that land on a core. -/
namespace Sys2Proof.Machine
open Sys2Proof

/-! ### Taps -/

/-- The lines an access of descriptor `td` names, from its CUR at the start of the step (R82). -/
def Core.tapLines (k : Core) (td : Nat) : List Nat := (k.taps.get {} td).access

/-- READ_TAP (R492): an enabled tap makes its requests whether or not its unit takes the lines. -/
def execReadTap (c : CoreRef) (p : BitVec 2) (t : TapField) (e : Ecc) (s : State) : Out :=
  if t.en then
    let u := s.onCore c (fun k => { k with work := { k.work with reads := k.work.reads ++
      [{ port := p.toNat, td := t.td.toNat, inc := t.inc, lines := k.tapLines t.td.toNat, ecc := e }] } })
    quiet s (if s.live c then u.eccRead c.ctx c.core p.toNat 0 (s.stepOf c) e else u)
  else .next (s.present c)

/-- What a write tap finds in the data it takes: the parity of the drain window at port 1 (04 R121; 07 R178), the
register file at port 2. -/
def State.eccWrite (s : State) (c : CoreRef) (p : Nat) (e : Ecc) : State :=
  if p = 1 then e.ue.foldl (fun s u => s.parity c.ctx c.core (u.1 / 4) (s.stepOf c)) s
  else if p = 2 then s.eccRead c.ctx c.core 2 1 (s.stepOf c) e
  else s

/-- WRITE_TAP (R492): an enabled tap makes requests at the end of the step if its unit supplies lines; the port 3
tap names a width for RECV whether it is enabled or not (10 R256). -/
def execWriteTap (c : CoreRef) (p : BitVec 2) (t : TapField) (e : Ecc) (s : State) : Out :=
  let u := s.onCore c (fun k =>
    let w := if p = 3 then { k.work with recvTd := t.td.toNat } else k.work
    let w := if t.en then { w with writes := w.writes ++
      [{ port := p.toNat, td := t.td.toNat, inc := t.inc, lines := k.tapLines t.td.toNat, ecc := e }] } else w
    { k with work := w })
  quiet s (if s.live c && t.en then u.eccWrite c p.toNat e else u)

/-! ### Arrays -/

/-- Add the action of one ARRAYk field; a KFM-7200C has no arrays (03 R84) (DEDUCED, log 36). -/
def State.arrayRow (s : State) (c : CoreRef) (r : ArrayReq) : State :=
  if s.variant = 2 then s.present c
  else s.onCore c (fun k => { k with work := { k.work with arrays := k.work.arrays ++ [r] } })


/-- ENTER (04 R98, R101): the entry takes place at the end of the step with the old front set; a mismatch counts if it
does (R121). -/
def execEnter (c : CoreRef) (k : BitVec 2) (f : ArrayFields) (e : Ecc) (s : State) : Out :=
  .next (s.arrayRow c { k := k.toNat, f, enter := true, enterBad := e.bad })

/-- SHIFT (04 R106): a reserved format or a full set shifts nothing and reads nothing. -/
def execShift (c : CoreRef) (k : BitVec 2) (f : ArrayFields) (e : Ecc) (s : State) : Out :=
  .next (s.arrayRow c { k := k.toNat, f, shift := true, shiftBad := e.bad })

/-- SWAP (04 R108). -/
def execSwap (c : CoreRef) (k : BitVec 2) (f : ArrayFields) (s : State) : Out :=
  .next (s.arrayRow c { k := k.toNat, f, swap := true })

/-! ### Stream descriptors -/

/-- SISSUE (03 R83): descriptor `sd` issues at the end of the step, if it is of the kind named. -/
def State.issueRow (s : State) (c : CoreRef) (sd kind : Nat) : State :=
  if ((s.ctx c.ctx).img.desc c.core sd).kind = kind then
    s.onCore c (fun k => { k with work := { k.work with issue := some sd } })
  else s.present c

def execDramToCore (c : CoreRef) (sd : BitVec 8) (s : State) : Out := .next (s.issueRow c sd.toNat 1)
def execCoreToDram (c : CoreRef) (sd : BitVec 8) (s : State) : Out := .next (s.issueRow c sd.toNat 2)
def execBaseToCore (c : CoreRef) (sd : BitVec 8) (s : State) : Out := .next (s.issueRow c sd.toNat 3)
def execCoreToBase (c : CoreRef) (sd : BitVec 8) (s : State) : Out := .next (s.issueRow c sd.toNat 4)
def execDramToBase (c : CoreRef) (sd : BitVec 8) (s : State) : Out := .next (s.issueRow c sd.toNat 5)
def execBaseToDram (c : CoreRef) (sd : BitVec 8) (s : State) : Out := .next (s.issueRow c sd.toNat 6)
def execComet (c : CoreRef) (sd : BitVec 8) (s : State) : Out := .next (s.issueRow c sd.toNat 7)

/-! ### Channels -/

def execSend (c : CoreRef) (sep : BitVec 4) (s : State) : Out :=
  .next (s.onCore c (fun k => { k with work := { k.work with send := some sep.toNat } }))

/-- ELAST (10 R254): acts only together with the SEND of its step. -/
def execElast (c : CoreRef) (sep : BitVec 4) (token : BitVec 16) (s : State) : Out :=
  .next (s.onCore c (fun k => { k with work := { k.work with elast := some (sep.toNat, token.toNat) } }))

/-- An ECC outcome of the receive store (10 R253; 07 R178) (DEDUCED, log 31). -/
def State.chanEcc (s : State) (c : CoreRef) (e : Ecc) : State :=
  e.ue.foldl (fun s u =>
    let s := (s.flagCtx c.ctx fEccUe).modCoreOf c.ctx c.core (fun k =>
      { k with rep := { k.rep with eccUe := true, ecc := addFld k.rep.ecc 32 16 1 } })
    s.raise 0x14 (some c.ctx) c.core (pack [(16, u.1), (8, u.2)])) (s.memCe c.ctx c.core e.ce)

def execRecv (c : CoreRef) (rep : BitVec 4) (e : Ecc) (s : State) : Out :=
  let t := s.onCore c (fun k => { k with work := { k.work with recv := some rep.toNat } })
  quiet s (if s.live c && decide (((s.core c).recvEps.get {} rep.toNat).state ≠ .unbound) then t.chanEcc c e else t)

/-- SEMOP (03 R87): semaphores 48-63 make it act as none; its change takes effect at the next step. -/
def State.semop (s : State) (c : CoreRef) (n : Nat) (v : Int) : State :=
  if n < 48 then s.onCore c (fun k => { k with work := { k.work with sems := k.work.sems ++ [(n, v)] } })
  else s.present c

def execSemopAdd (c : CoreRef) (n : BitVec 6) (v : BitVec 16) (s : State) : Out :=
  .next (s.semop c n.toNat v.toNat)
def execSemopSub (c : CoreRef) (n : BitVec 6) (v : BitVec 16) (s : State) : Out :=
  .next (s.semop c n.toNat (-(v.toNat : Int)))

/-! ### What lands on a core -/

/-- Whether results land on core `c`: a context that runs, whose wave moves; where it stands they wait with the
context (01 R33). -/
def State.lands (s : State) (c : CoreRef) : Bool :=
  (s.ctx c.ctx).active && !(s.ctx c.ctx).frozen && decide (c.core < (s.ctx c.ctx).ncores)

def State.landOn (s : State) (c : CoreRef) (f : Core → Nat → Core) : State :=
  if s.lands c then s.modCoreOf c.ctx c.core (fun k => f k (s.stepOf c)) else s

/-- PIPELINE_RESULT (03 R77, R88; 06 R155): the results due at the context's step reach their registers. `e` is
what the register file's check bits show on a read the vector unit makes (07 R178); no tap takes part in such a read,
and its event names port 2, the vector unit's (DESIGN CHOICE, log 160). -/
def execPipelineResult (c : CoreRef) (e : Ecc) (s : State) : Out :=
  let t := s.landOn c Core.landResults
  quiet s (if s.lands c then t.eccRead c.ctx c.core 2 1 (s.stepOf c) e else t)

/-- OPERAND_BUFFER_LANDING (04 R103). -/
def execOperandBufferLanding (c : CoreRef) (s : State) : Out := .next (s.landOn c Core.landOpbuf)

/-- ARRAY_OUTPUT (04 R110-R112). -/
def execArrayOutput (c : CoreRef) (s : State) : Out := .next (s.landOn c Core.landDrain)

/-- CORE_MEM_WRITE_VISIBLE (07 R174). -/
def execCoreMemWriteVisible (c : CoreRef) (s : State) : Out :=
  done s (if s.lands c then s.landMem ((s.ctx c.ctx).logical c.core) (s.stepOf c) else s)

/-- WIRE_LANDING (03 R79). -/
def execWireLanding (x : Nat) (s : State) : Out :=
  .next (if (s.ctx x).active && !(s.ctx x).frozen then s.modCtx x (fun c => c.landWires c.step) else s)

end Sys2Proof.Machine
end

