-- ==== Sys2Proof/Machine/Place.lean ====
section
/-! DEFINITION. The address map of a module (02 R52), who holds a line of it (02 R55), and a write at a tick beside the
stores that are still to land there (07 R177; 08 R216). -/
namespace Sys2Proof.Machine
open Sys2Proof

/-- The context that holds a site, and the site's place in it. -/
def State.holderOf (s : State) (site : Nat) : Option (Nat × Nat) :=
  (List.range 16).findSome? (fun x =>
    if (s.ctx x).phase = .free then none
    else (findIdxOpt (fun v => v = site) (s.ctx x).sites).map (fun q => (x, q.1)))

/-- The context and program core of a logical core. -/
def State.programOf (s : State) (logical : Nat) : Option (Nat × Nat) :=
  (s.holderOf (logical / 72)).map (fun q => (q.1, q.2 * 72 + logical % 72))

/-- Quadrants that hold sites of a context, rising. -/
def Ctx.heldQuads (x : Ctx) : List Nat := (x.sites.map quadOfSite).foldr insertNat []

/-- The physical quadrant of program quadrant `j`. -/
def Ctx.quad (x : Ctx) (j : Nat) : Nat := x.quads.getD j 0

/-- The quadrants foreign to the context whose hubs a link lane on a port crosses: the port's own first, then, where it is
diagonal to every quadrant of the context, its lowest-numbered neighbour (09 R241) (DESIGN CHOICE, log 169). -/
def Ctx.laneQuads (x : Ctx) (p : Nat) : List Nat :=
  let held := x.heldQuads
  let q := p / 5
  if held.contains q then []
  else if held.any (fun h => seams h q = 1) then [q]
  else q :: ([0, 1, 2, 3].filter (fun v => seams v q = 1)).take 1

/-- The writes of a context to program stack `d` that are ordered and still on their way from base memory: they hold
back what comes after them to their lines (08 R212, R213) (DEDUCED, log 167). -/
def Ctx.coming (x : Ctx) (d : Nat) : List DramReq :=
  x.flights.flatMap (fun f =>
    let req := fun (j line : Nat) =>
      ({ ctx := 0, step := f.step, core := f.src, j, line, ctxLine := line, write := true } : DramReq)
    if f.lost.isSome then []
    else match f.cargo with
    | .baseRead _ _ (some k) _ pos _ _ => if k = d then (List.range pos.length).map (fun j => req j (pos.getD j 0)) else []
    | .dramLine k line _ => if k = d then [req f.j line] else []
    | _ => [])

/-- The orbit ends at the freeze that stands: base-memory traffic in flight will not arrive (08 R494). -/
def Ctx.ending (x : Ctx) : Bool :=
  match x.freeze with | some z => z.settled && (!z.endBy.isEmpty || z.abandon) | none => false

/-- The ordered writes that have not reached stack `d`. -/
def State.coming (s : State) (d : Nat) : List DramReq :=
  match s.holderOf d with
  | some (x, k) => if (s.ctx x).ending then [] else (s.ctx x).coming k
  | none => []

/-- No ordered write to the line of a request is still to come before it. -/
def DramReq.free (coming : List DramReq) (r : DramReq) : Bool := !coming.any (fun w => w.ctxLine = r.ctxLine && w.le r)

/-- Base and size of the regions: DRAM, base memory, core memory, instruction memory, core control windows, the management
window, the capability block. -/
def regionSpan (r : Nat) : Nat × Nat :=
  match r with
  | 0 => (0, 274877906944)
  | 1 => (1099511627776, 268435456)
  | 2 => (2199023255552, 603979776)
  | 3 => (3298534883328, 150994944)
  | 4 => (3848290697216, 75497472)
  | 5 => (16492674416640, 16777216)
  | _ => (16492691193856, 4096)

/-- The region of an address. -/
def regionOf (a : Nat) : Option Nat :=
  (List.range 7).find? (fun r => decide ((regionSpan r).1 ≤ a) && decide (a < (regionSpan r).1 + (regionSpan r).2))

/-- The context whose allocation holds a 1 MiB granule of a quadrant. -/
def State.granuleOwner (s : State) (quad g : Nat) : Option Nat :=
  (List.range 16).find? (fun x =>
    let c := s.ctx x
    c.phase ≠ .free && (List.range 4).any (fun j => c.quad j = quad && (c.base.getD j []).contains g))

/-- The context that owns the line at a module address in the memory regions. -/
def State.lineOwner (s : State) (a : Nat) : Option Nat :=
  match regionOf a with
  | some 0 => (s.holderOf (a / 17179869184)).map (·.1)
  | some 1 => s.granuleOwner ((a - 1099511627776) / 67108864) ((a - 1099511627776) % 67108864 / 1048576)
  | some 2 => (s.holderOf ((a - 2199023255552) / 524288 / 72)).map (·.1)
  | some 3 => (s.holderOf ((a - 3298534883328) / 131072 / 72)).map (·.1)
  | _ => none

/-- The step of the first read after the freeze that stands; later than any for a context that does not run. -/
def Ctx.readStep (x : Ctx) : Nat := if x.active then x.step + 1 else 2 ^ 64

/-- Remove the first element equal to `a`. -/
def removeOne [DecidableEq α] (a : α) : List α → List α
  | [] => []
  | b :: r => if a = b then r else b :: removeOne a r

/-- A write takes its line in memory (08 R216). -/
def State.commitOne (s : State) (d : Nat) (r : DramReq) : State :=
  let s := s.modStack d (fun k => { k with unsettled := removeOne r k.unsettled })
  { s with mem := Memory.writeLine s.mem (dramAddr d r.line) (r.data.getD 0) }

/-- The served writes to a stack line commit, in their order. -/
def State.commitLine (s : State) (d line : Nat) : State :=
  ((s.stack d).unsettled.filter (fun r => r.line = line)).foldl (fun s r => s.commitOne d r) s

/-- What the lines at an address waited to become is settled first: a write at a tick comes after the stores that have
become readable and the DRAM writes that have been served (07 R177; 08 R216) (DEDUCED, log 137). -/
def State.settleLine (s : State) (a : Nat) : State :=
  match regionOf a, s.lineOwner a with
  | some 0, _ => s.commitLine (a / 17179869184) (a % 17179869184 / 64)
  | some 1, some x => s.landBaseWrites x (s.ctx x).readStep
  | some 2, some x => s.landMem ((a - 2199023255552) / 524288) (s.ctx x).readStep
  | _, _ => s

/-- A write at a tick stands over the stores of bundles that had not yet become readable at its line (DEDUCED, log
137). -/
def State.dropPending (s : State) (a : Nat) : State :=
  match regionOf a, s.lineOwner a with
  | some 1, some x => s.modCtx x (fun c =>
      let keep := c.baseWrites.filter (fun w => decide (baseAddr w.2.1 w.2.2.1 ≠ a))
      { c with baseWrites := keep })
  | some 2, _ =>
    let l := (a - 2199023255552) / 524288
    let c := s.coreAt l
    let keep := c.memWrites.filter (fun w => decide (coreAddr l w.line ≠ a))
    s.setCore l { c with memWrites := keep }
  | _, _ => s

/-- A line is written at a tick. -/
def State.placeLine (s : State) (a : Nat) (b : List Byte) : State :=
  let s := (s.settleLine a).dropPending a
  { s with mem := Memory.write s.mem a b }

end Sys2Proof.Machine
end

