-- ==== Sys2Proof/Machine/Ledger.lean ====
section
/-! DEFINITION. The ledger unit: entries, streams, batches, space (14 R409-R417), what the mirror stream carries of
them (15 R463), and the weights' segments (14 R394-R398). -/
namespace Sys2Proof.Machine
open Sys2Proof

/-- Only a KFM-7200G has a ledger unit and a hash engine (14 R404, R409). -/
def State.isG (s : State) : Bool := s.variant = 0

/-- Events of contexts and modules carry no DATA field beyond 96 bits. -/
def State.note (s : State) (code : Nat) (x : Nat) (unit data : Nat) : State := s.raise code (some x) unit data

/-! ### Mirror stream (15 R463) -/

/-- Whether context `x` is the mirrored end of an active pairing. -/
def State.mirrored (s : State) (x : Nat) : Bool :=
  (s.ctx x).halo.phase = .active && !(s.ctx x).halo.standby

def State.mirror (s : State) (x : Nat) (i : MirrorItem) : State :=
  if s.mirrored x then s.modCtx x (fun c => { c with halo := { c.halo with out := c.halo.out ++ [i] } }) else s

/-- The orbit an item names (R463); a checkpoint names none. -/
def MirrorItem.orbit : MirrorItem → Option Nat
  | .checkpoint _ _ _ => none
  | .admitted o _ _ _ _ _ _ _ => some o
  | .boundary o _ => some o
  | .intervention o _ _ _ _ => some o
  | .ledgerEntry o _ => some o
  | .sealHeader o _ => some o
  | .orbitEnd o _ => some o

/-- Bytes of an item on the circuit: an admission item of 48 bytes with its lines, a boundary's orbit and patch, and
so on (DESIGN CHOICE, log 35). -/
def MirrorItem.size : MirrorItem → Nat
  | .checkpoint _ b _ => b.length + 32
  | .admitted _ _ _ _ _ _ _ l => 48 + 64 * l.length
  | .boundary _ p => 8 + 16 * p.length
  | .intervention _ _ _ _ p => p.length
  | .ledgerEntry _ e => e.length
  | .sealHeader _ h => h.length
  | .orbitEnd _ r => r.length

/-! ### Entries and batches -/

/-- An entry of KIND 02h-0Bh from its header fields and payload pieces (offset, bytes) (R415). -/
def ledgerBytes (kind stream index orbit step pcore tick : Nat) (payload : List (Nat × List Byte)) : List Byte :=
  payload.foldl (fun b p => putBytes b p.1 p.2)
    (padTo 256 (bytesOf 40 (pack [(8, kind), (5, stream), (51, 0), (64, index), (64, orbit), (48, step),
      (11, pcore), (5, 0), (64, tick)])))

/-- RECORD_INDEX of the next entry (R409) (DEDUCED, log 26). -/
def State.recordIndex (s : State) : Nat := (s.boot.count % 2 ^ 24) * 2 ^ 40 + (s.ledger.records + 1) % 2 ^ 40

def State.lstream (s : State) (k : Nat) : LStream := s.ledger.streams.get {} k
def State.setStream (s : State) (k : Nat) (v : LStream) : State :=
  { s with ledger := { s.ledger with streams := s.ledger.streams.set {} k v } }

/-- Entries held unsealed (R416). -/
def State.unsealed (s : State) : Nat :=
  ((s.ledger.streams.map (fun q => q.2.opened.length)).sum) + ((s.ledger.closed.map (fun b => b.entries.length)).sum)

/-- 64 MiB hold 262,144 entries, of which 1,024 are kept for KIND 02h-0Bh (R416). -/
def State.roomForRecord (s : State) : Bool := decide (s.unsealed < 262144 - 1024)

/-- Close the open batch of a stream at the tick now; an empty batch never closes (R417). -/
def State.closeBatch (s : State) (k : Nat) : State :=
  let q := s.lstream k
  if q.opened.isEmpty then s
  else
    let s := s.setStream k { q with opened := [], lastClose := s.now }
    { s with ledger := { s.ledger with closed := s.ledger.closed ++
      [{ stream := k, entries := q.opened, closeTick := s.now }] } }

/-- Write one entry to a stream; a batch closes when it holds 4,096 (R410, R417). -/
def State.addEntry (s : State) (k tick : Nat) (bytes : List Byte) : State :=
  let q := s.lstream k
  let s := s.setStream k { q with opened := q.opened ++ [⟨tick, bytes⟩], count := q.count + 1 }
  let s := { s with ledger := { s.ledger with records := s.ledger.records + 1 } }
  let s := if k < 16 then s.mirror k (.ledgerEntry (s.ctx k).orbit bytes) else s
  if 4096 ≤ (s.lstream k).opened.length then s.closeBatch k else s

/-- Write an entry of KIND 02h-0Bh at the tick now, on a G module. -/
def State.logEntry (s : State) (kind k orbit step pcore : Nat) (payload : List (Nat × List Byte)) : State :=
  if s.isG then s.addEntry k s.now (ledgerBytes kind k s.recordIndex orbit step pcore s.now payload) else s

/-- An intervention on a context at its freezing step: logged, counted, mirrored (01 R35; 03 R94; 14 R410)
(DEDUCED, log 34; DEDUCED, log 85). -/
def State.intervene (s : State) (x kind pcore : Nat) (payload : List (Nat × List Byte)) : State :=
  let c := s.ctx x
  let s := s.logEntry kind x c.orbit c.step pcore payload
  let s := s.mirror x (.intervention c.orbit c.counter kind pcore
    ((ledgerBytes kind x 0 c.orbit c.step pcore s.now payload).drop 40))
  s.modCtx x (fun c => { c.flag fIntervened with interventions := c.interventions + 1 })

/-! ### Weight segments (14 R395) -/

/-- A SEGMENT_ENTRY. -/
structure Seg where
  id : Nat
  place : Nat
  target : Nat
  endpoint : Nat
  wDest : Nat
  wLen : Nat
  xDest : Nat
  xLen : Nat
  first : Nat
  chunks : Nat
  deriving DecidableEq, Repr

def Seg.ofWord (w : Nat) : Seg :=
  { id := fld w 0 32, place := fld w 32 2, target := fld w 40 11, endpoint := fld w 51 4, wDest := fld w 64 64,
    wLen := fld w 128 64, xDest := fld w 192 64, xLen := fld w 256 32, first := fld w 288 32, chunks := fld w 320 32 }

def WImage.segs (i : WImage) : List Seg := (chunksOf 64 65536 i.table).map (fun b => Seg.ofWord (natOf b))

/-- ROOT of a header (R394). -/
def WImage.root (i : WImage) : BitVec 256 := BitVec.ofNat 256 (leAt i.header 64 32)

/-- The root in force: zero in states NONE and INVALID (R402). -/
def Weights.root (w : Weights) : BitVec 256 :=
  match w.phase, w.force with
  | .none, _ => 0
  | .invalid, _ => 0
  | _, some i => i.root
  | _, none => 0

end Sys2Proof.Machine
end

