-- ==== Sys2Proof/Machine/Settle.lean ====
section
/-! DEFINITION. One step of a context: its cores fetch and execute their bundles (03 R62), the end of the step
resolves what they issued (07 R173-R176; 08 R205; 10 R247), and the wave goes on or freezes (01 R24, R29). -/
namespace Sys2Proof.Machine
open Sys2Proof

/-! ### A bundle -/

/-- The scalar operation of a code (R76); reserved codes act as NOP. -/
def scalarByCode (sop : Nat) : Option (CoreRef → ScalarField → State → Out) :=
  match sop with
  | 0x01 => some execAdd | 0x02 => some execSub | 0x03 => some execMul | 0x04 => some execAnd
  | 0x05 => some execOr | 0x06 => some execXor | 0x07 => some execShl | 0x08 => some execShr
  | 0x09 => some execSar | 0x0A => some execMin | 0x0B => some execMax | 0x0C => some execMinu
  | 0x0D => some execMaxu | 0x0E => some execSlt | 0x0F => some execSltu | 0x10 => some execSeq
  | 0x11 => some execCsel | 0x12 => some execMovi | 0x13 => some execMovhi | 0x14 => some execRdpar
  | 0x15 => some execWrpar | 0x16 => some execRdstep | 0x17 => some execRdorbit | 0x18 => some execRdpci
  | 0x19 => some execRdncore | 0x1A => some execRdsem | 0x1B => some execRdbrk | 0x1C => some execReduce
  | 0x1D => some execRdwire | 0x1E => some execLcset | 0x1F => some execTapset | 0x20 => some execTail
  | _ => none

/-- The vector operation of a code (06 R151); reserved codes act as VNOP. -/
def vectorByCode (vop : Nat) : Option (CoreRef → VectorField → State → Out) :=
  match vop with
  | 0x01 => some execFadd | 0x02 => some execFsub | 0x03 => some execFmul | 0x04 => some execFma
  | 0x05 => some execFnma | 0x06 => some execFmin | 0x07 => some execFmax | 0x08 => some execFabs
  | 0x09 => some execFneg | 0x0A => some execFcpys | 0x0B => some execFrint | 0x0C => some execFscale
  | 0x0D => some execFexp | 0x0E => some execFmant | 0x10 => some execFceq | 0x11 => some execFclt
  | 0x12 => some execFcle | 0x13 => some execFcun | 0x14 => some execFclass | 0x15 => some execIceq
  | 0x16 => some execIclt | 0x17 => some execIcltu | 0x18 => some execSel | 0x19 => some execKand
  | 0x1A => some execKor | 0x1B => some execKxor | 0x1C => some execKnot | 0x20 => some execIadd
  | 0x21 => some execIsub | 0x22 => some execImul | 0x23 => some execIand | 0x24 => some execIor
  | 0x25 => some execIxor | 0x26 => some execIshl | 0x27 => some execIshr | 0x28 => some execIsar
  | 0x29 => some execImin | 0x2A => some execImax | 0x2B => some execUmin | 0x2C => some execUmax
  | 0x2D => some execMov | 0x2E => some execVecMovi | 0x2F => some execLaneid | 0x30 => some execVrotl
  | 0x31 => some execVlbc | 0x38 => some execCvtf | 0x39 => some execCvtw | 0x3A => some execCvtmx
  | 0x3B => some execCvtwmx | 0x3C => some execFtoi | 0x3D => some execItof | 0x3E => some execVtail
  | 0x3F => some execVtailu | 0x40 => some execRfsum | 0x41 => some execRfmax | 0x42 => some execRfmin
  | 0x43 => some execRisum | 0x44 => some execRusum | 0x45 => some execRimax | 0x46 => some execRimin
  | 0x47 => some execRand | 0x48 => some execRor | 0x49 => some execRargmax | 0x4A => some execRkcnt
  | _ => none

/-- The control of a code (R68); reserved codes act as NONE and set no flag, also inside an arm, where R73 lets any
other code set ARM_CUT (DEDUCED, log 157). -/
def controlOf (c : CoreRef) (f : CtlField) (s : State) : State :=
  match ctlOp f with
  | 1 => after (execRdv c f s) s
  | 2 => after (execFence c s) s
  | 3 => after (execRdvFence c f s) s
  | 4 => after (execOrbitEnd c s) s
  | 5 => after (execJmp c f s) s
  | 6 => after (execLoop c f s) s
  | 7 => after (execUbr c f s) s
  | 8 => after (execFbr c f s) s
  | 9 => after (execArmend c s) s
  | _ => s

/-- The repeat count of a bundle (R67): RCOUNT, or bits [11:0] of a parameter register. -/
def Core.repeatOf (k : Core) (b : Bundle64) : Nat :=
  if b.rsrc then bvf (k.par.get 0 (b.rcount % 64)) 0 12 else b.rcount

/-- Array actions of a bundle on array `k`. -/
def State.arrayActions (s : State) (c : CoreRef) (f : ArrayFields) (k : BitVec 2) : State :=
  let w := arrField f k.toNat
  let s := if arrEnter w then after (execEnter c k f .none s) s else s
  let s := if arrShift w then after (execShift c k f .none s) s else s
  if arrSwap w then after (execSwap c k f s) s else s

/-- The taps of port `p`. -/
def State.tapActions (s : State) (c : CoreRef) (b : Bundle64) (p : BitVec 2) : State :=
  let r := b.tap p.toNat false
  let w := b.tap p.toNat true
  let s := if r.en then after (execReadTap c p r .none s) s else s
  if w.en || decide (p = 3) then after (execWriteTap c p w .none s) s else s

/-- The CHAN field (R87). -/
def State.chanActions (s : State) (c : CoreRef) (w : Nat) : State :=
  let sep := BitVec.ofNat 4 (fld w 4 4)
  let s := if bit w 0 then after (execSend c sep s) s else s
  let s := if bit w 28 then after (execElast c sep (BitVec.ofNat 16 (fld w 12 16)) s) s else s
  let s := if bit w 1 then after (execRecv c (BitVec.ofNat 4 (fld w 8 4)) .none s) s else s
  let n := BitVec.ofNat 6 (fld w 29 6)
  let v := BitVec.ofNat 16 (fld w 35 16)
  match fld w 2 2 with
  | 1 => after (execSemopAdd c n v s) s
  | 2 => after (execSemopSub c n v s) s
  | _ => s

/-- Every field of a bundle acts as it directs (R62, R65, R66). -/
def State.runFields (s : State) (c : CoreRef) (b : Bundle64) : State :=
  if b.bfmt ≠ 1 then after (execIdleBundle { core := c } s) s
  else
    let s := s.onCore c (fun k =>
      if k.seq.started then k
      else { k with seq := { k.seq with started := true, repLeft := k.repeatOf b } })
    let s := if b.brk then after (execBrk c s) s else s
    let s := match scalarByCode b.sop with | some f => after (f c b.scalar s) s | none => s
    let s := match vectorByCode b.vop with | some f => after (f c b.vector s) s | none => s
    let s := if b.vlde then after (execVectorLoad c (BitVec.ofNat 6 b.vldr) s) s else s
    let s := if b.vste then after (execVectorStore c (BitVec.ofNat 6 b.vstr) s) s else s
    let s := [0, 1, 2, 3].foldl (fun s k => s.arrayActions c b.arrays (BitVec.ofNat 2 k)) s
    let s := [0, 1, 2, 3].foldl (fun s p => s.tapActions c b (BitVec.ofNat 2 p)) s
    let s := if b.sen then s.onCore c (fun k => { k with work := { k.work with issue := some b.sdesc } }) else s
    let s := s.chanActions c b.chan
    controlOf c b.ctl s

/-- The bundle at the core's address in its active bank (R92), fetched at every repetition: a bundle overwritten while
its core repeats it goes on with the repetitions that were left (DEDUCED, log 158). -/
def State.fetch (s : State) (c : CoreRef) : Bundle64 :=
  let k := s.core c
  Memory.line s.mem (imemAddr ((s.ctx c.ctx).logical c.core) k.seq.bank k.seq.baddr)

/-- A core that no row has given a bundle at this step fetches one (log 13). -/
def State.runCore (s : State) (c : CoreRef) : State :=
  if (s.core c).work.given then s else s.runFields c (s.fetch c)

/-! ### The end of the step at one core -/

/-- The lines the read tap of port `port` delivers: each request receives the line of its bank's winner
(07 R174, R175). -/
def State.portLines (s : State) (x p port : Nat) : Option (List Line) :=
  let k := s.core ⟨x, p⟩
  let reqs := requestsOf k.work.reads
  (k.work.reads.find? (fun t => t.port = port)).map (fun t => t.lines.map (fun l =>
    s.lineAt ((s.ctx x).logical p) k (s.ctx x).step (((winner reqs (l % 32)).map (·.line)).getD l)))

/-- RECV of the step (10 R256): the lines it supplies to the port 3 write tap, none where it is unbound or absent. -/
def State.recvWork (s : State) (x p : Nat) (k : Core) : State × Option (List Line) :=
  match k.work.recv with
  | none => (s, none)
  | some ep =>
    if (k.recvEps.get {} ep).state = .unbound then (s, none)
    else
      let tap := k.work.writes.find? (fun t => t.port = 3)
      let w := match tap with | some t => t.lines.length | none => (k.taps.get {} k.work.recvTd).w
      let r := s.recvStep x p ep tap.isSome w
      (r.1, some r.2)

/-- The port 0 write tap consumes landing-ring positions (08 R205). -/
def State.consumeWork (s : State) (x p n : Nat) (k : Core) : State × Option (List Line) :=
  match k.work.writes.find? (fun t => t.port = 0) with
  | none => (s, none)
  | some t => let r := s.consume x p t.lines.length n; (r.1, some r.2)

/-- The lines of a vector register, 16 lanes each (03 R86). -/
def regLines (v : VReg) : List Line := (List.range 16).map (fun j => BitVec.ofNat 512 (fld v.toNat (512 * j) 512))

/-- What each port's unit supplies to its write tap (R492). -/
def Core.supplied (k : Core) (landed recvd : Option (List Line)) (port : Nat) : Option (List Line) :=
  match port with
  | 0 => landed
  | 1 => some ((List.range 16).map (fun j => k.drain.get 0 j))
  | 2 => k.work.vste.map (fun r => regLines (k.vregs.get 0 r))
  | _ => recvd

/-- The write requests of the step with their data, lowest key first. -/
def Core.writeReqs (k : Core) (landed recvd : Option (List Line)) : List PortReq :=
  sortBy PortReq.le (k.work.writes.flatMap (fun t =>
    match k.supplied landed recvd t.port with
    | none => []
    | some d => (List.range t.lines.length).map (fun j =>
        ({ port := t.port, j, line := t.lines.getD j 0, data := d.getD j 0 } : PortReq))))

/-- The requests that land: the winner of each bank (07 R175). -/
def landing (reqs : List PortReq) : List PortReq :=
  reqs.filter (fun r => winner reqs (r.line % 32) = some r)

/-- A vector load of the step (03 R86): lanes beyond the lines keep their contents. -/
def Core.loadStep (k : Core) (n : Nat) (lines : Option (List Line)) (irc : Bool) : Core :=
  match k.work.vlde, lines with
  | some r, some l =>
    let w := Nat.min 8192 (512 * l.length)
    let v : VecRange := { reg := r, issued := n, upto := n + 2, load := true, baddr := k.seq.baddr }
    let res : VecRes := { due := n + 3, issued := n, load := true, reg := r, en := BitVec.ofNat 8192 (2 ^ w - 1),
                          data := BitVec.ofNat 8192 (joinBits 512 (l.map BitVec.toNat)) }
    { k with vpipe := k.vpipe ++ [res], ranges := if irc then k.ranges ++ [v] else k.ranges }
  | _, _ => k

/-- Conflicts, overlaps, landed writes, the operand buffer and the load of the step, at one core. -/
def Core.memStep (k : Core) (n : Nat) (irc sees : Bool) (writes : List PortReq) (port1 port2 : Option (List Line)) :
    Core :=
  let reads := requestsOf k.work.reads
  let stored := if sees && k.work.writes.any (fun t => t.port = 2) then
    (match k.work.vste with | some r => k.vecOverlap n r 3 | none => []) else []
  let ovl := k.work.overlaps ++ (if sees then k.memOverlaps n reads else []) ++ stored
  let k := k.countConflicts n (losers false reads) (losers true writes)
  let k := k.countOverlaps n k.seq.baddr ovl
  let k := { k with
    memWrites := k.memWrites ++ (landing writes).map (fun (r : PortReq) =>
      ({ issued := n, line := r.line, data := r.data, port := r.port, baddr := k.seq.baddr } : MemWrite))
    opland := k.opland ++ (match port1 with
      | none => []
      | some l => (List.range l.length).map (fun j => (n + 3, j, l.getD j 0))) }
  k.loadStep n port2 irc

/-- SEND and ELAST of the step with the port 3 read tap's lines (10 R254). -/
def State.sendWork (s : State) (x p : Nat) (k : Core) (lines : Option (List Line)) : State :=
  match k.work.send with
  | none => s
  | some sep =>
    let token := match k.work.elast with
      | some (e, t) => if e = sep then some t else none
      | none => none
    s.sendStep x p sep lines token

/-- The rest of the end of a step at one core: arrays, semaphore operations, taps, loop counter. A TAPSET or a LOOP of
the orbit's last step changes nothing (03 R491). -/
def Core.unitStep (k : Core) (n : Nat) (last : Bool) : Core :=
  let k := if last then { k with work := { k.work with tapsets := [], loopDec := none } } else k
  let k := k.arrayStep n
  let k := { k with semIn := k.semIn ++ k.work.sems }
  let k := match k.work.loopDec with
    | none => k
    | some i => { k with lc := k.lc.modify 0 i (fun v => v - 1) }
  k.tapsStep

/-- The end of step `n` at core `p`. -/
def State.settleCore (s : State) (x p : Nat) : State :=
  let k := s.core ⟨x, p⟩
  let n := (s.ctx x).step
  let irc := (s.ctx x).ircOn
  let sees := s.ircSees ⟨x, p⟩
  let last : Bool := match (s.ctx x).freeze with | some z => !z.endBy.isEmpty | none => false
  let (s1, recvd) := s.recvWork x p k
  let (s2, landed) := s1.consumeWork x p n k
  let writes := k.writeReqs landed recvd
  let s3 := s2.sendWork x p k (s.portLines x p 3)
  let s4 := s3.modCoreOf x p (fun c =>
    (c.memStep n irc sees writes (s.portLines x p 1) (s.portLines x p 2)).unitStep n last)
  let q := (s4.core ⟨x, p⟩).seqStep
  let s5 := s4.modCoreOf x p (fun _ =>
    { q.1 with prev := (s4.core ⟨x, p⟩).seq, work := {}, ranges := q.1.ranges.filter (fun v => decide (n + 1 ≤ v.upto)) })
  let s6 := (k.parityArrays n).foldl (fun s a => s.parity x p a n) s5
  if q.2 then s6.armCutAt x p else s6

/-! ### The reduction wire (03 R79) -/

/-- The operation on two contributions. -/
def wireOp (op : Nat) (a b : W64) : W64 :=
  match op with
  | 0 => a &&& b
  | 1 => a ||| b
  | 2 => if a.slt b then a else b
  | 3 => if a.slt b then b else a
  | 4 => a + b
  | 5 => if a.ult b then a else b
  | _ => if a.ult b then b else a

/-- The reduction of one slot's contributions; the lowest program core's operation applies. -/
def wireReduce (l : List WireIn) : Option W64 :=
  match sortBy (fun a b => decide (a.core ≤ b.core)) l with
  | [] => none
  | h :: r => some (r.foldl (fun acc w => wireOp h.op acc w.val) h.val)

/-- The reductions of the step start on their way. -/
def Ctx.wireStep (x : Ctx) : Ctx :=
  { x with
    wires := x.wires ++ [0, 1, 2, 3].filterMap (fun k =>
      (wireReduce (x.wireIn.filter (fun w => w.slot = k))).map (fun v => { due := x.step + 24, slot := k, val := v }))
    wireIn := [] }

/-! ### The context's step -/

/-- The stream descriptors that issue at this step: core, descriptor, the lines of port 0, the parameter registers
as the step began. -/
structure IssueNow where
  core : Nat
  sd : Nat
  lines : Option (List Line)
  par : Tab W64
  deriving DecidableEq, Repr

def State.issues (s : State) (x : Nat) : List IssueNow :=
  (s.ctx x).cores.filterMap (fun p =>
    let k := s.core ⟨x, p⟩
    k.work.issue.map (fun sd => { core := p, sd, lines := s.portLines x p 0, par := k.par }))

/-- Whether some but not all of the context's cores are listed. -/
def partOf (n : Nat) (l : List Nat) : Bool := !l.isEmpty && decide (l.length < n)

/-- RDV_SKEW: a rendezvous or orbit-end control on some cores and not on others (01 R30, R36). -/
def State.skewCheck (s : State) (x : Nat) : State :=
  match (s.ctx x).freeze with
  | none => s
  | some z => if partOf (s.ctx x).ncores z.rdvBy || partOf (s.ctx x).ncores z.endBy then s.flagCtx x fRdvSkew else s

/-- The orbit and step an entry of KIND 02h-04h names (14 R415). -/
def entryAt (b : List Byte) : Nat × Nat := (leAt b 16 8, leAt b 24 6)

/-- Apply a recorded intervention: a semaphore value, a bundle, or a line of memory (14 R415, R428) (DEDUCED,
log 33). -/
def State.applyEntry (s : State) (x : Nat) (b : List Byte) : State :=
  let p := fld (leAt b 30 2) 0 11
  let kind := leAt b 0 1
  let payload := [(40, (b.drop 40).take 216)]
  let s := s.intervene x kind p payload
  match kind with
  | 2 => s.modCoreOf x p (fun c =>
      { c with sems := c.sems.modify {} (leAt b 40 1) (fun q => { q with value := leAt b 44 4 % 2 ^ 31 }) })
  | 3 =>
    let a := imemAddr ((s.ctx x).logical p) (s.core ⟨x, p⟩).seq.bank (leAt b 40 2 % 1024)
    { s with mem := Memory.write s.mem a ((b.drop 64).take 64) }
  | 4 => s.placeLine (leAt b 40 8 % 2 ^ 48) ((b.drop 64).take 64)
  | _ => s

/-- The recorded interventions of this orbit and step: those REPLAY_ARM appended (14 R428) and those a catch-up orbit
holds (15 R465). They act as a freeze settles; those of step 0, which a hold before the entry step records, act at that
boundary (DEDUCED, log 162). -/
def State.replayEntries (s : State) (x : Nat) : State :=
  let c := s.ctx x
  let here := c.replay.entries.filter (fun b => c.replay.run && entryAt b = (c.orbit, c.counter))
  let mirrored := if c.halo.catchUp then c.halo.items.filterMap (fun i => match i with
    | .intervention o n kind p b =>
      if o = c.orbit && n = c.counter then some (ledgerBytes kind x 0 o n p 0 [(40, b)]) else none
    | _ => none) else []
  (here ++ mirrored).foldl (fun s b => s.applyEntry x b) s

/-- Everything issued at the context's step is resolved (01 R24; 03 R64). -/
def State.settle (s : State) (x : Nat) : State :=
  let is := s.issues x
  let s := (s.ctx x).cores.foldl (fun s p => s.settleCore x p) s
  let s := is.foldl (fun s i => s.issueStream x i.core i.sd i.lines (fun k => i.par.get 0 k)) s
  let s := s.mapCores x (fun _ c => { c with ring := c.ring.join })
  let s := s.modCtx x Ctx.wireStep
  s.skewCheck x

/-- The step ends: the next begins, or the wave freezes at this step with its semaphore changes in effect
(R29, R247); a debug hold asked for is then in place. -/
def State.endStep (s : State) (x : Nat) : State :=
  let s := s.settle x
  match (s.ctx x).freeze with
  | none => s.modCtx x (fun c => { c with step := c.step + 1 })
  | some z =>
    let s := (s.landLocked x).mapCores x (fun _ c => c.landSems)
    let s := s.modCtx x (fun c => { c with freeze := some { z with settled := true, since := s.now, step := c.step } })
    let s := if (s.ctx x).holds.debug then s.finishAll 0x52 x 0 0 else s
    if (s.ctx x).counter = 0 then s else s.replayEntries x

/-- One whole step of a context that runs: what is due lands, cores that have no bundle yet fetch one, the step
ends. -/
def State.stepCtx (s : State) (x : Nat) : State :=
  let s := s.landAll x
  let s := (s.ctx x).cores.foldl (fun s p => s.runCore ⟨x, p⟩) s
  s.endStep x

/-- A freeze whose step has not ended yet ends it now, so that a release finds it settled. -/
def State.settleFreeze (s : State) (x : Nat) : State :=
  match (s.ctx x).freeze with
  | none => s
  | some z => if z.settled then s else s.stepCtx x

end Sys2Proof.Machine
end

