-- ==== Sys2Proof/Machine/Monitors.lean ====
section
/-! DEFINITION. What a freeze waits for (08 R216; 10 R262), the stall monitor (10 R270) and the deadline monitor
(08 R219-R221). -/
namespace Sys2Proof.Machine
open Sys2Proof

/-- Whether a request holds a fence of context `x`: a local read that has not landed or a local write that has not
committed (R216). -/
def DramReq.holds (x : Nat) (r : DramReq) : Bool :=
  r.ctx = x && !r.landed && (match r.dest with | .remote _ _ => false | _ => true)

/-- The fence conditions of R216: base-memory traffic never holds a fence, so neither does a request that waits behind a
line still on its way from base memory (DEDUCED, log 32; DEDUCED, log 167). -/
def State.fenceHolds (s : State) (x : Nat) : Bool :=
  (List.range 16).all (fun d =>
    let k := s.stack d
    !(k.waiting.filter (DramReq.free (s.coming d)) ++ k.served ++ k.unsettled).any (DramReq.holds x))

/-- Whether a listed condition holds (R262). -/
def State.condMet (s : State) (x : Nat) (c : Cond) : Bool :=
  let q := (s.core ⟨x, c.core⟩).sems.get {} c.sem
  q.brk || decide (c.thr ≤ q.value + q.pending)

/-- Conditions by program core, A before B. -/
def Cond.le (a b : Cond) : Bool := decide (a.core < b.core) || (a.core = b.core && (!a.second || b.second))

def State.unmet (s : State) (x : Nat) (z : Freeze) : List Cond :=
  sortBy Cond.le (z.conds.filter (fun c => !s.condMet x c))

/-- A hold is present (01 R33). -/
def Holds.any (h : Holds) : Bool :=
  h.eclipse || h.debug || h.weightSwap || h.checkpoint || h.mirrorLag || h.ledger

/-- Whether the freeze of context `x` may release (01 R29-R33): it has settled, its rendezvous conditions and fence
hold at this tick, and no hold is present. The conditions of an abandoned orbit are taken as met (08 R221). -/
def State.mayRelease (s : State) (x : Nat) (z : Freeze) : Bool :=
  z.settled && (s.ctx x).resume.isNone && !(s.ctx x).holds.any
    && (z.abandon || (s.unmet x z).isEmpty) && ((!z.fence && !z.abandon) || s.fenceHolds x)

/-! ### Stall monitor (10 R270) -/

/-- KIND of STALL_REPORT. -/
def Freeze.kind (z : Freeze) : Nat :=
  if !z.endBy.isEmpty then 3 else if !z.rdvBy.isEmpty then (if z.fence then 2 else 0) else if z.fence then 1 else 4

def State.unmetWord (s : State) (x : Nat) (c : Cond) : Nat :=
  let q := (s.core ⟨x, c.core⟩).sems.get {} c.sem
  pack [(11, c.core), (6, c.sem), (10, c.thr), (10, q.value), (10, q.pending), (1, 1)]

/-- STALL_REPORT, 160 bytes. -/
def State.stallBytes (s : State) (x : Nat) (z : Freeze) : List Byte :=
  let u := s.unmet x z
  padTo 160 (bytesOf 32 (pack [(48, z.step), (10, (s.core ⟨x, 0⟩).prev.baddr), (3, z.kind),
      (1, b2n (z.fence && !s.fenceHolds x)), (1, b2n (s.ctx x).holds.any), (1, 0), (64, s.now - z.since),
      (16, Nat.min 65535 u.length)])
    ++ (u.take 16).flatMap (fun c => bytesOf 8 (s.unmetWord x c)))

/-- The freeze of `x` has outlasted STALL_BUDGET: event STALL once, and the report. -/
def State.stallCheck (s : State) (x : Nat) : State :=
  match (s.ctx x).freeze with
  | none => s
  | some z =>
    let b := s.setting 0x42 x
    if z.settled && !z.stallRaised && b ≠ 0 && decide (z.since + b < s.now) then
      let r := s.stallBytes x z
      (s.modCtx x (fun c => { c with stallReport := r, freeze := some { z with stallRaised := true } })).raise
        0x20 (some x) 0 (z.step % 2 ^ 48)
    else s

/-- STALL (R270). -/
def execStall (x t : Nat) (s : State) : Out := quiet s ((s.atTick t).stallCheck x)

/-! ### Deadline monitor (08 R219-R221) -/

/-- A miss of either kind asks for abandonment where RT_ABANDON is set (DEDUCED, log 46). -/
def State.askAbandon (s : State) (x : Nat) : State :=
  if s.setting 0x46 x = 1 then s.modCtx x (fun c => { c with rt := { c.rt with abandon := true } }) else s

/-- Whether the orbit of `x` is under way. -/
def Ctx.inOrbit (x : Ctx) : Bool := x.active && x.resume.isNone && x.item = 0

def State.deadlineCheck (s : State) (x : Nat) : State :=
  let c := s.ctx x
  let d := s.setting 0x44 x
  if c.inOrbit && s.setting 0x43 x = 1 && d ≠ 0 && !c.rt.deadlineRaised && decide (c.entryTick + d < s.now) then
    let s := s.modCtx x (fun c => { c.flag fDeadlineMiss with rt := { c.rt with
      deadlineRaised := true, deadlineMisses := satAdd 4294967295 c.rt.deadlineMisses 1,
      deadlineStep := if c.rt.deadlineMisses = 0 then c.counter else c.rt.deadlineStep } })
    (s.raise 0x21 (some x) 0 c.counter).askAbandon x
  else s

/-- DEADLINE_MISS (R220). -/
def execDeadlineMiss (x t : Nat) (s : State) : Out := quiet s ((s.atTick t).deadlineCheck x)

/-- The wait budget of the freeze: the image's entry for its address on program core 0, or WAIT_BUDGET (R219). An entry
with budget 0 sets none, and of two entries for one address the first stands (DESIGN CHOICE, log 168). -/
def State.waitBudgetOf (s : State) (x : Nat) : Nat :=
  ((s.ctx x).img.waitBudget (s.core ⟨x, 0⟩).prev.baddr).getD (s.setting 0x45 x)

def State.waitCheck (s : State) (x : Nat) : State :=
  let c := s.ctx x
  match c.freeze with
  | none => s
  | some z =>
    let b := s.waitBudgetOf x
    if c.inOrbit && z.settled && !z.waitRaised && s.setting 0x43 x = 1 && b ≠ 0 && decide (z.since + b < s.now) then
      let s := s.modCtx x (fun c => { c.flag fWaitMiss with
        freeze := some { z with waitRaised := true }
        rt := { c.rt with waitRaised := true, waitMisses := satAdd 4294967295 c.rt.waitMisses 1,
                          waitStep := if c.rt.waitMisses = 0 then z.step % 2 ^ 48 else c.rt.waitStep,
                          waitTick := if c.rt.waitMisses = 0 then z.since + b else c.rt.waitTick } })
      let s := if c.rt.waitRaised then s else s.raise 0x22 (some x) 0 (pack [(48, z.step), (48, z.since + b)])
      s.askAbandon x
    else s

/-- WAIT_MISS (R220). -/
def execWaitMiss (x t : Nat) (s : State) : Out := quiet s ((s.atTick t).waitCheck x)

/-- ORBIT_ABANDON (R221): the orbit ends at the freeze that stands, once a miss has asked for it. -/
def execOrbitAbandon (x : Nat) (s : State) : Out :=
  .next (match (s.ctx x).freeze with
  | none => s
  | some z =>
    if z.settled && (s.ctx x).rt.abandon && (s.ctx x).resume.isNone then
      s.modCtx x (fun c => { c with freeze := some { z with abandon := true, fence := true } })
    else s)

end Sys2Proof.Machine
end

