-- ==== Sys2Proof/Machine/Owner.lean ====
section
/-! DEFINITION. Ownership, the open transaction's end, and status codes (13 R356-R362, R366, R373). -/
namespace Sys2Proof.Machine
open Sys2Proof

/-- The owner at the tick now: a lease that has run out gives no authority (R358, R360). -/
def State.owner (s : State) : Option Nat := if s.now < s.mbox.leaseEnd then s.mbox.owner else none

def State.isOwner (s : State) (m : Nat) : Bool := s.owner = some m

/-- An open transaction rolls back: cause 0 ROLLBACK, 1 handover or release, 2 lease (R373, R390). -/
def State.rollBack (s : State) (slot cause : Nat) : State :=
  match s.mbox.txn with
  | none => s
  | some _ => { s with mbox := { s.mbox with txn := none } }.raise 5 none slot cause

/-- Ownership passes to a slot, or to none, with a fresh lease (R359). -/
def State.giveOwner (s : State) (dest : Option Nat) : State :=
  let old := s.mbox.owner.getD 255
  let s := { s with mbox := { s.mbox with owner := dest, leaseEnd := if dest.isSome then s.now + 2000000000 else 0 } }
  s.raise 2 none (dest.getD 255) old

/-- A new owner or none by HANDOVER, RELEASE or a change of agent: the open transaction rolls back. -/
def State.passOwner (s : State) (dest : Option Nat) : State :=
  (s.rollBack (s.mbox.owner.getD 255) 1).giveOwner dest

/-- Status codes (R366; 14 R431; 15 R472). -/
def stOK : Nat := 0x0
def stAccepted : Nat := 0x1
def stPending : Nat := 0x2
def stBadOpcode : Nat := 0x10
def stBadLength : Nat := 0x11
def stBadArg : Nat := 0x12
def stSlotBusy : Nat := 0x13
def stNoPath : Nat := 0x14
def stNotOwner : Nat := 0x20
def stOwned : Nat := 0x21
def stNoSlot : Nat := 0x22
def stUnknownSetting : Nat := 0x30
def stRange : Nat := 0x31
def stPairedField : Nat := 0x32
def stUnitRunning : Nat := 0x33
def stTxnNone : Nat := 0x34
def stTxnBusy : Nat := 0x35
def stTxnFull : Nat := 0x36
def stTxnPending : Nat := 0x37
def stApplyTime : Nat := 0x38
def stPacePending : Nat := 0x39
def stNoContext : Nat := 0x40
def stContextRunning : Nat := 0x41
def stContextShape : Nat := 0x42
def stSiteBusy : Nat := 0x43
def stSiteUnusable : Nat := 0x44
def stQuota : Nat := 0x45
def stCmdQuota : Nat := 0x46
def stNoSpace : Nat := 0x47
def stNoImage : Nat := 0x48
def stContextExists : Nat := 0x49
def stLoadBusy : Nat := 0x4A
def stUnitAbsent : Nat := 0x50
def stLeadProfile : Nat := 0x51
def stSlotConflict : Nat := 0x52
def stNoGrant : Nat := 0x53
def stResource : Nat := 0x54
def stActiveBank : Nat := 0x55
def stImageFormat : Nat := 0x56
def stAddrUnmapped : Nat := 0x60
def stReadOnly : Nat := 0x61
def stNotHeld : Nat := 0x62
def stGrantInUse : Nat := 0x70
def stGrantFull : Nat := 0x71
def stTransitBusy : Nat := 0x72
def stConnMismatch : Nat := 0x73
def stNoPeer : Nat := 0x74
def stTimeInUse : Nat := 0x76
def stLayoutPort : Nat := 0x77
def stLayoutWidth : Nat := 0x78
def stWimgFormat : Nat := 0x100
def stNoAnchor : Nat := 0x101
def stAnchorScope : Nat := 0x102
def stRootMismatch : Nat := 0x103
def stBadSignature : Nat := 0x104
def stLeafMismatch : Nat := 0x105
def stPlacement : Nat := 0x106
def stSwapLayout : Nat := 0x107
def stWeightBusy : Nat := 0x108
def stWeightInvalid : Nat := 0x109
def stAnchorFull : Nat := 0x10A
def stLeafStoreFull : Nat := 0x10B
def stVariant : Nat := 0x10C
def stParamSet : Nat := 0x10D
def stAnchorInUse : Nat := 0x10E
def stIndexExhausted : Nat := 0x10F
def stReplayState : Nat := 0x110
def stNotReady : Nat := 0x180
def stResetScope : Nat := 0x181
def stEclipseTimeout : Nat := 0x182
def stRecoveryBusy : Nat := 0x183
def stHaloActive : Nat := 0x184
def stHaloState : Nat := 0x185
def stFwFormat : Nat := 0x186
def stFwSignature : Nat := 0x187
def stFwRollback : Nat := 0x188
def stCkptDigest : Nat := 0x189
def stRepairFull : Nat := 0x18A

end Sys2Proof.Machine
end

