-- ==== Sys2Proof/Machine/Repair.lean ====
section
/-! DEFINITION. Defects and the mapping of cores (02 R45-R48; 04 R120; 07 R181; 15 R439-R443). -/
namespace Sys2Proof.Machine
open Sys2Proof

/-- Fields of a FUSE_ENTRY (15 R439). -/
def fuseType (e : BitVec 64) : Nat := bvf e 0 4
def fuseUnit (e : BitVec 64) : Nat := bvf e 8 5
def fuseCore (e : BitVec 64) : Nat := bvf e 13 7
def fuseArray (e : BitVec 64) : Nat := bvf e 20 2
def fuseLoc (e : BitVec 64) : Nat := bvf e 32 30

/-- An entry with TYPE 1-8 is in use. -/
def fuseUsed (e : BitVec 64) : Bool := decide (1 ≤ fuseType e) && decide (fuseType e ≤ 8)

/-- Distinct locations among the entries a test accepts. -/
def fuseLocs (l : List (BitVec 64)) (p : BitVec 64 → Bool) (loc : Nat → Nat) : List Nat :=
  ((l.filter p).map (fun e => loc (fuseLoc e))).foldr insertNat []

/-- Entries of a kind at one core. -/
def fuseAt (t site pc : Nat) (e : BitVec 64) : Bool := fuseType e = t && fuseUnit e = site && fuseCore e = pc

/-- Whether defects leave physical core `pc` of a site bad: marked bad, more than two bad rows or one bad column in
an array, more than four bad rows in a core-memory bank (02 R45; 04 R120; 07 R181). Arrays of a KFM-7200C do not
count. -/
def coreBad (v : Nat) (l : List (BitVec 64)) (site pc : Nat) : Bool :=
  l.any (fuseAt 1 site pc)
  || v ≠ 2 && [0, 1, 2, 3].any (fun a =>
      decide (2 < (fuseLocs l (fun e => fuseAt 2 site pc e && fuseArray e = a) (fun v => fld v 0 7)).length)
      || decide (1 < (fuseLocs l (fun e => fuseAt 3 site pc e && fuseArray e = a) (fun v => fld v 0 6)).length))
  || (List.range 32).any (fun b =>
      decide (4 < (fuseLocs l (fun e => fuseAt 4 site pc e && fld (fuseLoc e) 0 5 = b) (fun v => fld v 5 9)).length))

/-- The good-core set of a site, rising (02 R45). -/
def goodCores (v : Nat) (l : List (BitVec 64)) (site : Nat) : List Nat :=
  (List.range 80).filter (fun pc => !coreBad v l site pc)

/-- A base-memory bank with more than 16 bad rows (07 R181). -/
def baseBad (l : List (BitVec 64)) (quad : Nat) : Bool :=
  (List.range 128).any (fun b =>
    decide (16 < (fuseLocs l (fun e => fuseType e = 5 && fuseUnit e = quad && fld (fuseLoc e) 0 7 = b)
      (fun v => fld v 7 11)).length))

/-- A stack whose rows or bond lanes exceed what the stack can repair (15 R439). -/
def stackBad (l : List (BitVec 64)) (d : Nat) : Bool :=
  decide (Config.dramSpares < (fuseLocs l (fun e => fuseType e = 6 && fuseUnit e = d) id).length)
  || decide (Config.bondSpares < (fuseLocs l (fun e => fuseType e = 8 && fuseUnit e = 16 + d) (fun v => fld v 0 12)).length)

def siteBondBad (l : List (BitVec 64)) (site : Nat) : Bool :=
  decide (Config.bondSpares < (fuseLocs l (fun e => fuseType e = 8 && fuseUnit e = site) (fun v => fld v 0 12)).length)

/-- Whether a site is usable by the merged lists (02 R46; 15 R440). -/
def siteUsable (v : Nat) (l : List (BitVec 64)) (site : Nat) : Bool :=
  decide (72 ≤ (goodCores v l site).length) && !siteBondBad l site && !stackBad l site

/-- Whether a context may take a site: usable, and neither it nor its stack failed for this boot (15 R440, R443). -/
def State.siteFree (s : State) (site : Nat) : Bool :=
  siteUsable s.variant s.boot.merged site && !s.boot.failed.testBit site && !s.boot.drams.testBit site

/-- The physical core of a logical core, as pc of its site (02 R45). -/
def State.physical (s : State) (logical : Nat) : Nat :=
  (goodCores s.variant s.boot.merged (logical / 72)).getD (logical % 72) 0

/-- The logical core that physical core `pc` of a site carries, if it carries one. -/
def State.logicalOf (s : State) (site pc : Nat) : Option Nat :=
  match findIdxOpt (fun q => q = pc) (goodCores s.variant s.boot.merged site) with
  | some (i, _) => if i < 72 then some (site * 72 + i) else none
  | none => none

/-- ARRAY_SPARE of array `a` of a logical core (04 R119, R123). -/
def State.arraySpare (s : State) (logical a : Nat) : Nat :=
  let site := logical / 72
  let pc := s.physical logical
  let rows := fuseLocs s.boot.merged (fun e => fuseAt 2 site pc e && fuseArray e = a) (fun v => fld v 0 7)
  let cols := fuseLocs s.boot.merged (fun e => fuseAt 3 site pc e && fuseArray e = a) (fun v => fld v 0 6)
  if s.variant = 2 then 0 else pack [(7, rows.getD 0 127), (7, rows.getD 1 127), (6, cols.getD 0 63)]

end Sys2Proof.Machine
end

