-- ==== Sys2Proof/Machine/Settings.lean ====
section
/-! DEFINITION. The settings registry: class, scope, range, effect (11 R278, R287, R295; 12 R327, R337; 13 R362,
R367-R373, R380, R381; 15 R471; 16 R484). -/
namespace Sys2Proof.Machine
open Sys2Proof

/-- Class (0 I, 1 L, 2 S, 3 T) and scope (0 module, 1 context, 2 quadrant, 3 stack, 4 port, 5 slot) of a setting;
QUOTA_SEAL_RATE exists on G modules only (R369, R380). -/
def settingInfo (variant num : Nat) : Option (Nat × Nat) :=
  match num with
  | 0x01 => some (3, 0) | 0x02 => some (0, 0) | 0x03 => some (2, 0)
  | 0x10 => some (2, 0) | 0x11 => some (2, 0) | 0x12 => some (2, 0) | 0x13 => some (2, 0) | 0x14 => some (2, 4)
  | 0x20 => some (0, 5) | 0x21 => some (0, 5) | 0x22 => some (0, 0)
  | 0x40 => some (0, 1) | 0x41 => some (1, 1) | 0x42 => some (0, 1)
  | 0x43 => some (1, 1) | 0x44 => some (1, 1) | 0x45 => some (1, 1) | 0x46 => some (1, 1)
  | 0x50 => some (0, 1) | 0x51 => some (0, 1) | 0x52 => some (3, 1) | 0x53 => some (0, 1)
  | 0x54 => if variant = 0 then some (0, 1) else none
  | 0x55 => some (0, 1)
  | 0x60 => some (0, 2) | 0x61 => some (0, 3)
  | 0x70 => some (0, 0) | 0x71 => some (0, 0) | 0x72 => some (1, 1) | 0x73 => some (1, 1)
  | 0x80 => some (0, 0)
  | _ => none

def settingNumbers : List Nat :=
  [0x01, 0x02, 0x03, 0x10, 0x11, 0x12, 0x13, 0x14, 0x20, 0x21, 0x22, 0x40, 0x41, 0x42, 0x43, 0x44, 0x45, 0x46,
   0x50, 0x51, 0x52, 0x53, 0x54, 0x55] ++ [0x60, 0x61, 0x70, 0x71, 0x72, 0x73, 0x80]

/-- Instances of a setting by scope (R367). -/
def settingInstance (scope num inst : Nat) : Bool :=
  match scope with
  | 0 => inst = 0
  | 1 => decide (inst < 16)
  | 2 => decide (inst < 4)
  | 3 => decide (inst < 16)
  | 4 => decide (inst < 20)
  | _ => decide (1 ≤ inst) && decide (inst ≤ (if num = 0x20 then 6 else 7))

def sidNum (sid : Nat) : Nat := fld sid 0 16
def sidInst (sid : Nat) : Nat := fld sid 16 8

/-- Class and scope of a SID that exists on the variant (DEDUCED, log 40). -/
def sidInfo (variant sid : Nat) : Option (Nat × Nat) :=
  match settingInfo variant (sidNum sid) with
  | none => none
  | some i => if settingInstance i.2 (sidNum sid) (sidInst sid) then some i else none

/-- A module code of R328: bits outside its kind's fields are 0. -/
def codeValid (v : Nat) : Bool :=
  decide (v < 2 ^ 24) && (match fld v 22 2 with
  | 0 => fld v 21 1 = 0
  | 1 => fld v 10 12 = 0
  | 2 => fld v 5 17 = 0
  | _ => fld v 16 6 = 0)

/-- TORUS_DIMS of R327. -/
def dimsValid (v : Nat) : Bool :=
  let axis := fun (a : Nat) => decide (4 ≤ a) && decide (a ≤ 128) && a % 4 = 0
  let z := fld v 16 8
  decide (v < 2 ^ 24) && axis (fld v 0 8) && axis (fld v 8 8) && decide (2 ≤ z) && decide (z ≤ 128) && z % 2 = 0

/-- Maximum module input of a profile in watts (R285). -/
def maxInput (profile : Nat) : Nat := if profile = 0 then 2900 else if profile = 1 then 3900 else 4800

/-- The profile in force (R274): that of domain 0, as all domains agree. -/
def State.profile (s : State) : Nat := (s.domain 0).profile

/-- Default DRAM quota of a context in GiB, base quota in MiB (R369). -/
def State.dramDefault (s : State) (x : Nat) : Nat := (if s.variant = 1 then 8 else 16) * (s.ctx x).sites.length
def State.baseDefault (s : State) (x : Nat) : Nat := 64 * (s.ctx x).heldQuads.length

/-- The value in force of a setting. -/
def State.settingNow (s : State) (num inst : Nat) : Nat :=
  match num with
  | 0x01 => s.profile
  | 0x14 => s.role inst
  | 0x50 => (s.settingRaw (inst * 65536 + num)).getD (s.dramDefault inst)
  | 0x51 => (s.settingRaw (inst * 65536 + num)).getD (s.baseDefault inst)
  | 0x52 => (s.settingRaw (inst * 65536 + num)).getD 100
  | 0x54 => (s.settingRaw (inst * 65536 + num)).getD 1000
  | 0x80 => (s.settingRaw num).getD (maxInput s.profile)
  | _ => s.setting num inst

/-- Another port holds the role. -/
def State.roleTaken (s : State) (p v : Nat) : Bool :=
  (List.range 20).any (fun q => q ≠ p && s.role q = v)

/-- Whether a value lies in a setting's range. A port may be set to halo, host bridge or unused, or back to its
default role; one port at most holds role 5, and one role 6 (R337) (DEDUCED, log 38). -/
def State.inRange (s : State) (num inst v : Nat) : Bool :=
  match num with
  | 0x01 => decide (v ≤ 2)
  | 0x02 => decide (v ≤ 255)
  | 0x03 => decide (v ≤ 1)
  | 0x10 => decide (v ≤ 2)
  | 0x11 => codeValid v
  | 0x12 => dimsValid v
  | 0x13 => decide (2 ≤ v) && decide (v ≤ 64)
  | 0x14 =>
    let dflt := defaultRole (s.setting 0x10 0) (s.setting 0x13 0) (s.setting 0x11 0) inst
    (v = dflt || v = 0 || v = 5 || v = 6) && !((v = 5 || v = 6) && s.roleTaken inst v)
  | 0x20 => codeValid v || v = 16777215
  | 0x21 => decide (v ≤ 1)
  | 0x22 => decide (v ≤ 3)
  | 0x40 => decide (v ≤ 65535)
  | 0x41 => decide (v ≤ 1)
  | 0x42 => decide (v < 2 ^ 40)
  | 0x43 => decide (v ≤ 1)
  | 0x44 => decide (v < 2 ^ 48)
  | 0x45 => decide (v < 2 ^ 32)
  | 0x46 => decide (v ≤ 1)
  | 0x50 => decide (v ≤ s.dramDefault inst)
  | 0x51 => decide (v ≤ s.baseDefault inst)
  | 0x52 => decide (v ≤ 100)
  | 0x53 => decide (1 ≤ v) && decide (v ≤ 255)
  | 0x54 => decide (v ≤ 3000)
  | 0x55 => decide (1 ≤ v) && decide (v ≤ 64)
  | 0x60 => decide (v ≤ 1)
  | 0x61 => decide (v ≤ 1)
  | 0x70 => decide (1000000 ≤ v) && decide (v ≤ 10000000000)
  | 0x71 => decide (v ≤ 1)
  | 0x72 => decide (v ≤ 65535)
  | 0x73 => decide (1 ≤ v) && decide (v ≤ 255)
  | 0x80 => decide (1500 ≤ v) && decide (v ≤ maxInput s.profile)
  | _ => false

/-- The checks every write and SET makes first: SID, range, context (R368). -/
def State.settingCheck (s : State) (sid v : Nat) : Nat :=
  match sidInfo s.variant sid with
  | none => stUnknownSetting
  | some i =>
    if !s.inRange (sidNum sid) (sidInst sid) v then stRange
    else if i.2 = 1 && (s.ctx (sidInst sid)).phase = .free then stNoContext
    else stOK

/-- Whether the unit of a class S setting runs (R295, R327, R368). A topology setting's unit is every port, that of
PORT_ROLE too (R327) (DEDUCED, log 39). -/
def State.unitRuns (s : State) (sid : Nat) : Bool :=
  if sidNum sid = 0x03 then (List.range 16).any (fun x => (s.ctx x).phase ≠ .free)
  else (List.range 20).any (fun p => (s.port p).phase ≠ .down)

/-! ### Quotas (R380, R381) -/

/-- Router phases in which an image's lines reach the banks of program quadrant `j`. -/
def Image.routerPhases (i : Image) (j : Nat) : Nat :=
  let m := fld (i.memPhase j) 0 15
  joinBits 1 ((List.range 16).map (fun k => b2n (m.testBit ((k + 16 - i.delta % 16) % 16))))

/-- Router phases of a physical quadrant that a context's installed and reserved images hold. -/
def Ctx.phasesAt (x : Ctx) (quad : Nat) : Nat :=
  (x.image.toList ++ x.staged.toList).foldl (fun m i =>
    (List.range 4).foldl (fun m j => if x.quad j = quad then m ||| i.routerPhases j else m) m) 0

/-- Granules of DRAM or of base memory that a context holds. -/
def granuleSum (l : List (List Nat)) : Nat := (l.map List.length).sum

/-- Elastic endpoints bound or being opened, and a mirror circuit (R380). -/
def State.linkUse (s : State) (x : Nat) : Nat :=
  let ends := ((s.ctx x).cores.map (fun p =>
    let k := s.core ⟨x, p⟩
    (k.sendEps.filter (fun e => e.2.elastic && e.2.state ≠ .unbound)).length
      + (k.recvEps.filter (fun e => e.2.elastic && e.2.state ≠ .unbound)).length)).sum
  let opens := (s.links.openings.filter (fun o => o.ctx = x && o.bind.core ≠ 2047)).length + ((s.ctx x).binds.filter (fun b => !b.unbind)).length
  ends + opens + (match (s.ctx x).halo.phase with
    | .active => if (s.ctx x).halo.standby then 0 else 1
    | _ => 0)

/-- The use of each quota row, in the order of R380, and whether it exceeds the value in force. -/
def State.overRow (s : State) (x row : Nat) : Bool :=
  let c := s.ctx x
  match row with
  | 0 => decide (s.settingNow 0x50 x < granuleSum c.dram)
  | 1 => decide (s.settingNow 0x51 x < granuleSum c.base)
  | 2 => c.heldQuads.any (fun q =>
      decide (s.settingNow 0x52 x * 15 < 100 * (bitsUp 15 (c.phasesAt q)).length))
  | 3 => decide (s.settingNow 0x53 x < s.linkUse x)
  | 5 => decide (s.settingNow 0x55 x < (s.mbox.deferred.filter (fun d => d.ctx = some x)).length)
  | _ => false

/-- OVER_QUOTA reads 1 while a use exceeds its quota (R381). -/
def State.overQuota (s : State) (x : Nat) : Bool := [0, 1, 2, 3, 5].any (s.overRow x)

/-- A quota row set below its use raises the event (R381). -/
def State.quotaSet (s : State) (x row : Nat) : State := if s.overRow x row then s.raise 6 (some x) 0 row else s

/-! ### Effects of a value taking force -/

/-- A port begins training in the signal phase, if its role is used and MODULE_CODE is written (R314, R317, R327). -/
def State.trainPort (s : State) (p : Nat) : State :=
  if s.role p = 0 || s.setting 0x11 0 = 16777215 then s
  else s.modPort p (fun q => { q with phase := .training, train := .signal, lanes := 0, active := [], width := 0,
                                      ready := 0, weak := 0, miswired := false, groups := 0, sentGroups := 0, fails := 0
                                      swap := [], watch := false, silent := false, tdepth := 15, asks := none })

def State.trainAll (s : State) : State := (List.range 20).foldl (fun s p => s.trainPort p) s

/-- ALERT_N follows ALERT_LEVEL and ACK_SEQ (R387); it is held low after a bring-up that failed and in ROM recovery
(15 R434, R437) (DEDUCED, log 140). -/
def State.realert (s : State) : State :=
  let level := s.setting 0x22 0
  { s with events := { s.events with alert := s.events.alerting level || s.boot.rom || s.boot.phase = 2 } }

/-- PACE_MARGIN for a domain whose margin lies below the warning, at most once in 1 ms (11 R278). -/
def State.marginWarn (s : State) (d : Nat) : State :=
  let v := s.domain d
  let quietly := match v.lastWarn with | some t => decide (s.now < t + 1000000) | none => false
  if !quietly && decide (0 < v.beats) && decide (v.margin < s.setting 0x02 0) then
    (s.setDomain d { v with lastWarn := some s.now }).raise 0x40 none d (BitVec.ofInt 16 v.margin).toNat
  else s

/-- A write of MBOX_AGENT (R362): the slot leaves its agent, and what the slot holds goes with it. -/
def State.rebind (s : State) (m v : Nat) : State :=
  let old := s.slot m
  if old.bound && old.agent = v then s
  else
    let s := if s.mbox.owner = some m then s.passOwner none else s
    s.setSlot m { old with bound := v ≠ 16777215, agent := v, claim := none, posted := false, inService := false
                           parked := none, command := [], respValid := false, assembling := none, transport := 3 }

/-- A new time state, with its event (11 R296). -/
def State.timeState (s : State) (st : Nat) : State :=
  if s.time.state = st then s
  else
    let old := s.time.state
    { s with time := { s.time with state := st } }.raise 0x44 none 0 (pack [(8, old), (8, st)])

/-- TIME_ROLE: a root's counter runs alone; a follower that has measured no parent is FREE (R295, R296)
(DEDUCED, log 43). -/
def State.timeRole (s : State) (v : Nat) : State :=
  let s := { s with time := { s.time with good := 0, askedAt := none } }
  if v = 1 then { s with time := { s.time with parent := none, asked := none } }.timeState 1
  else if s.time.state = 1 then s.timeState (if s.time.lastSync = 0 then 0 else 4) else s

/-- MODULE_CODE written while stage 4 waits, or after a bring-up without links, starts training (R314, R434). -/
def State.codeWritten (s : State) : State :=
  if s.boot.unconfigured || (s.boot.phase = 0 && s.boot.stage = 4) then
    { s with boot := { s.boot with unconfigured := false } }.trainAll
  else s

/-- A value takes force. PACE_PROFILE takes force through PACE_SWITCH (R290). -/
def State.applySetting (s : State) (sid v : Nat) : State :=
  let num := sidNum sid
  let inst := sidInst sid
  if num = 0x01 then s
  else
    let s := s.setSetting sid v
    match num with
    | 0x02 => (List.range 20).foldl (fun s d => s.marginWarn d) s
    | 0x03 => s.timeRole v
    | 0x11 => s.codeWritten
    | 0x20 => s.rebind inst v
    | 0x22 => s.realert
    | 0x40 => (s.ctx inst).cores.foldl (fun s p => s.ceThreshold inst p) s
    | 0x42 => s.stallCheck inst
    | 0x50 => s.quotaSet inst 0
    | 0x51 => s.quotaSet inst 1
    | 0x52 => s.quotaSet inst 2
    | 0x53 => s.quotaSet inst 3
    | 0x54 => s.quotaSet inst 4
    | 0x55 => s.quotaSet inst 5
    | _ => s

/-! ### Sums (R371, R419) -/

/-- The values staged for a setting number override those in force. -/
def State.valueWith (s : State) (staged : List Staged) (num inst : Nat) : Nat :=
  match staged.find? (fun q => q.sid = inst * 65536 + num) with
  | some q => q.value
  | none => s.settingNow num inst

def State.liveCtxs (s : State) : List Nat := (List.range 16).filter (fun x => (s.ctx x).phase ≠ .free)

/-- The values that a committed transaction is still to apply. -/
def State.comingParts (s : State) : List Staged := match s.mbox.committed with | some c => c.rest | none => []

/-- The seal rates as they stand and as they will once a committed transaction has applied: the greater sum (14 R419)
(DEDUCED, log 81). -/
def State.sealSum (s : State) (staged : List Staged) : Nat :=
  let coming := s.comingParts
  let named := (List.range 16).filter (fun x => s.liveCtxs.contains x || coming.any (fun e => e.sid = x * 65536 + 0x54))
  Nat.max (s.liveCtxs.map (fun x => s.valueWith staged 0x54 x)).sum
    (named.map (fun x => s.valueWith (coming ++ staged) 0x54 x)).sum

/-- Contexts that hold sites on a quadrant. -/
def State.onQuad (s : State) (q : Nat) : List Nat := s.liveCtxs.filter (fun x => (s.ctx x).heldQuads.contains q)

def State.netSum (s : State) (staged : List Staged) (q : Nat) : Nat :=
  ((s.onQuad q).map (fun x => s.valueWith staged 0x52 x)).sum

/-! ### Committed transactions and lone class L writes (R368, R372) -/

/-- A context-scope part whose context is FREE or DESTROYING is lost (DEDUCED, log 79). -/
def State.partLost (s : State) (sid : Nat) : Bool :=
  match sidInfo s.variant sid with
  | some i => i.2 = 1 && ((s.ctx (sidInst sid)).phase = .free || (s.ctx (sidInst sid)).phase = .destroying)
  | none => true

/-- Whether a part is a class L setting. -/
def State.isL (s : State) (sid : Nat) : Bool := match sidInfo s.variant sid with | some i => i.1 = 1 | none => false

/-- TXN_APPLIED once every part has applied or is lost. -/
def State.txnDone (s : State) : State :=
  match s.mbox.committed with
  | none => s
  | some c =>
    if c.rest.isEmpty then
      { s with mbox := { s.mbox with committed := none } }.raise 4 none c.slot (Nat.min 65535 c.applied)
    else s

/-- Apply one committed part. -/
def State.applyPart (s : State) (q : Staged) : State :=
  if s.partLost q.sid then s
  else
    let s := { s with mbox := { s.mbox with committed := s.mbox.committed.map (fun (c : Committed) => { c with applied := c.applied + 1 }) } }
    s.applySetting q.sid q.value

/-- Apply the committed parts a test accepts, in staging order. -/
def State.applyParts (s : State) (p : Staged → Bool) : State :=
  match s.mbox.committed with
  | none => s
  | some c =>
    let s := { s with mbox := { s.mbox with committed := some { c with rest := c.rest.filter (fun q => !p q) } } }
    ((c.rest.filter p).foldl State.applyPart s).txnDone

/-- Whether the committed transaction's class L parts may apply at a boundary now: boundary mode, or a tick mode
whose effective tick has come. -/
def State.txnRipe (s : State) : Bool :=
  match s.mbox.committed with
  | none => false
  | some c => match c.tick with | none => true | some t => decide (t ≤ s.now)

/-- Item 3 of R36: the context's waiting settings, in the order the MC accepted them. -/
def State.boundarySettings (s : State) (x : Nat) : State :=
  let lone := s.mbox.lone.filter (fun q => sidInst q.sid = x)
  let s := { s with mbox := { s.mbox with lone := s.mbox.lone.filter (fun q => sidInst q.sid ≠ x) } }
  let k : Nat := (s.mbox.committed.map (fun (c : Committed) => c.order)).getD 0
  let s := (lone.filter (fun q => decide (q.order < k))).foldl (fun s q => s.applySetting q.sid q.value) s
  let s := if s.txnRipe then s.applyParts (fun q => s.isL q.sid && sidInst q.sid = x) else s
  (lone.filter (fun q => !decide (q.order < k))).foldl (fun s q => s.applySetting q.sid q.value) s

/-- The value that will apply to a setting, if a class L write or a committed transaction will change it (R367). -/
def State.pendingValue (s : State) (sid : Nat) : Option Nat :=
  let l := (s.mbox.lone.filter (fun q => q.sid = sid)).map (fun q => (q.order, q.value))
  let c := match s.mbox.committed with
    | none => []
    | some c => (c.rest.filter (fun q => q.sid = sid)).map (fun q => (c.order, q.value))
  let p := match s.time.pend with | some p => if sid = 1 then [(0, p.profile)] else [] | none => []
  ((sortBy (fun a b : Nat × Nat => decide (a.1 ≤ b.1)) (p ++ l ++ c)).getLast?).map (·.2)

/-- A SETTING_ENTRY (R367). -/
def State.settingEntry (s : State) (sid : Nat) : List Byte :=
  let pv := s.pendingValue sid
  bytesOf 32 (pack [(32, sid), (2, ((sidInfo s.variant sid).map (·.1)).getD 0), (1, b2n pv.isSome), (29, 0),
    (64, s.settingNow (sidNum sid) (sidInst sid)), (64, pv.getD 0)])

/-- Every SID of the module, rising (R348). -/
def State.sids (s : State) : List Nat :=
  (List.range 20).flatMap (fun i => (settingNumbers.map (fun n => i * 65536 + n)).filter
    (fun sid => (sidInfo s.variant sid).isSome))

end Sys2Proof.Machine
end

