-- ==== Sys2Proof/Machine/Windows.lean ====
section
/-! DEFINITION. What the windows show: core control windows (03 R95; 04 R123; 06 R169; 07 R185; 08 R208, R222; 09 R244;
10 R272), context status (10 R270; 13 R383; 14 R402), the management window (13 R348-R349, R386) and the capability
block (02 R58). -/
namespace Sys2Proof.Machine
open Sys2Proof

/-- The core as its window shows it: what has landed by the context's step, its semaphore sums applied. -/
def State.seen (s : State) (logical : Nat) : Core :=
  match s.programOf logical with
  | none => s.coreAt logical
  | some (x, _) => ((s.coreAt logical).at' (s.ctx x).step).landSems

/-- The sequencer of the step that executes, or of the freezing step. -/
def State.seqSeen (s : State) (logical : Nat) : Seq :=
  match s.programOf logical with
  | none => (s.coreAt logical).seq
  | some (x, _) => if (s.ctx x).frozen then (s.coreAt logical).prev else (s.coreAt logical).seq

/-- An eclipse or debug hold is in place: it acts only at a freeze, or where no bundle runs (01 R34). -/
def Ctx.held (x : Ctx) : Bool := (x.holds.eclipse || x.holds.debug) && (x.frozen || !x.active)

/-- CORE_STATE: repetitions are counted after the current one, arm steps with it: 1 to 1,024 in an arm, 0 outside
(DEDUCED, log 135). -/
def State.coreState (s : State) (logical : Nat) : Nat :=
  let q := s.seqSeen logical
  let held := match s.programOf logical with | some (x, _) => (s.ctx x).held | none => false
  let k := (s.coreAt logical).seq
  pack [(1, b2n k.bank), (1, b2n k.staged), (1, b2n held), (10, q.baddr), (12, q.repLeft), (1, b2n q.inArm),
    (11, q.armLeft)]

/-! ### Arrays (04 R123) -/

def State.arrayWord (s : State) (logical k : Nat) : Nat :=
  if s.variant = 2 then 0
  else
    let c := s.seen logical
    let a := c.arrays.get {} k
    let n := match s.programOf logical with
      | some (x, _) => (s.ctx x).step + b2n (s.ctx x).frozen
      | none => 0
    let fly := fun w => (c.drainIn.filter (fun d => d.k = k && d.wide = w)).length
    pack [(7, a.shiftCount), (1, b2n a.frontSet), (2, Nat.min 3 (a.busyTo - n)), (7, fly false), (5, fly true),
      (1, b2n a.paritySeen)]

/-! ### Streams (08 R208, R222) -/

def Core.streamState (c : Core) : Nat :=
  pack [(16, c.ring.a), (16, c.ring.u), (10, Nat.min 512 c.ring.join.unlanded.length), (1, b2n c.rep.lateSeen),
    (1, b2n c.rep.overSeen)]

/-- The bits of a stream descriptor that hold a field. -/
def descMask : Nat := (2 ^ 216 - 1) - 2 ^ 7 - 2 ^ 31

/-- A descriptor of the installed table, with its current offset. -/
def State.descWord (s : State) (logical n : Nat) : Nat :=
  match s.programOf logical with
  | none => 0
  | some (x, p) =>
    putFld (Nat.land (leAt ((s.ctx x).img.sect 3 p) (32 * n) 32) descMask) 160 32 ((s.coreAt logical).sdCur.get 0 n)

/-! ### Channels (10 R272) -/

/-- Semaphore `n` is bound to an elastic endpoint. -/
def Core.elasticBound (c : Core) (n : Nat) : Bool :=
  c.sendEps.any (fun e => e.2.elastic && e.2.state ≠ .unbound && e.2.csem = n)
  || c.recvEps.any (fun e => e.2.elastic && e.2.state ≠ .unbound && e.2.asem = n)

def Core.semWord (c : Core) (n : Nat) : Nat :=
  let q := c.sems.get {} n
  pack [(31, q.value), (1, b2n q.brk), (31, q.pending), (1, b2n (c.elasticBound n))]

def EpState.code : EpState → Nat
  | .unbound => 0
  | .bound => 1
  | .broken => 2

def SendEp.word (e : SendEp) : Nat :=
  pack [(2, e.state.code), (1, b2n e.elastic), (2, e.kind), (1, b2n e.cls), (6, e.csem), (6, e.esize - 1),
    (4, e.depth - 1), (5, e.inFlight), (7, Nat.min 64 e.fill), (1, b2n e.overflow), (16, e.discards), (13, 0), (32, e.connId)]

def RecvEp.word (e : RecvEp) : Nat :=
  let all := (List.range 64).map (fun i => (e.subs.get {} i).entries)
  let complete := (all.map List.length).sum
  let admitted := if e.elastic then (all.map (fun l => (l.filter (·.admitted)).length)).sum else 0
  pack [(2, e.state.code), (1, b2n e.elastic), (2, e.kind), (1, b2n e.cls), (6, e.asem), (6, e.esize - 1),
    (4, e.depth - 1), (6, e.senders - 1), (6, e.rdptr), (7, e.cursor), (10, complete), (10, admitted), (3, 0),
    (9, e.base), (23, 0), (32, e.connId)]

/-- RECV_HEAD of an entry of a sub-queue. -/
def headWord (elastic : Bool) (i : Nat) (e : Option Entry) : Nat :=
  match e with
  | none => pack [(23, 0), (6, i)]
  | some h => pack [(16, h.token), (7, h.lines), (6, i), (1, 1), (1, b2n (elastic && h.admitted))]

def RecvEp.head (e : RecvEp) : Nat :=
  if e.state = .unbound then 0
  else
    let i := if e.kind = 2 then e.rdptr else 0
    headWord e.elastic i (e.sub i).entries.head?

/-! ### The core control window -/

/-- The word at offset `8 * (o / 8)` of the core control window of a logical core. -/
def State.ctlWord (s : State) (logical o : Nat) : Nat :=
  let c := s.seen logical
  let w := o / 8
  if o < 0x100 then (c.taps.get {} w).word
  else if o < 0x300 then (c.par.get 0 (w - 32)).toNat
  else if o < 0x400 then (c.sr.get 0 (w - 96)).toNat
  else if o < 0x420 then (c.lc.get 0 (w - 128)).toNat
  else if o < 0x440 then
    (match s.programOf logical with
    | some (x, _) => ((s.ctx x).wireAt (s.ctx x).step (w - 132)).toNat
    | none => 0)
  else if o < 0x448 then s.coreState logical
  else if o < 0x1000 then 0
  else if o < 0x1020 then s.arrayWord logical (w - 512)
  else if o < 0x1040 then s.arraySpare logical (w - 516)
  else if o < 0x1100 then 0
  else if o < 0x1500 then
    (if s.variant = 2 then 0 else fld (c.opbuf.get 0 ((o - 0x1100) / 64)).toNat (64 * (w % 8)) 64)
  else if o < 0x1900 then
    (if s.variant = 2 then 0 else fld (c.drain.get 0 ((o - 0x1500) / 64)).toNat (64 * (w % 8)) 64)
  else if o < 0x1A00 then
    let m := (o - 0x1900) / 32
    (if m = 0 then 2 ^ 64 - 1 else fld (c.masks.get 0 m).toNat (64 * (w % 4)) 64)
  else if o < 0x2000 then 0
  else if o < 0x2020 then (c.rep.conf.get 0 (w - 1024)).toNat
  else if o < 0x2028 then c.rep.confFirst.toNat
  else if o < 0x2030 then c.rep.ecc.toNat
  else if o < 0x2038 then c.rep.ueFirst.toNat
  else if o < 0x2040 then 0
  else if o < 0x2048 then c.rep.ircFirst.toNat
  else if o < 0x2050 then c.rep.ircAddr.toNat
  else if o < 0x2058 then
    let on := match s.programOf logical with | some (x, _) => (s.ctx x).ircOn | none => false
    pack [(32, bvf c.rep.ircCount 0 32), (1, b2n on)]
  else if o < 0x3000 then 0
  else if o < 0x3008 then c.streamState
  else if o < 0x3010 then c.rep.landFirst.toNat
  else if o < 0x4000 then 0
  else if o < 0x6000 then fld (s.descWord logical ((o - 0x4000) / 32)) (64 * (w % 4)) 64
  else if o < 0x6008 then
    let d := match s.programOf logical with | some (x, _) => (s.ctx x).img.delta | none => 0
    pack [(48, c.rep.transit.toNat), (4, d)]
  else if o < 0x6010 then c.rep.fwFirst.toNat
  else if o < 0x7000 then 0
  else if o < 0x7180 then c.semWord (w - 3584)
  else if o < 0x7200 then 0
  else if o < 0x7300 then fld (c.sendEps.get {} ((o - 0x7200) / 16)).word (64 * (w % 2)) 64
  else if o < 0x7400 then fld (c.recvEps.get {} ((o - 0x7300) / 16)).word (64 * (w % 2)) 64
  else if o < 0x7480 then (c.recvEps.get {} ((o - 0x7400) / 8)).head
  else if o < 0x7488 then bvf c.rep.chan 0 48
  else if o < 0x7490 then c.rep.chanFirst.toNat
  else 0

/-- The core record of the context status: items of the window in the order of R383, 128 bytes. -/
def State.coreRecord (s : State) (logical : Nat) : List Byte :=
  padTo 128 (([0x2000, 0x2008, 0x2010, 0x2018, 0x2020, 0x2028, 0x2030, 0x2040, 0x2048, 0x2050, 0x3000, 0x3008, 0x6000,
    0x6008, 0x7480, 0x7488]).flatMap (fun o => bytesOf 8 (s.ctlWord logical o)))

/-! ### Context status (13 R383; 14 R402) -/

def CtxPhase.code : CtxPhase → Nat
  | .free => 0
  | .creating => 1
  | .idle => 2
  | .running => 3
  | .stopping => 4
  | .destroying => 5

/-- STAGED is set on every core. -/
def State.allStaged (s : State) (x : Nat) : Bool :=
  (s.ctx x).staged.isSome && (s.ctx x).cores.all (fun p => (s.core ⟨x, p⟩).seq.staged)

def siteMask (l : List Nat) : Nat := l.foldl (fun m v => m ||| 2 ^ v) 0

def State.ctxStatus (s : State) (x : Nat) : List Byte :=
  let c := s.ctx x
  let waits := match s.mbox.committed with
    | some t => t.rest.any (fun q => s.isL q.sid && sidInst q.sid = x)
    | none => false
  bytesOf 64 (pack [(3, c.phase.code), (1, b2n c.held), (1, b2n (s.overQuota x)), (1, b2n waits),
    (1, b2n (s.mbox.lone.any (fun q => sidInst q.sid = x))), (1, b2n (s.allStaged x)), (4, c.last.sticky), (4, 0),
    (16, siteMask c.sites), (32, c.job.id), (64, c.orbit), (48, c.step), (16, 0), (64, c.entryTick),
    (64, c.last.endTick), (64, c.last.freezeTicks), (64, c.last.flags.toNat)])

def RtStatus.bytes (r : RtStatus) : List Byte :=
  bytesOf 32 (pack [(32, r.deadlineMisses), (32, r.waitMisses), (48, r.deadlineStep), (48, r.waitStep), (64, r.waitTick)])

def WeightPhase.code : WeightPhase → Nat
  | .none => 0
  | .loading => 1
  | .valid => 2
  | .swapPending => 3
  | .swapping => 4
  | .invalid => 5

def Weights.bytes (w : Weights) : List Byte :=
  let h := match w.force with | some i => i | none => {}
  bytesOf 64 (pack [(3, w.phase.code), (4, h.anchor), (25, 0), (32, w.written), (128, leAt h.header 24 16),
    (32, leAt h.header 44 4), (16, leAt h.header 40 2), (16, 0), (256, w.root.toNat)])

/-- The word at an offset of the context status of `x`. -/
def State.statusWord (s : State) (x o : Nat) : Nat :=
  if o < 0x40 then leAt (s.ctxStatus x) o 8
  else if o < 0x100 then 0
  else if o < 0x1A0 then leAt (s.ctx x).stallReport (o - 0x100) 8
  else if o < 0x200 then 0
  else if o < 0x220 then leAt (s.ctx x).last.rt.bytes (o - 0x200) 8
  else if o < 0x300 then 0
  else if o < 0x340 then leAt (s.ctx x).weights.bytes (o - 0x300) 8
  else if o < 0x10000 then 0
  else leAt ((s.ctx x).last.records.get [] ((o - 0x10000) / 128)) (o % 128) 8

/-! ### The management window (13 R348, R349) -/

def State.slotStatus (s : State) (m : Nat) : Nat :=
  let v := s.slot m
  pack [(1, b2n v.posted), (1, b2n v.inService), (1, b2n (v.parked.isSome || v.claim.isSome)), (1, b2n v.respValid),
    (1, b2n (s.isOwner m)), (1, b2n v.claim.isSome), (2, 0), (8, v.lastSeq), (16, v.outstanding), (16, v.busyRefusals)]

def State.slotBinding (s : State) (m : Nat) : Nat :=
  let v := s.slot m
  let left := if s.isOwner m then (s.mbox.leaseEnd - s.now) / 1000 else 0
  pack [(24, if v.bound then v.agent else 16777215), (2, v.transport),
    (5, v.port), (1, b2n v.bound), (32, left)]

/-- The word at an offset of a slot area: the command area is write-only (00 R11; 13 R350). -/
def State.slotWord (s : State) (m o : Nat) : Nat :=
  if o < 0x1000 then 0
  else if o < 0x2000 then leAt (s.slot m).response (o - 0x1000) 8
  else if o < 0x2008 then s.slotStatus m
  else if o < 0x2010 then s.slotBinding m
  else 0

def patchWord (l : List (BitVec 128)) (o : Nat) : Nat := bvf (l.getD (o / 16) 0) (64 * (o / 8 % 2)) 64

/-- The word at an offset of the management window. -/
def State.mgmtWord (s : State) (o : Nat) : Nat :=
  if o < 0x20000 then s.slotWord (o / 0x4000) (o % 0x4000)
  else if o < 0x100000 then 0
  else if o < 0x102000 then
    match s.events.held.find? (fun e => e.seq % 256 = (o - 0x100000) / 32) with
    | some e => leAt e.bytes (o % 32) 8
    | none => 0
  else if o = 0x102000 then pack [(32, s.events.nextSeq), (32, s.events.ackSeq)]
  else if o = 0x102008 then b2n s.events.alert
  else if o < 0x200000 then 0
  else if o < 0x300000 then
    match s.sids[(o - 0x200000) / 32]? with
    | some sid => leAt (s.settingEntry sid) (o % 32) 8
    | none => 0
  else if o < 0x400000 then 0
  else if o < 0x800000 then s.statusWord ((o - 0x400000) / 0x40000) (o % 0x40000)
  else if o < 0x804000 then patchWord (s.ctx ((o - 0x800000) / 0x400)).patch (o % 0x400)
  else 0

/-! ### The capability block (02 R58) -/

def State.capBits (s : State) : Nat :=
  let v := s.variant
  let usable := (List.range 16).map (siteUsable v s.boot.merged)
  let spare := (List.range 16).map (fun i =>
    if usable.getD i false then (goodCores v s.boot.merged i).length - 72 else 255)
  let arr := fun n => if v = 2 then 0 else n
  pack [(32, 0x4246434B), (16, 1), (16, 0x1000), (8, if v = 0 then 0x47 else if v = 1 then 0x50 else 0x43), (8, 0xA1),
    (16, 0), (1, arr 1), (1, 1), (1, 1), (1, 1), (1, 1), (1, 1), (1, if v = 0 then 1 else 0), (25, 0), (16, 1152), (8, 72),
    (8, 16), (8, 16), (8, 20), (8, if v = 1 then 4 else 8), (8, 2), (16, if v = 1 then 128 else 256), (16, 512), (16, 64),
    (8, 16), (8, 0)]
  + pack ([(256, 0), (16, arr 64), (16, arr 32), (16, 256), (8, 48), (8, 64), (8, 32), (8, 16), (8, 16), (8, 0), (16, 1024),
    (16, 0), (13, arr 0x1FFF), (19, 0), (8, 1), (8, 0), (16, 25), (64, 0)])
  + pack ([(512, 0), (16, 1100), (16, 1300), (16, 1450), (16, 1300), (16, 1600), (16, 1700), (16, 1450), (16, 1850),
    (16, 1850), (16, 261), (16, 306), (16, 333), (16, 180), (16, 200), (32, 131072), (32, 122880), (96, 0),
    (128, natOf s.fuses.serial)])
  + pack ((1024, 0) :: spare.map (fun n => (8, n)) ++ usable.map (fun b => (1, b2n b)))

def State.capWord (s : State) (o : Nat) : Nat := fld s.capBits (8 * o) 64

end Sys2Proof.Machine
end

