-- ==== Sys2Proof/Machine/Dram.lean ====
section
/-! DEFINITION. The DRAM channels (08 R196-R200, R206, R216-R218), base memory's patrol scrub (07 R192), and the
arrivals on the transit network at steps (08 R213; 09 R240; 10 R259). -/
namespace Sys2Proof.Machine
open Sys2Proof

/-! ### Pattern slots -/

/-- Class of slot `n` of a frame: 0 read, 1 write, 2 remote (R197) (DEDUCED, log 57). -/
def slotClass (split n : Nat) : Nat :=
  match split with
  | 0 => if n = 6 ∨ n = 14 then 1 else if n = 3 ∨ n = 11 then 2 else 0
  | 1 => if n = 2 ∨ n = 6 ∨ n = 10 ∨ n = 14 then 1 else if n = 5 ∨ n = 13 then 2 else 0
  | _ => if n = 6 ∨ n = 14 then 1 else if n % 2 = 1 then 2 else 0

/-- The split in force: a stack that belongs to no context runs its variant's (R199). -/
def State.splitOf (s : State) (d : Nat) : Nat :=
  match s.holderOf d with
  | none => s.variant
  | some _ => (s.stack d).split

/-- The eligible requests of a channel in order: none to their line waits before them (R198). -/
def eligibleOf (ch : Nat) : List Nat → List DramReq → List DramReq
  | _, [] => []
  | seen, r :: l =>
    let here := r.ctxLine % 128 = ch
    if here && !seen.contains r.ctxLine then r :: eligibleOf ch (r.ctxLine :: seen) l
    else eligibleOf ch (r.ctxLine :: seen) l


/-- The request a slot serves (R198): true marks a remote read (DEDUCED, log 58). -/
def Stack.choose (k : Stack) (coming : List DramReq) (cls ch : Nat) : Option (DramReq × Bool) :=
  let loc := (eligibleOf ch [] k.waiting).filter (DramReq.free coming)
  let rem := if k.remoteOpen then (eligibleOf ch [] k.remote).map (fun r => (r, true)) else []
  let reads := (loc.filter (fun r => !r.write)).map (fun r => (r, false))
  let writes := (loc.filter (·.write)).map (fun r => (r, false))
  match cls with
  | 0 => (reads ++ writes ++ rem).head?
  | 1 => (writes ++ reads ++ rem).head?
  | _ => (rem ++ reads ++ writes).head?

/-- A stack line as a request served now finds it: a write served before it, committed or not (R216). -/
def State.dramRead (s : State) (d line : Nat) : Line :=
  match ((s.stack d).unsettled.filter (fun r => r.line = line)).getLast? with
  | some r => r.data.getD 0
  | none => Memory.line s.mem (dramAddr d line)

/-- DRAM_UE: context line, word, issuing core, step (R217; 13 R390). -/
def State.dramUe (s : State) (d line word core step : Nat) (x : Option Nat) : State :=
  (s.modStack d (fun k => { k with ue := satAdd 65535 k.ue 1 })).raise 0x13 x d
    (pack [(32, line), (3, word), (11, core), (48, step)])

/-- What the check bits show on a line read (R217): counts, and DRAM_UE for each uncorrectable word. -/
def State.dramFound (s : State) (d line core step : Nat) (x : Option Nat) (e : Ecc) : State :=
  e.ue.foldl (fun s u => s.dramUe d line u.2 core step x)
    (s.modStack d (fun k => { k with ce := satAdd 4294967295 k.ce e.ce }))

/-- A read's ECC outcome (R217). A remote read has no issuing core and step: 0 and 0 (DESIGN CHOICE, log 166). -/
def State.dramEcc (s : State) (d : Nat) (r : DramReq) (e : Ecc) : State :=
  s.dramFound d r.ctxLine r.core (r.step % 2 ^ 48) (match r.dest with | .remote _ _ => none | _ => some r.ctx) e

/-- Serve one pattern slot of channel `ch`. -/
def State.serveSlot (s : State) (d ch : Nat) (e : Ecc) : State :=
  let k := s.stack d
  let n := k.slots.get 0 ch
  let cls := slotClass (s.splitOf d) (n % 16)
  let s := s.modStack d (fun k => { k with slots := k.slots.set 0 ch ((n + 1) % 240) })
  match k.choose (s.coming d) cls ch with
  | none => s
  | some (r, remote) =>
    let s := s.modStack d (fun k =>
      if remote then { k with remote := removeOne r k.remote } else { k with waiting := removeOne r k.waiting })
    if r.write then s.modStack d (fun k => { k with unsettled := k.unsettled ++ [r] })
    else
      let data := s.dramRead d r.line
      let s := s.modStack d (fun k => { k with served := k.served ++ [{ r with data := some data, ue := e.bad }] })
      s.dramEcc d r e

/-- DRAM_SLOT (R198). -/
def execDramSlot (d ch : Nat) (e : Ecc) (s : State) : Out := quiet s (s.serveSlot d ch e)

/-! ### Maintenance frames -/

/-- Lines per channel of a stack. -/
def scrubLines (variant : Nat) : Nat := if variant = 1 then 1048576 else 2097152

/-- Patrol scrub reads the next line of a channel (R217); what it writes back changes no data (DEDUCED, log 59). It has no
context: its event names the stack line, core 7FFh and step 0 (DESIGN CHOICE, log 166). -/
def State.scrubDram (s : State) (d ch : Nat) (e : Ecc) : State :=
  if s.setting 0x61 d = 0 then s
  else
    let k := s.stack d
    let n := k.scrubPos.get 0 ch
    let line := (n % scrubLines s.variant) * 128 + ch
    let pos := k.scrubPos.set 0 ch (n + 1)
    let least := (List.range 128).foldl (fun m c => Nat.min m (pos.get 0 c)) (pos.get 0 0)
    let s := s.modStack d (fun k => { k with scrubPos := pos, scrubPasses := (least / scrubLines s.variant) % 65536 })
    s.dramFound d line 0x7FF 0 none e

/-- MAINTENANCE_FRAME (R200): refresh and calibration change no value, and a mailbox access has its effect with its
command (02 R56). The frame ends the channel's period. -/
def execMaintenanceFrame (d ch : Nat) (w : MaintWork) (s : State) : Out :=
  let t := s.modStack d (fun k => { k with slots := k.slots.set 0 ch 0 })
  quiet s (match w with
  | .refresh => t
  | .mailbox => t
  | .calibration => t
  | .scrub e => t.scrubDram d ch e)

/-! ### Landing and commit -/

/-- The time from issue to landing (R223). -/
def State.latency (s : State) (d tick : Nat) : State :=
  let ns := s.now - tick
  s.modStack d (fun k => { k with maxNs := Nat.max k.maxNs (Nat.min 65535 ns),
                                  over180 := if 180 < ns then satAdd 4294967295 k.over180 1 else k.over180 })

/-- A line reaches its destination (R206, R213-R215). -/
def State.landLine (s : State) (d : Nat) (r : DramReq) (data : Line) : State :=
  match r.dest with
  | .rings taps => taps.foldl (fun s t => s.landDramRing r.ctx t.1 t.2 data r.ue) s
  | .staging no =>
    let st := (s.stack d).staging
    let s := if st.overwrites 1024 no then s.landingFault r.ctx r.core true true (no % 1024) (s.ctx r.ctx).counter else s
    s.modStack d (fun k => { k with staging := k.staging.landLine 1024 no (some (data, r.ue)) })
  | .remote _ _ => s

/-- The lines of a request's group that are still to come or to land. -/
def Stack.groupOpen (k : Stack) (g : Nat) : Bool :=
  (k.waiting ++ k.remote).any (fun r => r.group = g && !r.write) || k.served.any (fun r => r.group = g && !r.landed)

/-- The reply to a remote read: the lines in order, then the entry end with token 1 (12 R313). -/
def State.remoteReply (s : State) (p : Nat) (f : Flit) (lines : List Line) : State :=
  let tag := leAt (lineBytes f) 2 2
  let s := lines.foldl (fun s l => s.sendFlit p 1 false tag l) s
  s.sendCtl p 1 [(0, 1, 1), (2, 2, tag), (4, 2, b2n (!lines.isEmpty)), (6, 1, lines.length)]

/-- Every line of a group has been read: a transposed block or a remote entry goes to its place. -/
def State.landGroup (s : State) (d g : Nat) : State :=
  let k := s.stack d
  if k.groupOpen g then s
  else
    let mine := sortBy (fun (a b : DramReq) => decide (a.at' ≤ b.at')) (k.served.filter (fun r => r.group = g))
    let s := s.modStack d (fun k => { k with served := k.served.filter (fun r => r.group ≠ g) })
    let lines := mine.map (fun r => r.data.getD 0)
    match mine.head? with
    | none => s
    | some h =>
      match h.dest with
      | .remote p f => s.remoteReply p f lines
      | _ =>
        let out := if h.xw = 3 then lines else transposeBlock h.xw lines
        let ue := mine.any (·.ue)
        (List.range mine.length).foldl (fun s j =>
          match mine[j]? with
          | some r => s.landLine d { r with ue } (out.getD j 0)
          | none => s) s

/-- Served read `i` of a stack lands: alone, or with its block or entry (R211, R218). -/
def State.dramLands (s : State) (d i : Nat) : State :=
  match (s.stack d).served[i]? with
  | none => s
  | some r =>
    if r.landed then s
    else
      let remote := match r.dest with | .remote _ _ => true | _ => false
      let s := if remote then s else s.latency d r.tick
      if r.xw = 3 && !remote then
        let s := s.modStack d (fun k => { k with served := removeOne r k.served })
        s.landLine d r (r.data.getD 0)
      else
        let s := s.modStack d (fun k => { k with served := k.served.set i { r with landed := true } })
        s.landGroup d r.group

/-- DRAM_LINE_LANDS (R206). -/
def execDramLineLands (d i t : Nat) (s : State) : Out := quiet s ((s.atTick t).dramLands d i)

/-- Unsettled write `i` commits, earlier writes to its line before it (R216). -/
def State.dramCommits (s : State) (d i : Nat) : State :=
  let l := (s.stack d).unsettled
  match l[i]? with
  | none => s
  | some r => ((l.take (i + 1)).filter (fun q => q.line = r.line)).foldl (fun s q => s.commitOne d q) s

/-- DRAM_WRITE_COMMIT (R216). -/
def execDramWriteCommit (d i : Nat) (s : State) : Out := done s (s.dramCommits d i)

/-! ### Base memory -/

/-- An uncorrectable error of base memory (07 R178, R192, R193): the line and word, and for a context's read its core, its
issue step and port 0 (DESIGN CHOICE, log 165). -/
def State.baseUe (s : State) (x : Option Nat) (q line word core step : Nat) (scrub : Bool) : State :=
  (s.modBase q (fun b => { b with ue := satAdd 65535 b.ue 1, ueLine := line, ueWord := word, ueByScrub := scrub })).raise
    0x12 x q (pack [(32, line), (3, word), (48, step), (11, core), (2, 0)])

/-- Corrected words of base memory. -/
def State.baseCe (s : State) (q n : Nat) : State := s.modBase q (fun b => { b with ce := satAdd 4294967295 b.ce n })

/-- The reserved slot of a bank scrubs its next line (07 R192). -/
def State.scrubBase (s : State) (q bank : Nat) (e : Ecc) : State :=
  if s.setting 0x60 q = 0 then s
  else
    let b := s.baseOf q
    let n := b.scrubPos.get 0 bank
    let pos := b.scrubPos.set 0 bank (n + 1)
    let least := (List.range 128).foldl (fun m c => Nat.min m (pos.get 0 c)) (pos.get 0 0)
    let s := s.modBase q (fun b => { b with scrubPos := pos, scrubPasses := (least / 8192) % 65536 })
    e.ue.foldl (fun s u => s.baseUe none q ((n % 8192) * 128 + bank) u.2 0 0 true) (s.baseCe q e.ce)

/-- BASE_SCRUB_SLOT (07 R192). -/
def execBaseScrubSlot (q bank : Nat) (e : Ecc) (s : State) : Out := quiet s (s.scrubBase q bank e)

/-- What the check bits show on a base read of a context that reaches its banks (07 R178). -/
def State.baseEcc (s : State) (x : Nat) (f : Flight) (e : Ecc) : State :=
  match f.cargo with
  | .baseRead q lines _ _ _ _ _ => e.ue.foldl (fun s u =>
      (s.flagCtx x fEccUe).baseUe (some x) q (lines.getD u.1 0) u.2 f.src (f.step % 2 ^ 48) false) (s.baseCe q e.ce)
  | _ => s

/-! ### Arrivals at steps -/

/-- What is due acts while the context's wave moves (01 R33). -/
def State.whileMoving (s : State) (x : Nat) (f : State → State) : State :=
  if (s.ctx x).active && !(s.ctx x).frozen then f s else s

/-- STAGING_DEPARTURE (08 R213). -/
def execStagingDeparture (x : Nat) (s : State) : Out :=
  quiet s (s.whileMoving x (fun s => s.takeFlights x Flight.isDeparture (fun _ s f => s.depart x f)))

/-- BASE_LINE_LANDS (08 R213): lines for landing rings, and lines for a stack's write queue. -/
def execBaseLineLands (x : Nat) (s : State) : Out :=
  quiet s (s.whileMoving x (fun s =>
    let s := s.takeFlights x Flight.isRing (fun _ s f => s.arriveRing x f)
    s.takeFlights x Flight.isDramLine (fun _ s f => s.arriveDramLine x f)))

/-- The base reads that reach their banks at the context's step, in key order. -/
def Ctx.baseReadsNow (x : Ctx) : List Flight :=
  sortBy Flight.bankLe (x.flights.filter (fun f => decide (f.due ≤ x.step) && f.lost.isNone &&
    (match f.cargo with | .baseRead .. => true | _ => false)))

/-- BASE_BANK_ACCESS (07 R191): `e` lists what the check bits show on each read that reaches its banks, in key order. -/
def execBaseBankAccess (x : Nat) (e : List Ecc) (s : State) : Out :=
  done s (s.whileMoving x (fun s =>
    let r := (s.ctx x).baseReadsNow
    let s := s.takeFlights x Flight.isBank (fun all s f => s.arriveBase x all f)
    let s := s.landBaseWrites x (s.ctx x).step
    (r.zip e).foldl (fun s f => s.baseEcc x f.1 f.2) s))

/-- TRANSIT_LINE_ARRIVAL (09 R240): lines that a firewall does not admit are dropped. -/
def execTransitLineArrival (x : Nat) (s : State) : Out := quiet s (s.whileMoving x (fun s => s.dropLost x))

/-- CHAN_LINES_ARRIVE (10 R259). -/
def execChanLinesArrive (x : Nat) (s : State) : Out :=
  quiet s (s.whileMoving x (fun s => s.takeFlights x Flight.isChanLine (fun _ s f => s.arriveChannel x f)))

/-- ENTRY_HEADER_ARRIVE (10 R259): after the lines due with it. -/
def execEntryHeaderArrive (x : Nat) (s : State) : Out :=
  quiet s (s.whileMoving x (fun s =>
    let s := s.takeFlights x Flight.isChanLine (fun _ s f => s.arriveChannel x f)
    s.takeFlights x Flight.isHeader (fun _ s f => s.arriveChannel x f)))

/-- LOCKED_CREDIT_RETURN (10 R259). -/
def execLockedCreditReturn (x : Nat) (s : State) : Out :=
  quiet s (s.whileMoving x (fun s => s.takeFlights x Flight.isCredit (fun _ s f => s.arriveChannel x f)))

end Sys2Proof.Machine
end

