-- ==== Sys2Proof/Machine/Conns.lean ====
section
/-! DEFINITION. Circuit tags (12 R339), the breaking of connections (10 R264, R265), and bulk connections (13 R378). -/
namespace Sys2Proof.Machine
open Sys2Proof

/-! ### Tags -/

/-- The lowest number from `n` up that a rising list lacks (DESIGN CHOICE, log 73). -/
def lowestFree : Nat → List Nat → Nat
  | n, [] => n
  | n, a :: r => if a = n then lowestFree (n + 1) r else n

/-- Allocate a tag on the bundle of port `p`: 1 to FFFFh. -/
def State.takeTag (s : State) (p : Nat) : Option (State × Nat) :=
  let b := s.bundleOf p
  let v := s.bundle b
  let t := lowestFree 1 v.tags
  if t < 65536 then some (s.setBundle b { v with tags := insertNat t v.tags }, t) else none

def State.freeTag (s : State) (b t : Nat) : State :=
  let v := s.bundle b
  s.setBundle b { v with tags := v.tags.filter (· ≠ t) }

def State.modLinks (s : State) (f : Links → Links) : State := { s with links := f s.links }

/-- The tags that a circuit holds on this module's outgoing bundles. -/
def Circuit.tags (c : Circuit) : List (Nat × Nat) :=
  (if c.rev = 0 then [] else [(c.port, c.rev)]) ++ (match c.dest with | .through q t => [(q, t)] | _ => [])

/-- Remove the circuits a test accepts and free what they hold. -/
def State.dropCircuits (s : State) (p : Circuit → Bool) : State :=
  let gone := s.links.circuits.filter p
  let s := s.modLinks (fun l => { l with circuits := l.circuits.filter (fun c => !p c) })
  gone.foldl (fun s c => c.tags.foldl (fun s t => s.freeTag t.1 t.2) s) s

/-! ### Breaking -/

/-- Peers of the send ends of a connection. -/
def State.connPeers (s : State) (connId : Nat) : List Peer :=
  (List.range 16).flatMap (fun x => (s.ctx x).cores.flatMap (fun p =>
    ((s.core ⟨x, p⟩).sendEps.filter (fun e => e.2.elastic && e.2.connId = connId)).flatMap (fun e => e.2.peers)))

/-- Bundles on which a connection leaves this module. -/
def State.connBundles (s : State) (connId : Nat) : List Nat :=
  ((s.connPeers connId).filter (fun q => q.port ≠ localPort)).map (fun q => s.bundleOf q.port)
    ++ (s.links.circuits.filter (fun c => c.connId = connId)).flatMap (fun c =>
      c.port :: (match c.dest with | .through q _ => [q] | _ => []))
  |>.foldr insertNat []

/-- Tell the far ends of a connection, but not on bundle `except`: KIND 5 CLOSE, 6 BREAK with its cause. -/
def State.tellFar (s : State) (connId kind cause : Nat) (except : Option Nat) : State :=
  ((s.connBundles connId).filter (fun b => some b ≠ except)).foldl (fun s b =>
    s.sendCtl b 3 [(0, 1, kind), (1, 4, connId), (5, 1, cause)]) s

/-- A connection breaks: every end of it here, the far ends as they learn of it, its circuits, its bulk bytes. -/
def State.breakId (s : State) (connId cause : Nat) (except : Option Nat) : State :=
  let s := s.tellFar connId 6 cause except
  let s := s.breakConn connId (fun _ _ => false)
  let s := s.dropCircuits (fun c => c.connId = connId)
  s.modLinks (fun l => { l with bulks := l.bulks.map (fun b => if b.connId = connId then { b with broken := true } else b) })

/-- CONN_IDs that a list of circuits carries. -/
def connIds (l : List Circuit) : List Nat := (l.map (·.connId)).foldr insertNat []

/-- CONN_IDs of the elastic ends of a core that a test accepts. -/
def Core.connIds (c : Core) : List Nat :=
  ((c.sendEps.filter (fun e => e.2.elastic && e.2.state = .bound)).map (fun e => e.2.connId)
    ++ (c.recvEps.filter (fun e => e.2.elastic && e.2.state = .bound)).map (fun e => e.2.connId)).foldr insertNat []

/-- CONN_IDs of a context's elastic ends on cores that a test accepts: those bound, those acknowledged that wait to
bind. -/
def State.endIds (s : State) (x : Nat) (cores : Nat → Bool) : List Nat :=
  (((s.ctx x).cores.filter cores).flatMap (fun p => (s.core ⟨x, p⟩).connIds)
    ++ ((s.ctx x).binds.filter (fun b => b.send && !b.unbind && cores b.core)).map (·.connId)).foldr insertNat []

/-- Break every connection with an end on one of a context's cores that a test accepts; those ends stand aside
(R264: a reset or a context destroyed breaks the ends outside). -/
def State.breakFrom (s : State) (x : Nat) (cores : Nat → Bool) (cause : Nat) : State :=
  let ids := s.endIds x cores
  ids.foldl (fun s i => s.breakId i cause none) s

/-! ### Bulk connections -/

def State.bulk (s : State) (connId : Nat) : Option Bulk := s.links.bulks.find? (fun b => b.connId = connId)

/-- A bulk connection that can carry output. -/
def State.bulkOpen (s : State) (connId : Nat) : Bool :=
  match s.bulk connId with | some b => !b.broken | none => false

end Sys2Proof.Machine
end

