-- ==== Sys2Proof/Machine/Release.lean ====
section
/-! DEFINITION. Release of a rendezvous or a fence (01 R29-R32; 10 R263), and the comparison of tier data that
admission feeds (14 R404). -/
namespace Sys2Proof.Machine
open Sys2Proof

/-! ### Tier data (14 R404) -/

/-- Leaf of a weight chunk (14 R391). -/
def leafDigest (seg chunk : Nat) (bytes : List Byte) : BitVec 256 :=
  digest 0x10 (bytesOf 4 seg ++ bytesOf 4 chunk ++ bytes)

/-- Length of chunk `k` of a segment: 65,536 bytes but for the last (14 R396). -/
def Seg.chunkLen (g : Seg) (k : Nat) : Nat := Nat.min 65536 (g.wLen + g.xLen - 65536 * k)

/-- Compare the chunks that the stream completes; answers what is left and the first leaf that differed (fuel). -/
def TierStream.compare (leaves : List (BitVec 256)) (g : Seg) :
    Nat → TierStream → Option Nat → TierStream × Option Nat
  | 0, t, bad => (t, bad)
  | f + 1, t, bad =>
    let n := g.chunkLen t.chunk
    if n = 0 ∨ t.bytes.length < n then (if n = 0 then { t with bytes := [] } else t, bad)
    else
      let wrong : Bool := leafDigest g.id t.chunk (t.bytes.take n) ≠ leaves.getD (g.first + t.chunk) 0
      let bad := if bad.isNone && wrong then some (g.first + t.chunk) else bad
      TierStream.compare leaves g f { t with chunk := t.chunk + 1, bytes := t.bytes.drop n } bad

/-- The lines of an admitted entry join the stream of the PLACE 3 segment that names the endpoint. -/
def State.tierCompare (s : State) (x p ep : Nat) (lines : List Line) : State :=
  let w := (s.ctx x).weights
  match w.force with
  | none => s
  | some img =>
    match img.segs.find? (fun g => g.place = 3 && g.target = p && g.endpoint = ep) with
    | none => s
    | some g =>
      if !s.isG || w.phase = .invalid then s
      else
        let t := (w.tier.find? (fun t => t.pcore = p && t.ep = ep)).getD { pcore := p, ep }
        let t := { t with bytes := t.bytes ++ lines.flatMap lineBytes }
        let r := TierStream.compare img.leaves g (t.bytes.length / 64 + 1) t none
        let s := s.modCtx x (fun c => { c with weights := { c.weights with
          tier := c.weights.tier.filter (fun q => !(q.pcore = p && q.ep = ep)) ++ [r.1] } })
        match r.2 with
        | none => s
        | some leaf =>
          if (s.ctx x).flags.toNat.testBit fTierMismatch then s
          else ((s.flagCtx x fTierMismatch).modCoreOf x p (fun c => { c with rep := { c.rep with tierMiss := true } })).raise
            0x83 (some x) p (pack [(32, leaf), (64, (s.ctx x).orbit)])

/-! ### Admission (10 R263) -/

/-- The elastic receive endpoint whose ASEM is semaphore `n`. -/
def Core.elasticAsem (c : Core) (n : Nat) : Option Nat :=
  (c.recvEps.find? (fun e => e.2.elastic && e.2.state ≠ .unbound && e.2.asem = n)).map (·.1)

/-- Entries of an endpoint not yet admitted: sub-queue and entry, by round and then sub-queue. -/
def RecvEp.unadmitted (e : RecvEp) : List (Nat × Entry) :=
  sortBy (fun a b => decide (a.2.no < b.2.no) || (a.2.no = b.2.no && decide (a.1 ≤ b.1)))
    ((List.range 64).flatMap (fun i => ((e.sub i).entries.filter (fun h => !h.admitted)).map (fun h => (i, h))))

/-- What admission takes next: the oldest complete entry, or for a gather the oldest complete round. -/
def RecvEp.oldest (e : RecvEp) : List (Nat × Entry) :=
  match e.unadmitted with
  | [] => []
  | h :: r =>
    if e.kind ≠ 2 then [h]
    else if h.2.no < e.rounds then (h :: r).filter (fun q => q.2.no = h.2.no) else []

/-- Mark one entry admitted. -/
def RecvEp.take (e : RecvEp) (i no : Nat) : RecvEp :=
  { e with subs := e.subs.modify {} i (fun q =>
      { q with entries := q.entries.map (fun h => if h.no = no then { h with admitted := true } else h) }) }

/-- The lines of an entry as the store holds them. -/
def Core.entryLines (c : Core) (e : RecvEp) (i : Nat) (h : Entry) : List Line :=
  (List.range h.lines).map (fun j => c.store.get 0 (e.slotLine i h.no j))

/-- The admitted entries mirrored since the last checkpoints grow (15 R464). -/
def State.inputGrows (s : State) (x n : Nat) : State :=
  if s.mirrored x then s.modCtx x (fun c => { c with halo := { c.halo with
    inputUsed := c.halo.inputUsed + n, inputSince := c.halo.inputSince + n } })
  else s

/-- One entry of core `p` is admitted at the freezing step: marked, digested (14 R413), mirrored (15 R463), compared
with its leaves (14 R404). Its tokens are the caller's (DEDUCED, log 45). -/
def State.admitEntry (s : State) (x p ep : Nat) (i : Nat) (h : Entry) : State :=
  let c := s.ctx x
  let k := s.core ⟨x, p⟩
  let e := k.recvEps.get {} ep
  let lines := k.entryLines e i h
  let s := s.modCoreOf x p (fun k => { k with recvEps := k.recvEps.set {} ep (e.take i h.no) })
  let s := s.modCtx x (fun c => { c with inputs := c.inputs ++
    [⟨c.counter, p, ep, entryDigest 7 e.connId i h.token lines⟩] })
  let s := s.mirror x (.admitted c.orbit c.counter p ep (BitVec.ofNat 32 e.connId) i h.token lines)
  (s.inputGrows x (48 + 64 * lines.length)).tierCompare x p ep lines

/-- Move `k` counts from PENDING to VALUE, each change clamped at once. -/
def Core.moveCounts (c : Core) (n k : Nat) : Core :=
  let c := c.clampSem n (((c.sems.get {} n).pending : Int) - k) true
  c.clampSem n (((c.sems.get {} n).value : Int) + k) false

/-- Admission from an elastic receive endpoint, while VALUE is below the threshold. The fuel bounds the entries. -/
def State.admitFrom (x p ep sem thr : Nat) : Nat → State → State
  | 0, s => s
  | f + 1, s =>
    let k := s.core ⟨x, p⟩
    let l := (k.recvEps.get {} ep).oldest
    if thr ≤ (k.sems.get {} sem).value || l.isEmpty then s
    else
      let s := l.foldl (fun s q => s.admitEntry x p ep q.1 q.2) s
      let sum := (l.map (fun q => q.2.token)).sum
      State.admitFrom x p ep sem thr f (s.modCoreOf x p (fun c => c.moveCounts sem sum))

/-- Admission of one condition. -/
def State.admission (s : State) (x : Nat) (c : Cond) : State :=
  let k := s.core ⟨x, c.core⟩
  match k.elasticAsem c.sem with
  | some ep => State.admitFrom x c.core ep c.sem c.thr ((k.recvEps.get {} ep).unadmitted.length + 1) s
  | none =>
    let q := k.sems.get {} c.sem
    if c.thr ≤ q.value then s
    else s.modCoreOf x c.core (fun k => k.moveCounts c.sem (Nat.min q.pending (c.thr - q.value)))

/-- Broken release: every complete entry of the endpoint is admitted; the tokens of incomplete rounds join VALUE. -/
def State.brokenRelease (s : State) (x : Nat) (c : Cond) : State :=
  let k := s.core ⟨x, c.core⟩
  if c.thr ≤ (k.sems.get {} c.sem).value || !(k.sems.get {} c.sem).brk then s
  else
    let s := s.brokenSeen x c.core c.sem (s.ctx x).step
    match k.elasticAsem c.sem with
    | none => s
    | some ep =>
      let l := (k.recvEps.get {} ep).unadmitted
      let s := l.foldl (fun s q =>
        (s.admitEntry x c.core ep q.1 q.2).modCoreOf x c.core (fun k =>
          k.clampSem c.sem (((k.sems.get {} c.sem).value : Int) + q.2.token) false)) s
      s.modCoreOf x c.core (fun k => { k with recvEps := k.recvEps.modify {} ep (fun e =>
        { e with subs := e.subs.map (fun q => (q.1, { q.2 with tokens := [] })) }) })

/-- Subtraction of one condition. -/
def State.subtraction (s : State) (x : Nat) (c : Cond) : State :=
  if c.consume then s.modCoreOf x c.core (fun k =>
    k.clampSem c.sem (((k.sems.get {} c.sem).value : Int) - c.thr) false)
  else s

/-- The conditions of the freeze act core by core: admission for A and then B, broken release, subtraction. The
semaphores listed are unexposed at step `n + 1` (01 R28). -/
def State.releaseConds (s : State) (x : Nat) (z : Freeze) : State :=
  let cs := sortBy Cond.le z.conds
  let s := cs.foldl (fun s c => s.admission x c) s
  let s := cs.foldl (fun s c => s.brokenRelease x c) s
  let s := cs.foldl (fun s c => s.subtraction x c) s
  s.modCtx x (fun k => { k with listed := cs.map (fun c => (z.step + 1, c.core, c.sem)) })

/-- The quadrants that the routes of a transit entry join (09 R235). -/
def Ctx.entryEnds (x : Ctx) (e : TransitEntry) : List (Nat × Nat) :=
  let d := x.img.desc e.src (e.aux % 256)
  let src := x.quadOf e.src
  let quad := fun j => x.quads.getD j 0
  let stack := fun k => quadOfSite (x.stackOf k)
  match e.kind with
  | 1 => [(src, x.quadOf e.dst)]
  | 2 => [(src, quad d.tgt)]
  | 3 => [(src, quad d.tgt)]
  | 4 => [(stack d.tgt, quad d.btgt)]
  | 5 => [(src, quad d.btgt), (quad d.btgt, stack d.tgt)]
  | _ => []

/-- A route of program core `p` crosses a quadrant whose cells are removed (09 R244). -/
def Ctx.routeLost (x : Ctx) (p : Nat) : Bool :=
  x.img.slotEntries.any (fun e => e.src = p &&
    (x.entryEnds e).any (fun r => (x.hubs r.1 r.2 e.via).any x.removed.contains))

/-- Cells removed by a forced reset lose the context's transits: TRANSIT_LOST of the orbit, and of each core a route of
which crossed them (09 R243, R244). -/
def State.transitCheck (s : State) (x : Nat) : State :=
  let c := s.ctx x
  if c.removed.isEmpty then s
  else (s.flagCtx x fTransitLost).mapCores x (fun p k =>
    if c.routeLost p then { k with rep := { k.rep with transit := k.rep.transit ||| 2 } } else k)

/-- The freeze releases: the step after it begins at the next router step of its phase (09 R230) (DEDUCED, log 44). -/
def State.release (s : State) (x : Nat) (z : Freeze) : State :=
  let s := s.releaseConds x z
  let s := if z.rdvBy.isEmpty then s else s.transitCheck x
  s.modCtx x (fun c => { c with resume := some (z.since, z.step + 1) })

/-- The freeze that stands at context `x`, once its step has ended, if a test accepts it and it may release. An orbit
that is to be abandoned ends there instead (08 R221). -/
def State.releasing (s : State) (x : Nat) (p : Freeze → Bool) : Option Freeze :=
  match (s.ctx x).freeze with
  | none => none
  | some z => if p z && (s.ctx x).item = 0 && !(s.ctx x).rt.abandon && s.mayRelease x z then some z else none

/-- A release where the freeze names no orbit end. -/
def State.tryRelease (s : State) (x : Nat) (p : Freeze → Bool) : State :=
  let t := s.settleFreeze x
  match t.releasing x p with
  | none => t
  | some z => t.release x z

/-- A freeze that does not end the orbit, with a rendezvous or without. -/
def Freeze.inner (rdv : Bool) (z : Freeze) : Bool := z.endBy.isEmpty && !z.abandon && (rdv != z.rdvBy.isEmpty)

/-- RENDEZVOUS_RELEASE (R263; with a fence R32). -/
def execRendezvousRelease (x : Nat) (s : State) : Out := done s (s.tryRelease x (Freeze.inner true))

/-- FENCE_RELEASE (R31). -/
def execFenceRelease (x : Nat) (s : State) : Out := done s (s.tryRelease x (Freeze.inner false))

end Sys2Proof.Machine
end

