-- ==== Sys2Proof/Machine/Weights.lean ====
section
/-! DEFINITION. Weight images: their checks, their placement, their writing (14 R394-R408). -/
namespace Sys2Proof.Machine
open Sys2Proof

/-! ### The header (14 R394, R397) -/

def pad64 (n : Nat) : Nat := (n + 63) / 64 * 64

structure WHeader where
  segments : Nat
  chunks : Nat
  sigLen : Nat
  bodyLen : Nat
  deriving DecidableEq, Repr

def WHeader.ofBytes (h : List Byte) : WHeader :=
  { segments := leAt h 6 2, chunks := leAt h 8 4, sigLen := leAt h 12 4, bodyLen := leAt h 16 8 }

/-- Length of everything before the body. -/
def WHeader.prefixLen (w : WHeader) : Nat := 256 + pad64 w.sigLen + 64 * w.segments + pad64 (32 * w.chunks)

/-- Header fields in range and the announced length as R394 implies it. -/
def headerOk (h : List Byte) (len : Nat) : Bool :=
  let w := WHeader.ofBytes h
  decide (h.length = 256) && leAt h 0 4 = 0x54574B46 && leAt h 4 2 = 1 && decide (1 ≤ w.segments)
    && decide (1 ≤ w.sigLen) && decide (w.sigLen ≤ 65536) && decide (leAt h 40 2 < leAt h 42 2)
    && len = w.prefixLen + w.bodyLen

/-- VARIANTS allows the module's variant. -/
def variantOk (h : List Byte) (v : Nat) : Bool := bit (leAt h 96 1) v

def Seg.len (g : Seg) : Nat := g.wLen + g.xLen
def Seg.inBody (g : Seg) : Bool := decide (g.place < 3)

/-- FIRST_CHUNK values are consecutive from `n`. -/
def firstsOk : Nat → List Seg → Bool
  | _, [] => true
  | n, g :: r => g.first = n && firstsOk (n + g.chunks) r

/-- The segment table's rules of R397. -/
def segsOk (w : WHeader) (l : List Seg) : Bool :=
  l.all (fun g => decide (0 < g.len) && g.len % 64 = 0
    && g.chunks = (g.len + 65535) / 65536)
  && firstsOk 0 l && (l.map (·.chunks)).sum = w.chunks
  && ((l.filter Seg.inBody).map Seg.len).sum = w.bodyLen

/-! ### Signatures and anchors (14 R395, R399) -/

/-- Supported parameter sets: XMSS 10h-12h and XMSS^MT 29h-30h, the SHAKE256 sets of SP 800-208 with n = 32 as
their registry numbers them (PRESUMED, log 47). -/
def oidOk (oid : Nat) : Bool := (decide (0x10 ≤ oid) && decide (oid ≤ 0x12)) || (decide (0x29 ≤ oid) && decide (oid ≤ 0x30))

/-- A big-endian number. -/
def beNat (l : List Byte) : Nat := natOf l.reverse

def keyOid (key : List Byte) : Nat := beNat (key.take 4)

/-- The valid anchor whose key has an identifier. -/
def State.anchorOf (s : State) (id : List Byte) : Option (Nat × Anchor) :=
  s.anchors.find? (fun a => a.2.valid && keyId a.2.key = id)

/-! ### Placement (14 R398) -/

/-- The image placement must satisfy: the staged one, or the installed one. -/
def Ctx.target (x : Ctx) : Option Image := match x.staged with | some i => some i | none => x.image

/-- The parts of a segment: first line, lines, the last perhaps not whole. -/
def Seg.parts (g : Seg) : List (Nat × Nat) :=
  [(g.wDest, (g.wLen + 63) / 64), (g.xDest, (g.xLen + 63) / 64)].filter (fun p => decide (0 < p.2))

/-- Lines that the place of a segment offers. -/
def Image.placeLines (i : Image) (cores : Nat) (g : Seg) : Nat :=
  match g.place with
  | 0 => if g.target < i.drams then i.heldLines g.target else 0
  | 1 => if g.target < 4 then i.baseLines g.target else 0
  | _ => if g.target < cores then 8192 else 0

def Image.contains (i : Image) (cores : Nat) (g : Seg) : Bool :=
  g.place = 3 || g.parts.all (fun p => decide (p.1 + p.2 ≤ i.placeLines cores g))

/-- No two parts overlap. -/
def disjointParts : List (Nat × Nat × Nat × Nat) → Bool
  | [] => true
  | (pl, t, a, n) :: r =>
    r.all (fun q => !(q.1 = pl && q.2.1 = t && decide (a < q.2.2.1 + q.2.2.2) && decide (q.2.2.1 < a + n)))
      && disjointParts r

def distinctNats : List (Nat × Nat) → Bool
  | [] => true
  | a :: r => !r.contains a && distinctNats r

def placementOk (i : Image) (cores : Nat) (l : List Seg) : Bool :=
  l.all (i.contains cores)
  && disjointParts ((l.filter Seg.inBody).flatMap (fun g => g.parts.map (fun p => (g.place, g.target, p.1, p.2))))
  && distinctNats ((l.filter (fun g => g.place = 3)).map (fun g => (g.target, g.endpoint)))

/-- Leaves of PLACE 3 segments that an image keeps in the leaf store (14 R404). -/
def WImage.tierLeaves (w : WImage) : Nat := ((w.segs.filter (fun g => g.place = 3)).map (·.chunks)).sum

/-- The leaf store's 32 MiB hold 1,048,576 leaves, shared by all contexts (DEDUCED, log 49). -/
def State.leafRoom (s : State) (x : Nat) (w : WImage) : Bool :=
  !s.isG || decide (w.tierLeaves + (((List.range 16).filter (· ≠ x)).map (fun y =>
    match (s.ctx y).weights.force with | some f => f.tierLeaves | none => 0)).sum ≤ 1048576)

/-- Two segment tables agree but for SEG_ID (R405). -/
def sameLayout (a b : WImage) : Bool :=
  a.segs.map (fun g => { g with id := 0 }) = b.segs.map (fun g => { g with id := 0 })

/-! ### Checks 1-5 of R400 -/

/-- The image that the bytes before the body spell, or the status of the first check that fails (DEDUCED, log 50). -/
def State.weightCheck (s : State) (x : Nat) (swap : Bool) (bytes : List Byte) (len : Nat) : WImage ⊕ Nat :=
  let c := s.ctx x
  let h := bytes.take 256
  let w := WHeader.ofBytes h
  if !headerOk h len then .inr stWimgFormat
  else if !variantOk h s.variant then .inr stVariant
  else
    let sig := (bytes.drop 256).take w.sigLen
    let table := (bytes.drop (256 + pad64 w.sigLen)).take (64 * w.segments)
    let leafBytes := (bytes.drop (256 + pad64 w.sigLen + 64 * w.segments)).take (32 * w.chunks)
    let leaves := (chunksOf 32 (w.chunks + 1) leafBytes).map (fun b => BitVec.ofNat 256 (natOf b))
    match s.anchorOf ((h.drop 48).take 16) with
    | none => .inr stNoAnchor
    | some (n, a) =>
      let img : WImage := { header := h, table, leaves, anchor := n }
      if !a.mask.testBit x then .inr stAnchorScope
      else if sig.take 4 ≠ a.key.take 4 then .inr stParamSet
      else if !Config.verify a.key h (sig.drop 4) then .inr stBadSignature
      else if !segsOk w img.segs then .inr stWimgFormat
      else
        match c.target with
        | none => .inr stNoImage
        | some i =>
          if swap && !(match c.weights.force with | some f => sameLayout f img | none => false) then .inr stSwapLayout
          else if !placementOk i c.ncores img.segs then .inr stPlacement
          else if merkleRoot 32 leaves ≠ img.root then .inr stRootMismatch
          else if !s.leafRoom x img then .inr stLeafStoreFull
          else .inl img

/-! ### Writing -/

/-- The chunks of the body in order: segment and chunk number. -/
def WImage.bodyChunks (w : WImage) : List (Seg × Nat) :=
  (w.segs.filter Seg.inBody).flatMap (fun g => (List.range g.chunks).map (fun k => (g, k)))

/-- Where byte `o` of a segment lies: the line of its target, the byte in that line, and how many bytes follow there. -/
def Seg.spot (g : Seg) (o : Nat) : Nat × Nat × Nat :=
  if o < g.wLen then (g.wDest + o / 64, o % 64, Nat.min (64 - o % 64) (g.wLen - o))
  else (g.xDest + (o - g.wLen) / 64, (o - g.wLen) % 64, 64 - (o - g.wLen) % 64)

/-- Address of a line of a segment's target. -/
def State.segAddr (s : State) (x : Nat) (i : Image) (g : Seg) (line : Nat) : Nat :=
  let c := s.ctx x
  match g.place with
  | 0 => dramAddr (c.stackOf g.target) (i.stackLine s.variant g.target line)
  | 1 => baseAddr (c.quad g.target) ((i.basePhys g.target line).getD 0)
  | _ => coreAddr (c.logical g.target) line

/-- Write bytes of a segment from its byte `o` on (fuel: the bytes). -/
def State.writeSeg (x : Nat) (i : Image) (g : Seg) : Nat → Nat → List Byte → State → State
  | 0, _, _, s => s
  | f + 1, o, l, s =>
    if l.isEmpty then s
    else
      let q := g.spot o
      State.writeSeg x i g f (o + q.2.2) (l.drop q.2.2)
        { s with mem := Memory.write s.mem (s.segAddr x i g q.1 + q.2.1) (l.take q.2.2) }

/-- Write chunk `k` of a segment. -/
def State.writeChunk (s : State) (x : Nat) (i : Image) (g : Seg) (k : Nat) (bytes : List Byte) : State :=
  State.writeSeg x i g bytes.length (65536 * k) bytes s

def State.modWeights (s : State) (x : Nat) (f : Weights → Weights) : State :=
  s.modCtx x (fun c => { c with weights := f c.weights })

/-- The orbit that begins next. -/
def Ctx.nextOrbit (x : Ctx) : Nat :=
  x.startOrbit.getD (if x.active then (x.orbit + 1) % 2 ^ 64 else x.replay.orbit.getD 0)

/-- The credits of entries that have waited on a bulk connection go back (10 R257). -/
def State.payBulk (s : State) (connId : Nat) : State :=
  match s.bulk connId with
  | none => s
  | some b =>
    let s := s.modLinks (fun l => { l with bulks := l.bulks.map (fun b => if b.connId = connId then { b with owed := 0 } else b) })
    if b.broken then s
    else (List.range b.owed).foldl (fun s _ => s.sendCtl b.port 3 [(0, 1, 2), (2, 2, b.tag), (4, 1, 1)]) s

/-- Entries on a bulk connection wait under its credits: those of a swap's body, from the end of its checks to the barrier
(R406). -/
def State.bulkWaits (s : State) (connId : Nat) : Bool :=
  (List.range 16).any (fun x =>
    let w := (s.ctx x).weights
    w.busy && w.conn = connId && w.next.isSome && w.phase = .swapPending)

/-- A use of a bulk connection ends: its first `n` bytes, to the end of their line, are consumed; none where `n` is none:
everything that has arrived is. -/
def State.bulkTake (s : State) (connId : Nat) (n : Option Nat) : State :=
  let left := fun (l : List Byte) => match n with | some n => l.drop (pad64 n) | none => []
  (s.modLinks (fun l => { l with bulks := l.bulks.map (fun b =>
    if b.connId = connId then { b with bytes := left b.bytes } else b) })).payBulk connId

/-- A load or swap fails in its body: the state becomes INVALID. -/
def State.weightBroken (s : State) (x status leaf : Nat) : State :=
  let w := (s.ctx x).weights
  let s := (s.bulkTake w.conn none).modWeights x (fun w => { w with phase := .invalid, busy := false, next := none })
  let s := s.modCtx x (fun c => { c with holds := { c.holds with weightSwap := w.swap } })
  (s.raise 0x82 (some x) 0 (pack [(32, status), (32, leaf)])).finish w.ticket status leaf

/-- A load or swap fails before its body: nothing is written (DEDUCED, log 51). -/
def State.weightRefused (s : State) (x status : Nat) : State :=
  let w := (s.ctx x).weights
  let s := (s.bulkTake w.conn none).modWeights x (fun w => { w with
    busy := false, next := none, phase := if w.phase = .swapPending then .valid else w.phase })
  (s.raise 0x82 (some x) 0 (pack [(32, status), (32, 0)])).finish w.ticket status 0

/-- The bulk connection breaks before the body is there: a load fails at once, a swap at its barrier (R407, R408). -/
def State.weightCut (s : State) (x : Nat) : State :=
  if (s.ctx x).weights.swap && (s.ctx x).item ≠ 4 then s.modWeights x (fun w => { w with phase := .swapPending })
  else s.weightBroken x stNoPeer 0

/-- The last chunk is written: the new image is in force. -/
def State.weightComplete (s : State) (x : Nat) (img : WImage) : State :=
  let c := s.ctx x
  let w := c.weights
  let h := img.header
  let s := s.logEntry 7 x c.nextOrbit 0 0x7FF [(40, bytesOf 1 (b2n w.swap)), (48, (h.drop 24).take 16),
    (64, (h.drop 44).take 4), (96, digestBytes w.root), (128, digestBytes img.root), (160, (h.drop 48).take 16)]
  let s := (s.bulkTake w.conn (some w.len)).modWeights x (fun w => { w with phase := .valid, force := some img, next := none, busy := false, changed := true })
  let s := if w.swap then s.raise 0x81 (some x) 0 (pack [(32, w.written), (64, s.now - w.heldAt)])
    else s.raise 0x80 (some x) 0 (pack [(32, w.written)])
  s.finish w.ticket stOK 0

/-- Consume the chunks of the body that have arrived, in order, each compared with its leaf before it overwrites
anything. The fuel bounds the chunks. -/
def State.writeBody (x : Nat) : Nat → State → State
  | 0, s => s
  | f + 1, s =>
    let c := s.ctx x
    let w := c.weights
    match w.next, c.target, s.links.bulks.find? (fun b => b.connId = w.conn && b.ctx = x) with
    | some img, some i, some b =>
      match img.bodyChunks[w.written]? with
      | none => s.weightComplete x img
      | some (g, k) =>
        let off := (WHeader.ofBytes img.header).prefixLen
          + ((img.bodyChunks.take w.written).map (fun q => q.1.chunkLen q.2)).sum
        let data := (b.bytes.drop off).take (g.chunkLen k)
        if data.length < g.chunkLen k then (if b.broken then s.weightBroken x stNoPeer 0 else s)
        else if leafDigest g.id k data ≠ img.leaves.getD (g.first + k) 0 then s.weightBroken x stLeafMismatch (g.first + k)
        else State.writeBody x f ((s.writeChunk x i g k data).modWeights x (fun w => { w with written := w.written + 1 }))
    | some _, _, none => s.weightBroken x stNoPeer 0
    | none, _, _ => s.weightBroken x stNoPeer 0
    | some _, none, some _ => s.weightBroken x stNoImage 0

/-- Chunks that remain, and one. -/
def Weights.fuel (w : Weights) : Nat := match w.next with | some i => i.bodyChunks.length + 1 | none => 0

/-- What has arrived takes a load or swap further: the checks once the bytes before the body are there, and the body
where it may be written now. -/
def State.weightsAdvance (s : State) (x : Nat) : State :=
  let w := (s.ctx x).weights
  if !w.busy then s
  else
    match s.links.bulks.find? (fun b => b.connId = w.conn && b.ctx = x) with
    | none => s.weightCut x
    | some b =>
      let s := match w.next with
        | some _ => s
        | none =>
          let h := b.bytes.take 256
          let need := if headerOk h w.len then (WHeader.ofBytes h).prefixLen else Nat.min 256 w.len
          if b.bytes.length < need then (if b.broken then s.weightCut x else s)
          else match s.weightCheck x w.swap b.bytes w.len with
            | .inr st => s.weightRefused x st
            | .inl img =>
              let phase : WeightPhase :=
                if w.swap then (if (s.ctx x).item = 4 then .swapping else .swapPending) else .loading
              let heldAt := if (s.ctx x).item = 4 then s.now else w.heldAt
              s.modWeights x (fun w => { w with next := some img, written := 0, phase, heldAt })
      let w := (s.ctx x).weights
      if w.next.isSome && (w.phase = .loading || w.phase = .swapping) then State.writeBody x w.fuel s else s

end Sys2Proof.Machine
end

