-- ==== Sys2Proof/Machine/Checkpoint.lean ====
section
/-! DEFINITION. Binding and unbinding elastic endpoints (10 R266, R268), and checkpoints: what they hold, writing one
and restoring one (15 R460-R462, R465, R469). -/
namespace Sys2Proof.Machine
open Sys2Proof

/-! ### Bindings -/

/-- A PEER record (R268). -/
def Peer.bytes (q : Peer) : List Byte := bytesOf 8 (pack [(24, q.code), (4, q.ctx), (11, q.core), (4, q.ep)])

/-- The CONN_SPEC of a binding, 32 bytes. -/
def Bind.spec (b : Bind) (x : Nat) : List Byte :=
  bytesOf 32 (pack [(1, b2n b.send), (2, b.kind), (1, b2n b.cls), (4, x), (11, b.core), (4, b.ep), (6, b.sem),
    (6, b.esize - 1), (4, b.depth - 1), (6, b.count - 1), (6, b.index), (13, 0), (32, b.connId)])

/-- The binding that a CONN_SPEC and its PEER records ask for. -/
def Bind.ofBytes (l : List Byte) : Bind :=
  let w := leAt l 0 32
  let send := bit w 0
  let kind := fld w 1 2
  let count := fld w 39 6 + 1
  let peers := (List.range (if kind = 3 then count else 1)).map (fun i =>
    let q := leAt l (32 + 8 * i) 8
    ({ code := fld q 0 24, ctx := fld q 24 4, core := fld q 28 11, ep := fld q 39 4, port := 0, tag := 0 } : Peer))
  { unbind := false, send, core := fld w 8 11, ep := fld w 19 4, kind, cls := bit w 3, sem := fld w 23 6,
    esize := fld w 29 6 + 1, depth := fld w 35 4 + 1, count, index := fld w 45 6, connId := fld w 64 32,
    peers := if send then peers else [], ticket := 0 }

/-- The binding of an endpoint as it stands. -/
def SendEp.bind (e : SendEp) (p ep : Nat) : Bind :=
  { unbind := false, send := true, core := p, ep, kind := e.kind, cls := e.cls, sem := e.csem, esize := e.esize,
    depth := e.depth, count := e.count, index := e.index, connId := e.connId,
    peers := e.peers, ticket := 0 }

def RecvEp.bind (e : RecvEp) (p ep : Nat) : Bind :=
  { unbind := false, send := false, core := p, ep, kind := e.kind, cls := e.cls, sem := e.asem, esize := e.esize,
    depth := e.depth, count := e.count, index := 0, connId := e.connId, peers := [], ticket := 0 }

/-- Lines of the receive store that a receive binding reserves (10 R253). -/
def Bind.lines (b : Bind) : Nat := b.esize * b.depth * (if b.kind = 2 then b.count else 1)

/-- Ranges of the receive store that a core's endpoints hold. -/
def Core.storeUse (c : Core) : List (Nat × Nat) :=
  (c.recvEps.filter (fun e => e.2.state ≠ .unbound)).map (fun e =>
    (e.2.base, e.2.esize * e.2.depth * (if e.2.kind = 2 then e.2.senders else 1)))

/-- The lowest place where `n` lines are free among ranges in use (DESIGN CHOICE, log 42). -/
def firstFit (use : List (Nat × Nat)) (n : Nat) : Option Nat :=
  ((0 :: use.map (fun r => r.1 + r.2)).foldr insertNat []).find? (fun b =>
    decide (b + n ≤ 512) && use.all (fun r => decide (b + n ≤ r.1) || decide (r.1 + r.2 ≤ b)))

/-- A binding takes effect: semaphore, store lines, endpoint (10 R257, R267); DISCARDS stays (R272). An end whose
connection has broken in the meantime is broken at once (R264, R265). -/
def Core.bindEnd (c : Core) (b : Bind) : Core :=
  if b.send then
    let c := { c with
      sendEps := c.sendEps.set {} b.ep
        { state := .bound, elastic := true, kind := b.kind, cls := b.cls, csem := b.sem, esize := b.esize, depth := b.depth,
          connId := b.connId, index := b.index, peers := b.peers, order := b.made, count := b.count
          discards := (c.sendEps.get {} b.ep).discards }
      sems := c.sems.set {} b.sem { value := b.depth } }
    if b.broken then c.breakSend b.ep else c
  else
    let c := { c with
      recvEps := c.recvEps.set {} b.ep
        { state := .bound, elastic := true, kind := b.kind, cls := b.cls, asem := b.sem, esize := b.esize, depth := b.depth,
          senders := if b.kind = 2 then b.count else 1, connId := b.connId, base := b.base, order := b.made, count := b.count }
      store := (List.range b.lines).foldl (fun t j => t.set 0 (b.base + j) 0) c.store
      sems := c.sems.set {} b.sem {} }
    if b.broken then c.breakRecv b.ep else c

/-- An unbinding takes effect: the semaphore clears and the store lines are free (10 R266). -/
def Core.unbindEnd (c : Core) (b : Bind) : Core :=
  if b.send then
    let e := c.sendEps.get {} b.ep
    { c with sendEps := c.sendEps.set {} b.ep { discards := e.discards }, sems := c.sems.set {} e.csem {} }
  else
    { c with recvEps := c.recvEps.set {} b.ep {}, sems := c.sems.set {} (c.recvEps.get {} b.ep).asem {} }

/-! ### Locked ends (10 R250-R255) -/

/-- Lines of the store that a locked connection's receive end takes. -/
def LockedConn.lines (l : LockedConn) : Nat := l.esize * l.depth * (if l.kind = 2 then l.senders else 1)

/-- The locked receive ends of program core `p`, in endpoint order. -/
def Image.lockRecvs (i : Image) (p : Nat) : List LockedConn :=
  (List.range 16).filterMap (fun ep => i.locked.find? (fun l => l.dst = p && l.rep = ep))

/-- Store lines of those ends, placed among ranges in use: endpoint, first line, length; none where they do not fit
(R253; DESIGN CHOICE, log 42). -/
def Image.lockPlace (i : Image) (p : Nat) (use : List (Nat × Nat)) : Option (List (Nat × Nat × Nat)) :=
  (i.lockRecvs p).foldl (fun a l => match a with
    | none => none
    | some r => (firstFit (use ++ r.map (·.2)) l.lines).map (fun b => r ++ [(l.rep, b, l.lines)])) (some [])

/-- The ranges that the load placed for core `p`. -/
def Image.lockUse (i : Image) (p : Nat) : List (Nat × Nat) := (i.lockBases.filter (fun q => q.1 = p)).map (·.2.2)

def Image.lockBase (i : Image) (p ep : Nat) : Nat :=
  ((i.lockBases.find? (fun q => q.1 = p && q.2.1 = ep)).map (·.2.2.1)).getD 0

/-- The locked ends of a core unbind as their image goes; DISCARDS stays (R272). -/
def Core.unlock (c : Core) : Core :=
  { c with
    sendEps := c.sendEps.foldl (fun t e =>
      if e.2.elastic || e.2.state = .unbound then t else t.set {} e.1 { discards := e.2.discards }) c.sendEps
    recvEps := c.recvEps.foldl (fun t e => if e.2.elastic then t else t.set {} e.1 {}) c.recvEps }

/-- A locked receive end binds: its lines are zeroed and ASEM reads 0 (R253, R255). -/
def Core.lockRecv (c : Core) (l : LockedConn) (base : Nat) : Core :=
  { c with
    recvEps := c.recvEps.set {} l.rep
      { state := .bound, kind := l.kind, asem := l.asem, esize := l.esize, depth := l.depth, base
        senders := if l.kind = 2 then l.senders else 1 }
    store := (List.range l.lines).foldl (fun t j => t.set 0 (base + j) 0) c.store
    sems := c.sems.set {} l.asem {} }

/-- A locked send end binds: CSEM reads DEPTH, nothing is in flight (R257). -/
def Core.lockSend (c : Core) (l : LockedConn) : Core :=
  { c with
    sendEps := c.sendEps.set {} l.sep
      { state := .bound, kind := l.kind, csem := l.csem, esize := l.esize, depth := l.depth, dstCore := l.dst
        dstEp := l.rep, index := l.index, discards := (c.sendEps.get {} l.sep).discards }
    sems := c.sems.set {} l.csem { value := l.depth } }

/-- The bank swap unbinds the locked ends of the old image at program core `p` and binds the new image's (R250). -/
def Core.lock (c : Core) (i : Image) (p : Nat) : Core :=
  let c := (i.lockRecvs p).foldl (fun c l => c.lockRecv l (i.lockBase p l.rep)) c.unlock
  (i.locked.filter (fun l => l.src = p)).foldl Core.lockSend c

/-- A send end at an entry step: OVERFLOW clears; on a locked one IN_FLIGHT and FILL too (R255, R272). -/
def SendEp.enter (e : SendEp) : SendEp :=
  if e.elastic then { e with overflow := false }
  else { e with overflow := false, inFlight := 0, fill := 0, taken := [], started := false, drop := false, no := 0 }

/-- A receive end at an entry step: a locked one's queues are empty and its read pointer is 0 (R255). -/
def RecvEp.enter (e : RecvEp) : RecvEp :=
  if e.elastic then e else { e with rdptr := 0, cursor := 0, rounds := 0, subs := [] }

/-! ### Taking effect -/

/-- Apply one waiting binding or unbinding and log it (R268). -/
def State.applyBind (s : State) (x : Nat) (b : Bind) : State :=
  let s := s.modCoreOf x b.core (fun c => if b.unbind then c.unbindEnd b else c.bindEnd b)
  s.logEntry 5 x (s.ctx x).nextOrbit 0 b.core [(40, bytesOf 1 (b2n (!b.unbind))), (64, b.spec x)]

/-- An end that was closed unbinds: the other ends learn of it and break (10 R264, R266, R267). -/
def State.closeEnd (s : State) (x : Nat) (b : Bind) : State :=
  let s := (s.tellFar b.connId 5 0 none).applyBind x b
  (s.breakConn b.connId (fun _ _ => false)).dropCircuits (fun c => c.connId = b.connId)

/-- Item 3 of R36, second part: bindings and unbindings in the order their commands completed. -/
def State.applyBinds (s : State) (x : Nat) : State :=
  let l := (s.ctx x).binds
  l.foldl (fun s b => if b.unbind then s.closeEnd x b else s.applyBind x b) (s.modCtx x (fun c => { c with binds := [] }))

/-! ### Regions and buffers -/

/-- The address of line `j` of a region. -/
def State.regionAddr (s : State) (x : Nat) (i : Image) (r : Region) (j : Nat) : Nat :=
  let c := s.ctx x
  match r.mem with
  | 0 => dramAddr (c.stackOf r.target) (i.stackLine s.variant r.target (r.first + j))
  | 1 => baseAddr (c.quad r.target) ((i.basePhys r.target (r.first + j)).getD 0)
  | _ => coreAddr (c.logical r.target) (r.first + j)

def State.regionBytes (s : State) (x : Nat) (i : Image) (r : Region) : List Byte :=
  (List.range r.lines).flatMap (fun j => Memory.bytes s.mem (s.regionAddr x i r j) 64)

def State.writeRegion (s : State) (x : Nat) (i : Image) (r : Region) (bytes : List Byte) : State :=
  (List.range r.lines).foldl (fun s j =>
    { s with mem := Memory.write s.mem (s.regionAddr x i r j) ((bytes.drop (64 * j)).take 64) }) s

/-- A buffer as a region that runs to the end of its stack's declared allocation. -/
def bufferRegion (i : Image) (b : Nat × Nat) : Region :=
  { mem := 0, target := b.1, first := b.2, lines := i.heldLines b.1 - b.2 }

/-- Write bytes into a buffer, as far as it reaches. -/
def State.writeBuffer (s : State) (x : Nat) (i : Image) (b : Nat × Nat) (bytes : List Byte) : State :=
  let r := bufferRegion i b
  s.writeRegion x i { r with lines := Nat.min r.lines ((bytes.length + 63) / 64) } (padTo (pad64 bytes.length) bytes)

/-! ### Checkpoints (R462) -/

/-- Semaphores bound to elastic endpoints: program core, number (DEDUCED, log 53). -/
def State.elasticSems (s : State) (x : Nat) : List (Nat × Nat) :=
  (s.ctx x).cores.flatMap (fun p =>
    ((List.range 48).filter (fun n => (s.core ⟨x, p⟩).elasticBound n)).map (fun n => (p, n)))

/-- Elastic endpoints bound. -/
def State.elasticBinds (s : State) (x : Nat) : List Bind :=
  (s.ctx x).cores.flatMap (fun p =>
    let c := s.core ⟨x, p⟩
    (c.recvEps.filter (fun e => e.2.elastic && e.2.state ≠ .unbound)).map (fun e => e.2.bind p e.1)
      ++ (c.sendEps.filter (fun e => e.2.elastic && e.2.state ≠ .unbound)).map (fun e => e.2.bind p e.1))

/-- Setting numbers of context scope (DESIGN CHOICE, log 52). -/
def State.ctxSettings (s : State) : List Nat :=
  settingNumbers.filter (fun n => match settingInfo s.variant n with | some i => i.2 = 1 | none => false)

def patchBytes (l : List (BitVec 128)) : List Byte := l.flatMap (fun e => bytesOf 16 e.toNat)

/-- The checkpoint of context `x` that begins orbit `o`. -/
def State.ckptBytes (s : State) (x no o : Nat) : List Byte :=
  let c := s.ctx x
  let h := c.halo
  let sems := s.elasticSems x
  let binds := s.elasticBinds x
  let nums := s.ctxSettings
  let body := c.cores.flatMap (fun p => (List.range 64).flatMap (fun k => bytesOf 8 ((s.core ⟨x, p⟩).par.get 0 k).toNat))
    ++ sems.flatMap (fun q =>
      let m := (s.core ⟨x, q.1⟩).sems.get {} q.2
      bytesOf 8 (pack [(11, q.1), (6, q.2), (31, m.value), (1, b2n m.brk)]))
    ++ binds.flatMap (fun b => b.spec x)
    ++ nums.flatMap (fun n => bytesOf 16 (pack [(64, x * 65536 + n), (64, s.settingNow n x)]))
    ++ padTo 1024 (patchBytes c.patch)
    ++ h.regions.flatMap (s.regionBytes x c.img)
  bytesOf 64 (pack [(32, 0x504B4B46), (16, 1), (16, c.ncores), (64, no), (64, o), (16, sems.length), (16, binds.length),
    (16, nums.length), (8, h.regions.length), (8, 0), (64, 64 + body.length)]) ++ body

def ckptDigest (b : List Byte) : BitVec 256 := digest 0x12 b
def ckptCores (b : List Byte) : Nat := leAt b 6 2
def ckptOrbitOf (b : List Byte) : Nat := leAt b 16 8
def ckptSems (b : List Byte) : Nat := leAt b 24 2
def ckptBinds (b : List Byte) : Nat := leAt b 26 2
def ckptSets (b : List Byte) : Nat := leAt b 28 2
def ckptLength (b : List Byte) : Nat := leAt b 32 8

/-- The parameter registers of every program core, from a checkpoint. -/
def State.restorePars (s : State) (x : Nat) (b : List Byte) : State :=
  s.mapCores x (fun p c => { c with par := (List.range 64).foldl (fun t k =>
    t.set 0 k (BitVec.ofNat 64 (leAt b (64 + 512 * p + 8 * k) 8))) c.par })

/-- The semaphores of a checkpoint. -/
def State.restoreSems (s : State) (x : Nat) (b : List Byte) : State :=
  (List.range (ckptSems b)).foldl (fun s i =>
    let w := leAt b (64 + 512 * ckptCores b + 8 * i) 8
    s.modCoreOf x (fld w 0 11) (fun c => { c with sems := c.sems.modify {} (fld w 11 6) (fun q =>
      { q with value := fld w 17 31, brk := bit w 48 }) })) s

/-- The bindings of a checkpoint. -/
def ckptBindList (b : List Byte) : List Bind :=
  (List.range (ckptBinds b)).map (fun i =>
    Bind.ofBytes ((b.drop (64 + 512 * ckptCores b + 8 * ckptSems b + 32 * i)).take 32))

/-- Settings, patch vector and regions of a checkpoint, into context `x`. -/
def State.restoreRest (s : State) (x : Nat) (b : List Byte) : State :=
  let o := 64 + 512 * ckptCores b + 8 * ckptSems b + 32 * ckptBinds b
  let s := (List.range (ckptSets b)).foldl (fun s i =>
    let sid := leAt b (o + 16 * i) 4
    s.applySetting (x * 65536 + sidNum sid) (leAt b (o + 16 * i + 8) 8)) s
  let o := o + 16 * ckptSets b
  let patch := (List.range 64).map (fun i => BitVec.ofNat 128 (leAt b (o + 16 * i) 16))
  let s := s.modCtx x (fun c => { c with patch, patchNew := false })
  let c := s.ctx x
  let i := (c.target).getD {}
  (c.halo.regions.foldl (fun (a : State × Nat) r =>
    (a.1.writeRegion x i r ((b.drop a.2).take (64 * r.lines)), a.2 + 64 * r.lines)) (s, o + 1024)).1

/-- Take a checkpoint of a mirrored context: into its buffer, to the ledger, onto the mirror circuit (R462). -/
def State.takeCheckpoint (s : State) (x : Nat) : State :=
  let c := s.ctx x
  let no := c.halo.nextCkpt
  let b := s.ckptBytes x no c.orbit
  let s := s.writeBuffer x c.img (c.halo.buffers.headD (0, 0)) b
  let s := s.logEntry 9 x c.orbit 0 0x7FF [(64, digestBytes (ckptDigest b)), (96, bytesOf 8 no)]
  let s := s.mirror x (.checkpoint no b (ckptDigest b))
  let s := s.modCtx x (fun c => { c with halo := { c.halo with
    nextCkpt := no + 1, ckptOpen := true, force := false, inputSince := 0 } })
  s.raise 0x122 (some x) x no

end Sys2Proof.Machine
end

