-- ==== Sys2Proof/Machine/Boundary.lean ====
section
/-! DEFINITION. The orbit boundary (01 R36; 14 R410-R414): the record, the status copies, settings and bindings, weight
swap, bank swap, patch, counters, checkpoint and mirror lag, and the state at an entry step. -/
namespace Sys2Proof.Machine
open Sys2Proof

/-! ### Leaving RUNNING and STOPPING -/

/-- The context's unsealed entries are gone and its pairing is TAKEN_OVER (15 R466). -/
def State.endSelfLost (s : State) (x : Nat) : State :=
  let s := s.setStream x { s.lstream x with opened := [] }
  let s := { s with ledger := { s.ledger with closed := s.ledger.closed.filter (fun b => b.stream ≠ x) } }
  s.modCtx x (fun c => { c with selfLost := false, halo := { c.halo with phase := .takenOver, out := [] } })

/-- A context becomes IDLE at a boundary: its batch closes, CONTEXT_STOP completes, a replay run ends (13 R376;
14 R417, R429) (DEDUCED, log 88). -/
def State.toIdle (s : State) (x : Nat) : State :=
  let s := s.modCtx x (fun c => { c with
    phase := .idle, freeze := none, resume := none, item := 0,
    holds := { c.holds with weightSwap := false, checkpoint := false, mirrorLag := false, ledger := false },
    replay := {} })
  let s := if (s.ctx x).selfLost then s.endSelfLost x else s.closeBatch x
  let s := if (s.ctx x).holds.debug then s.finishAll 0x52 x stOK 0 else s
  s.finishAll 0x33 x stOK 0

/-! ### Item 1: the record (R410) -/

def itemBytes (i : DigestItem) : List Byte :=
  bytesOf 16 (pack [(64, i.step), (16, i.core), (8, i.ep)]) ++ digestBytes i.digest

/-- Items by step, program core, endpoint, in the order they arose. -/
def itemsDigest (tag : Nat) (l : List DigestItem) : BitVec 256 :=
  let le := fun (a b : DigestItem) => decide (a.step < b.step) || (a.step = b.step && (decide (a.core < b.core) ||
    (a.core = b.core && decide (a.ep ≤ b.ep))))
  digest tag ((sortBy le l).flatMap itemBytes)

/-- Parameter digest, of program core 0's copy (14 R391). -/
def Core.parDigest (c : Core) : BitVec 256 :=
  digest 2 ((List.range 64).flatMap (fun k => bytesOf 8 (c.par.get 0 k).toNat))

/-- The seed registers of a mask, rising. -/
def seedRegs (mask : W64) : List Nat := bitsUp 64 mask.toNat

/-- The orbit record; a P or C module has no digests to name and no index. -/
def State.orbitRecord (s : State) (x : Nat) : List Byte :=
  let c := s.ctx x
  let regs := seedRegs c.img.seedMask
  let g := s.isG
  let dig := fun (d : BitVec 256) => if g then d.toNat else 0
  bytesOf 256 (pack [(8, 1), (5, x), (3, b2n (classD1 c.flags)), (8, regs.length), (6, regs.getD 0 0), (6, regs.getD 1 0),
    (6, regs.getD 2 0), (6, regs.getD 3 0), (16, Nat.min 65535 c.interventions), (64, if g then s.recordIndex else 0),
    (64, c.orbit), (48, (c.step + 1) % 2 ^ 48), (16, 0), (64, c.entryTick), (64, c.last.endTick),
    (64, c.last.freezeTicks), (64, c.flags.toNat), (256, dig c.startImage), (256, dig c.startWeights),
    (256, dig c.paramDigest), (256, dig (itemsDigest 3 c.inputs)), (256, dig (itemsDigest 4 c.outputs)),
    (64, (c.seeds.getD 0 0).toNat), (64, (c.seeds.getD 1 0).toNat), (64, (c.seeds.getD 2 0).toNat),
    (64, (c.seeds.getD 3 0).toNat)])

/-- CLASS, STEPS, INPUT_DIGEST and OUTPUT_DIGEST of a record. -/
def recordKey (b : List Byte) : List Byte :=
  bytesOf 1 (fld (leAt b 1 1) 5 3) ++ (b.drop 24).take 6 ++ (b.drop 160).take 64

/-- Entries still open at orbit end close with token 0 (10 R254, R414); what a locked end would send then falls due
after the orbit and is discarded (10 R255). -/
def State.closeEntries (s : State) (x : Nat) : State :=
  let n := ((s.ctx x).step + 1) % 2 ^ 48
  (s.ctx x).cores.foldl (fun s p =>
    ((s.core ⟨x, p⟩).sendEps.filter (fun e => e.2.state = .bound && e.2.started)).foldl (fun s q =>
      let e := q.2
      let e' := { e with fill := 0, taken := [], started := false, drop := false, no := if e.drop then e.no else e.no + 1 }
      let s := s.modCoreOf x p (fun k => { k with sendEps := k.sendEps.set {} q.1 e' })
      if e.drop || !e.elastic then s
      else
        let s := s.modCtx x (fun c => { c with outputs := c.outputs ++
          [⟨n, p, q.1, entryDigest 8 e.connId e.index 0 e.taken⟩] })
        s.leaveEntry x p q.1 0 e.taken) s) s

/-- Everything written lands in memory (07 R174). -/
def State.landWrites (s : State) (x : Nat) : State :=
  let s := s.landBaseWrites x (2 ^ 64)
  (s.ctx x).cores.foldl (fun s p => s.landMem ((s.ctx x).logical p) (2 ^ 64)) s

/-- The freeze at orbit end releases: the conditions act, the orbit's end is timed. -/
def State.orbitEnds (s : State) (x : Nat) (z : Freeze) : State :=
  let s := s.releaseConds x z
  let s := if z.abandon then s.flagCtx x fAbandoned else s
  let s := ((s.transitCheck x).closeEntries x).landWrites x
  s.modCtx x (fun c => { c with
    item := 1, freeze := some { z with conds := [], fence := false }, rt := { c.rt with abandon := false }
    last := { c.last with endTick := s.now, freezeTicks := c.freezeTicks + (s.now - z.since) } })

/-- Item 1: the record closes; on a G module it waits for room in the unsealed area (14 R416). -/
def State.itemRecord (s : State) (x : Nat) : State × Bool :=
  if s.isG && !s.roomForRecord then
    let s := s.modCtx x (fun c => { c with holds := { c.holds with ledger := true } })
    (if s.ledger.fullRaised then s
     else { s with ledger := { s.ledger with fullRaised := true } }.raise 0x85 (some x) 0 x, false)
  else
    let r := s.orbitRecord x
    let s := s.modCtx x (fun c => { c with holds := { c.holds with ledger := false }, item := 2 })
    let s := if s.isG then s.addEntry x s.now r else s
    (s.mirror x (.orbitEnd (s.ctx x).orbit r), true)

/-! ### Catch-up orbits of a takeover (15 R465, R468) -/

/-- The mirrored record of an orbit (DEDUCED, log 150). -/
def mirroredRecord (o : Nat) : List MirrorItem → Option (List Byte)
  | [] => none
  | .orbitEnd n r :: l => if n = o then some r else mirroredRecord o l
  | _ :: l => mirroredRecord o l

/-- The comparison of a catch-up orbit differs for a mirrored record of class D1; or the record has no class. -/
def State.catchUpResult (s : State) (x : Nat) (r : List Byte) : Bool × Bool :=
  match mirroredRecord (s.ctx x).orbit (s.ctx x).halo.items with
  | none => (false, false)
  | some m =>
    if !s.isG then (false, false)
    else if fld (leAt m 1 1) 5 3 ≠ 1 then (false, true) else (recordKey m ≠ recordKey r, false)

/-- The replay endpoints unbind and the context rests at the mirror point (step 6 of R465). -/
def State.catchUpEnd (s : State) (x : Nat) : State :=
  let h := (s.ctx x).halo
  let next := match h.mirrorPoint with | some n => n + 1 | none => h.ckptOrbit
  let s := (s.elasticBinds x).foldl (fun s b => s.applyBind x { b with unbind := true }) s
  let s := s.toIdle x
  let s := s.modCtx x (fun c => { c with
    orbit := next, startOrbit := some next, takeover := !h.resume
    halo := { h with catchUp := false, items := [], phase := if h.resume then .active else .takenOver,
                     resume := false, ticket := 0, force := false } })
  let s := if h.resume then s.raise 0x120 (some x) x h.pairId
    else s.raise 0x124 (some x) x (pack [(64, (h.mirrorPoint).getD 0), (32, h.skipped)])
  s.finish h.ticket stOK 0

/-- A comparison differs: the context stays IDLE for inspection. -/
def State.catchUpDiverged (s : State) (x : Nat) : State :=
  let h := (s.ctx x).halo
  let o := (s.ctx x).orbit
  let s := s.toIdle x
  let s := s.modCtx x (fun c => { c with halo := { h with catchUp := false, phase := .diverged, resume := false, ticket := 0 } })
  (s.raise 0x125 (some x) x o).finish h.ticket stHaloState 0

/-! ### Items 2 to 7 -/

/-- Item 2: sticky flags and reports go to the context status and clear (01 R26; 13 R383). In a catch-up orbit the
record is compared. -/
def State.itemStatus (s : State) (x : Nat) : State × Bool :=
  let c := s.ctx x
  let f := c.flags.toNat
  let sticky := pack [(1, b2n (f.testBit fSendOverflow)), (1, b2n (f.testBit fArmCut)), (1, b2n (f.testBit fRdvSkew)),
    (1, b2n (f.testBit fFwDrop))]
  let records := c.cores.map (fun p => (p, s.coreRecord (c.logical p)))
  let r := s.orbitRecord x
  let t := s.modCtx x (fun c => { c with item := 3, last := { c.last with sticky, flags := c.flags, records, rt := c.rt } })
  if !c.halo.catchUp then (t, true)
  else
    let (bad, skip) := s.catchUpResult x r
    let t := if skip then t.modCtx x (fun c => { c with halo := { c.halo with skipped := c.halo.skipped + 1 } }) else t
    if bad then (t.catchUpDiverged x, false)
    else match c.halo.mirrorPoint with
      | none => (t.catchUpEnd x, false)
      | some n => if n ≤ c.orbit then (t.catchUpEnd x, false) else (t, true)

/-- Item 3: settings, then bindings. -/
def State.itemSettings (s : State) (x : Nat) : State × Bool :=
  let s := (s.boundarySettings x).applyBinds x
  (s.modCtx x (fun c => { c with item := 4 }), true)

/-- Whether item 4 keeps the context: a swap is being written, or the last one failed (14 R406, R407) (DESIGN
CHOICE, log 107). -/
def Ctx.swapHolds (c : Ctx) : Bool :=
  c.weights.phase = .swapping || (c.weights.phase = .invalid && c.holds.weightSwap && c.phase = .running)

/-- Item 4: a pending weight swap writes. -/
def State.itemWeights (s : State) (x : Nat) : State × Bool :=
  let s := if (s.ctx x).weights.phase = .swapPending then
      let s := (s.modWeights x (fun w => { w with phase := .swapping, heldAt := s.now })).payBulk (s.ctx x).weights.conn
      State.writeBody x (s.ctx x).weights.fuel s
    else s
  if (s.ctx x).swapHolds then (s.modCtx x (fun c => { c with holds := { c.holds with weightSwap := true } }), false)
  else (s.modCtx x (fun c => { c with item := 5, holds := { c.holds with weightSwap := false } }), true)

/-- The banks swap and the staged image is installed, its locked connections bound (03 R89, R93; 08 R199; 10 R250;
14 R408). -/
def State.bankSwap (s : State) (x : Nat) : State :=
  match (s.ctx x).staged with
  | none => s
  | some i =>
    let s := s.mapCores x (fun p k => { k.lock i p with
      seq := { k.seq with bank := !k.seq.bank, staged := false }
      par := (List.range 64).foldl (fun t n => t.set 0 n (i.par n)) [] })
    let s := s.modCtx x (fun c => { c with image := some i, staged := none, imageChanged := true })
    let s := (s.ctx x).sites.foldl (fun s d => s.modStack d (fun q => { q with split := i.split, remoteOpen := i.remoteOpen })) s
    let c := s.ctx x
    let lost : Bool := match c.weights.force with
      | some f => !(c.weights.phase = .none) && !(c.weights.phase = .invalid) && !f.segs.all (i.contains c.ncores)
      | none => false
    if lost then
      (s.modWeights x (fun w => { w with phase := .invalid, swap := false })).raise 0x82 (some x) 0 (pack [(32, stPlacement)])
    else s

/-- Item 5: the banks swap if STAGED is set on every core; a context that is stopping rests after it (13 R376). -/
def State.itemBanks (s : State) (x : Nat) : State × Bool :=
  let s := if s.allStaged x then s.bankSwap x else s
  if (s.ctx x).phase = .stopping then (s.toIdle x, false)
  else (s.modCtx x (fun c => { c with item := 6 }), true)

/-- A patch entry on a parameter register (03 R90). -/
def applyPatch (t : Tab W64) (e : BitVec 128) : Tab W64 :=
  let n := bvf e 0 6
  let v := BitVec.ofNat 64 (bvf e 64 64)
  match bvf e 6 2 with
  | 1 => t.set 0 n v
  | 2 => t.set 0 n (t.get 0 n + v)
  | _ => t

/-- The mirrored patch of an orbit's boundary. -/
def mirroredPatch (o : Nat) : List MirrorItem → List (BitVec 128)
  | [] => []
  | .boundary n p :: l => if n = o then p else mirroredPatch o l
  | _ :: l => mirroredPatch o l

/-- The parameter values REPLAY_ARM set, or a restored checkpoint's, replace the registers once (14 R428; 15 R469). -/
def State.replayPars (s : State) (x : Nat) : State :=
  let r := (s.ctx x).replay
  let s := if r.pars.isEmpty then s
    else s.mapCores x (fun _ k => { k with par := (List.range 64).foldl (fun t n => t.set 0 n (r.pars.getD n 0)) k.par })
  let s := match r.ckpt with
    | none => s
    | some b => ((s.restorePars x b).restoreSems x b)
  s.modCtx x (fun c => { c with replay := { c.replay with pars := [], ckpt := none } })

/-- Item 6: the patch vector (03 R91; 15 R463, R465). -/
def State.itemPatch (s : State) (x : Nat) : State × Bool :=
  let c := s.ctx x
  let l := if c.halo.catchUp then mirroredPatch c.nextOrbit c.halo.items
    else if c.patchNew then c.patch else c.patch.filter (fun e => bit e.toNat 8)
  let s := s.mapCores x (fun _ k => { k with par := l.foldl applyPatch k.par })
  let s := s.modCtx x (fun c => { c with patchNew := c.patchNew && c.halo.catchUp, item := 7 })
  ((s.replayPars x).mirror x (.boundary c.nextOrbit l), true)

/-- Item 7: the counters. The steps an entry interval still has to run are kept as they stood (04 R123). -/
def State.itemCount (s : State) (x : Nat) : State × Bool :=
  let n := (s.ctx x).step
  let s := s.mapCores x (fun _ k => { k with arrays := k.arrays.foldl (fun t u =>
    t.set {} u.1 { u.2 with busyTo := u.2.busyTo - n }) k.arrays })
  (s.modCtx x (fun c => { c with orbit := c.nextOrbit, startOrbit := none, step := 0, item := 8 }), true)

/-- A checkpoint that CKPT_INTERVAL does not select: the first of a start, and one that the entries mirrored since the last
complete checkpoint force, as they exceed the partner's input buffer (15 R462, R464). -/
def Halo.forced (h : Halo) : Bool := h.force || decide (Config.partnerInput h.pairId < h.inputUsed)

/-- Between items 7 and 8: the checkpoint of a mirrored context, once the standby has acknowledged the last
(15 R462, R464). -/
def State.itemCheckpoint (s : State) (x : Nat) : State × Bool :=
  let c := s.ctx x
  let k := s.setting 0x72 x
  if !s.mirrored x || !(c.halo.forced || (k ≠ 0 && c.orbit % k = 0)) then (s.modCtx x (fun c => { c with item := 9 }), true)
  else if c.halo.ckptOpen then (s.modCtx x (fun c => { c with holds := { c.holds with checkpoint := true } }), false)
  else ((s.takeCheckpoint x).modCtx x (fun c => { c with item := 9, holds := { c.holds with checkpoint := false } }), true)

/-- The mirror point lets orbit `o` begin (15 R464). -/
def Ctx.lagAllows (c : Ctx) (lag : Nat) : Bool :=
  decide (c.orbit ≤ lag) || (match c.halo.mirrorPoint with | some m => decide (c.orbit ≤ m + lag + 1) | none => false)

def State.itemLag (s : State) (x : Nat) : State × Bool :=
  if s.mirrored x && !(s.ctx x).lagAllows (s.setting 0x73 x) then
    (s.modCtx x (fun c => { c with holds := { c.holds with mirrorLag := true } }), false)
  else (s.modCtx x (fun c => { c with item := 10, holds := { c.holds with mirrorLag := false } }), true)

/-! ### Item 8: the state at an entry step -/


/-- Semaphores at the entry step: the image's values but for those bound to elastic ends; locked credits and arrivals
(R248, R255). -/
def Image.entrySems (i : Image) (p : Nat) (c : Core) : Tab Sem :=
  let t := (List.range 48).foldl (fun t n =>
    if c.elasticBound n then t else t.set {} n { value := i.sem p n }) c.sems
  let t := (i.locked.filter (fun l => l.dst = p)).foldl (fun t l => t.set {} l.asem {}) t
  (i.locked.filter (fun l => l.src = p)).foldl (fun t l => t.set {} l.csem { value := l.depth }) t

/-- Core `p` at the entry step of an orbit. -/
def Core.enterOrbit (c : Core) (i : Image) (p : Nat) : Core :=
  let q : Seq := { bank := c.seq.bank, staged := c.seq.staged }
  let c : Core := { c with
    seq := q, prev := q, lc := [], pipe := [], vpipe := [], vregs := [], masks := [], opbuf := [], opland := []
    drain := [], drainIn := [], arrays := [], memWrites := [], ranges := [], sdCur := [], ring := {}, semIn := []
    taps := (List.range 32).foldl (fun t n => t.set {} n (i.tap p n)) []
    work := {}, rep := {}
    recvEps := c.recvEps.foldl (fun t e => t.set {} e.1 e.2.enter) c.recvEps
    sendEps := c.sendEps.foldl (fun t e => t.set {} e.1 e.2.enter) c.sendEps }
  { c with sems := i.entrySems p c }

/-- Mirrored entries that a catch-up orbit starts with: as many as each sub-queue holds. -/
def State.supplyAll (s : State) (x : Nat) : State :=
  if !(s.ctx x).halo.catchUp then s
  else (s.ctx x).cores.foldl (fun s p =>
    ((s.core ⟨x, p⟩).recvEps.filter (fun e => e.2.elastic)).foldl (fun s e =>
      (List.range e.2.senders).foldl (fun s i =>
        (List.range (e.2.depth - (e.2.sub i).entries.length)).foldl (fun s _ => s.supply x p e.1 i) s) s) s) s

/-- The entry step is ready: it begins at the next router step of its phase; base-memory traffic still in flight is
discarded (08 R494). Cells that a forced reset removed are
back once the quadrant has left it (09 R243). -/
def State.enterOrbit (s : State) (x : Nat) : State :=
  let i := (s.ctx x).img
  let s := s.mapCores x (fun p c => c.enterOrbit i p)
  let s := (s.ctx x).sites.foldl (fun s d => s.modStack d (fun q => { q with staging := {} })) s
  let p0 := s.core ⟨x, 0⟩
  let c := s.ctx x
  let replay := c.replay.run || c.halo.catchUp
  let flags : Nat := pack [(16, 0), (1, b2n (decide (4 < (seedRegs i.seedMask).length))), (1, 0), (1, b2n c.weights.changed),
    (1, b2n c.imageChanged), (1, b2n replay), (1, b2n (c.takeover && !c.halo.catchUp))]
  let s := s.modCtx x (fun c => { c with
    wire := [], wires := [], wireIn := [], flights := [], baseWrites := []
    flags := BitVec.ofNat 64 flags, listed := [], skew := false, ircOn := decide (s.setting 0x41 x = 1)
    freezeTicks := 0, inputs := [], outputs := [], interventions := 0
    rt := { c.rt with deadlineRaised := false, waitRaised := false, abandon := false }
    imageChanged := false, takeover := c.takeover && c.halo.catchUp, ahead := []
    paramDigest := p0.parDigest, seeds := ((seedRegs i.seedMask).take 4).map (fun n => p0.par.get 0 n)
    startWeights := c.weights.root, startImage := i.digest
    weights := { c.weights with changed := false, tier := [] }
    resume := some (s.now, 0)
    removed := c.removed.filter (fun q => (s.hub q).inReset) })
  (s.transitCheck x).supplyAll x

/-- Item 8 waits for an eclipse or debug hold (01 R33). -/
def State.itemEnter (s : State) (x : Nat) : State × Bool :=
  let c := s.ctx x
  if c.holds.eclipse || c.holds.debug || c.resume.isSome then (s, false) else ((s.replayEntries x).enterOrbit x, false)

/-! ### The boundary -/

/-- The items from the one under way, until one waits. -/
def State.boundaryItems (x : Nat) : Nat → State → State
  | 0, s => s
  | f + 1, s =>
    let r := match (s.ctx x).item with
      | 0 => (s, false)
      | 1 => s.itemRecord x
      | 2 => s.itemStatus x
      | 3 => s.itemSettings x
      | 4 => s.itemWeights x
      | 5 => s.itemBanks x
      | 6 => s.itemPatch x
      | 7 => s.itemCount x
      | 8 => s.itemCheckpoint x
      | 9 => s.itemLag x
      | _ => s.itemEnter x
    if r.2 then State.boundaryItems x f r.1 else r.1

/-- What a boundary waits for may have come. -/
def State.boundaryGo (s : State) (x : Nat) : State := State.boundaryItems x 11 s

/-- The freeze that ends the orbit, if it is one: a miss not yet acted on abandons the orbit at its end too (08 R221). -/
def Ctx.endFreeze (c : Ctx) (z : Freeze) : Option Freeze :=
  if !z.endBy.isEmpty then some { z with abandon := z.abandon || c.rt.abandon } else if z.abandon then some z else none

/-- An orbit-end freeze releases into its boundary (R36; 08 R221). -/
def State.tryBoundary (s : State) (x : Nat) : State :=
  let t := s.settleFreeze x
  if (t.ctx x).item ≠ 0 then t.boundaryGo x
  else match (t.ctx x).freeze.bind (t.ctx x).endFreeze with
    | none => t
    | some z => if t.mayRelease x z then (t.orbitEnds x z).boundaryGo x else t

/-- ORBIT_BOUNDARY (R36). -/
def execOrbitBoundary (x : Nat) (s : State) : Out := done s (s.tryBoundary x)

/-- A context in state IDLE starts: items 3 to 8 (13 R376) (DESIGN CHOICE, log 55). -/
def State.startCtx (s : State) (x orbit : Nat) : State :=
  let s := s.modCtx x (fun c => { c with
    phase := .running, item := 3, startOrbit := some orbit, rt := {}
    freeze := some { settled := true, since := s.now }, resume := none
    halo := { c.halo with force := true, mirrorPoint := if c.halo.phase = .active && !c.halo.standby then
      (if orbit = 0 then none else some (orbit - 1)) else c.halo.mirrorPoint } })
  s.boundaryGo x

end Sys2Proof.Machine
end

