-- ==== Sys2Proof/Machine/Links.lean ====
section
/-! DEFINITION. Link ports: coordinates and routes (12 R327-R336), training, width and service of lanes (12 R314-R319),
the calibration and heartbeat frame groups (12 R306, R307, R322). -/
namespace Sys2Proof.Machine
open Sys2Proof

/-! ### Coordinates (12 R328, R329) -/


def torusCode (x y z : Nat) : Nat := x % 128 + 128 * (y % 128) + 16384 * (z % 128)
def groupCode (group member : Nat) : Nat := 2 ^ 22 + member % 16 + 16 * (group % 64)
def tX (c : Nat) : Nat := fld c 0 7
def tY (c : Nat) : Nat := fld c 7 7
def tZ (c : Nat) : Nat := fld c 14 7
def gMember (c : Nat) : Nat := fld c 0 4
def gGroup (c : Nat) : Nat := fld c 4 6

/-- The rack slot of a module. -/
def rackSlot (mode c : Nat) : Nat :=
  match mode with
  | 0 => tX c % 4 + 4 * (tY c % 4) + 16 * (tZ c % 2)
  | 1 => gMember c + 16 * (gGroup c % 2)
  | _ => fld c 0 5

/-- Axis lengths X, Y, Z. -/
def State.dims (s : State) (a : Nat) : Nat := fld (s.setting 0x12 0) (8 * a) 8

/-- The quadrant of a port (12 R330). -/
def quadOfPort (p : Nat) : Nat := p / 5

/-- Member ports of the six torus directions X+, X-, Y+, Y-, Z+, Z- (R330). -/
def direction (d : Nat) : List Nat :=
  match d with
  | 0 => [0, 5, 10]
  | 1 => [1, 6, 11]
  | 2 => [2, 7, 12]
  | 3 => [3, 8, 15]
  | 4 => [4, 13, 16]
  | _ => [9, 14, 17]

/-- Direction and member number of a torus port. -/
def directionOf (p : Nat) : Option (Nat × Nat) :=
  (List.range 6).findSome? (fun d => (findIdxOpt (fun q => q = p) (direction d)).map (fun r => (d, r.1)))

/-- The port keeps the role that its mode gives it (R337). -/
def State.keepsRole (s : State) (p : Nat) : Bool := s.role p = defaultRole s.mode (s.setting 0x13 0) s.code p

/-- The members of a torus direction that keep their role (R337). -/
def State.members6 (s : State) (d : Nat) : List Nat := (direction d).filter s.keepsRole

/-- The lowest-numbered UP port of a list in rising order. -/
def State.firstUp (s : State) (l : List Nat) : Option Nat := l.find? s.isUp

/-- The neighbour of a torus module in a direction. -/
def State.torusNeighbour (s : State) (c d : Nat) : Nat :=
  let step := fun (a v : Nat) => let n := Nat.max 1 (s.dims a)
    if d / 2 = a then (if d % 2 = 0 then (v + 1) % n else (v + n - 1) % n) else v
  torusCode (step 0 (tX c)) (step 1 (tY c)) (step 2 (tZ c))

/-! ### Routes (12 R333, R335, R336) -/

/-- The way around an axis: true is the + way; none where nothing is to go. -/
def axisWay (n a b : Nat) : Option Bool :=
  let d := (b + n - a % Nat.max 1 n) % Nat.max 1 n
  if d = 0 then none else some (decide (2 * d ≤ n))

/-- The direction of the next hop of a torus route. -/
def State.torusHop (s : State) (src dst : Nat) : Option Nat :=
  let go := fun (a v w : Nat) => (axisWay (s.dims a) v w).map (fun plus => 2 * a + (if plus then 0 else 1))
  match go 0 (tX src) (tX dst) with
  | some d => some d
  | none => match go 1 (tY src) (tY dst) with
    | some d => some d
    | none => go 2 (tZ src) (tZ dst)

/-- The local port towards another member of the group (R334). -/
def localGroupPort (m m' : Nat) : Nat := (m' + 16 - m - 1) % 16

/-- The port of the next hop of a group route (R335). -/
def groupHop (src dst : Nat) : Option Nat :=
  let m := gMember src
  let m' := gMember dst
  let g := gGroup src
  let g' := gGroup dst
  if g = g' then (if m = m' then none else some (localGroupPort m m'))
  else if g' = Nat.xor g 1 then (if m = m' then some 18 else some (localGroupPort m m'))
  else
    let k := (g' + 64 - g - 1) % 64
    let holder := if k < 48 then k / 3 else k - 47
    if holder = m then some (if k < 48 then 15 + k % 3 else 19) else some (localGroupPort m holder)

/-- The plane of a circuit in switch mode (R336). -/
def State.plane (s : State) (connId : Nat) : Option Nat :=
  let up := (List.range 18).filter (fun p => s.isUp p && s.keepsRole p)
  if up.isEmpty then none else up[connId % up.length]?

/-- The port of the next hop towards a module's code: a port with another role lies on no route (R337). -/
def State.moduleRoute (s : State) (dst connId : Nat) : Option Nat :=
  match s.mode with
  | 0 => (s.torusHop s.code dst).bind (fun d => s.firstUp (s.members6 d))
  | 1 => (groupHop s.code dst).bind (fun p => if s.isUp p && s.keepsRole p then some p else none)
  | _ => s.plane connId

/-- The port of the next hop towards a code; none where no UP port leads there. Traffic for a host link adapter goes to its
bridge module, and out on the port that meets it (R338) (DESIGN CHOICE, log 174). -/
def State.route (s : State) (dst connId : Nat) : Option Nat :=
  if fld dst 22 2 = 3 then
    match (List.range 20).find? (fun p => s.isUp p && (s.port p).partner = dst) with
    | some p => some p
    | none => if Config.bridgeModule dst = s.code then none else s.moduleRoute (Config.bridgeModule dst) connId
  else s.moduleRoute dst connId

/-! ### Expected partners (12 R317, R329-R335) -/

/-- Whether a code and port number are those of the partner that a port's role and mode expect. A port with a role
other than its default expects any valid code (R337) (DEDUCED, log 70). -/
def State.partnerOk (s : State) (p code port : Nat) : Bool :=
  let c := s.code
  let role := s.role p
  if role ≠ defaultRole s.mode (s.setting 0x13 0) c p then codeValid code && code ≠ 16777215
  else
    match role with
    | 1 => match directionOf p with
      | some (d, m) => code = s.torusNeighbour c d && port = (direction (Nat.xor d 1)).getD m 31
      | none => false
    | 2 => code = groupCode (gGroup c) (gMember c + p + 1) && port = 14 - p
    | 3 =>
      let k := if p = 19 then 47 + gMember c else 3 * gMember c + (p - 15)
      let k' := 62 - k
      let m' := if k' < 48 then k' / 3 else k' - 47
      code = groupCode (gGroup c + k + 1) m' && port = (if k' < 48 then 15 + k' % 3 else 19)
    | 4 => codeValid code && code ≠ 16777215 && port = rackSlot 2 c
    | 5 =>
      let partner := match s.mode with
        | 0 => torusCode (4 * (tX c / 4) + (tX c + 2) % 4) (4 * (tY c / 4) + (tY c + 2) % 4)
            (2 * (tZ c / 2) + (1 - tZ c % 2))
        | 1 => groupCode (Nat.xor (gGroup c) 1) (gMember c)
        | _ => 2 ^ 23 + Nat.xor (fld c 0 5) 16
      code = partner && port = 18
    | 6 => fld code 22 2 = 3 && code ≠ 16777215
    | _ => false

/-! ### Bundles (12 R311) -/

/-- UP ports of the bundle that port `p` belongs to. -/
def State.members (s : State) (p : Nat) : List Nat :=
  (List.range 20).filter (fun q => s.isUp q && s.bundleOf q = s.bundleOf p)

/-- A bundle that reaches UP: credits are those of the buffers (R310). While circuits stand on it, what is not acknowledged
and what waits is kept and sent again (R312); with none it starts afresh (DEDUCED, log 175). -/
def Bundle.restart (b : Bundle) : Bundle :=
  if b.tags.isEmpty then {}
  else { b with credits := ({} : Bundle).credits, freed := ({} : Bundle).freed, buffered := ({} : Bundle).buffered
                resent := b.resent + b.replay.length }

/-- Bundle `b` reaches UP: through flits received before no longer take up a buffer that the partner counts. -/
def State.restart (s : State) (b : Nat) : State :=
  let s := s.setBundle b (s.bundle b).restart
  { s with links := { s.links with bundles := s.links.bundles.map (fun v => (v.1, { v.2 with
    waiting := v.2.waiting.map (fun t => if t.origin = some b then { t with origin := none } else t) })) } }

/-- The port reaches UP at the tick now; flits that waited for a member leave. -/
def State.portUp (s : State) (p : Nat) : State :=
  let b := s.bundleOf p
  let s := if (s.members p).isEmpty then s.restart b else s
  ((s.modPort p (fun q => { q with phase := .up, upSince := s.now, heard := s.now, watch := true, silent := false,
                                   returnBy := none, planned := false, fails := 0, groups := 0, sentGroups := 0 })).pump b).finishAll
    0x74 p stOK 0

/-- The port leaves service: DOWN, or another phase that waits for retraining (R319). What only it could carry is lost. -/
def State.portOff (s : State) (p : Nat) (ph : PortPhase) : State :=
  let b := s.bundleOf p
  let v := s.bundle b
  (s.modPort p (fun q => { q with phase := ph, since := s.now, watch := false, active := [], width := 0, swap := [],
                                  fails := 0 })).setBundle b { v with waiting := v.waiting.filter (fun t => t.on ≠ some p) }

/-! ### Training (12 R314-R317) -/

/-- Lanes that the merged defect lists mark dead (15 R439). -/
def laneDead (l : List (BitVec 64)) (p k : Nat) : Bool :=
  l.any (fun e => fuseType e = 7 && fuseUnit e = p && fld (fuseLoc e) 0 4 = k)

/-- The ports that train: used, in the link stage or after it, with a module code (R314, R317). -/
def State.mayTrain (s : State) (p : Nat) : Bool :=
  decide (p < 20) && s.role p ≠ 0 && s.code ≠ 16777215
    && (decide (s.boot.phase = 1) || (s.boot.phase = 0 && decide (4 ≤ s.boot.stage) && !s.boot.rom))

/-- PORT_TRAINING_START (R314): a port that has not left DOWN. -/
def execPortTrainingStart (p : Nat) (s : State) : Out :=
  quiet s (if s.mayTrain p && (s.port p).phase = .down && (s.port p).since = 0 then s.trainPort p else s)

/-- SIGNAL_LOCK (R314): the lanes with signal and CDR lock. -/
def execSignalLock (p : Nat) (lanes : BitVec 9) (s : State) : Out :=
  let q := s.port p
  quiet s (if q.phase = .training && q.train = .signal then
    s.modPort p (fun q => { q with lanes := lanes.toNat, train := .equalise }) else s)

/-- EQUALISATION_DONE (R314). -/
def execEqualisationDone (p : Nat) (lanes : BitVec 9) (s : State) : Out :=
  let q := s.port p
  quiet s (if q.phase = .training && q.train = .equalise then
    s.modPort p (fun q => { q with lanes := Nat.land q.lanes lanes.toNat, train := .frameLock }) else s)

/-- FRAME_LOCK (R314, R317): the partner names itself, and the dwell begins. -/
def execFrameLock (p : Nat) (code : BitVec 24) (port : BitVec 5) (lanes : BitVec 9) (s : State) : Out :=
  let q := s.port p
  quiet s (if q.phase = .training && q.train = .frameLock then
    s.modPort p (fun q => { q with lanes := Nat.land q.lanes lanes.toNat, train := .dwell, phase := .dwell,
                                   partner := code.toNat, partnerPort := port.toNat,
                                   miswired := !s.partnerOk p code.toNat port.toNat })
    else s)

/-- Code of the width that `n` ready lanes give: 0 none, 1 ×2, 2 ×4, 3 ×8 (R316). -/
def widthCode (n : Nat) : Nat := if 8 ≤ n then 3 else if 4 ≤ n then 2 else if 2 ≤ n then 1 else 0


/-- The lowest-numbered ready lanes of a width, as logical lanes 0 up. -/
def pickLanes (ready w : Nat) : List Nat := (bitsUp 9 ready).take (widthLanes w)

def laneMask (f : Nat → Bool) : Nat := siteBits 9
where siteBits : Nat → Nat
  | 0 => 0
  | n + 1 => siteBits n + (if f n then 2 ^ n else 0)

/-- BER_CODE of a lane with `errors` bit errors among `bits` (R315): floor(-10 log10 of their ratio), at most 254; 255 with
none. The codes up to it are those `k` of which 10^(-k/10) is no less than the ratio. -/
def berCode (bits errors : Nat) : Nat :=
  if errors = 0 then 255
  else ((List.range 254).filter (fun k => decide (errors ^ 10 * 10 ^ (k + 1) ≤ bits ^ 10))).length

/-- Bits that a lane carries in a dwell of 2 s (R314). -/
def dwellBits : Nat := 425000000000

/-- The classes of the lanes at the end of a dwell and the width they give (R315, R316): the errors that this end counted,
and the codes that the partner reports. -/
def Port.select (q : Port) (dead : Nat → Bool) (own : List Nat) (partner : List (BitVec 8)) : Port :=
  let o := fun (k : Nat) => berCode dwellBits (own.getD k 0)
  let r := fun (k : Nat) => (partner.getD k 0).toNat
  let ready := laneMask (fun k => q.lanes.testBit k && !dead k && decide (60 ≤ o k) && decide (60 ≤ r k))
  let weak := laneMask (fun k => q.lanes.testBit k && !dead k && !ready.testBit k && decide (37 ≤ o k) && decide (37 ≤ r k))
  let w := widthCode (bitsUp 9 ready).length
  { q with ready, weak, width := w, active := pickLanes ready w,
           ber := (List.range 9).map (fun k => Nat.min (o k) (r k)) }

/-- DWELL_END (R315-R317): the port is UP, FAILED or MISWIRED (DEDUCED, log 71). -/
def execDwellEnd (p : Nat) (own : List Nat) (partner : List (BitVec 8)) (t : Nat) (s : State) : Out :=
  let u := s.atTick t
  quiet s (if (u.port p).phase = .dwell then
    let u := u.modPort p (fun q => q.select (laneDead u.boot.merged p) own partner)
    if (u.port p).miswired then
      (u.modPort p (fun q => { q with phase := .miswired, heard := u.now, watch := true })).finishAll 0x74 p stOK 0
    else if (u.port p).width = 0 then (u.portOff p .failed).finishAll 0x74 p stOK 0
    else u.portUp p
    else u)

/-- RETRAIN_DELAY_EXPIRY (R319): 10 s after the port entered FAILED or DOWN. -/
def execRetrainDelayExpiry (p t : Nat) (s : State) : Out :=
  let u := s.atTick t
  let q := u.port p
  quiet s (if u.mayTrain p && (q.phase = .failed || q.phase = .down || q.phase = .lost) && q.since ≠ 0
      && decide (q.since + 10000000000 ≤ u.now) then u.trainPort p else u)

/-- ABSENT_PARTNER_RETURNS (R319): no delay. -/
def execAbsentPartnerReturns (p : Nat) (s : State) : Out :=
  quiet s (if s.mayTrain p && (s.port p).phase = .absentPlanned then s.trainPort p else s)

/-! ### Lanes in service (12 R318) -/

/-- A narrower width at once, with the lowest-numbered remaining ready lanes, or DOWN. -/
def State.narrow (s : State) (p : Nat) : State :=
  let q := s.port p
  let w := Nat.min (q.width - 1) (widthCode (bitsUp 9 q.ready).length)
  let s := if w = 0 then s.portOff p .down
    else s.modPort p (fun q => { q with width := w, active := pickLanes q.ready w, swap := [] })
  s.raise 0x50 none p (pack [(8, q.width), (8, w)])

/-- An active lane's code has fallen below 50: a ready lane that is neither active nor promised takes its place. -/
def State.laneFails (s : State) (p k : Nat) : State :=
  let s := s.modPort p (fun q => { q with ready := if q.ready.testBit k then q.ready - 2 ^ k else q.ready })
  let q := s.port p
  match (bitsUp 9 q.ready).find? (fun j => !q.active.contains j && !(q.swap.map (·.2)).contains j) with
  | some j => s.modPort p (fun q => { q with swap := q.swap ++ [(k, j)] })
  | none => s.narrow p

/-- LANE_BER_CHECK (R318): `errors` are the bit errors of pl0-pl8 over the second past. -/
def execLaneBerCheck (p : Nat) (errors : List Nat) (t : Nat) (s : State) : Out :=
  let u := s.atTick t
  quiet s (if u.isUp p then
    let u := u.modPort p (fun q => { q with ber := (List.range 9).map (fun k =>
      if q.active.contains k then berCode (dwellBits / 2) (errors.getD k 0) else q.ber.getD k 0) })
    (List.range 9).foldl (fun u k =>
      let q := u.port p
      if u.isUp p && q.active.contains k && decide (q.ber.getD k 0 < 50) && !(q.swap.map (·.1)).contains k then u.laneFails p k
      else u) u
    else u)

/-- The spares take the failing lanes' places. -/
def Port.swapped (q : Port) : Port :=
  { q with swap := [], active := q.swap.foldl (fun a w => a.map (fun l => if l = w.1 then w.2 else l)) q.active }

/-- CALIBRATION_GROUP (R306, R318): the 256th group of a port, at which the spares take the failing lanes' places. -/
def execCalibrationGroup (p : Nat) (s : State) : Out :=
  quiet s (s.modPort p (fun q =>
    if (q.phase = .up || q.phase = .miswired) && q.groups % 256 = 255 then { q.swapped with groups := q.groups + 1 } else q))

/-! ### Map flits and heartbeats (12 R307, R322) -/

/-- HEARTBEAT_SEND (R322): an idle group with HB set, where no group has left since the multiple of 1,000 ticks. -/
def execHeartbeatSend (p t : Nat) (s : State) : Out :=
  let u := s.atTick t
  let q := u.port p
  quiet s (if (q.phase = .up || q.phase = .miswired) && u.beatDue p then u.sendGroup p (u.bundle (u.bundleOf p)).sent 1 0
    else u)

end Sys2Proof.Machine
end

