-- ==== Sys2Proof/Machine/Time.lean ====
section
/-! DEFINITION. Alignment of the time counter: time parents (12 R340, R342), time messages (12 R341), load, lock and
holdover (11 R295, R296). -/
namespace Sys2Proof.Machine
open Sys2Proof

/-! ### Parents -/

/-- The way between two rack positions on an axis of a torus, as the next position. -/
def rackStep (n a b : Nat) : Option Nat :=
  (axisWay n a b).map (fun plus => if plus then (a + 1) % Nat.max 1 n else (a + n - 1) % Nat.max 1 n)

/-- The top module that a rack's own top module takes time from (R340): in torus mode that of the next rack towards the
root's rack, in group mode that of the root's rack. -/
def State.farTop (s : State) : Option Nat :=
  let c := s.code
  let r := Config.rootCode
  match s.mode with
  | 0 =>
    let a := (tX c / 4, tY c / 4, tZ c / 2)
    let b := (tX r / 4, tY r / 4, tZ r / 2)
    let top := fun (p : Nat × Nat × Nat) => torusCode (4 * p.1 + 1) (4 * p.2.1 + 1) (2 * p.2.2)
    match rackStep (s.dims 0 / 4) a.1 b.1 with
    | some x => some (top (x, a.2))
    | none => match rackStep (s.dims 1 / 4) a.2.1 b.2.1 with
      | some y => some (top (a.1, y, a.2.2))
      | none => (rackStep (s.dims 2 / 2) a.2.2 b.2.2).map (fun z => top (a.1, a.2.1, z))
  | 1 => if gGroup c / 2 = gGroup r / 2 then none else some (groupCode (2 * (gGroup r / 2)) 0)
  | _ => none

/-- The port and the module that rule R340 fixes; the port is UP. -/
def State.rulePort (s : State) : Option (Nat × Nat) :=
  let c := s.code
  let direct := fun (p : Option Nat) => p.bind (fun p => if s.isUp p then some (p, (s.port p).partner) else none)
  let far := s.farTop.bind (fun d => (s.route d 0).map (fun p => (p, d)))
  match s.mode with
  | 0 =>
    let toward := fun (d : Nat) => s.firstUp (s.members6 d)
    match rackSlot 0 c with
    | 5 => far
    | 31 => direct ((some 18).filter s.keepsRole)
    | _ =>
      let x := tX c % 4
      let y := tY c % 4
      let z := tZ c % 2
      direct (if x ≠ 1 then toward (if x < 1 then 0 else 1)
        else if y ≠ 1 then toward (if y < 1 then 2 else 3)
        else if z ≠ 0 then toward 5 else none)
  | 1 =>
    let slot := rackSlot 1 c
    if slot = 0 then far
    else direct ((some (if slot < 16 then localGroupPort (gMember c) 0 else 18)).filter s.keepsRole)
  | _ => if rackSlot 2 c = 0 then none else (s.firstUp ((List.range 18).filter s.keepsRole)).map (fun p => (p, 2 ^ 23))

/-- Whether the partner of a port takes its time from this module: it has asked within 100 µs, on whichever port (DEDUCED,
log 68). -/
def State.asksUs (s : State) (p : Nat) : Bool :=
  (List.range 20).any (fun q => (s.port q).partner = (s.port p).partner
    && (match (s.port q).asks with | some t => decide (s.now < t + 100000) | none => false))

/-- The fall-back parent (R342): the UP port whose partner advertises the lowest depth (DEDUCED, log 69). -/
def State.fallback (s : State) : Option (Nat × Nat) :=
  let l := (List.range 20).filter (fun p => s.isUp p && decide ((s.port p).tdepth < 15) && s.role p ≠ 6 && !s.asksUs p)
  let best := l.foldl (fun m p => Nat.min m (s.port p).tdepth) 15
  (l.find? (fun p => (s.port p).tdepth = best)).map (fun p => (p, (s.port p).partner))

/-- The parent port and the module that answers on it. -/
def State.parentNow (s : State) : Option (Nat × Nat) :=
  match s.rulePort with
  | some p => some p
  | none => s.fallback

def State.modTime (s : State) (f : TimeBase → TimeBase) : State := { s with time := f s.time }

/-- HOLDOVER, for a follower that has measured a parent (11 R296). -/
def State.holdover (s : State) : State :=
  if s.time.state = 2 || s.time.state = 3 then (s.modTime (fun v => { v with good := 0 })).timeState 4 else s

/-! ### Messages -/

/-- The fields of a time message. -/
def timeFlit (kind seq t1 ps1 t2 ps2 t3 ps3 corr dst src : Nat) : List (Nat × Nat × Nat) :=
  [(0, 1, kind), (1, 1, seq), (8, 8, t1), (16, 2, ps1), (24, 8, t2), (32, 2, ps2), (40, 8, t3), (48, 2, ps3),
   (52, 4, corr), (56, 3, dst), (60, 3, src)]


/-- A residence time, drawn from the world (R341). -/
def State.residence (s : State) : State × Nat :=
  ({ s with power := { s.power with draws := s.power.draws + 1 } }, Config.residencePs s.power.draws)

/-- TIME_REQ_SEND (R341): the follower asks its parent, or enters HOLDOVER if no port qualifies. -/
def execTimeReqSend (t ps : Nat) (s : State) : Out :=
  let u := s.atTick t
  quiet s (if u.setting 0x03 0 = 1 then u
    else match u.parentNow with
    | none => (u.modTime (fun v => { v with parent := none, asked := none })).holdover
    | some (p, dst) =>
      let seq := (u.time.seq + 1) % 256
      let u := u.modTime (fun v => { v with parent := some p, seq, asked := some (seq, t, ps) })
      u.sendCtl p 2 (timeFlit 7 seq t ps 0 0 0 0 0 dst u.code))

/-- A time message for another module goes on with its residence added to CORR (R341). -/
def State.relayTime (s : State) (f : Flit) : State :=
  match s.route (flitAt f 56 3) 0 with
  | none => s
  | some q =>
    let (s, r) := s.residence
    s.sendFlit q 2 true 0 (BitVec.ofNat 512 (putFld f.toNat 416 32 (flitAt f 52 4 + r)))

/-- TIME_REQ (R341): the parent stamps arrival and departure and answers. -/
def execTimeReq (p : Nat) (f : Flit) (t ps : Nat) (s : State) : Out :=
  let u := s.atTick t
  let src := flitAt f 60 3
  quiet s (if flitAt f 56 3 ≠ u.code then u.relayTime f
    else
      let u := if src = (u.port p).partner then u.modPort p (fun q => { q with asks := some u.now }) else u
      let (u, r) := u.residence
      let out := 1000 * t + ps + r
      u.sendCtl p 2 (timeFlit 8 (flitAt f 1 1) (flitAt f 8 8) (flitAt f 16 2) t ps (out / 1000) (out % 1000)
        (flitAt f 52 4) src u.code))

/-- The offset of R341 from the four stamps and CORR, all in ps: positive where the parent is ahead (DEDUCED,
log 66); the division truncates toward zero (00 R13). -/
def timeOffset (t1 t2 t3 t4 corr : Int) : Int := ((t2 - t1) - (t4 - t3) - corr).tdiv 2

/-- A recorded tick moved with a load of the counter; 0 stands for none. -/
def shiftTick (d : Int) (t : Nat) : Nat := if t = 0 then 0 else ((t : Int) + d).toNat

def Port.shift (d : Int) (q : Port) : Port :=
  { q with upSince := shiftTick d q.upSince, since := shiftTick d q.since, heard := shiftTick d q.heard,
           beat := shiftTick d q.beat / 1000 * 1000, returnBy := q.returnBy.map (shiftTick d), asks := q.asks.map (shiftTick d) }

/-- What runs for a number of ticks ends that many ticks later, a load of the counter or none (11 R295) (DESIGN
CHOICE, log 108). -/
def State.shiftTicks (s : State) (d : Int) : State :=
  { s with
    domains := s.domains.map (fun v => (v.1, { v.2 with lastWarn := v.2.lastWarn.map (shiftTick d) }))
    links := { s.links with
      ports := s.links.ports.map (fun q => (q.1, q.2.shift d))
      openings := s.links.openings.map (fun o => { o with deadline := shiftTick d o.deadline })
      fronts := s.links.fronts.map (fun f => { f with tick := shiftTick d f.tick }) }
    mbox := { s.mbox with
      leaseEnd := shiftTick d s.mbox.leaseEnd, election := s.mbox.election.map (shiftTick d)
      slots := s.mbox.slots.map (fun v => (v.1, { v.2 with parked := v.2.parked.map (shiftTick d) })) }
    ledger := { s.ledger with streams := s.ledger.streams.map (fun q => (q.1, { q.2 with
      lastClose := shiftTick d q.2.lastClose, opened := q.2.opened.map (fun e => { e with tick := shiftTick d e.tick }) })) }
    boot := { s.boot with since := shiftTick d s.boot.since }
    recovery := { s.recovery with
      running := s.recovery.running.map (fun (r : Recovery) => { r with since := shiftTick d r.since })
      lastCore := s.recovery.lastCore.map (fun q => (q.1, shiftTick d q.2)) }
    power := { s.power with capSince := s.power.capSince.map (shiftTick d), paced := s.power.paced.map (shiftTick d) } }

/-- The counter is loaded, once (11 R295); `off` is the offset before, in ps. -/
def State.loadTime (s : State) (v : Nat) (off : Int) : State :=
  let n : Nat := v % 2 ^ 64
  let s := (s.shiftTicks ((n : Int) - (s.now : Int))).modTime (fun b => { b with now := n, loaded := true })
  s.raise 0x43 none 0 (BitVec.ofInt 64 off).toNat

/-- A measured offset is loaded or slewed away (11 R295), and the state follows (R296): LOCKED after eight in a row whose
requests were sent 10 µs apart. OFFSET_PS is positive where this
module is ahead (R301) (DEDUCED, log 67). -/
def State.measured (s : State) (ps : Nat) (off : Int) : State :=
  let free := (List.range 16).all (fun x => (s.ctx x).phase = .free)
  let big : Bool := decide (1000000 < off.natAbs)
  let at' := s.time.asked.map (fun a => a.2.1)
  let spaced : Bool := s.time.askedAt.isSome && at' = s.time.askedAt.map (· + 10000)
  let s := s.modTime (fun v => { v with offset := -off, lastSync := v.now, asked := none, askedAt := at' })
  if free && big && !s.time.loaded then
    let total := (((1000 * s.now + ps : Nat) : Int) + off).toNat
    ((s.loadTime (total / 1000) (-off)).modTime (fun v => { v with good := 0, lastSync := v.now, askedAt := none })).timeState 3
  else
    let good := if 250 < off.natAbs then 0 else if spaced then s.time.good + 1 else 1
    (s.modTime (fun v => { v with good })).timeState (if 8 ≤ good then 2 else 3)

/-- TIME_RESP (R295, R341). -/
def execTimeResp (p : Nat) (f : Flit) (t ps : Nat) (s : State) : Out :=
  let u := s.atTick t
  quiet s (if flitAt f 56 3 ≠ u.code then u.relayTime f
    else match u.time.asked with
    | none => u
    | some (seq, t1, ps1) =>
      if u.setting 0x03 0 = 1 || u.time.parent ≠ some p || flitAt f 1 1 ≠ seq then u
      else
        let at' := fun (a b : Nat) => ((1000 * a + b : Nat) : Int)
        u.measured ps (timeOffset (at' t1 ps1) (at' (flitAt f 24 8) (flitAt f 32 2)) (at' (flitAt f 40 8) (flitAt f 48 2))
          (at' t ps) (flitAt f 52 4)))

/-- TIME_HOLDOVER (R296): no time message for 100 µs. -/
def execTimeHoldover (t : Nat) (s : State) : Out :=
  let u := s.atTick t
  quiet s (if u.time.lastSync + 100000 ≤ u.now then u.holdover else u)

end Sys2Proof.Machine
end

