-- ==== Sys2Proof/Machine/Bulk.lean ====
section
/-! DEFINITION. What the management endpoint sends on a bulk connection (13 R378; 14 R430). -/
namespace Sys2Proof.Machine
open Sys2Proof

/-- One entry of up to 64 lines leaves the management endpoint (DESIGN CHOICE, log 110). -/
def State.sendBulkEntry (s : State) (c : Circuit) (lines : List Line) : State :=
  let vl := if c.cls then 1 else 0
  let s := lines.foldl (fun s l => s.sendFlit c.port vl false c.rev l) s
  s.sendCtl c.port vl [(0, 1, 1), (2, 2, c.rev), (4, 2, 1), (6, 1, lines.length), (7, 1, 0)]

/-- Bytes leave on a bulk connection in 4 KiB entries, the last line filled with zeros. -/
def State.sendBulk (s : State) (connId : Nat) (bytes : List Byte) : State :=
  match s.links.circuits.find? (fun c => c.connId = connId && (match c.dest with | .bulk _ => true | _ => false)) with
  | none => s
  | some c => (chunksOf 4096 (bytes.length / 4096 + 1) bytes).foldl (fun s e =>
      s.sendBulkEntry c ((chunksOf 64 64 (padTo (pad64 e.length) e)).map lineOf)) s

end Sys2Proof.Machine
end

