-- ==== Sys2Proof/Machine/Pace.lean ====
section
/-! DEFINITION. Pace domains: beats, holds, stretching, margins, profiles, trim, the calibration calendar
(11 R273-R299), the power cap's pacing (16 R484), and a transaction's effective tick (13 R372). -/
namespace Sys2Proof.Machine
open Sys2Proof

/-! ### Profiles (R285) -/

def targetMhz (p : Nat) : Nat := if p = 0 then 1300 else if p = 1 then 1600 else 1850
def lowMhz (p : Nat) : Nat := if p = 0 then 1100 else if p = 1 then 1300 else 1450
def ceilMhz (p : Nat) : Nat := if p = 0 then 1450 else if p = 1 then 1700 else 1850
/-- Ceiling and low-end periods in ps (DEDUCED, log 61). -/
def ceilPs (p : Nat) : Nat := if p = 0 then 690 else if p = 1 then 588 else 541
def lowPs (p : Nat) : Nat := if p = 0 then 909 else if p = 1 then 769 else 690

/-- The nominal target period in ps of a target pace. -/
def periodPs (mhz : Nat) : Nat := 1000000 / Nat.max 1 mhz

/-- The target period in ps of domain `d` as its trimmed oscillator realises it: within 0.5 % of the nominal (R275, R299). -/
def Domain.targetPs (v : Domain) (d : Nat) : Nat :=
  (((periodPs v.target : Nat) : Int) * (10000 + max (-50) (min 50 (Config.oscError d v.trim))) / 10000).toNat

/-- The attached neighbours of a domain (R280): 0-15 are sites, 16-19 base dies. -/
def neighbours (d : Nat) : List Nat :=
  if d < 16 then [16 + d / 4]
  else if d < 20 then
    (List.range 4).map (fun i => 4 * (d - 16) + i)
      ++ ([0, 1, 2, 3].filter (fun q => seams q (d - 16) = 1)).map (16 + ·)
  else []

/-- A domain holds while it is 8 beats ahead of an attached neighbour (R281). -/
def State.domainHolds (s : State) (d : Nat) : Bool :=
  (neighbours d).any (fun e => !(s.domain e).detached && decide ((s.domain e).beats + 8 ≤ (s.domain d).beats))

/-- The pace domains have power and are out of reset. -/
def State.paced (s : State) : Bool := s.power.compute && s.power.powerGood && !s.power.modReset

/-! ### One beat -/

/-- The period of the beat under way (R275), and the margin (R278). -/
def Domain.period (v : Domain) (d replica : Nat) : Nat :=
  Nat.max (v.targetPs d) (Nat.max (ceilPs v.profile) (replica + 40))
def Domain.marginNow (v : Domain) (d replica : Nat) : Int := (v.targetPs d : Int) - (replica + 40 : Nat)

/-- The latest beats and holds that together last a microsecond, none more than it takes. -/
def lastMicro : Nat → List (Nat × Bool) → List (Nat × Bool)
  | _, [] => []
  | need, h :: r => if need = 0 then [] else h :: lastMicro (need - h.1) r

/-- The mean rate over the last microsecond, once one has gone by (R300) (DESIGN CHOICE, log 22). -/
def Domain.measure (v : Domain) (ps : Nat) (beat : Bool) : Domain :=
  let l := lastMicro 1000000 ((ps, beat) :: v.recent)
  let all := (l.map (·.1)).sum
  let mhz := Nat.min 2047 ((l.filter (·.2)).length * 1000000 / all)
  { v with recent := l, curMhz := if all < 1000000 then v.curMhz else mhz,
           minMhz := if all < 1000000 then v.minMhz else Nat.min v.minMhz mhz }

/-- A beat is counted with its stretch and its margin. -/
def Domain.beat (v : Domain) (d replica : Nat) : Domain :=
  let p := v.period d replica
  let m := v.marginNow d replica
  let v := v.measure p true
  { v with beats := (v.beats + 1) % 2 ^ 64, margin := m, marginMin := min v.marginMin m,
           stretch := if lowPs v.profile < p then satAdd 4294967295 v.stretch 1 else v.stretch }

/-- A hold of one period (R281). -/
def Domain.hold (v : Domain) (d replica : Nat) : Domain :=
  let p := v.period d replica
  let v := v.measure p false
  { v with holdPs := v.holdPs + p }

/-! ### Contexts and router steps -/

/-- A context whose wave moves counts a beat of its site domain; with one of each it takes a step (R273) (DESIGN
CHOICE, log 12). -/
def State.siteBeat (s : State) (d : Nat) : State :=
  match s.holderOf d with
  | none => s
  | some (x, _) =>
    let c := s.ctx x
    if !c.active || c.frozen then s
    else
      let ahead := c.ahead.modify 0 d (· + 1)
      if c.sites.all (fun e => decide (0 < ahead.get 0 e)) then
        let ahead := c.sites.foldl (fun t e => t.modify 0 e (· - 1)) ahead
        (s.modCtx x (fun c => { c with ahead })).stepCtx x
      else s.modCtx x (fun c => { c with ahead })

/-- The step after a freeze, or the entry step, begins (01 R29, R36; 09 R230). -/
def State.beginStep (s : State) (x since n : Nat) : State :=
  s.modCtx x (fun c =>
    if c.item = 10 then { c with step := n, freeze := none, resume := none, item := 0, entryTick := s.now, ahead := [] }
    else { c with step := n, freeze := none, resume := none, freezeTicks := c.freezeTicks + (s.now - since), ahead := [] })

/-- A router step of a base die: contexts that wait for its phase begin. A context's phase is counted at the hub of its
first program quadrant (DEDUCED, log 60). -/
def State.routerStep (s : State) (q : Nat) : State :=
  let phase := (s.domain (16 + q)).beats % 16
  (List.range 16).foldl (fun s x =>
    let c := s.ctx x
    match c.resume with
    | none => s
    | some (since, n) =>
      if c.quads.headD 4 = q && (n + c.img.delta) % 16 = phase then s.beginStep x since n else s) s

/-- The domain's oscillator completes a period. -/
def State.beat (s : State) (d replica : Nat) : State :=
  let v := s.domain d
  if !s.paced || v.detached || decide (20 ≤ d) then s
  else if s.domainHolds d then s.setDomain d (v.hold d replica)
  else
    let s := (s.setDomain d (v.beat d replica)).marginWarn d
    if d < 16 then s.siteBeat d else s.routerStep (d - 16)

/-- BEAT (R273). `replicaPs` is the delay of the slowest replica path. -/
def execBeat (d replicaPs : Nat) (s : State) : Out := done s (s.beat d replicaPs)

/-! ### Calibration calendar (R298, R299) -/

/-- An effective tick tested against the calendar until no window defers it (fuel: the windows) (DEDUCED, log 41). -/
def deferTick (cal : List CalEntry) : Nat → Nat → Nat
  | 0, t => t
  | f + 1, t =>
    match cal.find? (fun e => decide (e.start ≤ t + 10000) && decide (t < e.stop)) with
    | some e => deferTick cal f e.stop
    | none => t

def State.deferred (s : State) (t : Nat) : Nat := deferTick s.calendar (s.calendar.length + 1) t

/-- Pending ticks are tested again (R298). -/
def State.retestTicks (s : State) : State :=
  let s := match s.mbox.committed with
    | some c => match c.tick with
      | some t =>
        let t' := s.deferred t
        let s' := { s with mbox := { s.mbox with committed := some { c with tick := some t' } } }
        if t' = t || s.time.pend.isSome then s' else s'.raise 0x42 none 0 t'
      | none => s
    | none => s
  match s.time.pend with
  | none => s
  | some p =>
    let t' := s.deferred p.tick
    if t' = p.tick then s
    else { s with time := { s.time with pend := some { p with tick := t', deferred := true } } }.raise 0x42 none 0 t'

/-- A window is announced, in start order; ended windows leave the calendar (DEDUCED, log 21). -/
def State.announce (s : State) (kind unit start len : Nat) : State :=
  let cal := s.calendar.filter (fun e => decide (s.now < e.stop))
  let e : CalEntry := { kind, unit, start, stop := start + len }
  let cal := if 64 ≤ cal.length then cal else insertBy (fun (a b : CalEntry) => decide (a.start ≤ b.start)) e cal
  { s with calendar := cal }.retestTicks

/-- The next trained port after `p`. -/
def State.nextTrained (s : State) (p : Nat) : Option Nat :=
  ((List.range 20).map (fun i => (p + 1 + i) % 20)).find? (fun q => (s.port q).phase = .up)

/-- The window of the unit that follows unit `n` in its kind is announced. -/
def State.nextWindow (s : State) (kind n start : Nat) : State :=
  match kind with
  | 0 => s.announce 0 ((n + 1) % 20) start 20000
  | 1 => s.announce 1 ((n + 1) % 16) start 100000
  | _ => match s.nextTrained n with
    | some q => s.announce 2 q start 50000
    | none => s

/-- Whether a window of a kind stands in the calendar. -/
def State.windowAhead (s : State) (kind : Nat) : Bool := s.calendar.any (fun e => e.kind = kind && decide (s.now < e.stop))

/-- Kinds with no window in the calendar get one: the first after the module is ready, and where no port was trained
(DESIGN CHOICE, log 21). -/
def State.openCalendar (s : State) : State :=
  [(0, 19, 5000000), (1, 15, 1000000), (2, 19, 1000000)].foldl (fun s k =>
    if s.windowAhead k.1 then s else s.nextWindow k.1 k.2.1 (s.now + k.2.2)) s

/-- The announced window of a unit that is open now and whose work is still to do. -/
def State.windowNow (s : State) (kind n : Nat) : Option CalEntry :=
  s.calendar.find? (fun e => e.kind = kind && e.unit = n && !e.used && decide (e.start ≤ s.now) && decide (s.now < e.stop))

/-- The work of a unit's window: once, while the window is open, and the next window is announced. -/
def State.inWindow (s : State) (kind n next : Nat) (work : State → State) : State :=
  match s.windowNow kind n with
  | none => s.openCalendar
  | some e =>
    let s := work { s with calendar := s.calendar.map (fun v => if v = e then { v with used := true } else v) }
    (s.nextWindow kind n (e.start + next)).openCalendar

/-- OSC_TRIM (R299): in its domain's window the trim code moves by at most one unit. -/
def execOscTrim (d : Nat) (move : Option Bool) (s : State) : Out :=
  quiet s (s.inWindow 0 d 5000000 (fun s =>
    let v := s.domain d
    s.setDomain d { v with trim := match move with
      | none => v.trim
      | some true => Nat.min 255 (v.trim + 1)
      | some false => v.trim - 1 }))

/-- DRAM_RETRAIN (R298). -/
def execDramRetrain (d t : Nat) (s : State) : Out :=
  quiet s ((s.atTick t).inWindow 1 d 1100000 (fun s => s))

/-- LINK_ADAPTATION (R298). -/
def execLinkAdaptation (p t : Nat) (s : State) : Out :=
  quiet s ((s.atTick t).inWindow 2 p 1050000 (fun s => s))

/-! ### Profile changes (R290) -/

/-- Every domain switches: target and ceiling together; POWER_CAP keeps within the new maximum (16 R484). -/
def State.switchPace (s : State) (p : PacePend) : State :=
  let s := (List.range 20).foldl (fun s d =>
    s.setDomain d { s.domain d with profile := p.profile, target := targetMhz p.profile }) s
  let s := match s.settingRaw 0x80 with
    | some v => if maxInput p.profile < v then s.setSetting 0x80 (maxInput p.profile) else s
    | none => s
  let s := { s with time := { s.time with pend := none } }.raise 0x41 none 0 (pack [(64, p.tick), (8, p.profile)])
  s.applyParts (fun q => q.sid = 1)

/-- PACE_SWITCH (R290). -/
def execPaceSwitch (t : Nat) (s : State) : Out :=
  let u := s.atTick t
  quiet s (match u.time.pend with
  | none => u
  | some p => if p.tick ≤ u.now then u.switchPace p else u)

/-- The committed parts that apply once the effective tick has come: all but PACE_PROFILE and the class L parts of
contexts that run (13 R372). -/
def State.tickPart (s : State) (q : Staged) : Bool :=
  q.sid ≠ 1 && !(s.isL q.sid && (s.ctx (sidInst q.sid)).active)

/-- TXN_APPLY_TICK (13 R372). -/
def execTxnApplyTick (t : Nat) (s : State) : Out :=
  let u := s.atTick t
  quiet s (match u.mbox.committed with
  | none => u
  | some c => match c.tick with
    | none => u
    | some e => if e ≤ u.now then u.applyParts u.tickPart else u)

/-! ### Lowering and raising targets (R279; 16 R484, R486) -/

/-- At most once in each millisecond (DEDUCED, log 63). -/
def State.mayPace (s : State) : Bool := match s.power.paced with | none => true | some t => decide (t + 1000000 ≤ s.now)

/-- Every target falls by 25 MHz, not below the low end of the range. -/
def State.lowerTargets (s : State) : State :=
  if !s.mayPace then s
  else
    let s := (List.range 20).foldl (fun s d =>
      let v := s.domain d
      s.setDomain d { v with target := Nat.max (lowMhz v.profile) (v.target - 25) }) s
    { s with power := { s.power with paced := some s.now } }

/-- Every target rises by 25 MHz, up to the profile's target. -/
def State.raiseTargets (s : State) : State :=
  if !s.mayPace || !s.power.throttled.isEmpty then s
  else
    let s := (List.range 20).foldl (fun s d =>
      let v := s.domain d
      s.setDomain d { v with target := Nat.min (targetMhz v.profile) (v.target + 25) }) s
    { s with power := { s.power with paced := some s.now } }

/-- Every target stands at the low end. -/
def State.atLowEnd (s : State) : Bool := (List.range 20).all (fun d => (s.domain d).target = lowMhz (s.domain d).profile)

def State.modPower (s : State) (f : Power → Power) : State := { s with power := f s.power }

/-- The 10 ms mean of the input power meets the cap. -/
def State.capControl (s : State) (watts : Nat) : State :=
  let cap := s.settingNow 0x80 0
  let s := s.modPower (fun p => { p with watts })
  if cap < watts then
    if !s.atLowEnd then s.lowerTargets
    else
      let since := s.power.capSince.getD s.now
      let s := s.modPower (fun p => { p with capSince := some since })
      if decide (since + 100000000 ≤ s.now) && !s.power.capRaised then
        (s.modPower (fun p => { p with capRaised := true })).raise 0x201 none 0 (watts % 65536)
      else s
  else
    let s := s.modPower (fun p => { p with capSince := none, capRaised := false })
    if watts * 100 < cap * 95 then s.raiseTargets else s

/-- POWER_CAP_CONTROL (16 R484). -/
def execPowerCapControl (watts t : Nat) (s : State) : Out := quiet s ((s.atTick t).capControl watts)

end Sys2Proof.Machine
end

