-- ==== Sys2Proof/Machine/Flash.lean ====
section
/-! DEFINITION. Flash stores behind the hold-up guard (14 R422, R423), seals and their delivery (14 R416-R421, R430),
firmware copies (15 R436-R438). -/
namespace Sys2Proof.Machine
open Sys2Proof

/-! ### The hold-up monitor (16 R481, R490) -/

/-- The monitor reports the usable energy, in 0.01 J. -/
def State.setEnergy (s : State) (energy : Nat) : State :=
  let ok : Bool := decide (3000 ≤ energy)
  let was := s.power.holdupOk
  let s := s.modPower (fun p => { p with energy, holdupOk := ok })
  if was && !ok then s.raise 0x204 none 0 (energy % 65536) else s

/-! ### Stores -/

def State.modFlash (s : State) (f : Flash → Flash) : State := { s with flash := f s.flash }

/-- A store waits for the guard. -/
def State.store (s : State) (w : FlashStore) : State := s.modFlash (fun f => { f with waiting := f.waiting ++ [w] })

/-- Three times a store's energy in 0.01 J: what the guard asks for (R422). -/
def FlashStore.need : FlashStore → Nat
  | .ledgerIndex _ => 15
  | .identityIndex _ => 15
  | .bootCount _ => 15
  | .repairs _ => 3 * Config.storeEnergy
  | .firmware _ _ _ _ => 3 * Config.storeEnergy

/-- What HOLDUP_WAIT names of a store that the guard defers (R432). -/
def FlashStore.waitKind : FlashStore → Option Nat
  | .ledgerIndex _ => some 0
  | .identityIndex _ => some 0
  | .bootCount _ => some 1
  | _ => none

/-- The guard answers the first store that waits. -/
def State.guardStore (s : State) : State :=
  match s.flash.storing, s.flash.waiting with
  | none, w :: r =>
    if w.need ≤ s.power.energy then s.modFlash (fun f => { f with waiting := r, storing := some w })
    else match w.waitKind with
      | some k => s.raise 0x86 none 0 k
      | none => s
  | _, _ => s

/-- HOLDUP_GUARD_CONFIRM (R422). -/
def execHoldupGuardConfirm (energy : Nat) (s : State) : Out :=
  quiet s (if s.power.halted || s.power.sealing then s else (s.setEnergy energy).guardStore)

/-! ### Signing keys (R423) -/

/-- The key may use its next index: it is not exhausted and the index's block is persisted. -/
def SignKey.ready (k : SignKey) (limit : Nat) : Bool := decide (k.next < limit) && decide (k.next < k.bound)

/-- The boundary that the use of an index makes due. -/
def SignKey.due (k : SignKey) : Option Nat :=
  if k.next % 4096 = 2048 then some (4096 * (k.next / 4096 + 2)) else none

/-- The ledger key's next index is used. -/
def State.useLedgerIndex (s : State) : State :=
  let k := s.flash.ledgerKey
  let s := s.modFlash (fun f => { f with ledgerKey := { k with next := k.next + 1 } })
  match k.due with | some b => s.store (.ledgerIndex b) | none => s

def State.useIdentityIndex (s : State) : State :=
  let k := s.flash.identityKey
  let s := s.modFlash (fun f => { f with identityKey := { k with next := k.next + 1 } })
  match k.due with | some b => s.store (.identityIndex b) | none => s

/-! ### Seals (R418) -/

def entryIndex (e : LEntry) : Nat := leAt e.bytes 8 8

/-- FIRST_TICK of an entry: its TICK, or ENTRY_TICK for an orbit record. -/
def sealFirstTick (e : LEntry) : Nat := leAt e.bytes 32 8

/-- The boot count in bits [63:40] of a batch's FIRST_INDEX (R420). -/
def Batch.boot (b : Batch) : Nat := leAt (b.entries.headD ⟨0, []⟩).bytes 13 3

/-- The order of the batches of a stream (R420). -/
def batchLe (a b : Batch) : Bool := decide (a.boot < b.boot) || (a.boot = b.boot && decide (a.sealNo ≤ b.sealNo))

/-- A signature of the ledger key: XMSS^MT-SHAKE256_60/12_256, 27,688 bytes (R418). -/
def ledgerSignature (idx : Nat) (message : List Byte) : List Byte := padTo 27688 (Config.signLedger idx message)

/-- A signature of the identity key: XMSS^MT-SHAKE256_40/8_256, 18,469 bytes (R425). -/
def identitySignature (idx : Nat) (message : List Byte) : List Byte := padTo 18469 (Config.signIdentity idx message)

/-- The body of a certificate; what it holds in bytes 1 to 7 the spec does not say (R424) (DESIGN CHOICE, log 179). -/
def certBody (usage : Nat) (serial subject issuer : List Byte) : List Byte :=
  padTo 128 (bytesOf 1 usage ++ padTo 7 Config.certBytes ++ padTo 16 serial ++ padTo 68 subject ++ padTo 16 (keyId issuer))

/-- The identity certificate, signed by the device CA; the ledger certificate, signed by the identity key (R424). -/
def State.identityCert (s : State) : List Byte :=
  let b := certBody 1 s.fuses.serial Config.identityKey Config.deviceCa
  b ++ padTo 18469 (Config.signDevice b)
def State.ledgerCert (s : State) : List Byte :=
  let b := certBody 2 s.fuses.serial Config.ledgerKey Config.identityKey
  b ++ identitySignature Config.certIndex b

/-- The seal header of a closed batch under an index. -/
def Batch.sealHeader (b : Batch) (q : LStream) (idx : Nat) : List Byte :=
  let first := b.entries.headD ⟨0, []⟩
  let last := b.entries.getLastD ⟨0, []⟩
  let root := merkleRoot 13 (b.entries.map (fun e => digest 5 e.bytes))
  padTo 160 (bytesOf 56 (pack [(8, 1), (5, b.stream), (19, 0), (13, b.entries.length), (19, 0), (64, q.sealNo), (64, idx),
      (64, entryIndex first), (64, entryIndex last), (64, sealFirstTick first), (64, b.closeTick)])
    ++ digestBytes root ++ digestBytes q.prev ++ keyId Config.ledgerKey)

/-- Bytes of a sealed batch. -/
def Batch.size (b : Batch) : Nat := 160 + 27688 + 256 * b.entries.length

/-- A sealed batch as it is delivered. -/
def Batch.bytes (b : Batch) : List Byte := b.header ++ b.signature ++ b.entries.flatMap (·.bytes)

def State.modLedger (s : State) (f : Ledger → Ledger) : State := { s with ledger := f s.ledger }

def State.sealedUse (s : State) : Nat := (s.ledger.held.map Batch.size).sum

/-- The sealed area: 2 GiB less the 64 MiB for unsealed entries (R416). -/
def sealedArea : Nat := 2080374784

/-- LEDGER_HIGH once as the sealed area becomes 75 % full. -/
def State.ledgerHigh (s : State) : State :=
  let use := s.sealedUse
  if 4 * use < 3 * sealedArea then s.modLedger (fun l => { l with highRaised := false })
  else if s.ledger.highRaised then s
  else (s.modLedger (fun l => { l with highRaised := true })).raise 0x84 none 0 (100 * use / sealedArea)

/-- Sign a batch under the next index: its stream goes on, its header is mirrored. -/
def State.signBatch (s : State) (b : Batch) : State × Batch :=
  let q := s.lstream b.stream
  let idx := s.flash.ledgerKey.next
  let header := b.sealHeader q idx
  let b := { b with sealNo := q.sealNo, sigIndex := idx, header, signature := ledgerSignature idx header }
  let s := s.useLedgerIndex.setStream b.stream { q with sealNo := q.sealNo + 1, prev := digest 6 header }
  let s := if b.stream < 16 && s.mirrored b.stream then
      (s.mirror b.stream (.sealHeader (s.ctx b.stream).orbit header)).modCtx b.stream (fun c =>
        { c with halo := { c.halo with lastSeal := b.sealNo } })
    else s
  (s, b)

/-! ### Delivery (R430) -/

/-- Whether a batch has gone wherever it must before its place may be used again (R416). -/
def State.batchDone (s : State) (b : Batch) : Bool :=
  b.delivered && (b.mirrored || !(decide (b.stream < 16) && s.mirrored b.stream))

/-- A batch is one that a read wants. -/
def LRead.wants (r : LRead) (b : Batch) : Bool :=
  b.stream = r.stream && (decide (r.boot < b.boot) || (b.boot = r.boot && decide (r.sealFrom ≤ b.sealNo)))

/-- A read goes on to a place in its stream's order: what it passes over is skipped. -/
def LRead.reach (r : LRead) (boot sealNo : Nat) : LRead :=
  { r with boot, sealFrom := sealNo, skipped := r.skipped + (if boot = r.boot then sealNo - r.sealFrom else sealNo) }

/-- One read delivers what is held for it, in order. Of this boot's batches those no longer held are skipped too. -/
def State.serveRead (s : State) (r : LRead) : State × LRead :=
  let l := sortBy batchLe ((s.flash.spill ++ s.ledger.held).filter r.wants)
  let a := l.foldl (fun (a : State × LRead) b =>
    let q := a.2.reach b.boot b.sealNo
    (a.1.sendBulk r.conn b.bytes, { q with sealFrom := b.sealNo + 1 })) (s, r)
  let no := (s.lstream r.stream).sealNo
  if a.2.boot < s.boot.count || (a.2.boot = s.boot.count && decide (a.2.sealFrom < no)) then
    (a.1, a.2.reach s.boot.count no)
  else a

/-- Every read delivers; a read that does not follow, or whose connection has closed, ends; what is done with leaves the
store. -/
def State.serveReads (s : State) : State :=
  let step := fun (a : State × List LRead) (r : LRead) =>
    if !a.1.bulkOpen r.conn then (a.1.finish r.ticket stOK r.skipped, a.2)
    else
      let (s, r') := a.1.serveRead r
      let mark := fun (b : Batch) => if r.wants b then { b with delivered := true } else b
      let s := { s with flash := { s.flash with spill := s.flash.spill.map mark }
                        ledger := { s.ledger with held := s.ledger.held.map mark } }
      if r.follow then (s, a.2 ++ [r']) else (s.finish r.ticket stOK r'.skipped, a.2)
  let (s, l) := s.ledger.reads.foldl step (s, [])
  let keep := fun (b : Batch) => !s.batchDone b
  ({ s with flash := { s.flash with spill := s.flash.spill.filter keep }
            ledger := { s.ledger with reads := l, held := s.ledger.held.filter keep } }).ledgerHigh

/-- Room in the unsealed area: contexts that wait at item 1 of their boundary go on (R416). -/
def State.ledgerRoom (s : State) : State :=
  if !s.roomForRecord then s
  else (List.range 16).foldl (fun s x => if (s.ctx x).holds.ledger then s.boundaryGo x else s)
    (s.modLedger (fun l => { l with fullRaised := false }))

/-- The first closed batch is signed, if an index and room are there. -/
def State.sealNext (s : State) : State :=
  match s.ledger.closed with
  | [] => s
  | b :: r =>
    if !s.isG || !s.flash.ledgerKey.ready (2 ^ 60) || decide (sealedArea < s.sealedUse + b.size) then s
    else
      let s := s.modLedger (fun l => { l with closed := r })
      let (s, b) := s.signBatch b
      ((s.modLedger (fun l => { l with held := l.held ++ [b] })).ledgerHigh.serveReads).ledgerRoom

/-- SEAL_SIGNED (R418). -/
def execSealSigned (s : State) : Out := done s (if s.power.sealing then s else s.sealNext)

/-- The least time between closings of a stream, in ticks; none where the condition never holds (R417). -/
def State.sealGap (s : State) (k : Nat) : Option Nat :=
  if k = 16 then some 1000000
  else let q := s.settingNow 0x54 k; if q = 0 then none else some ((1000000000 + q - 1) / q)

/-- BATCH_CLOSE_TIMER (R417). -/
def execBatchCloseTimer (stream t : Nat) (s : State) : Out :=
  let u := s.atTick t
  let q := u.lstream stream
  quiet s (match q.opened.head?, u.sealGap stream with
  | some e, some g =>
    if u.isG && decide (e.tick + 1000000 ≤ u.now) && (decide (q.lastClose + g ≤ u.now) || q.lastClose = 0)
    then u.closeBatch stream else u
  | _, _ => u)

/-! ### Firmware copies (15 R436, R438) -/

def fwSecVersion (b : List Byte) : Nat := fld (leAt b 6 1) 0 6
def fwAdvance (b : List Byte) : Bool := bit (leAt b 6 1) 6
def fwVersionOf (b : List Byte) : W64 := BitVec.ofNat 64 (leAt b 8 8)
def fwDigestOf (b : List Byte) : BitVec 256 := BitVec.ofNat 256 (leAt b 32 32)

def fwFormatOk (b : List Byte) : Bool :=
  decide (128 ≤ b.length) && leAt b 0 4 = 0x57464B46 && leAt b 4 2 = 1 && b.length = 128 + leAt b 16 4 + leAt b 20 4

/-- A copy verifies: its signature over its header, and the digest of its body. -/
def fwVerifies (b : List Byte) : Bool :=
  let sig := (b.drop 128).take (leAt b 16 4)
  sig.take 4 = Config.firmwareKey.take 4 && Config.verify Config.firmwareKey (b.take 128) (sig.drop 4)
    && decide (digest 0x20 (b.drop (128 + leAt b 16 4)) = fwDigestOf b)

/-- The status of a copy that has arrived. -/
def State.fwStatus (s : State) (b : List Byte) : Nat :=
  if !fwFormatOk b then stFwFormat else if !fwVerifies b then stFwSignature
  else if fwSecVersion b < s.fuses.rollback then stFwRollback else stOK

/-- The copy that is not running. -/
def State.spareCopy (s : State) : Nat := 1 - s.boot.running

/-! ### Attestation (R425) -/

/-- The anchors digest. -/
def State.anchorsDigest (s : State) : BitVec 256 :=
  let l := ((List.range 16).map (fun a => s.anchors.get {} a)).filter (·.valid)
  if l.isEmpty then 0 else merkleRoot 5 (l.map (fun a => BitVec.ofNat 256 (natOf (keyId a.key))))

/-- ATTEST_REPORT. -/
def State.attestReport (s : State) (x : Nat) (nonce : List Byte) : List Byte :=
  let c := s.ctx x
  let v := s.variant
  padTo 256 (bytesOf 8 (pack [(32, 0x54414B46), (8, if v = 0 then 0x47 else if v = 1 then 0x50 else 0x43), (8, 0xA1), (4, x),
      (1, b2n (c.phase ≠ .free)), (11, 0)])
    ++ padTo 16 s.fuses.serial ++ bytesOf 8 s.boot.fwVersion.toNat ++ digestBytes s.boot.fwDigest
    ++ padTo 16 (keyId Config.identityKey) ++ (if s.isG then padTo 16 (keyId Config.ledgerKey) else List.replicate 16 0)
    ++ digestBytes s.anchorsDigest ++ digestBytes (match c.image with | some i => i.digest | none => 0)
    ++ digestBytes c.weights.root ++ bytesOf 8 s.now ++ bytesOf 3 s.boot.count ++ List.replicate 5 0 ++ padTo 32 nonce)

/-- Attestations that wait for an index of the identity key are signed and sent. -/
def State.attestAll (s : State) : State :=
  (s.mbox.deferred.filter (fun d => d.opcode = 0x46)).foldl (fun s d =>
    let k := s.flash.identityKey
    if 2 ^ 40 ≤ k.next then s.finish d.ticket stIndexExhausted 0
    else if !k.ready (2 ^ 40) then s
    else if !s.bulkOpen d.key then s.finish d.ticket stNoPeer 0
    else
      let r := s.attestReport (d.aux % 16) d.data
      let chain := if d.aux.testBit 4 then (if s.isG then s.ledgerCert else []) ++ s.identityCert else []
      ((s.useIdentityIndex).sendBulk d.key (r ++ identitySignature k.next r ++ chain)).finish d.ticket stOK 0) s

/-! ### Stores that end -/

/-- A firmware copy is written; if it verifies the selector names it. A copy of no bytes is kept as one byte, which
verifies no more than it does. -/
def State.fwStored (s : State) (n : Nat) (b : List Byte) (ticket : Nat) : State :=
  let st := s.fwStatus b
  let s := s.modFlash (fun f => { f with copies := f.copies.set [] n (if b.isEmpty then [0] else b) })
  if st = stOK then
    ((s.modFlash (fun f => { f with selector := n })).raise 0x130 none n (fwVersionOf b).toNat).finish ticket stOK 0
  else s.finish ticket st 0

/-- FLASH_STORE_DONE (R423). -/
def execFlashStoreDone (s : State) : Out :=
  let u := s.modFlash (fun f => { f with storing := none })
  quiet s (match s.flash.storing with
  | none => s
  | some (.ledgerIndex b) => u.modFlash (fun f => { f with ledgerKey := { f.ledgerKey with bound := Nat.max b f.ledgerKey.bound } })
  | some (.identityIndex b) =>
    (u.modFlash (fun f => { f with identityKey := { f.identityKey with bound := Nat.max b f.identityKey.bound } })).attestAll
  | some (.bootCount n) => u.modFlash (fun f => { f with bootCount := n })
  | some (.repairs l) => u.modFlash (fun f => { f with repairs := l })
  | some (.firmware n b ticket _) => u.fwStored n b ticket)

end Sys2Proof.Machine
end

