-- ==== Sys2Proof/Machine/Halo.lean ====
section
/-! DEFINITION. The halo partner: mirror items and acknowledgements (15 R463, R464), takeover and resumption (15 R465, R466,
R468), and the restoring of a checkpoint (15 R469). -/
namespace Sys2Proof.Machine
open Sys2Proof

def State.modHalo (s : State) (x : Nat) (f : Halo → Halo) : State := s.modCtx x (fun c => { c with halo := f c.halo })

/-! ### The mirror circuit (R460) -/

/-- The circuit at this end, its bulk connection and its opening go, and the command that waited for it fails; the
connection's identifier is PAIR_ID (DEDUCED, log 170). -/
def State.dropMirror (s : State) (x : Nat) : State :=
  let id := (s.ctx x).halo.pairId
  let mine : Opening → Bool := fun o => o.ctx = x && o.bind.core = 2047 && o.bind.connId = id
  let gone := s.links.openings.filter mine
  let s := gone.foldl (fun s o =>
    (o.bind.peers.foldl (fun s q => s.freeTag (s.bundleOf q.port) q.tag) s).finish o.bind.ticket stHaloState 0) s
  (s.dropCircuits (fun c => c.connId = id && c.dest = .bulk x)).modLinks (fun l => { l with
    openings := l.openings.filter (fun o => !mine o), bulks := l.bulks.filter (fun b => !(b.connId = id && b.ctx = x)) })

/-- The far end learns that this one closes the circuit or breaks it: KIND 5 CLOSE, 6 BREAK. -/
def State.endMirror (s : State) (x kind : Nat) : State :=
  (s.tellFar (s.ctx x).halo.pairId kind (if kind = 6 then 2 else 0) none).dropMirror x

/-- A boundary that waited for the standby goes on. -/
def State.mirrorFree (s : State) (x : Nat) : State :=
  let h := (s.ctx x).holds
  if h.checkpoint || h.mirrorLag then s.boundaryGo x else s

/-- An ACTIVE pairing is SUSPENDED at this end (DEDUCED, log 124). -/
def State.suspendHere (s : State) (x : Nat) : State :=
  let t := (s.dropMirror x).modHalo x (fun h => { h with phase := .suspended, out := [], ckptOpen := false })
  (t.raise 0x121 (some x) x (s.ctx x).halo.pairId).mirrorFree x

/-- An ACTIVE pairing becomes SUSPENDED at both ends (R450, R451): the far end learns of it by a BREAK of the mirror
circuit. -/
def State.suspend (s : State) (x : Nat) : State :=
  if (s.ctx x).halo.phase = .active then (s.endMirror x 6).suspendHere x else s

/-- This end of a pairing is UNPAIRED; a HALO_RESUME under way fails (R460). -/
def State.unpair (s : State) (x : Nat) : State :=
  let h := (s.ctx x).halo
  let t := (s.dropMirror x).modHalo x (fun _ => {})
  (t.finish h.ticket stHaloState 0).mirrorFree x

/-- The mirror circuit does not open: the pairing is not made, or is not resumed (R460, R468) (DEDUCED, log 170). -/
def State.mirrorFails (s : State) (x ticket : Nat) : State :=
  let s := if (s.ctx x).halo.resume then s.modHalo x (fun h => { h with resume := false, ticket := 0 })
    else s.modHalo x (fun _ => {})
  (s.finish ticket stHaloState 0).mirrorFree x

/-- The far end of the mirror circuit on port `p` has closed it, which unpairs, or broken it, which suspends (DEDUCED,
log 170). -/
def State.mirrorCut (s : State) (p id : Nat) (close : Bool) : State :=
  if s.role p ≠ 5 then s
  else (List.range 16).foldl (fun s x =>
    let h := (s.ctx x).halo
    if h.pairId ≠ id || h.partner ≠ (s.port p).partner || h.catchUp then s
    else match h.phase with
    | .active => if close then s.unpair x else s.suspendHere x
    | .suspended => if close then s.unpair x else s
    | _ => s) s

/-- The partner on the halo port is reset as a whole or with its port: its pairings with this module are SUSPENDED (R450,
R451). -/
def State.partnerResets (s : State) (p : Nat) : State :=
  if s.role p ≠ 5 then s
  else (List.range 16).foldl (fun s x =>
    let h := (s.ctx x).halo
    if h.phase = .active && h.partner = (s.port p).partner then s.suspendHere x else s) s

/-- The newest complete checkpoint that a standby holds. -/
def Halo.newest (h : Halo) : Option Checkpoint :=
  h.ckpts.foldl (fun m c => match m with
    | none => some c
    | some b => if b.no < c.no then some c else m) none

/-! ### Restoring (R465, step 4) -/

/-- A replay endpoint for a binding of the checkpoint. -/
def State.bindReplay (s : State) (x : Nat) (b : Bind) : State :=
  let c := s.core ⟨x, b.core⟩
  match firstFit c.storeUse b.lines with
  | some base => s.applyBind x { b with base }
  | none => s

/-- The checkpoint goes into the context; a staged image is installed first, as CONTEXT_START would (DEDUCED,
log 147). -/
def State.restoreAll (s : State) (x : Nat) (b : List Byte) : State :=
  let s := if s.allStaged x then s.bankSwap x else s
  let s := (ckptBindList b).foldl (fun s b => s.bindReplay x b) s
  ((s.restorePars x b).restoreSems x b).restoreRest x b

/-- Steps 4 to 6 of R465 begin (DEDUCED, log 62). -/
def State.catchUpStart (s : State) (x : Nat) (b : List Byte) : State :=
  let o := ckptOrbitOf b
  let s := s.modCtx x (fun c => { c with startOrbit := some o, halo := { c.halo with ckptOrbit := o } })
  let s := (s.restoreAll x b).modHalo x (fun h => { h with catchUp := true })
  let behind := match (s.ctx x).halo.mirrorPoint with | none => false | some n => decide (o ≤ n)
  if behind then
    (s.modCtx x (fun c => { c with phase := .running, item := 7, rt := {}, resume := none,
                                   freeze := some { settled := true, since := s.now } })).boundaryGo x
  else s.catchUpEnd x

/-! ### Takeover (R465) -/

/-- Mirrored entries after the last mirrored seal, in order. -/
def Halo.unsealed (h : Halo) : List (List Byte) :=
  let last : Nat := if h.sealHeader.isEmpty then 0 else leAt h.sealHeader 32 8
  h.items.filterMap (fun i => match i with
    | .ledgerEntry _ e => if h.sealHeader.isEmpty || decide (last < leAt e 8 8) then some e else none
    | _ => none)

/-- Step 3: the TAKEOVER entry in a batch that closes at once, and batches of the mirrored entries, whose boot is that of
their own RECORD_INDEX (14 R420). -/
def State.takeoverSeal (s : State) (x : Nat) : State :=
  if !s.isG then s
  else
    let h := (s.ctx x).halo
    let s := s.logEntry 0x0A x (s.ctx x).nextOrbit 0 0x7FF [(48, (Config.partnerKeyId h.pairId).take 16),
      (64, bytesOf 8 (leAt h.sealHeader 8 8)), (72, bytesOf 8 (leAt h.sealHeader 16 8)),
      (96, if h.sealHeader.isEmpty then [] else digestBytes (digest 6 h.sealHeader))]
    let s := s.closeBatch x
    let l := h.unsealed
    s.modLedger (fun v => { v with closed := v.closed ++
      (chunksOf 4096 (l.length / 4096 + 1) l).map (fun es =>
        { stream := x, entries := es.map (fun e => ⟨s.now, e⟩), closeTick := s.now }) })

/-- The standby takes over the mirrored context. -/
def State.takeOver (s : State) (x ticket : Nat) : State :=
  let h := (s.ctx x).halo
  let s := ((s.modHalo x (fun h => { h with phase := .takingOver, ticket })).raise 0x123 (some x) x h.partner).endMirror x 5
  match h.newest with
  | none => (s.raise 0x126 (some x) x 0).finish ticket stHaloState 0
  | some c =>
    if (s.ctx x).phase ≠ .idle then (s.raise 0x126 (some x) x 0).finish ticket stHaloState 0
    else (s.takeoverSeal x).catchUpStart x c.bytes

/-- Standbys of ACTIVE pairings whose partner is lost take over (R465); a fault front acts on the contexts of
its job (DEDUCED, log 145). -/
def State.takeOverFor (s : State) (lost : Nat) (job : Option Nat) : State :=
  (List.range 16).foldl (fun s x =>
    let c := s.ctx x
    if c.halo.phase = .active && c.halo.standby && c.halo.partner = lost
        && (match job with | none => true | some j => c.job.id = j) then s.takeOver x 0
    else s) s

/-! ### The mirror stream (R463, R464) -/

/-- Items that catch-up from orbit `o` needs, and ledger entries not yet sealed. -/
def MirrorItem.keptFrom (o : Nat) (i : MirrorItem) : Bool :=
  match i with
  | .ledgerEntry _ _ => true
  | i => match MirrorItem.orbit i with | some n => decide (o ≤ n) | none => false

/-- A complete checkpoint goes to its staging buffer and replaces the one there. -/
def State.standbyCheckpoint (s : State) (x no : Nat) (bytes : List Byte) : State :=
  let c := s.ctx x
  let s := s.writeBuffer x c.img (c.halo.buffers.getD (no % 2) (0, 0)) bytes
  s.modHalo x (fun h => { h with
    ckpts := h.ckpts.filter (fun k => k.no % 2 ≠ no % 2) ++ [⟨no, bytes⟩], ckptNo := some no, ckptOrbit := ckptOrbitOf bytes
    items := h.items.filter (MirrorItem.keptFrom (ckptOrbitOf bytes)) })

/-- One item of the mirror stream reaches a context that takes it. -/
def State.takeItem (s : State) (x : Nat) (i : MirrorItem) : State :=
  match i with
  | .checkpoint no bytes d => if ckptDigest bytes = d then s.standbyCheckpoint x no bytes else s
  | .sealHeader _ h => s.modHalo x (fun v => { v with
      sealHeader := h, lastSeal := leAt h 8 8
      items := v.items.filter (fun i => match i with
        | .ledgerEntry _ e => decide (leAt h 32 8 < leAt e 8 8)
        | _ => true) })
  | .orbitEnd o _ => s.modHalo x (fun v => { v with
      items := v.items ++ [i], mirrorPoint := some (Nat.max o (v.mirrorPoint.getD 0)) })
  | _ => s.modHalo x (fun v => { v with items := v.items ++ [i] })

/-- A resuming context has every item up to its mirror point (R468). -/
def Halo.caughtItems (h : Halo) : Bool :=
  match h.newest, h.mirrorPoint with
  | none, _ => false
  | some _, none => true
  | some c, some n => decide (n < ckptOrbitOf c.bytes) || (mirroredRecord n h.items).isSome

/-- The contexts of a pairing that take items: a standby, or a mirrored context that resumes. -/
def State.takesItems (s : State) (x pair : Nat) : Bool :=
  let h := (s.ctx x).halo
  h.pairId = pair && ((h.standby && (h.phase = .active || h.phase = .suspended || h.phase = .unpaired))
    || (h.phase = .suspended && h.resume))

/-- MIRROR_ITEM (R463): a standby's pairing that is not ACTIVE becomes so with the first item of the circuit
(DESIGN CHOICE, log 111). -/
def execMirrorItem (pair : BitVec 32) (item : MirrorItem) (s : State) : Out :=
  done s (match (List.range 16).find? (fun x => s.takesItems x pair.toNat) with
  | none => s
  | some x =>
    let h := (s.ctx x).halo
    let s := if h.standby then s.modHalo x (fun h => { h with phase := .active }) else s
    let s := if h.standby && h.phase = .unpaired then s.raise 0x120 (some x) x h.pairId else s
    let s := s.takeItem x item
    let h := (s.ctx x).halo
    if h.resume && h.caughtItems then
      match h.newest with
      | some c => s.catchUpStart x c.bytes
      | none => s
    else s)

/-- What is left of the items sent once orbits up to `o` are acknowledged. -/
def ackItems (o : Nat) (l : List MirrorItem) : List MirrorItem :=
  if l.any (fun i => match i with | .orbitEnd n _ => n = o | _ => false) then
    let head := l.takeWhile (fun i => match i with | .orbitEnd n _ => n ≠ o | _ => true)
    head.filter (fun (i : MirrorItem) => match i with | .checkpoint _ _ _ => true | _ => false) ++ l.drop (head.length + 1)
  else l

/-- Batches whose seal headers have been acknowledged are mirrored (14 R416). -/
def State.markMirrored (s : State) (x : Nat) (was left : List MirrorItem) : State :=
  let headers := fun (l : List MirrorItem) => l.filterMap (fun i => match i with | .sealHeader _ h => some h | _ => none)
  let gone := (headers was).filter (fun h => !(headers left).contains h)
  (s.modLedger (fun l => { l with held := l.held.map (fun b =>
    if b.stream = x && gone.contains b.header then { b with mirrored := true } else b) })).serveReads

/-- MIRROR_ACK (R464): the mirror point rises, and a checkpoint is complete at the standby. -/
def execMirrorAck (pair : BitVec 32) (orbit : Nat) (ckpt : Option Nat) (s : State) : Out :=
  done s (match (List.range 16).find? (fun x => s.mirrored x && (s.ctx x).halo.pairId = pair.toNat) with
  | none => s
  | some x =>
    let h := (s.ctx x).halo
    let left := ackItems orbit h.out
    let left := match ckpt with
      | none => left
      | some n => left.filter (fun (i : MirrorItem) => match i with | .checkpoint m _ _ => decide (n < m) | _ => true)
    let sent := h.out.any (fun (i : MirrorItem) => match i with | .orbitEnd n _ => n = orbit | _ => false)
    let newest := match ckpt with
      | none => none
      | some n => h.out.findSome? (fun (i : MirrorItem) => match i with
        | .checkpoint m b _ => if m = n then some (ckptOrbitOf b) else none
        | _ => none)
    let s := s.modHalo x (fun h => { h with
      out := left
      mirrorPoint := if sent then some (Nat.max orbit (h.mirrorPoint.getD 0)) else h.mirrorPoint
      ckptNo := if newest.isSome then ckpt else h.ckptNo
      inputUsed := if newest.isSome then h.inputSince else h.inputUsed
      ckptOrbit := newest.getD h.ckptOrbit
      ckptOpen := h.ckptOpen && !(newest.isSome && ckpt.map (· + 1) = some h.nextCkpt) })
    let s := s.markMirrored x h.out left
    if (s.ctx x).item = 0 then s else s.boundaryGo x)

/-! ### A front that names this module (R466) -/

/-- A mirrored context of the job ends at its next freeze, abandoned, and rests. -/
def State.frontSelf (s : State) (x : Nat) : State :=
  if (s.ctx x).active then s.modCtx x (fun c => { c with
    phase := .stopping, selfLost := true, rt := { c.rt with abandon := true }, halo := { c.halo with phase := .takenOver } })
  else s.endSelfLost x

/-! ### CHECKPOINT_RESTORE (R469) -/

/-- A checkpoint that has arrived for an IDLE context: digest, core count, then it is applied. -/
def State.ckptArrived (s : State) (d : Deferred) (bytes : List Byte) : State :=
  let x := d.ctx.getD 0
  let b := bytes.take (ckptLength bytes)
  if digestBytes (ckptDigest b) ≠ padTo 32 d.data then s.finish d.ticket stCkptDigest 0
  else if ckptCores b ≠ (s.ctx x).ncores then s.finish d.ticket stBadArg 0
  else
    let s := s.modCtx x (fun c => { c with replay := { c.replay with orbit := some (ckptOrbitOf b), pars := [], ckpt := some b } })
    (s.restoreRest x b).finish d.ticket stOK 0

end Sys2Proof.Machine
end

