-- ==== Sys2Proof/Machine/Slots.lean ====
section
/-! DEFINITION. The eight master slots: posting, service, responses (13 R344-R354), ownership and elections (R356-R361),
inventory requests (R345). -/
namespace Sys2Proof.Machine
open Sys2Proof

/-! ### Commands and responses (R350, R351) -/

/-- A command as its slot's area holds it. -/
def cmdBytes (q : Cmd) (op : Nat) : List Byte :=
  bytesOf 16 (pack [(16, op), (8, q.seq), (4, q.ctx), (1, b2n q.ctxValid), (3, 0), (12, q.payload.length), (20, 0),
    (64, q.arg.toNat)]) ++ q.payload

/-- What a command answers. -/
structure Reply where
  status : Nat := 0
  payload : List Byte := []
  detail : Nat := 0
  ticket : Nat := 0
  deriving DecidableEq, Repr

def Reply.bytes (r : Reply) (seq : Nat) : List Byte :=
  bytesOf 16 (pack [(16, r.status), (8, seq), (8, 0), (12, r.payload.length), (20, 0), (32, r.ticket), (32, r.detail)])
    ++ r.payload

/-- A field of ARG. -/
def argFld (q : Cmd) (lo len : Nat) : Nat := bvf q.arg lo len

/-- A response leaves: for m0 as an MCTP response on the sideband, for the master of a link slot on the path that the slot's
commands arrive by (R345, R346). -/
def State.message (s : State) (m : Nat) (b : List Byte) : State :=
  if m = 0 then { s with mbox := { s.mbox with mctp := b } }
  else { s with mbox := { s.mbox with messages := s.mbox.messages ++ s.letter m b } }

/-- The answer of a slot's command (R349, R351); the slot is free again. -/
def State.respond (s : State) (m seq : Nat) (r : Reply) : State :=
  (s.modSlot m (fun v => { v with response := r.bytes seq, respValid := true, lastSeq := seq, posted := false,
                                  inService := false, parked := none, claim := none })).message m (r.bytes seq)

/-- The transport refuses a command at once (R352). -/
def State.slotBusy (s : State) (m seq : Nat) : State :=
  let r : Reply := { status := stSlotBusy }
  (s.modSlot m (fun v => { v with busyRefusals := satAdd 65535 v.busyRefusals 1 })).message m (r.bytes seq)

def Slot.busy (v : Slot) : Bool := v.posted || v.inService || v.parked.isSome || v.claim.isSome

/-! ### Ownership by time (R357, R360) -/

/-- A lease that has run out leaves no owner. -/
def State.leaseCheck (s : State) : State :=
  match s.mbox.owner with
  | none => s
  | some m =>
    if s.now < s.mbox.leaseEnd then s
    else
      let s := { s with mbox := { s.mbox with owner := none } }.raise 3 none m 0
      s.rollBack m 2

/-- LEASE_EXPIRY (R360). -/
def execLeaseExpiry (t : Nat) (s : State) : Out := quiet s ((s.atTick t).leaseCheck)

/-- A claim beats another: lower priority value, lower nonce, lower slot. -/
def claimLe (a b : Nat × Claim) : Bool :=
  decide (a.2.priority < b.2.priority) || (a.2.priority = b.2.priority &&
    (decide (a.2.nonce < b.2.nonce) || (a.2.nonce = b.2.nonce && decide (a.1 ≤ b.1))))

/-- Claims that stand. -/
def State.claims (s : State) : List (Nat × Claim) :=
  (List.range 8).filterMap (fun m => ((s.slot m).claim).map (fun c => (m, c)))

/-- The answer of a claim as the election closes; a command that the slot has posted since waits on. -/
def State.respondClaim (s : State) (m seq : Nat) (r : Reply) : State :=
  let p := (s.slot m).posted
  (s.respond m seq r).modSlot m (fun v => { v with posted := p, respValid := !p })

/-- The election closes at its tick. -/
def State.electionCheck (s : State) : State :=
  match s.mbox.election with
  | none => s
  | some t =>
    if s.now < t then s
    else
      let s := { s with mbox := { s.mbox with election := none } }
      match sortBy claimLe s.claims with
      | [] => s
      | w :: r =>
        let s := s.giveOwner (some w.1)
        let s := s.respondClaim w.1 w.2.seq {}
        r.foldl (fun s c => s.respondClaim c.1 c.2.seq { status := stOwned, detail := w.1 }) s

/-- ELECTION_CLOSE (R357). -/
def execElectionClose (t : Nat) (s : State) : Out := quiet s ((s.atTick t).electionCheck)

/-- What has fallen due by the tick at which a service starts. -/
def State.mboxTimers (s : State) : State := s.leaseCheck.electionCheck

/-! ### Service (R353, R361, R365, R435) -/

/-- Whom a command serves. -/
inductive Who where
  | all
  | owner
  | ownerOrBoard
  deriving DecidableEq, Repr

/-- What the opcode table gives a command: opcode, whom it serves, whether it is served before the module is ready (R435)
and in ROM recovery (R437), whether it names a context, the ARG bits it names, and its payload lengths. -/
structure CmdSpec where
  op : Nat
  who : Who
  early : Bool := false
  rom : Bool := false
  ctx : Bool := false
  arg : Nat := 0
  len : Nat → Bool := fun n => n = 0

/-- The management plane runs the firmware. -/
def State.mcRuns (s : State) : Bool :=
  s.power.management && !s.power.halted && !s.power.sealing && !s.power.modReset

/-- The path of a slot has trained: the port that its flits came by is UP, or, where none has come, some port. -/
def State.pathTrained (s : State) (m : Nat) : Bool :=
  let v := s.slot m
  if v.bound && (v.transport = 1 || v.transport = 2) then s.isUp v.port else (List.range 20).any s.isUp

/-- m0 is served from the end of stage 1, the others once their paths have trained; in ROM recovery m0 alone
(R435, R437). -/
def State.servesSlot (s : State) (m : Nat) : Bool :=
  s.mcRuns && decide (m < 8) && (if s.boot.rom then m = 0
    else if s.boot.phase = 0 then decide (1 < s.boot.stage) && (m = 0 || s.pathTrained m) else true)

/-- A command is served for a slot. -/
def State.servedFor (s : State) (m : Nat) (who : Who) : Bool :=
  s.boot.rom || (match who with
  | .all => true
  | .owner => s.isOwner m
  | .ownerOrBoard => s.isOwner m || m = 0)

/-- The status that every command may meet before its own checks (DESIGN CHOICE, log 144). -/
def State.gate (s : State) (m : Nat) (q : Cmd) (k : CmdSpec) : Nat :=
  if (if s.boot.rom then !k.rom else !k.early && s.boot.phase ≠ 1) then stNotReady
  else if q.seq = 0 || decide (256 ≤ q.seq) then stBadArg
  else if decide (4080 < q.payload.length) then stBadLength
  else if !s.servedFor m k.who then stNotOwner
  else if k.ctx && (!q.ctxValid || decide (16 ≤ q.ctx)) then stBadArg
  else if Nat.land q.arg.toNat (2 ^ 64 - 1 - k.arg) ≠ 0 then stBadArg
  else if !k.len q.payload.length then stBadLength
  else stOK

/-- The lease restarts at the start of service of every command of the owner's slot (R358). -/
def State.renew (s : State) (m : Nat) : State :=
  if s.isOwner m then { s with mbox := { s.mbox with leaseEnd := s.now + 2000000000 } } else s

/-- A command is posted in its slot. -/
def State.post (s : State) (m : Nat) (b : List Byte) : State :=
  s.modSlot m (fun v => { v with command := b, posted := true, respValid := false, assembling := none })

/-- A slot's command is posted and served at once (log 10): refused while the slot holds another; kept posted where
slots are not served yet. A slot that its command unbinds gets no response (R362). -/
def State.serve (s : State) (m : Nat) (q : Cmd) (k : CmdSpec) (body : State → State × Reply) : State :=
  if !s.mcRuns || decide (8 ≤ m) then s
  else if (s.slot m).busy then s.slotBusy m q.seq
  else
    let s := s.post m (cmdBytes q k.op)
    if !s.servesSlot m then s
    else
      let s := (s.modSlot m (fun v => { v with posted := false })).mboxTimers.renew m
      let st := s.gate m q k
      let (t, r) : State × Reply := if st = stOK then body s else (s, { status := st })
      if (t.slot m).agent ≠ (s.slot m).agent || (t.slot m).bound ≠ (s.slot m).bound then t else t.respond m q.seq r

/-- A refusal leaves the state as it was. -/
def refuse (s : State) (status : Nat) (detail : Nat := 0) : State × Reply := (s, { status, detail })

def okay (s : State) : State × Reply := (s, {})

/-- Deferred commands of a context against QUOTA_CMDS (R355). -/
def State.cmdRoom (s : State) (x : Nat) : Bool :=
  decide ((s.mbox.deferred.filter (fun d => d.ctx = some x)).length < s.settingNow 0x55 x)

/-- Accept a deferred command: a ticket, and the record of what it waits for (R355). -/
def State.defer (s : State) (m : Nat) (q : Cmd) (op key aux : Nat) (data : List Byte) : State × Nat :=
  let (s, t) := s.newTicket
  let d : Deferred := { ticket := t, slot := m, ctx := if q.ctxValid then some q.ctx else none, opcode := op, key, aux, data,
                        started := s.now }
  (({ s with mbox := { s.mbox with deferred := s.mbox.deferred ++ [d] } }).modSlot m (fun v =>
    { v with outstanding := v.outstanding + 1 }), t)

/-- ACCEPTED with a new ticket, or CMD_QUOTA. -/
def State.accept (s : State) (m : Nat) (q : Cmd) (op key aux : Nat) (data : List Byte) (go : State → Nat → State) :
    State × Reply :=
  if q.ctxValid && !s.cmdRoom q.ctx then refuse s stCmdQuota
  else
    let r := s.defer m q op key aux data
    (go r.1 r.2, { status := stAccepted, ticket := r.2 })

/-! ### Ownership commands (R356-R359) -/

/-- NOP (R363). -/
def execNopCmd (m : Nat) (q : Cmd) (s : State) : Out :=
  quiet s (s.serve m q { op := 0x01, who := .all, early := true } okay)

/-- The election a CLAIM stands in. -/
def State.stand (s : State) (m : Nat) (q : Cmd) : State :=
  let s := if s.mbox.election.isSome then s
    else { s with mbox := { s.mbox with election := some (s.now + 5000000) } }
  let c : Claim := { seq := q.seq, priority := argFld q 0 4, nonce := argFld q 32 32 }
  s.modSlot m (fun v => { v with posted := false, inService := true, claim := some c })

def claimSpec : CmdSpec := { op := 0x10, who := .all, early := true, arg := 2 ^ 64 - 2 ^ 32 + 15 }

/-- Serve a CLAIM: renewed, OWNED, or parked in the election. One that is refused leaves the slot's first claim. -/
def State.claimServe (s : State) (m : Nat) (q : Cmd) : State :=
  let st := s.gate m q claimSpec
  let old := s.slot m
  if st ≠ stOK then (s.respond m q.seq { status := st }).modSlot m (fun v =>
    { v with claim := old.claim, inService := old.claim.isSome })
  else match s.owner with
    | some o => if o = m then s.respond m q.seq {} else s.respond m q.seq { status := stOwned, detail := o }
    | none => s.stand m q

/-- CLAIM (R356, R357): a second claim of a slot in an open election replaces its first (log 11). -/
def execClaim (m : Nat) (q : Cmd) (s : State) : Out :=
  quiet s (
    if !s.mcRuns || decide (8 ≤ m) then s
    else
      let u := if (s.slot m).claim.isSome then s.mboxTimers else s
      if (u.slot m).claim.isSome then (u.post m (cmdBytes q 0x10)).claimServe m q
      else if (u.slot m).busy then u.slotBusy m q.seq
      else
        let u := u.post m (cmdBytes q 0x10)
        if !u.servesSlot m then u
        else ((u.modSlot m (fun v => { v with posted := false })).mboxTimers.renew m).claimServe m q)

/-- RENEW (R358). -/
def execRenew (m : Nat) (q : Cmd) (s : State) : Out :=
  quiet s (s.serve m q { op := 0x11, who := .owner, early := true } okay)

/-- HANDOVER (R359). -/
def execHandover (m : Nat) (q : Cmd) (s : State) : Out :=
  quiet s (s.serve m q { op := 0x12, who := .owner, early := true, arg := 7 } (fun s =>
    let dest := argFld q 0 3
    if dest = m || (dest ≠ 0 && !(s.slot dest).bound) then refuse s stNoSlot else okay (s.passOwner (some dest))))

/-- RELEASE (R359). -/
def execReleaseOwner (m : Nat) (q : Cmd) (s : State) : Out :=
  quiet s (s.serve m q { op := 0x13, who := .owner, early := true } (fun s => okay (s.passOwner none)))

/-- OWNER_READ (R363). -/
def execOwnerRead (m : Nat) (q : Cmd) (s : State) : Out :=
  quiet s (s.serve m q { op := 0x14, who := .all, early := true } (fun s => (s, { detail := s.owner.getD 255 })))

/-! ### Posting by message and by flit (R345-R347) -/

/-- A slot takes a whole command: one that is not busy, and a second CLAIM where the first waits in the election
(R352, R357). -/
def Slot.takes (v : Slot) (b : List Byte) : Bool :=
  !v.busy || (!v.posted && v.parked.isNone && v.claim.isSome && leAt b 0 2 = 0x10)

/-- A whole command reaches a slot (R352). Byte 2 holds its SEQ. -/
def State.arrive (s : State) (m : Nat) (b : List Byte) : State :=
  let seq := leAt b 2 1
  if !(s.slot m).takes b then s.slotBusy m seq
  else if b.length < 16 || decide (4096 < b.length) then (s.post m b).respond m seq { status := stBadLength }
  else s.post m b

/-- MCTP_MESSAGE (R345). -/
def execMctpMessage (vendor : BitVec 16) (body : List Byte) (s : State) : Out :=
  quiet s (if s.mcRuns && vendor = Config.vendorId then s.arrive 0 body else s)

/-- A flit of the wrong agent or path (R346, R347). -/
def State.mgmtDiscard (s : State) (p agent : Nat) : State :=
  { s with mbox := { s.mbox with discards := s.mbox.discards + 1 } }.raise 7 none p agent

/-- The circuit that a flit of tag `tag` arrives on. -/
def State.circuitOn (s : State) (p tag : Nat) : Option Circuit :=
  s.links.circuits.find? (fun c => c.port = s.bundleOf p && c.tag = tag && tag ≠ 0)

/-- The agent of a flit, its transport, and the tag back to it: the partner of a host bridge port; the source of the circuit
that the flit arrived on; the partner of the halo port; otherwise nobody (R346, R347) (DESIGN CHOICE, log 75). -/
def State.agentOf (s : State) (p tag : Nat) : Nat × Nat × Nat :=
  if s.role p = 6 then ((s.port p).partner, 1, 0)
  else match s.circuitOn p tag with
    | some c => (c.src, 2, c.rev)
    | none => if s.role p = 5 then ((s.port p).partner, 1, 0) else (16777215, 3, 0)

/-- Whether slot `m` takes flits of an agent that come by a port and a transport. -/
def State.takesAgent (s : State) (m p agent via : Nat) : Bool :=
  if m = 7 then s.role p = 5 && s.isUp p && via = 1
  else decide (1 ≤ m) && decide (m ≤ 6) && agent ≠ 16777215 && (via = 2 || s.role p ≠ 5)
    && (if (s.slot m).bound then (s.slot m).agent = agent else true)

/-- Slot m7 serves the trained partner of the halo port: with another partner it leaves the former one (R347, R362)
(DEDUCED, log 178). -/
def State.haloAgent (s : State) (m agent : Nat) : State :=
  if m = 7 && (s.slot 7).bound then s.rebind 7 agent else s

/-- A MGMT flit for this module joins its slot's command (R346). -/
def State.mgmtFlit (s : State) (p tag : Nat) (f : Flit) : State :=
  let m := flitAt f 2 1
  let (agent, via, back) := s.agentOf p tag
  if !s.takesAgent m p agent via then s.mgmtDiscard p agent
  else
    let s := (s.haloAgent m agent).modSlot m (fun v => { v with bound := true, agent, transport := via, port := p, tag := back })
    let first := flitAt f 3 1 % 2 = 1
    let last := flitAt f 3 1 / 2 % 2 = 1
    let data := ((lineBytes f).drop 8).take (Nat.min 56 (flitAt f 4 2))
    let held := if first then some [] else (s.slot m).assembling
    match held with
    | none => s
    | some b =>
      let b := b ++ data
      if decide (4096 < b.length) then
        let r : Reply := { status := stBadLength }
        (s.modSlot m (fun v => { v with assembling := none })).message m (r.bytes (leAt b 2 1))
      else if last then (s.modSlot m (fun v => { v with assembling := none })).arrive m b
      else s.modSlot m (fun v => { v with assembling := some b })

/-- MGMT (R346): on a through circuit it goes on with the circuit's next tag. -/
def execMgmt (p : Nat) (f : RunFlit) (s : State) : Out :=
  quiet s (match (s.circuitOn p f.tag).map (fun (c : Circuit) => c.dest) with
  | some (.through b t) => s.queueFlit b { vl := 3, ctl := true, tag := t, flit := f.flit }
  | _ => if s.mcRuns then s.mgmtFlit p f.tag f.flit else s)

/-! ### Inventory requests (R345; 16 R484) -/

/-- The reading of a sensor: 0 input voltage, 1 input current, 2 input power, 3 hold-up energy, 4-39 die temperatures,
40 coolant inlet. -/
def State.sensor (s : State) (i : Nat) : Nat :=
  match i with
  | 0 => Config.inputVolts s.power.draws
  | 1 => Config.inputAmps s.power.draws
  | 2 => s.power.watts
  | 3 => s.power.energy
  | 40 => Config.inletTemp s.power.draws
  | _ => s.power.temps.get 0 (i - 4)

/-- The FRU record: the MCTP vendor identifier, the serial number, and what the standard's other fields hold (R345)
(DESIGN CHOICE, log 143). -/
def State.fruRecord (s : State) : List Byte := bytesOf 2 Config.vendorId.toNat ++ padTo 16 s.fuses.serial ++ Config.fruRest

/-- The answer to a sensor request. -/
def State.readSensor (s : State) (i : Nat) : State :=
  let v := s.sensor i
  { s with mbox := { s.mbox with pldm := s.mbox.pldm.filter (fun q => q.1 ≠ i) ++ [(i, v)] }
           power := { s.power with draws := s.power.draws + 1 } }

/-- PLDM_REQUEST (R345): the FRU record or a sensor, served apart from the slots. -/
def execPldmRequest (r : PldmRequest) (s : State) : Out :=
  quiet s (if s.power.management && !s.power.halted then
    match r with
    | .fru => { s with mbox := { s.mbox with fru := s.fruRecord } }
    | .sensor i => if i ≤ 40 then s.readSensor i else s
    else s)

end Sys2Proof.Machine
end

