-- ==== Sys2Proof/Machine/Circuits.lean ====
section
/-! DEFINITION. What arrives on circuits: entries, credits, bulk bytes (10 R255, R257; 12 R313, R339), opening and closing
(10 R264-R267), remote reads (08 R218). -/
namespace Sys2Proof.Machine
open Sys2Proof

/-! ### Bulk bytes (13 R378; 14 R400; 15 R438, R469) -/

/-- The firmware copy of a deferred FW_STAGE has arrived: it waits to be stored. -/
def State.fwArrived (s : State) (d : Deferred) (bytes : List Byte) : State :=
  let l := s.mbox.deferred.map (fun e => if e.ticket = d.ticket then { e with aux := 0 } else e)
  ({ s with mbox := { s.mbox with deferred := l } }.bulkTake d.key (some bytes.length)).store (.firmware s.spareCopy bytes d.ticket d.slot)

/-- A deferred command that takes bulk bytes goes on with what has arrived, or ends where the connection has broken. -/
def State.bulkDeferred (s : State) (b : Bulk) (d : Deferred) : State :=
  match d.opcode with
  | 0x40 =>
    if b.broken && decide (b.bytes.length < d.aux) then
      (s.modCtx b.ctx (fun c => { c with loading := none })).finish d.ticket stNoPeer 0
    else s
  | 0x9A =>
    if decide (64 ≤ b.bytes.length) && decide (ckptLength b.bytes ≤ b.bytes.length) then
      (s.bulkTake d.key (some (ckptLength b.bytes))).ckptArrived d b.bytes
    else if b.broken then s.finish d.ticket stNoPeer 0 else s
  | 0xA0 =>
    if d.aux = 0 then s
    else if d.aux ≤ b.bytes.length then s.fwArrived d (b.bytes.take d.aux)
    else if b.broken then s.finish d.ticket stNoPeer 0 else s
  | _ => s

/-- Bytes have arrived on a bulk connection, or it has broken. -/
def State.bulkEvent (s : State) (connId : Nat) : State :=
  match s.bulk connId with
  | none => s
  | some b =>
    let w := (s.ctx b.ctx).weights
    let s := if w.busy && w.conn = connId then
        let s := s.weightsAdvance b.ctx
        if (s.ctx b.ctx).item = 4 then s.boundaryGo b.ctx else s
      else s
    let s := (s.mbox.deferred.filter (fun d => d.key = connId && [0x40, 0x9A, 0xA0].contains d.opcode)).foldl
      (fun s d => s.bulkDeferred b d) s
    if b.broken then s.serveReads else s

/-- A connection breaks, and what its bulk end fed learns of it (DESIGN CHOICE, log 72). -/
def State.breakWith (s : State) (connId cause : Nat) (except : Option Nat) : State :=
  (s.breakId connId cause except).bulkEvent connId

/-! ### Circuits (12 R339) -/

def State.circuit (s : State) (b tag : Nat) : Option Circuit :=
  s.links.circuits.find? (fun c => c.port = b && c.tag = tag)

def State.modCircuit (s : State) (b tag : Nat) (f : Circuit → Circuit) : State :=
  s.modLinks (fun l => { l with circuits := l.circuits.map (fun c => if c.port = b && c.tag = tag then f c else c) })

/-- The virtual lane of a circuit's class. -/
def Circuit.vl (c : Circuit) : Nat := if c.cls then 1 else 0

/-- A data flit: through traffic goes on at once, other lines wait for their entry's end (12 R308). -/
def State.dataFlit (s : State) (b tag : Nat) (line : Line) : State :=
  match s.circuit b tag with
  | none => s
  | some c => match c.dest with
    | .through q t => s.sendFlit q c.vl false t line
    | _ => s.modCircuit b tag (fun c => { c with lines := c.lines ++ [line] })

/-- ENTRY_END on a circuit (R313). -/
def State.entryEndOn (s : State) (b : Nat) (f : Flit) : State :=
  let tag := flitAt f 2 2
  match s.circuit b tag with
  | none => s
  | some c =>
    let n := flitAt f 6 1
    let lines := c.lines.take n
    let s := s.modCircuit b tag (fun c => { c with lines := [] })
    match c.dest with
    | .through q t => s.sendFlit q c.vl true 0 (BitVec.ofNat 512 (putFld f.toNat 16 16 t))
    | .recv x p ep _ => s.arriveEntry x p ep (flitAt f 7 1) (flitAt f 4 2) lines
    | .bulk _ =>
      let s := s.modLinks (fun l => { l with bulks := l.bulks.map (fun k =>
        if k.connId = c.connId && !k.broken then { k with bytes := k.bytes ++ lines.flatMap lineBytes } else k) })
      let s := if s.bulkWaits c.connId then
          s.modLinks (fun l => { l with bulks := l.bulks.map (fun k => if k.connId = c.connId then { k with owed := k.owed + 1 } else k) })
        else s.sendCtl b 3 [(0, 1, 2), (2, 2, c.rev), (4, 1, 1)]
      s.bulkEvent c.connId
    | .send _ _ _ _ => s

/-- ENTRY_END (R313). -/
def execEntryEnd (p : Nat) (f : Flit) (s : State) : Out := done s (s.entryEndOn (s.bundleOf p) f)

/-- ENTRY_CREDIT on a circuit (10 R257). -/
def State.entryCreditOn (s : State) (b : Nat) (f : Flit) : State :=
  match s.circuit b (flitAt f 2 2) with
  | none => s
  | some c => match c.dest with
    | .through q t => s.sendFlit q 3 true 0 (BitVec.ofNat 512 (putFld f.toNat 16 16 t))
    | .send x p ep peer => s.arriveCredit x p ep peer (flitAt f 4 1)
    | _ => s

/-- ENTRY_CREDIT (R257). -/
def execEntryCredit (p : Nat) (f : Flit) (s : State) : Out := quiet s (s.entryCreditOn (s.bundleOf p) f)

/-! ### Link lanes of a context (09 R239, R241) -/

/-- Link lanes that a context holds on a bundle: one for each of its elastic ends there. -/
def State.linkLanes (s : State) (x b : Nat) : Nat :=
  (s.links.circuits.filter (fun c => c.port = b && (match c.dest with | .recv y _ _ _ => y = x | _ => false))).length
    + ((s.ctx x).cores.flatMap (fun p => ((s.core ⟨x, p⟩).sendEps.filter (fun e => e.2.elastic && e.2.state ≠ .unbound)).filter
        (fun e => e.2.peers.any (fun q => q.port ≠ localPort && s.bundleOf q.port = b)))).length
    + ((s.links.openings.filter (fun o => o.ctx = x)).filter (fun o =>
        o.bind.peers.any (fun q => q.port ≠ localPort && s.bundleOf q.port = b))).length
    + (((s.ctx x).binds.filter (fun o => !o.unbind && o.send)).filter (fun o =>
        o.peers.any (fun q => q.port ≠ localPort && s.bundleOf q.port = b))).length

/-- A valid grant of a context on a quadrant that a test on its counts accepts. -/
def State.granted (s : State) (x q : Nat) (p : Grant → Bool) : Bool :=
  s.grants.any (fun g => g.valid && g.ctx = x && g.quad = q && p g)

/-- Whether the context may take one more link lane on a port: the port's quadrant, and a quadrant that the way there
crosses, are its own or granted. -/
def State.laneGranted (s : State) (x p : Nat) : Bool :=
  match (s.ctx x).laneQuads p with
  | [] => true
  | q :: r => s.granted x q (fun g => decide (s.linkLanes x (s.bundleOf p) < g.linkLanes))
      && r.all (fun v => s.granted x v (fun _ => true))

/-! ### OPEN and OPEN_ACK (10 R267; 12 R339) -/

def State.openAckOn (s : State) (b connId status rev : Nat) : State :=
  s.sendCtl b 3 [(0, 1, 4), (1, 4, connId), (5, 1, status), (12, 2, rev)]

/-- The standby of which a request opens the mirror circuit: of response class, on the role-5 port, from the partner, under
PAIR_ID (15 R460) (DEDUCED, log 170). -/
def State.mirrorFor (s : State) (p : Nat) (f : Flit) : Option Nat :=
  if s.role p ≠ 5 || !bit (flitAt f 11 1) 2 then none
  else (List.range 16).find? (fun x =>
    let h := (s.ctx x).halo
    h.standby && h.pairId = flitAt f 1 4 && h.partner = flitAt f 5 3)

/-- The answer of a receive end to an open request: 0, CONN_MISMATCH, RESOURCE or NO_GRANT. The management endpoint of a
context is endpoint 0 of program core 7FFh and takes bulk connections (13 R378). -/
def State.openCheck (s : State) (p : Nat) (f : Flit) : Nat :=
  let q := flitAt f 24 8
  let x := fld q 24 4
  let core := fld q 28 11
  let e := (s.core ⟨x, core⟩).recvEps.get {} (fld q 39 4)
  let kind := fld (flitAt f 11 1) 0 2
  if core = 2047 then
    (if fld q 39 4 ≠ 0 || ((s.mirrorFor p f).isNone && (s.ctx x).phase = .free) then 1 else 0)
  else if (s.ctx x).phase = .free || decide ((s.ctx x).ncores ≤ core) || e.state ≠ .bound || !e.elastic
      || e.connId ≠ flitAt f 1 4 || e.kind ≠ kind || e.esize ≠ flitAt f 14 1 + 1 || e.depth ≠ flitAt f 15 1 + 1
      || (kind = 2 && (e.senders ≠ flitAt f 16 1 + 1 || decide (e.senders ≤ flitAt f 17 1))) then 1
  else if !s.laneGranted x p then 3
  else 0

/-- The mirror circuit of a standby opens: a pairing not yet made is ACTIVE (15 R460). -/
def State.mirrorOpened (s : State) (x : Nat) : State :=
  if (s.ctx x).halo.phase = .unpaired then
    (s.modHalo x (fun h => { h with phase := .active })).raise 0x120 (some x) x (s.ctx x).halo.pairId
  else s

/-- An OPEN for this module. -/
def State.openHere (s : State) (p : Nat) (f : Flit) : State :=
  let b := s.bundleOf p
  let id := flitAt f 1 4
  let st := s.openCheck p f
  if st ≠ 0 then s.openAckOn b id st 0
  else match s.takeTag b with
  | none => s.openAckOn b id 2 0
  | some (s, rev) =>
    let q := flitAt f 24 8
    let core := fld q 28 11
    let y := if core = 2047 then s.mirrorFor p f else none
    let x := y.getD (fld q 24 4)
    let dest : CircuitEnd := if core = 2047 then .bulk x
      else .recv x core (fld q 39 4) (if fld (flitAt f 11 1) 0 2 = 2 then flitAt f 17 1 else 0)
    let c : Circuit := { port := b, tag := flitAt f 12 2, dest, connId := id, cls := bit (flitAt f 11 1) 2, src := flitAt f 5 3,
                         dst := flitAt f 8 3, rev }
    let s := s.modLinks (fun l => { l with circuits := l.circuits ++ [c] })
    let s := if core = 2047 then
        let k : Bulk := { connId := id, ctx := x, port := b, tag := rev }
        let s := s.modLinks (fun l => { l with bulks := l.bulks.filter (fun v => v.connId ≠ id) ++ [k] })
        if y.isSome then s.mirrorOpened x else s
      else s
    s.openAckOn b id 0 rev

/-- An OPEN that goes on to another module: a tag on the next hop. -/
def State.openThrough (s : State) (p : Nat) (f : Flit) : State :=
  let b := s.bundleOf p
  let id := flitAt f 1 4
  match s.route (flitAt f 8 3) id with
  | none => s.openAckOn b id 2 0
  | some q =>
    let out := s.bundleOf q
    match s.takeTag q with
    | none => s.openAckOn b id 2 0
    | some (s, t) =>
      let c : Circuit := { port := b, tag := flitAt f 12 2, dest := .through out t, connId := id,
                           cls := bit (flitAt f 11 1) 2, src := flitAt f 5 3, dst := flitAt f 8 3 }
      let s := s.modLinks (fun l => { l with circuits := l.circuits ++ [c] })
      s.sendFlit q 3 true 0 (BitVec.ofNat 512 (putFld f.toNat 96 16 t))

def State.openOn (s : State) (p : Nat) (f : Flit) : State :=
  if flitAt f 8 3 = s.code then s.openHere p f else s.openThrough p f

/-- OPEN (R339). -/
def execOpenFlit (p : Nat) (f : Flit) (s : State) : Out := quiet s (s.openOn p f)

/-- The status of CONN_OPEN for a refusal of OPEN_ACK. -/
def openStatus (st : Nat) : Nat := match st with | 1 => stConnMismatch | 2 => stResource | _ => stNoGrant

/-- An opening is that of its context's mirror circuit. -/
def State.opensMirror (s : State) (o : Opening) : Bool :=
  let h := (s.ctx o.ctx).halo
  o.bind.core = 2047 && !h.standby && h.pairId = o.bind.connId && h.partner = (o.bind.peers.map (·.code)).headD 0
    && (h.phase = .active || h.resume)


/-- An opening ends in failure: what it holds is freed (R339). -/
def State.openFails (s : State) (o : Opening) (status : Nat) : State :=
  let mine : Circuit → Bool := fun c => match c.dest with
    | .send x p ep _ => c.connId = o.bind.connId && x = o.ctx && p = o.bind.core && ep = o.bind.ep
    | _ => false
  let s := s.dropCircuits mine
  let s := o.bind.peers.foldl (fun s q => if q.port = localPort then s else s.freeTag (s.bundleOf q.port) q.tag) s
  let s := s.modLinks (fun l => { l with openings := l.openings.filter (fun v => v.bind.ticket ≠ o.bind.ticket) })
  if s.opensMirror o then s.mirrorFails o.ctx o.bind.ticket else s.finish o.bind.ticket status 0

/-- A bulk connection of a context stands. -/
def State.addBulk (s : State) (k : Bulk) : State :=
  s.modLinks (fun l => { l with bulks := l.bulks.filter (fun v => v.connId ≠ k.connId) ++ [k] })

/-- Every peer has acknowledged: the send end binds at its context's next boundary (R267); the management endpoint's
carries bulk output at once. A HALO_RESUME goes on over its mirror circuit. -/
def State.openDone (s : State) (o : Opening) : State :=
  let s := s.modLinks (fun l => { l with openings := l.openings.filter (fun v => v.bind.ticket ≠ o.bind.ticket) })
  let s := if o.bind.core = 2047 then
      let q := o.bind.peers.headD ⟨0, 0, 0, 0, 0, 0⟩
      s.addBulk { connId := o.bind.connId, ctx := o.ctx, port := s.bundleOf q.port, tag := q.tag }
    else s.modCtx o.ctx (fun c => { c with binds := c.binds ++ [o.bind] })
  if s.opensMirror o && (s.ctx o.ctx).halo.resume then s else s.finish o.bind.ticket stOK 0

/-- A peer of an opening has acknowledged on bundle `b` with its reverse tag. -/
def State.openAcked (s : State) (o : Opening) (b rev : Nat) : State :=
  match o.waiting.find? (fun i => match o.bind.peers[i]? with | some q => s.bundleOf q.port = b | none => false) with
  | none => s
  | some i =>
    let dest : CircuitEnd := if o.bind.core = 2047 then .bulk o.ctx else .send o.ctx o.bind.core o.bind.ep i
    let c : Circuit := { port := b, tag := rev, dest, connId := o.bind.connId, cls := o.bind.cls, src := s.code
                         dst := (o.bind.peers.map (·.code)).getD i 0, rev := (o.bind.peers.map (·.tag)).getD i 0 }
    let o := { o with waiting := o.waiting.filter (· ≠ i) }
    let s := s.modLinks (fun l => { l with circuits := l.circuits ++ [c]
                                           openings := l.openings.map (fun v => if v.bind.ticket = o.bind.ticket then o else v) })
    if o.waiting.isEmpty then s.openDone o else s

/-- The circuit that an acknowledgement for through traffic answers. -/
def State.throughOf (s : State) (b connId : Nat) : Option (Circuit × Nat) :=
  s.links.circuits.findSome? (fun c => match c.dest with
    | .through q t => if q = b && c.connId = connId then some (c, t) else none
    | _ => none)

def State.openAckArrives (s : State) (p : Nat) (f : Flit) : State :=
  let b := s.bundleOf p
  let id := flitAt f 1 4
  let st := flitAt f 5 1
  match s.links.openings.find? (fun o => o.bind.connId = id) with
  | some o => if st = 0 then s.openAcked o b (flitAt f 12 2) else s.openFails o (openStatus st)
  | none =>
    match s.throughOf b id with
    | none => s
    | some (c, _) =>
      if st ≠ 0 then (s.dropCircuits (fun k => k.port = c.port && k.tag = c.tag)).sendFlit c.port 3 true 0 f
      else match s.takeTag c.port with
      | none => (s.dropCircuits (fun k => k.port = c.port && k.tag = c.tag)).openAckOn c.port id 2 0
      | some (s, t) =>
        let r : Circuit := { port := b, tag := flitAt f 12 2, dest := .through c.port t, connId := id, cls := c.cls, src := c.dst,
                             dst := c.src }
        (s.modLinks (fun l => { l with circuits := l.circuits ++ [r] })).sendFlit c.port 3 true 0
          (BitVec.ofNat 512 (putFld f.toNat 96 16 t))

/-- OPEN_ACK (R339). -/
def execOpenAck (p : Nat) (f : Flit) (s : State) : Out := quiet s (s.openAckArrives p f)

/-- CONN_OPEN_TIMEOUT (R267): a peer has not answered within 100 ms. -/
def execConnOpenTimeout (connId : BitVec 32) (t : Nat) (s : State) : Out :=
  let u := s.atTick t
  quiet s (match u.links.openings.find? (fun o => o.bind.connId = connId.toNat) with
  | some o => if o.deadline ≤ u.now then u.openFails o stNoPeer else u
  | none => u)

/-! ### CLOSE and BREAK (10 R264, R265) -/

/-- The far end has closed or broken; through traffic learns of it on its other side. A mirror circuit closed unpairs
(15 R460). -/
def execCloseFlit (p : Nat) (f : Flit) (s : State) : Out :=
  done s ((s.breakWith (flitAt f 1 4) 0 (some (s.bundleOf p))).mirrorCut p (flitAt f 1 4) true)

/-- BREAK (R265); that of a mirror circuit suspends (15 R450, R451). -/
def execBreakFlit (p : Nat) (f : Flit) (s : State) : Out :=
  done s ((s.breakWith (flitAt f 1 4) (flitAt f 5 1) (some (s.bundleOf p))).mirrorCut p (flitAt f 1 4) false)

/-! ### Remote reads (08 R218) -/

/-- The context that a reply circuit serves: that of the send end or endpoint that holds its tag on the bundle
(DEDUCED, log 149). -/
def State.replyCtx (s : State) (b tag : Nat) : Option Nat :=
  match (List.range 16).find? (fun x => (s.ctx x).cores.any (fun p => (s.core ⟨x, p⟩).sendEps.any (fun e =>
      e.2.elastic && e.2.state = .bound && e.2.peers.any (fun q => q.port ≠ localPort && s.bundleOf q.port = b && q.tag = tag)))) with
  | some x => some x
  | none => s.links.circuits.findSome? (fun c => if c.port = b && c.rev = tag then
      (match c.dest with | .bulk x => some x | .recv x _ _ _ => some x | _ => none) else none)

/-- A remote read is refused: admission closed, a line outside the allocation, an eclipse on a P or G module. -/
def State.remoteClosed (s : State) (x k line n : Nat) : Bool :=
  let c := s.ctx x
  match c.image with
  | none => true
  | some i => decide (i.drams ≤ k) || !(s.stack (c.stackOf k)).remoteOpen || decide (i.heldLines k < line + n)
      || (c.holds.eclipse && s.variant ≠ 2)

/-- REMOTE_RD (R218): one request per line at the stack, or a refusal of no lines. -/
def execRemoteRd (p : Nat) (f : Flit) (s : State) : Out :=
  let k := flitAt f 4 1
  let line := flitAt f 8 4
  let n := flitAt f 12 1 % 64 + 1
  quiet s (match s.replyCtx (s.bundleOf p) (flitAt f 2 2) with
  | none => s.remoteReply p f []
  | some x =>
    if s.remoteClosed x k line n then s.remoteReply p f []
    else
      let c := s.ctx x
      let d := c.stackOf k
      let g := (s.stack d).nextGroup
      let reqs := (List.range n).map (fun i =>
        ({ ctx := x, step := 0, core := 0, j := i, line := c.img.stackLine s.variant k (line + i), ctxLine := line + i,
           write := false, dest := .remote p f, tick := s.now, group := g, at' := i } : DramReq))
      s.modStack d (fun v => { v with remote := v.remote ++ reqs, nextGroup := g + 1 }))

/-- CAL (R313): requests between equalisers change no state of the block. -/
def execCalFlit (p : Nat) (f : Flit) (s : State) : Out :=
  let _ := (p, f)
  .next s

end Sys2Proof.Machine
end

