-- ==== Sys2Proof/Machine/Fronts.lean ====
section
/-! DEFINITION. Frame groups as they arrive (12 R305-R312), loss of a partner, fault fronts and planned absences
(12 R322-R326). -/
namespace Sys2Proof.Machine
open Sys2Proof

/-! ### Which connections a module lies on (12 R325, R326) -/

/-- The module at the far end of a group-mode port. -/
def groupNext (c p : Nat) : Nat :=
  if p < 15 then groupCode (gGroup c) (gMember c + p + 1)
  else if p = 18 then groupCode (Nat.xor (gGroup c) 1) (gMember c)
  else
    let k := if p = 19 then 47 + gMember c else 3 * gMember c + (p - 15)
    let k' := 62 - k
    groupCode (gGroup c + k + 1) (if k' < 48 then k' / 3 else k' - 47)

/-- The modules of a route after `src`, as the mode's rule walks it (fuel: hops). -/
def State.path (s : State) : Nat → Nat → Nat → List Nat
  | 0, _, _ => []
  | f + 1, src, dst =>
    if src = dst then []
    else
      let next := match s.mode with
        | 0 => (s.torusHop src dst).map (s.torusNeighbour src)
        | 1 => (groupHop src dst).map (groupNext src)
        | _ => some dst
      match next with
      | none => [dst]
      | some n => n :: s.path f n dst

/-- Whether a circuit between two modules ends at or passes a third. -/
def State.passes (s : State) (src dst code : Nat) : Bool := src = code || dst = code || (s.path 256 src dst).contains code

/-- CONN_IDs of this module whose peer is a module, or whose circuit passes it. -/
def State.connsBy (s : State) (code : Nat) : List Nat :=
  let mine := (List.range 16).flatMap (fun x => (s.ctx x).cores.flatMap (fun p =>
    ((s.core ⟨x, p⟩).sendEps.filter (fun e => e.2.elastic && e.2.state = .bound
      && e.2.peers.any (fun q => q.port ≠ localPort && s.passes s.code q.code code))).map (fun e => e.2.connId)))
  (mine ++ (s.links.circuits.filter (fun c => s.passes c.src c.dst code)).map (·.connId)).foldr insertNat []

/-- CONN_IDs with an end in a context of a job: those of its cores, those that wait to bind, those of its management
endpoint. -/
def State.jobConns (s : State) (job : Nat) : List Nat :=
  let mine : Nat → Bool := fun x => (s.ctx x).phase ≠ .free && (s.ctx x).job.id = job
  (((List.range 16).filter mine).flatMap (fun x => s.endIds x (fun _ => true))
    ++ (s.links.bulks.filter (fun b => mine b.ctx)).map (·.connId)).foldr insertNat []

/-! ### Fault fronts -/

/-- The modules that the contexts of a job name, together (13 R384). -/
def State.jobModules (s : State) (job : Nat) : List Nat :=
  (List.range 16).flatMap (fun x => if (s.ctx x).job.id = job then (s.ctx x).job.modules else [])

/-- Jobs open here that name a module: identifier and modules. -/
def State.jobsOf (s : State) (code : Nat) : List (Nat × List Nat) :=
  (((List.range 16).map (fun x => (s.ctx x).job.id)).foldr insertNat []).filterMap (fun j =>
    if j ≠ 0 && (s.jobModules j).contains code then some (j, s.jobModules j) else none)

/-- UP bundles whose partner is in a set of modules. -/
def State.bundlesTo (s : State) (mods : List Nat) : List Nat :=
  (((List.range 20).filter (fun p => s.isUp p && mods.contains (s.port p).partner)).map s.bundleOf).foldr insertNat []

def State.sendFront (s : State) (b lost detector tick job hops : Nat) : State :=
  s.sendCtl b 3 [(0, 1, 0x0A), (1, 3, lost), (4, 3, detector), (8, 8, tick), (16, 4, job), (20, 1, hops)]

/-- The fronts of a loss that this module has detected (R325). -/
def State.detectFronts (s : State) (lost : Nat) : State :=
  (s.jobsOf lost).foldl (fun s j =>
    (s.bundlesTo j.2).foldl (fun s b => s.sendFront b lost s.code s.now j.1 0) s) s

/-- The partner of a port's bundle is declared lost (R323, R325; 11 R296; 15 R465) (DEDUCED, log 77). -/
def State.partnerLost (s : State) (p : Nat) : State :=
  let b := s.bundleOf p
  let code := (s.port p).partner
  let gone := (List.range 20).filter (fun q => s.bundleOf q = b && (s.port q).silent)
  let s := gone.foldl (fun s q => s.modPort q (fun v => { v with phase := .lost })) s
  let s := s.raise 0x52 none p (pack [(24, code), (64, s.now)])
  let s := if (s.time.parent.map s.bundleOf) = some b then s.holdover else s
  let onB := (s.links.circuits.filter (fun c => c.port = b || (match c.dest with | .through q _ => q = b | _ => false))).map (·.connId)
  let s := ((s.connsBy code ++ onB).foldr insertNat []).foldl (fun s i => s.breakWith i 3 none) s
  let s := s.detectFronts code
  if s.role p = 5 then s.takeOverFor code none else s

/-- A port has heard nothing for 3,500 ticks. -/
def State.portSilent (s : State) (p : Nat) : State :=
  let q := s.port p
  if q.watch && q.returnBy.isNone && decide (q.heard + 3500 ≤ s.now) then
    let member : Bool := q.phase ≠ .miswired
    let s := (s.portOff p .down).modPort p (fun v => { v with silent := member })
    let s := s.raise 0x51 none p q.partner
    let b := s.bundleOf p
    let left := (List.range 20).any (fun v => v ≠ p && s.bundleOf v = b && (s.isUp v || (s.port v).returnBy.isSome))
    if member && !left then s.partnerLost p else s
  else s

/-- PORT_SILENT (R323). -/
def execPortSilent (p t : Nat) (s : State) : Out := done s ((s.atTick t).portSilent p)

/-- A front about another module (R326). -/
def State.frontOther (s : State) (lost job : Nat) : State :=
  let ids := (s.connsBy lost).filter (fun i => (s.jobConns job).contains i)
  (ids.foldl (fun s i => s.breakWith i 3 none) s).takeOverFor lost (some job)

/-- A flit that waits belongs to a connection: its data and entry ends by tag, what opens, closes or breaks it by CONN_ID,
its credits by the tag towards the sender. -/
def Tagged.ofConn (t : Tagged) (tags ids : List Nat) : Bool :=
  if !t.ctl then tags.contains t.tag
  else match flitAt t.flit 0 1 with
    | 1 | 2 | 12 => tags.contains (flitAt t.flit 2 2)
    | 3 | 4 | 5 | 6 => ids.contains (flitAt t.flit 1 4)
    | _ => false

/-- The tags on which a connection leaves on bundle `b`. -/
def State.connTags (s : State) (b connId : Nat) : List Nat :=
  ((s.connPeers connId).filter (fun q => q.port ≠ localPort && s.bundleOf q.port = b)).map (·.tag)
    ++ ((s.links.circuits.filter (fun c => c.connId = connId)).flatMap Circuit.tags).filterMap (fun t => if t.1 = b then some t.2 else none)

/-- Connections fall silent: what waits to leave on them is discarded. -/
def State.silence (s : State) (ids : List Nat) : State :=
  (List.range 20).foldl (fun s b =>
    let tags := ids.flatMap (s.connTags b)
    let v := s.bundle b
    let rest := v.waiting.filter (fun t => !t.ofConn tags ids)
    if rest.length = v.waiting.length then s else s.setBundle b { v with waiting := rest }) s

/-- A front that names this module (R326; 15 R466) (DEDUCED, log 78). -/
def State.frontMine (s : State) (p job : Nat) : State :=
  let s := s.raise 0x54 none p job
  let ids := s.jobConns job
  let s := ids.foldl (fun s i =>
    let s := (s.breakConn i (fun _ _ => false)).dropCircuits (fun c => c.connId = i)
    (s.modLinks (fun l => { l with bulks := l.bulks.map (fun b => if b.connId = i then { b with broken := true } else b) })).bulkEvent i)
    (s.silence ids)
  (List.range 16).foldl (fun s x => if s.mirrored x && (s.ctx x).job.id = job then s.frontSelf x else s) s

/-- A front arrives (R326). -/
def State.frontArrives (s : State) (p : Nat) (f : Flit) : State :=
  let lost := flitAt f 1 3
  let job := flitAt f 16 4
  let hops := flitAt f 20 1
  if s.links.fronts.any (fun v => v.lost = lost && v.job = job && decide (s.now < v.tick + 10000000)) then s
  else
    let s := s.modLinks (fun l => { l with
      fronts := l.fronts.filter (fun v => decide (s.now < v.tick + 10000000)) ++ [⟨lost, job, s.now⟩] })
    let s := s.raise 0x53 none p (pack [(24, lost), (32, job), (8, hops)])
    let s := if lost = s.code then s.frontMine p job else s.frontOther lost job
    ((s.bundlesTo (s.jobModules job)).filter (fun b => b ≠ s.bundleOf p)).foldl (fun s b =>
      s.sendFront b lost (flitAt f 4 3) (flitAt f 8 8) job (hops + 1)) s

/-- FAULT_FRONT (R326). -/
def execFaultFront (p : Nat) (f : Flit) (s : State) : Out := done s (s.frontArrives p f)

/-! ### Planned absences (R324) -/

/-- Connections that end at or pass a module that resets as a whole break, as their reader is reset (DEDUCED,
log 76). -/
def State.absenceArrives (s : State) (p : Nat) (f : Flit) : State :=
  if !s.isUp p then s
  else
    let code := flitAt f 2 3
    let b := Nat.min (flitAt f 8 8) (s.now + 60000000000)
    let s := (s.portOff p .absentPlanned).modPort p (fun v => { v with returnBy := some b })
    let s := if flitAt f 1 1 = 0 then s else s.partnerResets p
    if flitAt f 1 1 = 2 then (s.connsBy code).foldl (fun s i => s.breakWith i 2 none) s else s

/-- ABSENCE (R324). -/
def execAbsence (p : Nat) (f : Flit) (s : State) : Out := done s (s.absenceArrives p f)

/-- ABSENCE_RETURN_BY (R324): a port not UP again is watched from its RETURN_BY. -/
def execAbsenceReturnBy (p t : Nat) (s : State) : Out :=
  let u := s.atTick t
  quiet s (match (u.port p).returnBy with
  | some r => if r ≤ u.now && !u.isUp p then
      u.modPort p (fun v => { v with heard := r, returnBy := none, watch := true }) else u
  | none => u)

/-! ### Map flits (R307, R310, R312, R322) -/

/-- What is left of a replay buffer once an ACK covers groups. -/
def ackGroups (a : Nat) (l : List Group) : List Group :=
  match findIdxOpt (fun (g : Group) => g.fseq = a) l with
  | some (i, _) => l.drop (i + 1)
  | none => l

/-- ACK, NAK and credits of a map flit. -/
def Bundle.mapped (b : Bundle) (m : Flit) : Bundle :=
  let w := m.toNat
  let left := ackGroups (fld w 0 12) b.replay
  { b with replay := left, resent := if bit w 12 then b.resent + left.length else b.resent
           credits := (List.range 5).map (fun v => b.credits.getD v 0 + fld w (16 + 12 * v) 12) }

/-- A heartbeat from the partner itself, and its time depth. -/
def Port.heartbeat (q : Port) (m : Flit) (now : Nat) : Port :=
  let w := m.toNat
  if fld w 472 24 = q.partner && fld w 496 5 = q.partnerPort then
    { q with tdepth := fld w 466 4, heard := if bit w 464 then now else q.heard }
  else q

/-- The map flit of a data or idle group: a MISWIRED port takes heartbeats alone (R317). -/
def State.takeMap (s : State) (p : Nat) (m : Flit) : State :=
  let s := s.modPort p (fun q => ({ q with groups := q.groups + 1 } : Port).heartbeat m s.now)
  if s.isUp p then let b := s.bundleOf p; (s.setBundle b ((s.bundle b).mapped m)).pump b else s

/-- The port is past training. -/
def State.inService (s : State) (p : Nat) : Bool := s.isUp p || (s.port p).phase = .miswired

/-- The last FSEQ sent, as an idle group's header names it (R304). -/
def State.seeFseq (s : State) (p : Nat) (head : BitVec 20) : State :=
  if s.isUp p then let b := s.bundleOf p; s.setBundle b { s.bundle b with seen := bvf head 0 12 } else s

/-- IDLE_FRAME_GROUP (R306). -/
def execIdleFrameGroup (p : Nat) (g : IdleGroup) (t : Nat) (s : State) : Out :=
  let u := s.atTick t
  quiet s (if u.inService p then (u.seeFseq p g.head).takeMap p g.map else u)

/-! ### Data groups (R308, R311-R313) -/

/-- The first run that holds flit `i`: virtual lane, control, tag. -/
def runOf (m : Flit) (i : Nat) : Option (Nat × Bool × Nat) :=
  (List.range 8).findSome? (fun k =>
    let r := fld m.toNat (80 + 48 * k) 48
    if decide (fld r 0 7 ≤ i) && decide (i < fld r 0 7 + fld r 7 7) then some (fld r 14 3, bit r 17, fld r 18 16) else none)

/-- The flits of a group of width `w` in order: flit `f` lies in logical lane `f` mod `w`, as the frames' LANE puts them
(R305). -/
def deskew (w : Nat) (frames : List Frame) : List Flit :=
  (List.range (10 * w)).map (fun f =>
    match frames.find? (fun g => bvf g.head 14 3 = f % w) with
    | some g => g.flits.getD (f / w) 0
    | none => 0)

/-- The FSEQ of a group, from the frame of its lane 0. -/
def groupFseq (frames : List Frame) : Nat :=
  match frames.find? (fun g => bvf g.head 14 3 = 0) with
  | some g => bvf g.head 0 12
  | none => 0

/-- The flits of a data group with their runs, in flit order. -/
def groupFlits (width : Nat) (l : List Flit) : List Tagged :=
  let m := l.headD 0
  (List.range (Nat.min l.length (10 * widthLanes width))).filterMap (fun i =>
    if i = 0 then none
    else (runOf m i).bind (fun r => if r.1 ≤ 4 then some { vl := r.1, ctl := r.2.1, tag := r.2.2, flit := l.getD i 0 } else none))

/-- A control flit, as the row of its KIND takes it. The ps of a time message's arrival is the world's. The tag of its run
names the circuit of a MGMT flit (log 75). -/
def State.control (s : State) (p t tag : Nat) (f : Flit) : State :=
  let ps := Config.residencePs s.power.draws % 1000
  match flitAt f 0 1 with
  | 0x01 => after (execEntryEnd p f s) s
  | 0x02 => after (execEntryCredit p f s) s
  | 0x03 => after (execOpenFlit p f s) s
  | 0x04 => after (execOpenAck p f s) s
  | 0x05 => after (execCloseFlit p f s) s
  | 0x06 => after (execBreakFlit p f s) s
  | 0x07 => after (execTimeReq p f t ps s) s
  | 0x08 => after (execTimeResp p f t ps s) s
  | 0x09 => after (execMgmt p ⟨tag, f⟩ s) s
  | 0x0A => after (execFaultFront p f s) s
  | 0x0B => after (execAbsence p f s) s
  | 0x0C => after (execRemoteRd p f s) s
  | 0x0D => after (execCalFlit p f s) s
  | _ => s

/-- A flit of VL 0 or VL 1 that goes on to another bundle stays in its buffer until it leaves there (R310). -/
def State.passesOn (s : State) (b : Nat) (q : Tagged) : Option (Nat × Tagged) :=
  if 2 ≤ q.vl || q.circuit = 0 then none
  else match s.circuit b q.circuit with
    | some c => match c.dest with
      | .through o t => some (o,
        { vl := c.vl, ctl := q.ctl, tag := if q.ctl then 0 else t
          flit := if q.ctl then BitVec.ofNat 512 (putFld q.flit.toNat 16 16 t) else q.flit, origin := some b })
      | _ => none
    | none => none

/-- One flit is taken: through traffic waits for its next bundle, anything else leaves its buffer at once. -/
def State.takeFlit (s : State) (p t : Nat) (q : Tagged) : State :=
  let b := s.bundleOf p
  match s.passesOn b q with
  | some (o, u) => s.queueFlit o u
  | none =>
    let s := s.freeFlit b q.vl
    if q.ctl then s.control p t q.tag q.flit else s.dataFlit b q.tag q.flit

/-- Groups that follow in FSEQ order are delivered, whichever member carried them (fuel: the groups held, and one). -/
def State.deliver (p t : Nat) : Nat → State → State
  | 0, s => s
  | f + 1, s =>
    let b := s.bundleOf p
    let v := s.bundle b
    let next := (v.got + 1) % 4096
    match v.held.find? (fun g => g.fseq = next) with
    | none => s
    | some g =>
      let s := s.setBundle b { v with got := next, held := v.held.filter (fun h => h.fseq ≠ next) }
      State.deliver p t f (g.flits.foldl (fun s q => s.takeFlit g.port t q) s)

/-- A data group that decodes: duplicates go, others wait for their turn. -/
def State.takeGroup (s : State) (p t : Nat) (frames : List Frame) : State :=
  let fseq := groupFseq frames
  let flits := deskew (widthLanes (s.port p).width) frames
  let s := s.modPort p (fun q => { q with fails := 0 })
  let s := s.takeMap p (flits.headD 0)
  let b := s.bundleOf p
  let v := s.bundle b
  let ahead := (fseq + 4096 - v.got) % 4096
  let s := if ahead = 0 || decide (512 < ahead) || v.held.any (fun g => g.fseq = fseq) then s
    else
      let g : Group := ⟨fseq, groupFlits (s.port p).width flits, p⟩
      let used := g.flits.foldl (fun (l : List Nat) q => l.set q.vl (l.getD q.vl 0 + 1)) v.buffered
      let s := s.setBundle b { v with held := v.held ++ [g], buffered := used }
      State.deliver p t ((s.bundle b).held.length + 1) s
  s.sendIdle p

/-- A data group that fails FEC: NAK, and after 16 in a row the port goes DOWN and retrains. -/
def State.badGroup (s : State) (p : Nat) : State :=
  let b := s.bundleOf p
  let s := s.setBundle b { s.bundle b with nak := true }
  let s := s.modPort p (fun q => { q with fails := q.fails + 1, groups := q.groups + 1 })
  if 16 ≤ (s.port p).fails then s.portOff p .down else s.sendIdle p

/-- The frames of a group, one for each lane that carries one: header and payload (R304, R305). -/
def framesOf (heads : List (BitVec 20)) (payloads : List (List Flit)) : List Frame := List.zipWith Frame.mk heads payloads

/-- DATA_FRAME_GROUP (R311, R312) (DESIGN CHOICE, log 155). -/
def execDataFrameGroup (p : Nat) (ok : Bool) (heads : List (BitVec 20)) (payloads : List (List Flit)) (t : Nat) (s : State) : Out :=
  let u := s.atTick t
  let frames := framesOf heads payloads
  done s (if u.isUp p then (if ok then u.takeGroup p t frames else u.badGroup p)
    else if u.inService p && ok then u.takeMap p ((deskew (widthLanes (u.port p).width) frames).headD 0) else u)

/-- A group is missing: later ones are held, or the partner's last FSEQ lies ahead. -/
def Bundle.gap (b : Bundle) : Bool :=
  !b.held.isEmpty || (b.seen ≠ b.got && decide ((b.seen + 4096 - b.got) % 4096 ≤ 512))

/-- FSEQ_GAP_TIMEOUT (R312): a gap in FSEQ order has lasted 1 µs. -/
def execFseqGapTimeout (p : Nat) (s : State) : Out :=
  let b := s.bundleOf p
  quiet s (if s.isUp p && (s.bundle b).gap then (s.setBundle b { s.bundle b with nak := true }).sendIdle p else s)

end Sys2Proof.Machine
end

