-- ==== Sys2Proof/Machine/Txn.lean ====
section
/-! DEFINITION. Settings and transactions over the mailbox (13 R361, R367-R373; 11 R287-R290). -/
namespace Sys2Proof.Machine
open Sys2Proof

/-! ### Reading and writing one setting (R367, R368) -/

/-- The SID in ARG. -/
def argSid (q : Cmd) : Nat := argFld q 0 24

/-- SETTING_READ (R367). -/
def execSettingRead (m : Nat) (q : Cmd) (s : State) : Out :=
  quiet s (s.serve m q { op := 0x20, who := .all, early := true, arg := 2 ^ 32 - 1 } (fun s =>
    match sidInfo s.variant (argSid q) with
    | none => refuse s stUnknownSetting
    | some _ => (s, { payload := s.settingEntry (argSid q) })))

/-- The topology settings and MBOX_AGENT, which m0 may always write (R361). -/
def boardSetting (num : Nat) : Bool := [0x10, 0x11, 0x12, 0x13, 0x14, 0x20].contains num

/-- The number of the next SET or acceptance (DESIGN CHOICE, log 16). -/
def State.nextOrder (s : State) : State × Nat :=
  let n := s.mbox.accepted + 1
  ({ s with mbox := { s.mbox with accepted := n } }, n)

/-- The seal rates would exceed what the ledger signs (14 R419) (DEDUCED, log 81). -/
def State.sealsOver (s : State) (staged : List Staged) : Bool := s.isG && decide (3000 < s.sealSum staged)

/-- A class L write waits for its context's boundary; a second replaces the first. -/
def State.stageLone (s : State) (sid v : Nat) : State :=
  let (s, n) := s.nextOrder
  { s with mbox := { s.mbox with lone := s.mbox.lone.filter (fun e => e.sid ≠ sid) ++ [⟨sid, v, n⟩] } }

/-- A lone write, by class (R368). -/
def State.writeSetting (s : State) (sid v : Nat) : State × Reply :=
  let st := s.settingCheck sid v
  let cls := ((sidInfo s.variant sid).map (·.1)).getD 0
  if st ≠ stOK then refuse s st
  else match cls with
  | 0 => if sidNum sid = 0x54 && s.sealsOver [⟨sid, v, 0⟩] then refuse s stRange else okay (s.applySetting sid v)
  | 1 => if (s.ctx (sidInst sid)).active then (s.stageLone sid v, { status := stPending }) else okay (s.applySetting sid v)
  | 2 => if s.unitRuns sid then refuse s stUnitRunning else okay (s.applySetting sid v)
  | _ => refuse s stPairedField

/-- SETTING_WRITE (R361, R368). -/
def execSettingWrite (m : Nat) (q : Cmd) (s : State) : Out :=
  let who : Who := if boardSetting (sidNum (argSid q)) then .ownerOrBoard else .owner
  quiet s (s.serve m q { op := 0x21, who, early := true, arg := 2 ^ 32 - 1, len := fun n => n = 8 } (fun s =>
    s.writeSetting (argSid q) (leAt q.payload 0 8)))

/-! ### The open transaction (R370, R373) -/

/-- BEGIN (R370). -/
def execBeginTxn (m : Nat) (q : Cmd) (s : State) : Out :=
  quiet s (s.serve m q { op := 0x22, who := .owner } (fun s =>
    if s.mbox.txn.isSome then refuse s stTxnBusy
    else okay { s with mbox := { s.mbox with txn := some [], txnSlot := m } }))

/-- Stage a value: in the place of the SID's first SET. -/
def stageIn (l : List Staged) (e : Staged) : List Staged :=
  if l.any (fun q => q.sid = e.sid) then l.map (fun q => if q.sid = e.sid then e else q) else l ++ [e]

/-- SET (R370). -/
def execSetStage (m : Nat) (q : Cmd) (s : State) : Out :=
  quiet s (s.serve m q { op := 0x23, who := .owner, arg := 2 ^ 32 - 1, len := fun n => n = 8 } (fun s =>
    match s.mbox.txn with
    | none => refuse s stTxnNone
    | some l =>
      let sid := argSid q
      let v := leAt q.payload 0 8
      let st := s.settingCheck sid v
      if st ≠ stOK then refuse s st
      else if !l.any (fun e => e.sid = sid) && decide (512 ≤ l.length) then refuse s stTxnFull
      else
        let (s, n) := s.nextOrder
        okay { s with mbox := { s.mbox with txn := some (stageIn l ⟨sid, v, n⟩) } }))

/-- ROLLBACK (R373). -/
def execRollback (m : Nat) (q : Cmd) (s : State) : Out :=
  quiet s (s.serve m q { op := 0x25, who := .owner } (fun s =>
    if s.mbox.txn.isSome then okay (s.rollBack m 0) else refuse s stTxnNone))

/-- TXN_READ (R365): the staged settings from the one wanted. -/
def execTxnRead (m : Nat) (q : Cmd) (s : State) : Out :=
  quiet s (s.serve m q { op := 0x26, who := .all, arg := 0xFFFF } (fun s =>
    match s.mbox.txn with
    | none => refuse s stTxnNone
    | some l => (s, { detail := l.length, payload :=
        (((l.drop (argFld q 0 16)).take 255).flatMap (fun e => bytesOf 16 (pack [(64, e.sid), (64, e.value)]))) })))

/-! ### COMMIT (R371; 11 R288) -/

/-- The profile that a transaction stages. -/
def stagedPace (l : List Staged) : Option Nat := (l.find? (fun e => e.sid = 1)).map (·.value)

/-- A profile is no faster than the lead of every image installed or staged (11 R288; 01 R22). -/
def State.leadAllows (s : State) (p : Nat) : Bool :=
  (List.range 16).all (fun x => ((s.ctx x).image.toList ++ (s.ctx x).staged.toList).all (fun (i : Image) => decide (p ≤ i.lead)))

/-- The first sum that would fail: the staged settings that enter it. -/
def State.failedSum (s : State) (l : List Staged) : Option (List Staged) :=
  match [0, 1, 2, 3].find? (fun q => decide (1 < (s.onQuad q).length) && decide (100 < s.netSum l q)) with
  | some q => some (l.filter (fun e => sidNum e.sid = 0x52 && (s.onQuad q).contains (sidInst e.sid)))
  | none => if s.sealsOver l then
      some (l.filter (fun e => sidNum e.sid = 0x54 && s.liveCtxs.contains (sidInst e.sid))) else none

/-- The SID among settings whose latest SET came last. -/
def latestSid (l : List Staged) : Nat :=
  (l.foldl (fun (m : Nat × Nat) e => if m.1 < e.order then (e.order, e.sid) else m) (0, 0)).2

/-- The checks of COMMIT in the order of R371: status and DETAIL. `tick` is none in boundary mode. -/
def State.commitCheck (s : State) (l : List Staged) (tick : Option Nat) : Nat × Nat :=
  let pace := stagedPace l
  let sid : Nat := if pace.isSome then 1 else 0
  let badTick : Bool := match tick with
    | none => pace.isSome
    | some t => decide (t < s.now + 100000) || decide (s.now + 10000000000 < t)
  if badTick then (stApplyTime, sid)
  else if pace.isSome && s.time.pend.isSome then (stPacePending, sid)
  else if !((pace.map s.leadAllows).getD true) then (stLeadProfile, sid)
  else if s.mbox.committed.isSome then (stTxnPending, 0)
  else match l.find? (fun e => ((sidInfo s.variant e.sid).map (·.1)) = some 2 && s.unitRuns e.sid) with
    | some e => (stUnitRunning, e.sid)
    | none => match s.failedSum l with
      | some f => (stRange, latestSid f)
      | none => (stOK, 0)

/-- The parts of a boundary-mode transaction that apply when it is committed (R372). -/
def State.partNow (s : State) (e : Staged) : Bool := !(s.isL e.sid && (s.ctx (sidInst e.sid)).active)

/-- A transaction is committed: what applies now applies; a tick that the calendar defers is deferred (11 R290, R298). -/
def State.commitNow (s : State) (m : Nat) (l : List Staged) (tick : Option Nat) : State :=
  let (s, n) := s.nextOrder
  let eff := tick.map s.deferred
  let s := { s with mbox := { s.mbox with txn := none, committed := some ⟨eff, l, 0, n, m⟩ } }
  match tick, eff with
  | some t, some e =>
    let s := match stagedPace l with
      | some p => { s with time := { s.time with pend := some ⟨e, p, e ≠ t⟩ } }
      | none => s
    (if e = t then s else s.raise 0x42 none 0 e).txnDone
  | _, _ => s.applyParts s.partNow

def State.commit (s : State) (m : Nat) (tick : Option Nat) : State × Reply :=
  match s.mbox.txn with
  | none => refuse s stTxnNone
  | some l =>
    let r := s.commitCheck l tick
    if r.1 ≠ stOK then refuse s r.1 r.2 else okay (s.commitNow m l tick)

/-- The bits of ARG that select a row of the table, set to the row's value. -/
def withArg (q : Cmd) (lo len v : Nat) : Cmd := { q with arg := bvp q.arg lo len v }

/-- COMMIT with MODE 0 (R371, R372) (DEDUCED, log 80). -/
def execCommitBoundary (m : Nat) (q : Cmd) (s : State) : Out :=
  let q := withArg q 0 1 0
  quiet s (s.serve m q { op := 0x24, who := .owner, arg := 1, len := fun n => n = 8 } (fun s => s.commit m none))

/-- COMMIT with MODE 1 (R288, R371, R372). -/
def execCommitTick (m : Nat) (q : Cmd) (s : State) : Out :=
  let q := withArg q 0 1 1
  quiet s (s.serve m q { op := 0x24, who := .owner, arg := 1, len := fun n => n = 8 } (fun s =>
    s.commit m (some (leAt q.payload 0 8))))

end Sys2Proof.Machine
end

