-- ==== Sys2Proof/Machine/Access.lean ====
section
/-! DEFINITION. Memory access over the mailbox (02 R52-R56; 07 R177; 13 R354, R365), debug holds and breakpoints
(01 R34; 03 R66), and what they let a master see and change (01 R35; 03 R94; 06 R169; 10 R271). -/
namespace Sys2Proof.Machine
open Sys2Proof

/-! ### Checks of an address (R52) -/

/-- What addresses and byte counts are multiples of in a region (R365); 64 for a reserved address of the memory half. -/
def regionUnit (a : Nat) : Nat := if 3848290697216 ≤ a then 8 else 64

/-- The unpopulated half of a stack's window on a P module (R54). -/
def upperHalf (variant a n : Nat) : Bool :=
  variant = 1 && (decide (8589934592 ≤ a % 17179869184) || decide (8589934592 ≤ (a + n - 1) % 17179869184))

/-- The status of an access before anything is read or written (R55, R365): a reserved address comes before its
alignment. -/
def State.spanCheck (s : State) (a n : Nat) : Nat :=
  match regionOf a with
  | none => stAddrUnmapped
  | some r =>
    let b := regionSpan r
    if b.1 + b.2 < a + n || (r = 0 && upperHalf s.variant a n) then stAddrUnmapped
    else if a % regionUnit a ≠ 0 || n % regionUnit a ≠ 0 then stBadArg else stOK

/-! ### Who owns a line (R55) -/

/-- Contexts that own a line of an access to DRAM, base memory or core memory. -/
def State.owners (s : State) (a n : Nat) : List Nat :=
  if a < 3298534883328 then
    ((List.range (n / 64)).filterMap (fun i => s.lineOwner (a + 64 * i))).foldr insertNat []
  else []

/-! ### Reading -/

/-- The line at a module address of the memory regions, as the first read after release would find it (07 R177). -/
def State.lineRead (s : State) (a : Nat) : Line :=
  match regionOf a with
  | some 0 => s.dramRead (a / 17179869184) (a % 17179869184 / 64)
  | some 1 =>
    let o := a - 1099511627776
    (match s.lineOwner a with
    | some x => s.baseLineAt x (s.ctx x).readStep (o / 67108864) (o % 67108864 / 64)
    | none => Memory.line s.mem a)
  | some 2 =>
    let o := a - 2199023255552
    let l := o / 524288
    let n := match s.lineOwner a with | some x => (s.ctx x).readStep | none => 0
    s.lineAt l (s.coreAt l) n (o % 524288 / 64)
  | _ => Memory.line s.mem a

/-- The word at a module address of the windows and the capability block. -/
def State.wordRead (s : State) (a : Nat) : Nat :=
  match regionOf a with
  | some 4 => s.ctlWord ((a - 3848290697216) / 65536) ((a - 3848290697216) % 65536)
  | some 5 => s.mgmtWord (a - 16492674416640)
  | _ => s.capWord (a - 16492691193856)

/-- The bytes of an access. -/
def State.readBytes (s : State) (a n : Nat) : List Byte :=
  if regionUnit a = 64 then (List.range (n / 64)).flatMap (fun i => lineBytes (s.lineRead (a + 64 * i)))
  else (List.range (n / 8)).flatMap (fun i => bytesOf 8 (s.wordRead (a + 8 * i)))

/-- The contexts that own the lines are not running, or stand in a freeze or hold (R55). -/
def State.readable (s : State) (a n : Nat) : Bool :=
  (s.owners a n).all (fun x => !(s.ctx x).active || (s.ctx x).frozen)

def memReadSpec : CmdSpec := { op := 0x50, who := .all, arg := 2 ^ 64 - 1 }

/-- Address and byte count of a MEM_READ. -/
def readSpan (arg : Nat) : Nat × Nat := (fld arg 0 48, fld arg 48 16)

/-- A MEM_READ that its owner lets through is answered; another is parked (R354) (DEDUCED, log 82). -/
def State.memReadServe (s : State) (m : Nat) (q : Cmd) : State :=
  let st := s.gate m q memReadSpec
  let (a, n) := readSpan q.arg.toNat
  if st ≠ stOK then s.respond m q.seq { status := st }
  else if n = 0 || decide (4080 < n) then s.respond m q.seq { status := stBadArg }
  else
    let st := s.spanCheck a n
    if st ≠ stOK then s.respond m q.seq { status := st }
    else if s.readable a n then s.respond m q.seq { payload := s.readBytes a n }
    else s.modSlot m (fun v => { v with inService := true, parked := some s.now })

/-- MEM_READ (R55, R354). -/
def execMemRead (m : Nat) (q : Cmd) (s : State) : Out :=
  quiet s (
    if !s.mcRuns || decide (8 ≤ m) then s
    else if (s.slot m).busy then s.slotBusy m q.seq
    else
      let u := s.post m (cmdBytes q 0x50)
      if !u.servesSlot m then u
      else ((u.modSlot m (fun v => { v with posted := false })).mboxTimers.renew m).memReadServe m q)

/-- PARKED_READ_SERVED (R354): the context has frozen or is held. -/
def execParkedReadServed (m : Nat) (s : State) : Out :=
  let v := s.slot m
  let (a, n) := readSpan (leAt v.command 8 8)
  quiet s (if s.mcRuns && v.parked.isSome && s.readable a n then
    s.respond m (leAt v.command 2 1) { payload := s.readBytes a n } else s)

/-- PARKED_READ_TIMEOUT (R354): 100 ms have gone by. -/
def execParkedReadTimeout (m t : Nat) (s : State) : Out :=
  let u := s.atTick t
  quiet s (match (u.slot m).parked with
  | some k => if k + 100000000 ≤ u.now then
      u.respond m (leAt (u.slot m).command 2 1) { status := stContextRunning } else u
  | none => u)

/-! ### Writing -/

/-- A debug hold is in place (R34, R55). -/
def Ctx.debugHeld (x : Ctx) : Bool := x.holds.debug && (x.frozen || !x.active)

/-- A line of instruction memory lies in the bank from which its core fetches. -/
def State.inActiveBank (s : State) (a : Nat) : Bool :=
  let o := a - 3298534883328
  (s.coreAt (o / 131072)).seq.bank = decide (65536 ≤ o % 131072)

/-- The program core that a line of core memory belongs to, or 7FFh. -/
def State.coreOfLine (s : State) (a : Nat) : Nat :=
  if regionOf a = some 2 then ((s.programOf ((a - 2199023255552) / 524288)).map (·.2)).getD 2047 else 2047

/-- One line is written; under a hold it is an intervention of its context (14 R410). -/
def State.writeLine (s : State) (a : Nat) (b : List Byte) : State :=
  let p := s.coreOfLine a
  let s := s.placeLine a b
  match s.lineOwner a with
  | some x => if (s.ctx x).debugHeld then s.intervene x 4 p [(40, bytesOf 8 a), (64, b)] else s
  | none => s

/-- The status of a write that lies within one region (DEDUCED, log 83; DEDUCED, log 84). -/
def State.writeCheck (s : State) (a n : Nat) : Nat :=
  match regionOf a with
  | some 5 => stReadOnly
  | some 6 => stReadOnly
  | some 3 => if (List.range (n / 64)).any (fun i => s.inActiveBank (a + 64 * i)) then stActiveBank else stOK
  | _ => if (s.owners a n).all (fun x => !(s.ctx x).active || (s.ctx x).debugHeld) then stOK else stContextRunning

/-- MEM_WRITE (R55): every item of a core control window is read only, so a write there is ignored (00 R11). -/
def execMemWrite (m : Nat) (q : Cmd) (s : State) : Out :=
  let a := argFld q 0 48
  let n := q.payload.length
  done s (s.serve m q { op := 0x51, who := .owner, arg := 2 ^ 48 - 1,
                        len := fun n => decide (64 ≤ n) && decide (n ≤ 4032) } (fun s =>
    let st := s.spanCheck a n
    if st ≠ stOK then refuse s st
    else
      let st := s.writeCheck a n
      if st ≠ stOK then refuse s st
      else if regionUnit a = 8 then okay s
      else okay ((List.range (n / 64)).foldl (fun s i =>
        s.writeLine (a + 64 * i) ((q.payload.drop (64 * i)).take 64)) s)))

/-! ### Debug holds and breakpoints (01 R33, R34; 03 R66) -/

/-- A command on a context that is not created. -/
def State.needCtx (s : State) (x : Nat) (go : State × Reply) : State × Reply :=
  if (s.ctx x).phase = .free then refuse s stNoContext else go

/-- DEBUG_HOLD (R34): complete once the hold is in place. -/
def execDebugHold (m : Nat) (q : Cmd) (s : State) : Out :=
  quiet s (s.serve m q { op := 0x52, who := .owner, ctx := true } (fun s =>
    s.needCtx q.ctx (s.accept m q 0x52 q.ctx 0 [] (fun s t =>
      let s := s.modCtx q.ctx (fun c => { c with holds := { c.holds with debug := true } })
      if (s.ctx q.ctx).debugHeld then s.finish t stOK 0 else s))))

/-- DEBUG_RELEASE (R363): the hold is released at once; one asked for and not yet in place is withdrawn (DESIGN
CHOICE, log 86). -/
def execDebugRelease (m : Nat) (q : Cmd) (s : State) : Out :=
  done s (s.serve m q { op := 0x53, who := .owner, ctx := true } (fun s =>
    s.needCtx q.ctx (
      let s := s.modCtx q.ctx (fun c => { c with holds := { c.holds with debug := false } })
      let s := s.finishAll 0x52 q.ctx stNotHeld 0
      okay (if (s.ctx q.ctx).item = 0 then s else s.boundaryGo q.ctx))))

def State.armBreaks (s : State) (x : Nat) (on : Bool) : State × Reply :=
  s.needCtx x (okay (s.modCtx x (fun c => { c with armed := on })))

/-- BRK_ARM with ARG[0] = 1 (R66). -/
def execBrkArm (m : Nat) (q : Cmd) (s : State) : Out :=
  let q := withArg q 0 1 1
  quiet s (s.serve m q { op := 0x54, who := .owner, ctx := true, arg := 1 } (fun s => s.armBreaks q.ctx true))

/-- BRK_ARM with ARG[0] = 0 (R66). -/
def execBrkDisarm (m : Nat) (q : Cmd) (s : State) : Out :=
  let q := withArg q 0 1 0
  quiet s (s.serve m q { op := 0x54, who := .owner, ctx := true, arg := 1 } (fun s => s.armBreaks q.ctx false))

/-- SEM_SET (10 R271). -/
def execSemSet (m : Nat) (q : Cmd) (s : State) : Out :=
  let p := argFld q 0 11
  let n := argFld q 16 6
  let v := argFld q 32 31
  quiet s (s.serve m q { op := 0x55, who := .owner, ctx := true, arg := 0x7FFFFFFF003F07FF } (fun s =>
    let c := s.ctx q.ctx
    s.needCtx q.ctx (
      if decide (c.ncores ≤ p) || decide (48 ≤ n) then refuse s stBadArg
      else if !(c.active && c.frozen) && !c.held then refuse s stContextRunning
      else
        let s := s.modCoreOf q.ctx p (fun k => { k with sems := k.sems.modify {} n (fun e => { e with value := v }) })
        okay (s.intervene q.ctx 2 p [(40, bytesOf 1 n), (44, bytesOf 4 v), (48, bytesOf 1 m)]))))

/-- VREG_READ (06 R169). -/
def execVregRead (m : Nat) (q : Cmd) (s : State) : Out :=
  let p := argFld q 0 11
  let r := argFld q 16 6
  let n := argFld q 24 2
  quiet s (s.serve m q { op := 0x56, who := .all, ctx := true, arg := 0x033F07FF } (fun s =>
    let c := s.ctx q.ctx
    s.needCtx q.ctx (
      if decide (c.ncores ≤ p) || n = 0 || decide (64 < r + n) then refuse s stBadArg
      else if !c.held then refuse s stNotHeld
      else
        let k := s.seen (c.logical p)
        (s, { payload := (List.range n).flatMap (fun i => bytesOf 1024 (k.vregs.get 0 (r + i)).toNat) }))))

/-- The entry at a position from the head: a gather takes its sub-queues in turn from RDPTR (DEDUCED, log 87). -/
def RecvEp.entryAt (e : RecvEp) (pos : Nat) : Nat × Option Entry :=
  if e.kind = 2 then
    let i := (e.rdptr + pos) % Nat.max 1 e.senders
    (i, ((e.sub i).entries)[pos / Nat.max 1 e.senders]?)
  else (0, ((e.sub 0).entries)[pos]?)

/-- QUEUE_READ (10 R271, R272). -/
def execQueueRead (m : Nat) (q : Cmd) (s : State) : Out :=
  let p := argFld q 0 11
  let ep := argFld q 16 4
  let pos := argFld q 32 10
  let j := argFld q 48 6
  quiet s (s.serve m q { op := 0x57, who := .all, ctx := true, arg := 0x3F03FF000F07FF } (fun s =>
    let c := s.ctx q.ctx
    s.needCtx q.ctx (
      if c.ncores ≤ p then refuse s stBadArg
      else if !c.held then refuse s stNotHeld
      else
        let k := s.core ⟨q.ctx, p⟩
        let e := k.recvEps.get {} ep
        if e.state = .unbound then (s, { payload := bytesOf 8 0 })
        else
          let r := e.entryAt pos
          let lines := match r.2 with | some h => ((k.entryLines e r.1 h).drop j).take 63 | none => []
          (s, { payload := bytesOf 8 (headWord e.elastic r.1 r.2) ++ lines.flatMap lineBytes }))))

/-- IMEM_OVERRIDE (03 R94). -/
def execImemOverride (m : Nat) (q : Cmd) (s : State) : Out :=
  let p := argFld q 0 11
  let b := argFld q 16 10
  done s (s.serve m q { op := 0x58, who := .owner, ctx := true, arg := 0x03FF07FF, len := fun n => n = 64 } (fun s =>
    let c := s.ctx q.ctx
    s.needCtx q.ctx (
      if c.ncores ≤ p then refuse s stBadArg
      else if !c.held then refuse s stNotHeld
      else
        let l := c.logical p
        let s := { s with mem := Memory.write s.mem (imemAddr l (s.coreAt l).seq.bank b) q.payload }
        okay (s.intervene q.ctx 3 p [(40, bytesOf 2 b), (64, q.payload)]))))

end Sys2Proof.Machine
end

