-- ==== Sys2Proof/Machine/Cells.lean ====
section
/-! DEFINITION. The slot table's checks: routes, legs, claims, phases, seam lanes, grants (09 R227-R241), and the
resource checks of a load (10 R249, R252, R253; 08 R493). -/
namespace Sys2Proof.Machine
open Sys2Proof

/-! ### Routes (R227, R228, R235) -/

/-- An end of a leg. -/
inductive LegEnd where
  | core (p : Nat)
  | router (p : Nat)
  | mem (j : Nat)
  | stream (k : Nat)
  deriving DecidableEq, Repr

/-- One link of a route: kind 0 site up, 1 site down, 2 seam; its site, or the quadrants it joins in order. -/
structure Hop where
  kind : Nat
  a : Nat
  b : Nat
  deriving DecidableEq, Repr

/-- A leg of a transit entry: steps from the bound action to injection, ends, lanes. -/
structure Leg where
  inj : Nat
  src : LegEnd
  dst : LegEnd
  lanes : Nat
  deriving DecidableEq, Repr

/-- The end exists. -/
def Ctx.endOk (x : Ctx) : LegEnd → Bool
  | .core p => decide (p < x.ncores)
  | .router p => decide (p < x.ncores)
  | .mem j => decide (j < 4)
  | .stream k => decide (k < x.sites.length)

def Ctx.endSite (x : Ctx) : LegEnd → Option Nat
  | .core p => some (x.sites.getD (p / 72) 0)
  | .router p => some (x.sites.getD (p / 72) 0)
  | _ => none

def Ctx.endQuad (x : Ctx) : LegEnd → Nat
  | .core p => x.quadOf p
  | .router p => x.quadOf p
  | .mem j => x.quad j
  | .stream k => quadOfSite (x.sites.getD k 0)

/-- The hubs of a route, in order. -/
def routeHubs (a b via : Nat) : List Nat :=
  if a = b then [a] else if seams a b = 2 then [a, via, b] else [a, b]

def hubHops : List Nat → List Hop
  | a :: b :: r => ⟨2, a, b⟩ :: hubHops (b :: r)
  | _ => []

/-- The links of a route between two ends. -/
def Ctx.hops (x : Ctx) (src dst : LegEnd) (via : Nat) : List Hop :=
  if (x.endSite src).isSome && x.endSite src = x.endSite dst then []
  else
    (match x.endSite src with | some v => [⟨0, v, 0⟩] | none => [])
      ++ hubHops (routeHubs (x.endQuad src) (x.endQuad dst) via)
      ++ (match x.endSite dst with | some v => [⟨1, v, 0⟩] | none => [])

def seamHops (l : List Hop) : Nat := (l.filter (fun h => h.kind = 2)).length

def hopsT (l : List Hop) : Nat := transitT l.length (seamHops l)

/-- VIA shares a seam with both ends of a diagonal route. -/
def Ctx.viaOk (x : Ctx) (src dst : LegEnd) (via : Nat) : Bool :=
  let a := x.endQuad src
  let b := x.endQuad dst
  seams a b ≠ 2 || (seams a via = 1 && seams via b = 1)

/-- The legs of an entry (DEDUCED, log 94). -/
def Ctx.legs (x : Ctx) (i : Image) (e : TransitEntry) : List Leg :=
  let d := i.desc e.src (e.aux % 256)
  let via := x.quad e.via
  let back := fun (src dst : LegEnd) => 2 + hopsT (x.hops src dst via) + 4
  match e.kind with
  | 1 => [⟨3, .core e.src, .core e.dst, e.nl⟩]
  | 2 => [⟨2, .router e.src, .mem d.tgt, 1⟩, ⟨back (.router e.src) (.mem d.tgt), .mem d.tgt, .router e.src, e.nl⟩]
  | 3 => [⟨5, .router e.src, .mem d.tgt, e.nl⟩]
  | 4 => [⟨leadOf i.lead + 2, .stream d.tgt, .mem d.btgt, e.nl⟩]
  | 5 => [⟨2, .router e.src, .mem d.btgt, 1⟩, ⟨back (.router e.src) (.mem d.btgt), .mem d.btgt, .stream d.tgt, e.nl⟩]
  | _ => []

/-! ### Claims (R224, R236) -/

/-- A claim: a link or port (kind 3 core out, 4 core in, 5 stream out, 6 stream in), the lanes from `lo` to `hi`, the
step of its first occurrence, PERIOD and COUNT. -/
structure CellClaim where
  kind : Nat
  a : Nat
  b : Nat
  lo : Nat
  hi : Nat
  first : Nat
  period : Nat
  count : Nat
  deriving DecidableEq, Repr

/-- The steps at which a line injected at offset `t` occupies the links of its route. -/
def hopSteps : Nat → List Hop → List (Nat × Hop)
  | _, [] => []
  | t, h :: r => (t, h) :: hopSteps (t + 2 + (if h.kind = 2 then 6 else 0)) r

/-- The claims of one leg. -/
def Ctx.legClaims (x : Ctx) (e : TransitEntry) (g : Leg) : List CellClaim :=
  let l := x.hops g.src g.dst (x.quad e.via)
  let mk := fun (kind a b at' : Nat) => (⟨kind, a, b, e.lane0, e.lane0 + g.lanes - 1, e.start + at', e.period, e.count⟩ : CellClaim)
  (match g.src with | .core p => [mk 3 p 0 g.inj] | .stream k => [mk 5 k 0 g.inj] | _ => [])
    ++ (hopSteps (g.inj + 2) l).map (fun q => mk q.2.kind q.2.a q.2.b q.1)
    ++ (match g.dst with | .core p => [mk 4 p 0 (g.inj + hopsT l)] | .stream k => [mk 6 k 0 (g.inj + hopsT l)] | _ => [])

/-- The SEAM_LANES field of the seam between two physical quadrants: none for a context of one quadrant. -/
def Ctx.seamPair (x : Ctx) (a b : Nat) : Option Nat :=
  if x.heldQuads.length = 1 then none
  else (findIdxOpt (fun (q : Nat × Nat) => (x.quad q.1 = a && x.quad q.2 = b) || (x.quad q.1 = b && x.quad q.2 = a))
    [(0, 1), (0, 2), (1, 3), (2, 3)]).map (·.1)

/-- Lanes that a claim may use on its link or port (DEDUCED, log 95). -/
def Ctx.laneLimit (x : Ctx) (i : Image) (c : CellClaim) : Nat :=
  match c.kind with
  | 0 => 64
  | 1 => 64
  | 2 => match x.seamPair c.a c.b with | some n => Nat.min 63 (i.seamLanes n) | none => 63
  | 3 => 4
  | 4 => 4
  | _ => 16

/-- Step `n` is among the occurrences of a claim. -/
def CellClaim.at (c : CellClaim) (n : Nat) : Bool :=
  if n < c.first then false
  else if c.period = 0 then n = c.first
  else (n - c.first) % c.period = 0 && (c.count = 0 || decide ((n - c.first) / c.period < c.count))

/-- Two claims share a step. The occurrences of `c` that lie among those of `d` recur at the latest after `d.period` of
them. -/
def CellClaim.meets (c d : CellClaim) : Bool :=
  if c.period = 0 then d.at c.first
  else if d.period = 0 then c.at d.first
  else
    let k := (d.first - c.first + c.period - 1) / c.period
    (List.range d.period).any (fun i => let n := c.first + (k + i) * c.period; c.at n && d.at n)

def CellClaim.clashes (c d : CellClaim) : Bool :=
  c.kind = d.kind && c.a = d.a && c.b = d.b && decide (c.lo ≤ d.hi) && decide (d.lo ≤ c.hi) && c.meets d

def anyClash : List CellClaim → Bool
  | [] => false
  | c :: r => r.any c.clashes || anyClash r

/-! ### The whole table -/

/-- Entries that claim something, with their legs. -/
def Ctx.allLegs (x : Ctx) (i : Image) : List (TransitEntry × Leg) :=
  i.slotEntries.flatMap (fun e => (x.legs i e).map (fun g => (e, g)))

/-- Image phases in which the lines of a leg reach a bank. -/
def bankPhases (e : TransitEntry) (at' : Nat) : List Nat :=
  let n := if e.period = 0 then 1 else if e.count = 0 then 16 else Nat.min 16 e.count
  (List.range n).map (fun k => (e.start + at' + k * e.period) % 16)

/-- Every line reaches its bank in a declared phase (DEDUCED, log 91). -/
def Ctx.phasesDeclared (x : Ctx) (i : Image) : Bool :=
  (x.allLegs i).all (fun q => match q.2.dst with
    | .mem j => (bankPhases q.1 (q.2.inj + hopsT (x.hops q.2.src q.2.dst (x.quad q.1.via)))).all
        (fun k => (i.memPhase j).testBit k)
    | _ => true)

/-- Every source core, end, VIA and lane exists. -/
def Ctx.routesOk (x : Ctx) (i : Image) : Bool :=
  (i.slotEntries.filter (fun e => decide (1 ≤ e.kind) && decide (e.kind ≤ 5))).all (fun e => decide (e.src < x.ncores))
  && (x.allLegs i).all (fun q =>
    x.endOk q.2.src && x.endOk q.2.dst && x.viaOk q.2.src q.2.dst (x.quad q.1.via)
      && (x.legClaims q.1 q.2).all (fun c => decide (c.hi < x.laneLimit i c)))

/-- The seams that the image uses: SEAM_LANES pair and physical quadrants. -/
def Ctx.usedSeams (x : Ctx) (i : Image) : List Nat :=
  ((x.allLegs i).flatMap (fun q => (x.hops q.2.src q.2.dst (x.quad q.1.via)).filterMap (fun h =>
    if h.kind = 2 then x.seamPair h.a h.b else none))).foldr insertNat []

/-- The physical quadrants of a SEAM_LANES pair. -/
def Ctx.seamEnds (x : Ctx) (n : Nat) : Nat × Nat :=
  let q := [(0, 1), (0, 2), (1, 3), (2, 3)].getD n (0, 1)
  (x.quad q.1, x.quad q.2)

/-- Physical lanes of a seam that a context's installed and reserved images hold. -/
def Ctx.seamHeld (x : Ctx) (a b : Nat) : List Nat :=
  (x.image.toList ++ x.staged.toList).flatMap (fun i => i.lanes.flatMap (fun q =>
    let e := x.seamEnds q.1
    if e = (a, b) || e = (b, a) then q.2 else []))

/-- Lanes of a seam that no other context holds. -/
def State.seamFree (s : State) (x a b : Nat) : List Nat :=
  let held := ((List.range 16).filter (· ≠ x)).flatMap (fun y => (s.ctx y).seamHeld a b)
  (List.range 63).filter (fun l => !held.contains l)

/-- Foreign quadrants whose hubs the diagonal routes of an image pass (R241). -/
def Ctx.foreignVias (x : Ctx) (i : Image) : List Nat :=
  ((x.allLegs i).filterMap (fun q =>
    let v := x.quad q.1.via
    if seams (x.endQuad q.2.src) (x.endQuad q.2.dst) = 2 && !x.heldQuads.contains v then some v else none)).foldr insertNat []

/-- A phase offset keeps the context's phases off phase 15, off other contexts', and within its net share (R238). -/
def State.deltaOk (s : State) (x : Nat) (i : Image) (delta : Nat) : Bool :=
  let c := s.ctx x
  let j : Image := { i with delta }
  (List.range 4).all (fun k => !(j.routerPhases k).testBit 15)
  && (List.range 4).all (fun q =>
    let mine := (List.range 4).foldl (fun m k => if c.quad k = q then m ||| j.routerPhases k else m) 0
    let others := ((List.range 16).filter (· ≠ x)).foldl (fun m y => m ||| (s.ctx y).phasesAt q) 0
    let own := (match c.image with
      | some o => (List.range 4).foldl (fun m k => if c.quad k = q then m ||| o.routerPhases k else m) mine
      | none => mine)
    Nat.land mine others = 0
      && (!c.heldQuads.contains q || decide (100 * (bitsUp 15 own).length ≤ 15 * s.settingNow 0x52 x)))

/-- SLOT_CONFLICT and NO_GRANT, or the image with the cells it reserves (R238, R239). -/
def State.slotCheck (s : State) (x : Nat) (i : Image) : Image ⊕ Nat :=
  let c := s.ctx x
  let claims := (c.allLegs i).flatMap (fun q => c.legClaims q.1 q.2)
  if !c.routesOk i || anyClash claims || !c.phasesDeclared i then .inr stSlotConflict
  else match (List.range 16).find? (s.deltaOk x i) with
    | none => .inr stSlotConflict
    | some delta =>
      let lanes := (c.usedSeams i).map (fun n =>
        let e := c.seamEnds n
        (n, (s.seamFree x e.1 e.2).take (i.seamLanes n)))
      if lanes.any (fun q => decide (q.2.length < i.seamLanes q.1)) then .inr stSlotConflict
      else
        let granted := (c.foreignVias i).all (fun v => s.granted x v (fun g =>
          (c.usedSeams i).all (fun n =>
              let e := c.seamEnds n
              (e.1 ≠ v && e.2 ≠ v) || decide (i.seamLanes n ≤ g.seamLanes))))
        if granted then .inl { i with delta, lanes } else .inr stNoGrant

/-! ### RESOURCE (R233, R249, R252, R253, R493) -/


/-- The receive ends of a list, each once. -/
def recvEnds : List LockedConn → List LockedConn
  | [] => []
  | l :: r => if r.any (fun m => m.dst = l.dst && m.rep = l.rep) then recvEnds r else l :: recvEnds r

def LockedConn.wellFormed (n : Nat) (l : LockedConn) : Bool :=
  decide (l.src < n) && decide (l.dst < n) && decide (l.csem < 48) && decide (l.asem < 48) && decide (l.index < l.senders)
    && (l.kind = 2 || l.senders = 1)

/-- Two entries of the table stand together. -/
def LockedConn.agrees (a b : LockedConn) : Bool :=
  !(a.src = b.src && a.sep = b.sep)
    && (!(a.dst = b.dst && a.rep = b.rep)
      || (a.kind = b.kind && a.senders = b.senders && a.esize = b.esize && a.depth = b.depth && a.asem = b.asem
        && a.index ≠ b.index))

def allAgree : List LockedConn → Bool
  | [] => true
  | l :: r => r.all l.agrees && allAgree r

/-- The semaphores that locked ends of a program core bind. -/
def Image.lockedSems (i : Image) (p : Nat) : List Nat :=
  (i.locked.filter (fun l => l.src = p)).map (·.csem)
    ++ ((recvEnds i.locked).filter (fun l => l.dst = p)).map (·.asem)

/-- Where the locked receive ends of core `p` go beside the elastic ones, bound or waiting to bind (R253). -/
def State.lockRoom (s : State) (x : Nat) (i : Image) (p : Nat) : Option (List (Nat × Nat × Nat)) :=
  let c := s.core ⟨x, p⟩
  i.lockPlace p ({ c with recvEps := c.recvEps.filter (fun e => e.2.elastic) }.storeUse
    ++ ((s.ctx x).binds.filter (fun b => !b.unbind && !b.send && b.core = p)).map (fun b => (b.base, b.lines)))

/-- The table beside the elastic ends of a core, bound, opened or being opened: endpoints, semaphores, store lines. -/
def State.coreRoom (s : State) (x : Nat) (i : Image) (p : Nat) : Bool :=
  let k := s.core ⟨x, p⟩
  let opening := (((s.ctx x).binds.filter (fun b => !b.unbind && b.core = p))
    ++ (s.links.openings.filter (fun o => o.ctx = x && o.bind.core = p)).map (·.bind))
  let sends := (k.sendEps.filter (fun e => e.2.elastic && e.2.state ≠ .unbound)).map (·.1)
    ++ (opening.filter (·.send)).map (·.ep)
  let recvs := (k.recvEps.filter (fun e => e.2.elastic && e.2.state ≠ .unbound)).map (·.1)
    ++ (opening.filter (fun b => !b.send)).map (·.ep)
  let sems := i.lockedSems p
  let bound := (List.range 48).filter k.elasticBound ++ opening.map (·.sem)

  (i.locked.filter (fun l => l.src = p)).all (fun l => !sends.contains l.sep)
    && (i.locked.filter (fun l => l.dst = p)).all (fun l => !recvs.contains l.rep)
    && sems.all (fun n => !bound.contains n && (sems.filter (· = n)).length = 1)
    && (s.lockRoom x i p).isSome

/-- Each CHAN entry names a binding of the table (DEDUCED, log 100). -/
def Image.chansBound (i : Image) : Bool :=
  (i.slotEntries.filter (fun e => e.kind = 1)).all (fun e =>
    i.locked.any (fun l => l.src = e.src && l.sep = e.aux % 16 && l.dst = e.dst))

/-- A descriptor names a target that exists (R493). -/
def Image.targetOk (i : Image) (quads : Nat) (d : StreamDesc) : Bool :=
  match d.kind with
  | 1 => decide (d.tgt < i.drams) && decide (0 < i.stackLines d.tgt)
  | 2 => decide (d.tgt < i.drams) && decide (0 < i.stackLines d.tgt)
  | 3 => decide (d.tgt < quads)
  | 4 => decide (d.tgt < quads)
  | 5 => decide (d.tgt < i.drams) && decide (0 < i.stackLines d.tgt) && decide (d.btgt < quads)
  | 6 => decide (d.tgt < i.drams) && decide (0 < i.stackLines d.tgt) && decide (d.btgt < quads)
  | 7 => decide (d.tgt < i.drams) && decide (0 < i.stackLines d.tgt)
  | _ => true

/-- The RESOURCE check of a load. -/
def State.resourceOk (s : State) (x : Nat) (i : Image) : Bool :=
  let c := s.ctx x
  i.cores = c.ncores && i.locked.all (LockedConn.wellFormed i.cores) && allAgree i.locked
    && (List.range i.cores).all (s.coreRoom x i) && i.chansBound
    && (List.range i.cores).all (fun p => (List.range 256).all (fun n => i.targetOk c.heldQuads.length (i.desc p n)))

/-! ### Grants and link-port lanes in use (R241) -/

/-- Link lanes of a context that cross the hub of a foreign quadrant. -/
def State.quadLanes (s : State) (x q : Nat) : Nat :=
  ((((List.range 20).filter (fun p => ((s.ctx x).laneQuads p).contains q)).map s.bundleOf).foldr insertNat []).map
    (s.linkLanes x) |>.sum

/-- A grant serves an installed table, or a reserved one too, or a link lane (DEDUCED, log 97). -/
def State.grantServes (s : State) (g : Grant) (reserved : Bool) : Bool :=
  let c := s.ctx g.ctx
  g.valid && !c.heldQuads.contains g.quad
    && ((c.image.toList ++ (if reserved then c.staged.toList else [])).any (fun i => (c.foreignVias i).contains g.quad)
      || decide (0 < s.quadLanes g.ctx g.quad))

end Sys2Proof.Machine
end

