-- ==== Sys2Proof/Machine/Status.lean ====
section
/-! DEFINITION. The records that immediate commands read: units, pace, ports, tables, events, bring-up, recoveries,
anchors and pairings (07 R193; 08 R223; 09 R234, R241, R245; 11 R299-R301; 12 R321; 13 R385-R387; 14 R430; 15 R445, R469,
R470). -/
namespace Sys2Proof.Machine
open Sys2Proof

/-- Serve a command that answers with one record and changes nothing. -/
def State.report (s : State) (m : Nat) (q : Cmd) (op arg : Nat) (early : Bool) (payload : State → List Byte) : Out :=
  quiet s (s.serve m q { op, who := .all, early, arg } (fun s => (s, { payload := payload s })))

/-! ### Base memory, stacks, hubs -/

/-- Spare rows in use over the banks of a quadrant: in each bank as many as it has bad rows among its 1,024 first, as far
as its 16 spares are good (R181). -/
def State.spareRows (s : State) (quad : Nat) : Nat :=
  ((List.range 128).map (fun b =>
    let rows := fuseLocs s.boot.merged (fun e => fuseType e = 5 && fuseUnit e = quad && fld (fuseLoc e) 0 7 = b)
      (fun v => fld v 7 11)
    Nat.min (rows.filter (· < 1024)).length (16 - (rows.filter (fun r => decide (1024 ≤ r) && decide (r < 1040))).length))).sum

/-- BASE_MEM_STATUS record (R193). -/
def State.baseStatus (s : State) (quad : Nat) : List Byte :=
  let b := s.baseOf quad
  bytesOf 16 (pack [(32, b.ce), (16, b.ue), (16, b.scrubPasses), (20, b.ueLine), (3, b.ueWord), (1, b2n b.ueByScrub),
    (1, s.settingNow 0x60 quad), (7, 0), (32, s.spareRows quad)])

/-- BASE_MEM_STATUS (R193). -/
def execBaseMemStatus (m : Nat) (q : Cmd) (s : State) : Out :=
  s.report m q 0x60 3 true (fun s => s.baseStatus (argFld q 0 2))

/-- STACK_STATUS record (R223). -/
def State.stackStatusRec (s : State) (d : Nat) : List Byte :=
  let k := s.stack d
  let h := s.holderOf d
  bytesOf 16 (pack [(32, k.ce), (16, k.ue), (2, s.splitOf d), (1, b2n (k.remoteOpen && h.isSome)), (1, b2n h.isSome),
    (4, (h.map (·.1)).getD 0), (8, 0), (16, k.maxNs), (32, k.over180), (16, k.scrubPasses)])

/-- STACK_STATUS (R223). -/
def execStackStatus (m : Nat) (q : Cmd) (s : State) : Out :=
  s.report m q 0x61 15 true (fun s => s.stackStatusRec (argFld q 0 4))

/-- The context whose lines reach a quadrant's banks in a router phase. -/
def State.phaseOwner (s : State) (quad k : Nat) : Option Nat :=
  if k = 15 then none else (List.range 16).find? (fun x => ((s.ctx x).phasesAt quad).testBit k)

/-- HUB_STATUS record (R245). -/
def State.hubStatusRec (s : State) (quad : Nat) : List Byte :=
  let h := s.hub quad
  let n := (s.grants.filter (fun g => g.valid && g.quad = quad)).length
  bytesOf 20 (pack ([(32, h.drops), (6, Nat.min 63 n), (1, b2n h.inReset), (25, 0)] ++ (List.range 16).map (fun k =>
    (5, match s.phaseOwner quad k with | some x => 16 + x | none => 0))))

/-- HUB_STATUS (R245). -/
def execHubStatus (m : Nat) (q : Cmd) (s : State) : Out :=
  s.report m q 0x62 3 true (fun s => s.hubStatusRec (argFld q 0 2))

/-! ### Pace and time -/

/-- A signed field of `n` bits. -/
def signed (n : Nat) (v : Int) : Nat := (BitVec.ofInt n v).toNat

/-- PACE_DOMAIN_STATUS (R300). -/
def Domain.record (v : Domain) : List Byte :=
  bytesOf 32 (pack [(2, v.profile), (1, b2n v.detached), (5, 0), (11, v.target), (11, ceilMhz v.profile), (11, v.curMhz),
    (11, v.minMhz), (8, v.trim), (4, 0), (16, signed 16 v.margin), (16, signed 16 v.marginMin), (32, v.stretch),
    (48, Nat.min (2 ^ 48 - 1) (v.holdPs / 1000)), (16, 0), (64, v.beats)])

/-- TIME_STATUS (R301). -/
def State.timeRecord (s : State) : List Byte :=
  let t := s.time
  let p := t.pend.getD ⟨0, 0, false⟩
  bytesOf 48 (pack [(64, t.now), (3, t.state), (1, b2n t.loaded), (5, t.parent.getD 31), (23, 0), (32, signed 32 t.offset),
    (64, t.lastSync), (64, if t.pend.isSome then p.tick else 0), (2, p.profile), (1, b2n t.pend.isSome),
    (1, b2n p.deferred)])

/-- CLEAR of PACE_STATUS: the lowest values and the sums start again. -/
def Domain.clear (v : Domain) : Domain := { v with minMhz := 2047, marginMin := 32767, stretch := 0, holdPs := 0 }

def State.clearPace (s : State) : State :=
  (List.range 20).foldl (fun s d => s.setDomain d (s.domain d).clear) s

/-- PACE_STATUS (R300, R301). -/
def execPaceStatus (m : Nat) (q : Cmd) (s : State) : Out :=
  let clear : Bool := argFld q 0 1 = 1
  quiet s (s.serve m q { op := 0x63, who := if clear then .owner else .all, early := true, arg := 1 } (fun s =>
    let b := (List.range 20).flatMap (fun d => (s.domain d).record) ++ s.timeRecord
    (if clear then s.clearPace else s, { payload := b })))

/-! ### Ports -/

def PortPhase.code : PortPhase → Nat
  | .down => 0
  | .training => 1
  | .dwell => 2
  | .up => 3
  | .failed => 4
  | .lost => 5
  | .absentPlanned => 6
  | .miswired => 7

/-- PORT_MAP_ENTRY (R321). -/
def State.portRecord (s : State) (p : Nat) : List Byte :=
  let q := s.port p
  bytesOf 32 (pack ([(3, PortPhase.code q.phase), (2, q.width), (1, b2n (q.active.contains 8)), (4, s.role p),
    (1, b2n (s.time.parent = some p)), (5, 0), (9, q.ready), (9, siteMask q.active), (9, q.weak), (21, 0), (24, q.partner),
    (5, q.partnerPort), (3, 0)] ++ (List.range 9).map (fun k => (8, q.ber.getD k 0)) ++ [(24, 0), (64, q.upSince)]))

/-- PORT_MAP (R321). -/
def execPortMap (m : Nat) (q : Cmd) (s : State) : Out :=
  s.report m q 0x64 0 true (fun s => (List.range 20).flatMap s.portRecord)

/-! ### Tables -/

/-- The fields of SLOT_TABLE_HEADER and of a TRANSIT_ENTRY: their other bits are RSVD and read as 0 (00 R12; 09 R234). -/
def slotHeaderFields : List (Nat × Nat) := [(0, 13), (32, 96)]
def transitFields : List (Nat × Nat) := [(0, 6), (8, 30), (40, 14), (64, 96)]

/-- SLOT_TABLE_READ (R234): of the installed image. -/
def execSlotTableRead (m : Nat) (q : Cmd) (s : State) : Out :=
  quiet s (s.serve m q { op := 0x65, who := .all, early := true, ctx := true, arg := 0x1FFF } (fun s =>
    s.needCtx q.ctx (match (s.ctx q.ctx).image with
    | none => refuse s stNoImage
    | some i =>
      let b := bytesOf 64 (maskBits slotHeaderFields (natOf (padTo 64 (i.sect 7 2047))))
      let n := fld i.slotHeader 0 13
      let first := argFld q 0 13
      let l := ((i.sect 7 2047).drop (64 + 32 * first)).take (32 * Nat.min 125 (n - first))
      (s, { payload := b ++ (chunksOf 32 126 l).flatMap (fun e => bytesOf 32 (maskBits transitFields (natOf e))), detail := n }))))

/-- CAL_ENTRY (R299). -/
def CalEntry.bytes (e : CalEntry) : List Byte :=
  bytesOf 32 (pack [(2, e.kind), (5, e.unit), (1, 1), (56, 0), (64, e.start), (64, e.stop)])

/-- CALENDAR_READ (R299). -/
def execCalendarRead (m : Nat) (q : Cmd) (s : State) : Out :=
  s.report m q 0x66 0 true (fun s => padTo 2048 (s.calendar.flatMap CalEntry.bytes))

/-- GRANT_RECORD (R241). -/
def State.grantRecord (s : State) (g : Grant) : List Byte :=
  if g.valid then
    bytesOf 16 (pack [(4, g.ctx), (2, g.quad), (1, 1), (1, b2n (s.grantServes g false)), (6, g.seamLanes), (5, g.linkLanes),
      (3, g.master), (42, 0), (64, g.issued)])
  else List.replicate 16 0

/-- GRANT_TABLE_READ (R241). -/
def execGrantTableRead (m : Nat) (q : Cmd) (s : State) : Out :=
  s.report m q 0x67 0 true (fun s => padTo 1024 (s.grants.flatMap s.grantRecord))

/-! ### Events -/

/-- Events lost below the oldest held (R385). -/
def EventRing.lost (e : EventRing) (first : Nat) : Nat :=
  match e.held.head? with
  | some h => h.seq - Nat.max 1 first
  | none => 0

/-- EVENT_READ (R385) (DEDUCED, log 98). -/
def execEventRead (m : Nat) (q : Cmd) (s : State) : Out :=
  quiet s (s.serve m q { op := 0x80, who := .all, early := true, arg := 2 ^ 32 - 1 } (fun s =>
    let first := argFld q 0 32
    let l := (s.events.held.filter (fun e => decide (first ≤ e.seq))).take 127
    (s, { payload := l.flatMap Event.bytes, detail := s.events.lost first })))

/-- EVENT_ACK (R387). -/
def execEventAck (m : Nat) (q : Cmd) (s : State) : Out :=
  quiet s (s.serve m q { op := 0x81, who := .ownerOrBoard, early := true, arg := 2 ^ 32 - 1 } (fun s =>
    let a := Nat.min (Nat.max (argFld q 0 32) s.events.ackSeq) (s.events.nextSeq - 1)
    okay ({ s with events := { s.events with ackSeq := a } }.realert)))

/-! ### Bring-up, fuses, recoveries -/

/-- A port counts as degraded (R445). -/
def State.portDegraded (s : State) (p : Nat) : Bool :=
  let q := s.port p
  q.phase = .up && (decide (q.width < 3) || q.active.contains 8 || q.weak ≠ 0)

/-- READY_REPORT record (R445). -/
def State.readyRecord (s : State) : List Byte :=
  let b := s.boot
  let up := (List.range 20).filter s.isUp
  bytesOf 64 (pack [(2, b.phase), (3, b.stage), (3, 0), (16, b.failed), (16, b.drams), (4, b.bases), (20, siteMask up),
      (20, siteMask ((List.range 20).filter s.portDegraded)), (12, 0), (16, b.fails), (16, b.added)]
    + pack ((128, 0) :: (List.range 5).map (fun k => (16, Nat.min 65535 (b.stageMs.getD k 0))))
    + pack [(208, 0), (24, b.count), (24, 0), (64, b.fwVersion.toNat), (64, b.readyTick)])

/-- READY_REPORT (R445). -/
def execReadyReport (m : Nat) (q : Cmd) (s : State) : Out := s.report m q 0x92 0 true State.readyRecord

/-- The fuse map and the field repair list behind it. -/
def State.repairEntries (s : State) : List (BitVec 64) := s.fuses.entries ++ s.flash.repairs

/-- FUSE_MAP_READ (R439) (DEDUCED, log 96). -/
def execFuseMapRead (m : Nat) (q : Cmd) (s : State) : Out :=
  quiet s (s.serve m q { op := 0x93, who := .all, early := true, arg := 65535 } (fun s =>
    let l := (s.repairEntries.drop (argFld q 0 16)).take 510
    (s, { payload := l.flatMap (fun e => bytesOf 8 e.toNat), detail := s.repairEntries.length })))

/-- An entry of RECOVERY_READ: kind, scope, target, merged bit, tick (DESIGN CHOICE, log 99). -/
def Recovery.bytes (r : Recovery) : List Byte :=
  bytesOf 16 (pack [(8, r.kind), (8, r.scope), (12, r.target), (4, b2n r.merged), (32, 0), (64, r.tick)])

/-- RECOVERY_READ (R470): the running recovery, then the queue. -/
def execRecoveryRead (m : Nat) (q : Cmd) (s : State) : Out :=
  s.report m q 0x91 0 false (fun s => padTo 144 (((s.recovery.running.map Recovery.bytes).getD (List.replicate 16 0))
    ++ s.recovery.queue.flatMap Recovery.bytes))

/-! ### Anchors and pairings -/

/-- ANCHOR_ENTRY (R399). -/
def Anchor.bytes (a : Anchor) : List Byte :=
  if a.valid then
    padTo 128 (bytesOf 8 (pack [(32, a.id), (16, a.mask), (1, 1), (15, 0)]) ++ padTo 16 (keyId a.key) ++ padTo 68 a.key
      ++ bytesOf 8 a.installed)
  else List.replicate 128 0

/-- ANCHOR_TABLE with ARG[0] = 0 (R430). -/
def execAnchorTableRead (m : Nat) (q : Cmd) (s : State) : Out :=
  let q := withArg q 0 1 0
  s.report m q 0x44 0xF00 false (fun s => (List.range 16).flatMap (fun a => (s.anchors.get {} a).bytes))

def HaloPhase.code : HaloPhase → Nat
  | .unpaired => 0
  | .active => 1
  | .suspended => 2
  | .takingOver => 3
  | .takenOver => 4
  | .diverged => 5

/-- HALO_STATUS record (R469). -/
def State.haloRecord (s : State) (x : Nat) : List Byte :=
  let h := (s.ctx x).halo
  bytesOf 64 (pack [(3, HaloPhase.code h.phase), (1, b2n h.standby), (4, x), (24, h.partner), (32, h.pairId),
    (64, h.mirrorPoint.getD 0), (64, h.ckptNo.getD 0), (64, h.ckptOrbit), (64, (h.out.map MirrorItem.size).sum),
    (64, h.lastSeal), (64, h.skipped)])

/-- HALO_STATUS (R469). -/
def execHaloStatus (m : Nat) (q : Cmd) (s : State) : Out :=
  quiet s (s.serve m q { op := 0x9C, who := .all, ctx := true } (fun s =>
    s.needCtx q.ctx (s, { payload := s.haloRecord q.ctx })))

end Sys2Proof.Machine
end

