-- ==== Sys2Proof/Machine/Images.lean ====
section
/-! DEFINITION. Program images: format, load checks, allocation, staging (01 R41; 03 R84, R93; 07 R171, R189; 08 R194, R195;
13 R378-R380). -/
namespace Sys2Proof.Machine
open Sys2Proof

/-! ### Format (R379) -/

/-- Scope (true: context), limit in bytes and entry size of a section type. -/
def sectionRule (t : Nat) : Option (Bool × Nat × Nat) :=
  match t with
  | 1 => some (false, 65536, 64)
  | 2 => some (false, 256, 8)
  | 3 => some (false, 8192, 32)
  | 4 => some (false, 192, 4)
  | 5 => some (false, 128, 2)
  | 6 => some (true, 512, 8)
  | 7 => some (true, 131136, 32)
  | 8 => some (true, 65536, 16)
  | 9 => some (true, 16384, 256)
  | 10 => some (true, 256, 8)
  | 11 => some (true, 64, 4)
  | _ => none

/-- The section that entry `i` of the section table names: TYPE, core, offset, length. -/
def sectionEntry (b : List Byte) (i : Nat) : Nat × Nat × Nat × Nat :=
  let w := leAt b (64 + 16 * i) 16
  (fld w 0 8, fld w 8 11, fld w 64 32, fld w 96 32)

/-- A slot table's own rules. -/
def slotTableOk (b : List Byte) : Bool :=
  let h := leAt b 0 64
  let n := fld h 0 13
  decide (n ≤ 4096) && b.length = 64 + 32 * n && (List.range 4).all (fun k => decide (fld h (96 + 8 * k) 8 ≤ 63))
    && (List.range 4).all (fun j => !h.testBit (32 + 16 * j + 15))

/-- One section-table entry is well formed. -/
def sectionOk (b : List Byte) (cores : Nat) (e : Nat × Nat × Nat × Nat) : Bool :=
  match sectionRule e.1 with
  | none => false
  | some (whole, limit, unit) =>
    let bytes := (b.drop e.2.2.1).take e.2.2.2
    decide (e.2.2.1 + e.2.2.2 ≤ b.length) && decide (e.2.2.2 ≤ limit) && e.2.2.2 % unit = 0
      && (e.2.1 = 2047 || (!whole && decide (e.2.1 < cores)))
      && (e.1 ≠ 7 || slotTableOk bytes)
      && (e.1 ≠ 4 || (chunksOf 4 64 bytes).all (fun v => decide (natOf v < 2 ^ 31)))

def distinctKeys : List (Nat × Nat × Nat × Nat) → Bool
  | [] => true
  | e :: r => !r.any (fun f => f.1 = e.1 && f.2.1 = e.2.1) && distinctKeys r

/-- The image that bytes spell, if they are well formed. -/
def imageOf (b : List Byte) : Option Image :=
  let h := leAt b 0 64
  let cores := fld h 64 16
  let n := fld h 48 16
  let l := (List.range n).map (sectionEntry b)
  let ok := decide (64 ≤ b.length) && fld h 0 32 = 0x4D494B46 && fld h 32 16 = 1 && cores ≠ 0 && cores % 72 = 0
    && decide (cores ≤ 1152) && fld h 80 2 ≠ 3 && fld h 82 2 ≠ 3 && decide (fld h 96 8 ≤ cores / 72)
    && decide (64 + 16 * n ≤ b.length) && l.all (sectionOk b cores) && distinctKeys l
    && (List.range cores).all (fun p => l.any (fun e => e.1 = 1 && (e.2.1 = p || e.2.1 = 2047)))
  if ok then
    some { cores, lead := fld h 80 2, split := fld h 82 2, remoteOpen := bit h 84, drams := fld h 96 8,
           seedMask := BitVec.ofNat 64 (fld h 128 64)
           sections := l.map (fun e => ⟨e.1, e.2.1, (b.drop e.2.2.1).take e.2.2.2⟩)
           digest := digest 1 b }
  else none

/-! ### Units (R2, R84) -/

/-- Some ARRAYk bit of some bundle is set. -/
def Image.usesArrays (i : Image) : Bool :=
  (i.sections.filter (fun q => q.typ = 1)).any (fun q =>
    (chunksOf 64 1024 q.bytes).any (fun b => fld (natOf b) 216 96 ≠ 0))

/-- Every unit used is present. -/
def State.unitsOk (s : State) (b : List Byte) (i : Image) : Bool :=
  let used := fld (leAt b 0 64) 192 7
  let have' := fld s.capBits 96 7
  Nat.land used (127 - have') = 0 && !(s.variant = 2 && i.usesArrays)

/-- The faster of the profile in force and the pending one (R22, R289). -/
def State.leadNeed (s : State) : Nat := Nat.max s.profile (match s.time.pend with | some p => p.profile | none => 0)

/-! ### Allocation (R189, R194, R380) -/

/-- 1 GiB granules that an image needs in program stack `k`. -/
def Image.dramNeed (i : Image) (k : Nat) : Nat := if k < i.drams then (i.stackLines k + 16777215) / 16777216 else 0

/-- 1 MiB granules that an image gets in each program quadrant from `j` on, beside those the context holds there and while
the quota lasts: the firmware's choice (the model's free value). -/
def Image.baseNeed (i : Image) (held : List (List Nat)) (quads quota : Nat) : Nat → Nat → List Nat
  | 0, _ => []
  | f + 1, left =>
    let j := quads - (f + 1)
    let have' := (held.getD j []).length
    let n := Nat.min (have' + left) (Config.baseGranules i.digest j quota)
    n :: i.baseNeed held quads quota f (left - (n - have'))

/-- Granules per place as lists lengthened to the needs; none where memory is short (DESIGN CHOICE, log 89). -/
def grow (have' : List (List Nat)) (need : Nat → Nat) (free : Nat → List Nat) (places : Nat) : Option (List (List Nat)) :=
  let l := (List.range places).map (fun k =>
    let h := have'.getD k []
    (h, (free k).take (need k - h.length), need k - h.length))
  if l.all (fun q => q.2.1.length = q.2.2) then some (l.map (fun q => q.1 ++ q.2.1)) else none

/-- Granules of a stack that the context holds none of. -/
def State.dramFree (s : State) (x k : Nat) : List Nat :=
  (List.range (if s.variant = 1 then 8 else 16)).filter (fun g => !((s.ctx x).dram.getD k []).contains g)

/-- Granules of a physical quadrant that no context holds; none where its base memory is withdrawn. -/
def State.baseFree (s : State) (quad : Nat) : List Nat :=
  if s.boot.bases.testBit quad then [] else (List.range 64).filter (fun g => (s.granuleOwner quad g).isNone)

/-- QUOTA or NO_SPACE, or the granules of the context and of the image. -/
def State.allocCheck (s : State) (x : Nat) (i : Image) :
    (List (List Nat) × List (List Nat) × Image) ⊕ Nat :=
  let c := s.ctx x
  let quads := c.heldQuads.length
  let quota := s.settingNow 0x51 x
  let bases := i.baseNeed c.base quads quota quads (quota - (c.base.map List.length).sum)
  let sites := c.sites.length
  let dramSum := ((List.range sites).map (fun k => Nat.max ((c.dram.getD k []).length) (i.dramNeed k))).sum
  if s.settingNow 0x50 x < dramSum then .inr stQuota
  else match grow c.dram i.dramNeed (s.dramFree x) sites,
             grow c.base (fun j => bases.getD j 0) (fun j => s.baseFree (c.quad j)) quads with
    | some d, some b =>
      .inl (d, b, { i with dram := (List.range sites).map (fun k => (d.getD k []).take (i.dramNeed k))
                           base := b })
    | _, _ => .inr stNoSpace

/-! ### The load checks, in the order of R41 -/

/-- The status of the first check that fails, or what the load allocates and stages. -/
def State.imageCheck (s : State) (x : Nat) (b : List Byte) : (List (List Nat) × List (List Nat) × Image) ⊕ Nat :=
  match imageOf b with
  | none => .inr stImageFormat
  | some i =>
    if !s.unitsOk b i then .inr stUnitAbsent
    else if i.lead < s.leadNeed then .inr stLeadProfile
    else match s.slotCheck x i with
      | .inr st => .inr st
      | .inl i =>
        if !s.resourceOk x i then .inr stResource
        else s.allocCheck x { i with lockBases := (List.range i.cores).flatMap (fun p =>
          ((s.lockRoom x i p).getD []).map (fun q => (p, q))) }

/-! ### Staging (R93, R171) -/

/-- Granules newly allocated are written zero (DEDUCED, log 92). -/
def clearNew (m : Memory) (old new : List (List Nat)) (addr : Nat → Nat → Nat) (size : Nat) : Memory :=
  (List.range new.length).foldl (fun m k =>
    ((new.getD k []).drop (old.getD k []).length).foldl (fun m g => Memory.clear m (addr k g) size) m) m

/-- The image's bundles enter the inactive bank of a core, and the rest of the bank is zeroed (DESIGN CHOICE,
log 159). -/
def State.writeBank (s : State) (x p : Nat) (i : Image) : State :=
  let l := (s.ctx x).logical p
  let a := imemAddr l (!(s.coreAt l).seq.bank) 0
  { s with mem := Memory.write (Memory.clear s.mem a 65536) a (i.sect 1 p) }

/-- A load that passes: memory, banks, STAGED. -/
def State.stageImage (s : State) (x : Nat) (d b : List (List Nat)) (i : Image) : State :=
  let c := s.ctx x
  let mem := clearNew s.mem c.dram d (fun k g => dramAddr (c.stackOf k) (16777216 * g)) 1073741824
  let mem := clearNew mem c.base b (fun j g => baseAddr (c.quad j) (16384 * g)) 1048576
  let s := { s with mem }
  let s := s.modCtx x (fun c => { c with dram := d, base := b, staged := some i })
  let s := c.cores.foldl (fun s p => s.writeBank x p i) s
  s.mapCores x (fun _ k => { k with seq := { k.seq with staged := true } })

/-- The announced length has arrived (R378). -/
def State.imageArrived (s : State) (x : Nat) (d : Deferred) (bytes : List Byte) : State :=
  let s := (s.modCtx x (fun c => { c with loading := none })).bulkTake d.key (some d.aux)
  match s.imageCheck x (bytes.take d.aux) with
  | .inr st => s.finish d.ticket st 0
  | .inl (dr, b, i) => (s.stageImage x dr b i).finish d.ticket stOK 0

/-- The IMAGE_LOAD in progress on a context. -/
def State.loadOf (s : State) (x : Nat) : Option Deferred :=
  s.mbox.deferred.find? (fun d => d.opcode = 0x40 && d.ctx = some x)

/-- Run the load checks once the bytes are there; a context being created waits for its zeroing. -/
def State.imageGo (s : State) (x : Nat) : State :=
  match s.loadOf x with
  | none => s
  | some d =>
    match s.bulk d.key with
    | none => s
    | some b =>
      if (s.ctx x).phase ≠ .creating && (s.ctx x).phase ≠ .destroying && decide (d.aux ≤ b.bytes.length)
      then s.imageArrived x d b.bytes else s

/-- IMAGE_RECEIVED (R41, R378). -/
def execImageReceived (x : Nat) (s : State) : Out := done s (s.imageGo x)

/-- Commands that take bytes from a bulk connection: no link path from m0, a context, a connection of it. -/
def State.needBulk (s : State) (m : Nat) (q : Cmd) (go : Nat → State × Reply) : State × Reply :=
  let id := argFld q 0 32
  if m = 0 then refuse s stNoPath
  else s.needCtx q.ctx (match s.bulk id with
    | some b => if b.ctx = q.ctx then go id else refuse s stNoPeer
    | none => refuse s stNoPeer)

/-- A pairing keeps a context from loads (15 R460). -/
def Ctx.paired (x : Ctx) : Bool := x.halo.phase = .active

/-- IMAGE_LOAD (R378). -/
def execImageLoad (m : Nat) (q : Cmd) (s : State) : Out :=
  done s (s.serve m q { op := 0x40, who := .owner, ctx := true, arg := 2 ^ 32 - 1, len := fun n => n = 8 } (fun s =>
    s.needBulk m q (fun id =>
      let c := s.ctx q.ctx
      if c.phase = .destroying then refuse s stContextRunning
      else if c.paired then refuse s stHaloActive
      else if c.loading.isSome then refuse s stLoadBusy
      else s.accept m q 0x40 id (leAt q.payload 0 8) [] (fun s _ =>
        (s.modCtx q.ctx (fun c => { c with loading := some id })).bulkEvent id))))

/-! ### Weight images (14 R400, R405) -/

/-- A load or swap begins: what has arrived is taken at once. -/
def State.weightBegin (s : State) (m : Nat) (q : Cmd) (op : Nat) (swap : Bool) (id : Nat) : State × Reply :=
  let n := leAt q.payload 0 8
  s.accept m q op id n [] (fun s t =>
    (s.modWeights q.ctx (fun w => { w with
      busy := true, swap, next := none, conn := id, len := n, ticket := t, slot := m, written := 0 })).bulkEvent id)

/-- WEIGHT_LOAD (R400). -/
def execWeightLoad (m : Nat) (q : Cmd) (s : State) : Out :=
  done s (s.serve m q { op := 0x41, who := .owner, ctx := true, arg := 2 ^ 32 - 1, len := fun n => n = 8 } (fun s =>
    s.needBulk m q (fun id =>
      let c := s.ctx q.ctx
      if c.phase ≠ .idle then refuse s stContextRunning
      else if c.paired then refuse s stHaloActive
      else if c.weights.busy then refuse s stWeightBusy
      else s.weightBegin m q 0x41 false id)))

/-- WEIGHT_SWAP (R405). -/
def execWeightSwap (m : Nat) (q : Cmd) (s : State) : Out :=
  done s (s.serve m q { op := 0x42, who := .owner, ctx := true, arg := 2 ^ 32 - 1, len := fun n => n = 8 } (fun s =>
    s.needBulk m q (fun id =>
      let c := s.ctx q.ctx
      if !c.active then refuse s stContextRunning
      else if c.paired || c.halo.phase = .suspended then refuse s stHaloActive
      else if c.weights.busy then refuse s stWeightBusy
      else s.weightBegin m q 0x42 true id)))

end Sys2Proof.Machine
end

