-- ==== Sys2Proof/Machine/Contexts.lean ====
section
/-! DEFINITION. Contexts: creation, destruction, start and stop, eviction, patches, jobs (13 R374-R384; 03 R90, R91;
09 R231, R232; 12 R343). -/
namespace Sys2Proof.Machine
open Sys2Proof

/-! ### Shape and place (09 R231, R232) -/

/-- Quadrants of a list of sites, rising. -/
def quadsOf (sites : List Nat) : List Nat := (sites.map quadOfSite).foldr insertNat []

def shapeOk (sites : List Nat) : Bool :=
  let q := quadsOf sites
  match q.length with
  | 1 => decide (1 ≤ sites.length)
  | 2 => sites.length = 8 && seams (q.getD 0 0) (q.getD 1 0) = 1
  | 3 => sites.length = 12
  | 4 => sites.length = 16
  | _ => false

/-- The physical quadrants in program order. -/
def programQuads (sites : List Nat) : List Nat :=
  let q := quadsOf sites
  let own := if q.length = 3 then
      (match q.find? (fun a => q.all (fun b => a = b || seams a b = 1)) with
      | some h => h :: q.filter (· ≠ h)
      | none => q)
    else q
  own ++ [0, 1, 2, 3].filter (fun v => !q.contains v)

/-- Sites by program quadrant, then rising. -/
def programSites (sites : List Nat) : List Nat :=
  (programQuads sites).flatMap (fun v => sites.filter (fun n => quadOfSite n = v))

/-! ### The idle image (15 R444) -/

/-- BFMT 1, CTL JMP to 0. -/
def idleBundle : Line := BitVec.ofNat 512 (1 + 5 * 2 ^ 24)

/-- The two banks of a core hold the idle image. -/
def State.idleBanks (s : State) (l : Nat) : State :=
  let a := imemAddr l false 0
  { s with mem := Memory.writeLine (Memory.clear s.mem a 131072) a idleBundle }

/-- A logical core outside every context: its state, its two banks. -/
def State.idleCore (s : State) (l : Nat) : State := (s.setCore l {}).idleBanks l

def State.clearCoreMem (s : State) (l : Nat) : State := { s with mem := Memory.clear s.mem (coreAddr l 0) 524288 }

/-! ### Creation (R375) -/

/-- Context-scope settings of `x` read as their defaults. -/
def State.defaultSettings (s : State) (x : Nat) : State :=
  let mine := fun (sid : Nat) => sidInst sid = x &&
    (match settingInfo 0 (sidNum sid) with | some i => i.2 = 1 | none => false)
  { s with mbox := { s.mbox with settings := s.mbox.settings.filter (fun e => !mine e.1)
                                 lone := s.mbox.lone.filter (fun e => !mine e.sid) } }

/-- The least over a context's quadrants of what others leave of 100 per cent. -/
def State.netShareLeft (s : State) (sites : List Nat) : Nat :=
  (quadsOf sites).foldl (fun m v => Nat.min m (100 - s.netSum [] v)) 100

/-- The status of CONTEXT_CREATE. -/
def State.createCheck (s : State) (x : Nat) (sites : List Nat) : Nat :=
  if (s.ctx x).phase ≠ .free then stContextExists
  else if !shapeOk sites then stContextShape
  else if sites.any (fun n => (s.holderOf n).isSome) then stSiteBusy
  else if sites.any (fun n => !s.siteFree n) then stSiteUnusable
  else stOK

/-- The context takes its sites, stacks, indices and default settings. -/
def State.createCtx (s : State) (x : Nat) (sites : List Nat) : State :=
  let net := s.netShareLeft sites
  let rate := Nat.min 1000 (3000 - s.sealSum [])
  let s := s.defaultSettings x
  let s := s.setCtx x { phase := .creating, sites := programSites sites, quads := programQuads sites }
  let s := s.setSetting (x * 65536 + 0x52) net
  let s := if s.isG then s.setSetting (x * 65536 + 0x54) rate else s
  let s := sites.foldl (fun s d => s.modStack d (fun k => { k with split := s.variant, remoteOpen := false })) s
  s.mapCores x (fun _ _ => {})

/-- CONTEXT_CREATE (R375). -/
def execContextCreate (m : Nat) (q : Cmd) (s : State) : Out :=
  quiet s (s.serve m q { op := 0x30, who := .owner, ctx := true, arg := 65535 } (fun s =>
    let sites := bitsUp 16 (argFld q 0 16)
    let st := s.createCheck q.ctx sites
    if st ≠ stOK then refuse s st
    else s.accept m q 0x30 q.ctx 0 [] (fun s _ => s.createCtx q.ctx sites)))

/-- CONTEXT_ZEROED (R171, R375). -/
def execContextZeroed (x : Nat) (s : State) : Out :=
  done s (if (s.ctx x).phase = .creating then
    let c := s.ctx x
    let s := c.cores.foldl (fun s p => s.clearCoreMem (c.logical p)) s
    ((s.modCtx x (fun c => { c with phase := .idle })).finishAll 0x30 x stOK 0).imageGo x
  else s)

/-! ### Destruction (R376) -/

/-- A grant ends, with its entry in the ledger (09 R241). -/
def State.endGrant (s : State) (g : Grant) : State :=
  let s := s.logEntry 6 g.ctx (s.ctx g.ctx).nextOrbit 0 2047 [(40, bytesOf 1 0), (48, s.grantRecord g)]
  let s := s.modCtx g.ctx (fun c => { c with removed := c.removed.filter (· ≠ g.quad) })
  { s with grants := s.grants.map (fun v => if v = g then {} else v) }

/-- Openings of a context end. -/
def State.endOpenings (s : State) (x status : Nat) : State :=
  (s.links.openings.filter (fun o => o.ctx = x)).foldl (fun s o => s.openFails o status) s

/-- Bulk connections of a context break. -/
def State.breakBulks (s : State) (x cause : Nat) : State :=
  (s.links.bulks.filter (fun b => b.ctx = x)).foldl (fun s b => s.breakId b.connId cause none) s

/-- The context leaves its connections, jobs and grants; commands that wait for it end (DESIGN CHOICE, log 106). -/
def State.destroyCtx (s : State) (x ticket : Nat) : State :=
  let s := s.endOpenings x stNoContext
  let s := (s.mbox.deferred.filter (fun d => d.ctx = some x && d.ticket ≠ ticket)).foldl
    (fun s d => s.finish d.ticket stNoContext 0) s
  let s := ((s.breakFrom x (fun _ => true) 1).breakBulks x 1).modWeights x (fun w => { w with busy := false, next := none })
  let s := (s.grants.filter (fun g => g.valid && g.ctx = x)).foldl State.endGrant s
  s.modCtx x (fun c => { c with phase := .destroying, job := {}, loading := none, binds := [] })

/-- CONTEXT_DESTROY (R376). -/
def execContextDestroy (m : Nat) (q : Cmd) (s : State) : Out :=
  quiet s (s.serve m q { op := 0x31, who := .owner, ctx := true } (fun s =>
    s.needCtx q.ctx (
      if (s.ctx q.ctx).phase ≠ .idle then refuse s stContextRunning
      else s.accept m q 0x31 q.ctx 0 [] (fun s t => s.destroyCtx q.ctx t))))

/-- Everything a context held is free: stacks, memory, cells, cores (R376; 15 R444) (DEDUCED, log 93). -/
def State.freeCtx (s : State) (x : Nat) : State :=
  let c := s.ctx x
  let s := c.sites.foldl (fun s d => s.modStack d (fun k =>
    { k with waiting := [], served := [], unsettled := [], remote := [], staging := {}, remoteOpen := false, split := s.variant })) s
  let s := c.cores.foldl (fun s p => s.idleCore (c.logical p)) s
  let s := s.modLinks (fun l => { l with bulks := l.bulks.filter (fun b => b.ctx ≠ x) })
  (s.defaultSettings x).setCtx x {}

/-- RESOURCES_RELEASED (R376) (DEDUCED, log 104). -/
def execResourcesReleased (x : Nat) (s : State) : Out :=
  done s (if (s.ctx x).phase = .destroying then (s.freeCtx x).finishAll 0x31 x stOK 0 else s)

/-! ### Start and stop (R376, R377) -/

/-- A tick-mode transaction has yet to apply a class S setting of a kind (R372). -/
def State.pendingS (s : State) (nums : List Nat) : Bool :=
  match s.mbox.committed with
  | some c => c.tick.isSome && c.rest.any (fun e => nums.contains (sidNum e.sid))
  | none => false

/-- The status of CONTEXT_START (DEDUCED, log 101). -/
def State.startCheck (s : State) (x : Nat) : Nat :=
  let c := s.ctx x
  if c.phase ≠ .idle then stContextRunning
  else if c.weights.busy then stWeightBusy
  else if c.weights.phase = .invalid then stWeightInvalid
  else if c.halo.phase = .diverged || c.halo.catchUp then stHaloState
  else if c.image.isNone && !s.allStaged x then stNoImage
  else if s.pendingS [0x03] then stTxnPending
  else stOK

/-- The entry of an armed run, and the run begins (14 R429). -/
def State.beginReplay (s : State) (x orbit : Nat) : State :=
  let r := (s.ctx x).replay
  if !r.armed then s
  else
    let dig := match r.ckpt with | some b => digestBytes (ckptDigest b) | none => []
    let s := s.logEntry 0x0B x orbit 0 2047 [(64, bytesOf 8 orbit), (96, dig)]
    s.modCtx x (fun c => { c with replay := { c.replay with run := true } })

/-- The orbit of the first start after (R377; 14 R428; 15 R465, R469) (DEDUCED, log 54). -/
def Ctx.firstOrbit (c : Ctx) : Nat :=
  match c.replay.ckpt with
  | some b => ckptOrbitOf b
  | none => match c.replay.orbit with | some o => o | none => c.startOrbit.getD 0

/-- CONTEXT_START (R376). -/
def execContextStart (m : Nat) (q : Cmd) (s : State) : Out :=
  done s (s.serve m q { op := 0x32, who := .owner, ctx := true } (fun s =>
    s.needCtx q.ctx (
      let st := s.startCheck q.ctx
      if st ≠ stOK then refuse s st
      else
        let o := (s.ctx q.ctx).firstOrbit
        let s := (s.beginReplay q.ctx o).modCtx q.ctx (fun c => { c with replay := { c.replay with orbit := none } })
        okay (s.startCtx q.ctx o))))

/-- CONTEXT_STOP (R376; 14 R407) (DEDUCED, log 103). -/
def execContextStop (m : Nat) (q : Cmd) (s : State) : Out :=
  done s (s.serve m q { op := 0x33, who := .owner, ctx := true } (fun s =>
    s.needCtx q.ctx (
      if (s.ctx q.ctx).phase ≠ .running then refuse s stContextRunning
      else s.accept m q 0x33 q.ctx 0 [] (fun s _ =>
        let s := s.modCtx q.ctx (fun c => { c with phase := .stopping })
        if (s.ctx q.ctx).item = 4 then s.boundaryGo q.ctx else s))))

/-! ### Eviction (R382) -/

/-- Drop the highest granule: of the place that holds most, the last of them. -/
def dropTop (l : List (List Nat)) : List (List Nat) :=
  let top := l.foldl (fun m g => Nat.max m g.length) 0
  match (((List.range l.length).filter (fun k => (l.getD k []).length = top)).getLast?) with
  | some k => if top = 0 then l else l.set k ((l.getD k []).take (top - 1))
  | none => l

/-- Drop granules until `n` are left (fuel: granules held). -/
def dropTo (n : Nat) : Nat → List (List Nat) → List (List Nat)
  | 0, l => l
  | f + 1, l => if granuleSum l ≤ n then l else dropTo n f (dropTop l)

/-- What is left of an image's granules. -/
def keepHeld (held l : List (List Nat)) : List (List Nat) :=
  (List.range l.length).map (fun k => (l.getD k []).filter (fun g => (held.getD k []).contains g))

def State.evictMem (s : State) (x : Nat) (dram : Bool) : State :=
  let quota := s.settingNow (if dram then 0x50 else 0x51) x
  s.modCtx x (fun c =>
    let l := if dram then c.dram else c.base
    let l' := dropTo quota (granuleSum l) l
    let cut := fun (i : Image) => if dram then { i with dram := keepHeld l' i.dram } else { i with base := keepHeld l' i.base }
    if dram then { c with dram := l', image := c.image.map cut, staged := c.staged.map cut }
    else { c with base := l', image := c.image.map cut, staged := c.staged.map cut })

/-- The images go from every core of the context, with their cells, their locked connections and the bundles of both
banks, so that no override is left (09 R239; 13 R382; 15 R450). -/
def State.dropImages (s : State) (x : Nat) : State :=
  let s := (s.modCtx x (fun c => { c with image := none, staged := none })).mapCores x (fun _ k =>
    { k.unlock with seq := { k.seq with staged := false } })
  (s.ctx x).cores.foldl (fun s p => s.idleBanks ((s.ctx x).logical p)) s

/-- An end that waits to bind closes: the other ends learn of it and break (10 R264). -/
def State.closeWaiting (s : State) (x : Nat) (b : Bind) : State :=
  let s := (s.tellFar b.connId 5 0 none).modCtx x (fun c => { c with binds := c.binds.filter (· ≠ b) })
  (s.breakConn b.connId (fun _ _ => false)).dropCircuits (fun c => c.connId = b.connId)

/-- An elastic end of a context: being opened, waiting to bind, or bound. -/
inductive ElasticEnd where
  | opening (o : Opening)
  | waiting (b : Bind)
  | bound (b : Bind)
  deriving DecidableEq, Repr

/-- The place of an end in the order of their opening. -/
def ElasticEnd.made : ElasticEnd → Nat
  | .opening o => o.bind.made
  | .waiting b => b.made
  | .bound b => b.made

/-- An elastic end closes. -/
def State.evictEnd (s : State) (x : Nat) : ElasticEnd → State
  | .opening o => s.openFails o stQuota
  | .waiting b => s.closeWaiting x b
  | .bound b => s.closeEnd x { b with unbind := true }

/-- The elastic ends of a context. -/
def State.elasticEnds (s : State) (x : Nat) : List ElasticEnd :=
  (s.links.openings.filter (fun o => o.ctx = x && o.bind.core ≠ 2047)).map .opening
    ++ ((s.ctx x).binds.filter (fun b => !b.unbind)).map .waiting
    ++ (s.ctx x).cores.flatMap (fun p =>
      let k := s.core ⟨x, p⟩
      (k.sendEps.filter (fun e => e.2.elastic && e.2.state ≠ .unbound)).map (fun e => .bound { e.2.bind p e.1 with made := e.2.order })
        ++ (k.recvEps.filter (fun e => e.2.elastic && e.2.state ≠ .unbound)).map (fun e =>
          .bound { e.2.bind p e.1 with made := e.2.order }))

/-- Close the most recently opened ends until use is within quota (fuel: ends). -/
def State.evictLinks (x : Nat) : Nat → State → State
  | 0, s => s
  | f + 1, s =>
    if !s.overRow x 3 then s
    else match (sortBy (fun (a b : ElasticEnd) => decide (b.made ≤ a.made)) (s.elasticEnds x)).head? with
    | some e => State.evictLinks x f (s.evictEnd x e)
    | none => s

/-- EVICT of the rows in a mask (DESIGN CHOICE, log 105). -/
def State.evict (s : State) (x mask : Nat) : State :=
  let s := if mask.testBit 0 then s.evictMem x true else s
  let s := if mask.testBit 1 then s.evictMem x false else s
  let s := if mask.testBit 2 && s.overRow x 2 then s.dropImages x else s
  if mask.testBit 3 then State.evictLinks x (s.linkUse x) s else s

/-- EVICT (R382): deferred; the model does its work at once. -/
def execEvict (m : Nat) (q : Cmd) (s : State) : Out :=
  quiet s (s.serve m q { op := 0x34, who := .owner, ctx := true, arg := 255 } (fun s =>
    s.needCtx q.ctx (
      if (s.ctx q.ctx).phase ≠ .idle then refuse s stContextRunning
      else s.accept m q 0x34 q.ctx 0 [] (fun s t => (s.evict q.ctx (argFld q 0 8)).finish t stOK 0))))

/-! ### Patches and jobs (03 R91; R384) -/

/-- The fields of a patch vector entry: its other bits are RSVD and read as 0 (00 R12; 03 R90). -/
def patchFields : List (Nat × Nat) := [(0, 9), (64, 64)]

/-- PATCH_STAGE (R91). -/
def execPatchStage (m : Nat) (q : Cmd) (s : State) : Out :=
  quiet s (s.serve m q { op := 0x35, who := .owner, ctx := true, len := fun n => n % 16 = 0 && decide (n ≤ 1024) } (fun s =>
    s.needCtx q.ctx (
      let l := (chunksOf 16 65 q.payload).map (fun b => BitVec.ofNat 128 (maskBits patchFields (natOf b)))
      okay (s.modCtx q.ctx (fun c => { c with patch := l, patchNew := true })))))

/-- The first port that fails a layout: too few lanes, or not UP. -/
def State.layoutCheck (s : State) (layout : List Nat) : Option (Nat × Nat) :=
  let need := (List.range 20).filter (fun p => decide (0 < layout.getD p 0))
  match need.find? (fun p => !s.isUp p) with
  | some p => some (stLayoutPort, p)
  | none => (need.find? (fun p => decide ((s.port p).width < layout.getD p 0))).map (fun p => (stLayoutWidth, p))

/-- JOB_OPEN (R384, R343) (DEDUCED, log 102). -/
def execJobOpen (m : Nat) (q : Cmd) (s : State) : Out :=
  let id := argFld q 0 32
  let n := leAt q.payload 0 2
  let layout := ((q.payload.drop 8).take 20).map BitVec.toNat
  let mods := (List.range n).map (fun i => leAt q.payload (32 + 4 * i) 3)
  quiet s (s.serve m q { op := 0x36, who := .owner, ctx := true, arg := 2 ^ 32 - 1, len := fun l => l = 32 + 4 * n } (fun s =>
    s.needCtx q.ctx (
      if n = 0 || decide (1012 < n) || id = 0 || layout.any (fun v => decide (3 < v)) then refuse s stBadArg
      else if (s.ctx q.ctx).job.id ≠ 0 then refuse s stResource
      else match s.layoutCheck layout with
      | some (st, p) => refuse s st p
      | none => okay (s.modCtx q.ctx (fun c => { c with job := { id, layout, modules := mods } })))))

/-- JOB_CLOSE (R384). -/
def execJobClose (m : Nat) (q : Cmd) (s : State) : Out :=
  quiet s (s.serve m q { op := 0x37, who := .owner, ctx := true } (fun s =>
    s.needCtx q.ctx (okay (s.modCtx q.ctx (fun c => { c with job := {} })))))

end Sys2Proof.Machine
end

