-- ==== Sys2Proof/Machine/Trust.lean ====
section
/-! DEFINITION. Anchors (14 R399), reading the ledger (R430), attestation (R425), arming a replay (R428), the field repair
list and firmware staging (15 R438, R441), and the load of the time counter (11 R295). -/
namespace Sys2Proof.Machine
open Sys2Proof

/-! ### Anchors (14 R399) -/

def State.setAnchor (s : State) (n : Nat) (a : Anchor) : State := { s with anchors := s.anchors.set {} n a }

/-- An anchor changes: its event, and its entry in the module's stream. -/
def State.anchorChanged (s : State) (n : Nat) (a : Anchor) (install : Bool) : State :=
  (s.raise 0x88 none n (b2n install)).logEntry 8 16 0 0 0x7FF [(40, bytesOf 1 (b2n install)), (64, a.bytes)]

/-- The lowest free place for an anchor. -/
def State.anchorRoom (s : State) : Option Nat := (List.range 16).find? (fun n => !(s.anchors.get {} n).valid)

/-- ANCHOR_INSTALL (R399). -/
def execAnchorInstall (m : Nat) (q : Cmd) (s : State) : Out :=
  quiet s (s.serve m q { op := 0x43, who := .owner, len := fun n => n = 76 } (fun s =>
    let key := q.payload.drop 8
    match s.anchorRoom with
    | none => refuse s stAnchorFull
    | some n =>
      if !oidOk (keyOid key) then refuse s stParamSet
      else
        let a : Anchor := { id := leAt q.payload 0 4, mask := leAt q.payload 4 2, valid := true, key, installed := s.now }
        okay ((s.setAnchor n a).anchorChanged n a true)))

/-- Weights in state VALID, SWAP_PENDING or SWAPPING use an anchor. -/
def Weights.usesAnchor (w : Weights) (n : Nat) : Bool :=
  (w.phase = .valid || w.phase = .swapPending || w.phase = .swapping)
    && (w.force.toList ++ w.next.toList).any (fun i => i.anchor = n)

/-- ANCHOR_TABLE with ARG[0] = 1 (R399). -/
def execAnchorRemove (m : Nat) (q : Cmd) (s : State) : Out :=
  let q := withArg q 0 1 1
  let n := argFld q 8 4
  quiet s (s.serve m q { op := 0x44, who := .owner, arg := 0xF01 } (fun s =>
    let a := s.anchors.get {} n
    if !a.valid then refuse s stBadArg
    else if (List.range 16).any (fun x => (s.ctx x).weights.usesAnchor n) then refuse s stAnchorInUse
    else okay ((s.setAnchor n {}).anchorChanged n a false)))

/-! ### The ledger and attestation (14 R425, R430) -/

/-- A command that names no context by its header. -/
def noCtx (q : Cmd) : Cmd := { q with ctxValid := false }

/-- LEDGER_READ (R430). -/
def execLedgerRead (m : Nat) (q : Cmd) (s : State) : Out :=
  quiet s (s.serve m q { op := 0x45, who := .all, arg := 2 ^ 37 - 1 + 2 ^ 40, len := fun n => n = 16 } (fun s =>
    let id := argFld q 0 32
    let k := argFld q 32 5
    if !s.isG then refuse s stUnitAbsent
    else if m = 0 then refuse s stNoPath
    else if 16 < k then refuse s stBadArg
    else if !s.bulkOpen id then refuse s stNoPeer
    else s.accept m (noCtx q) 0x45 id 0 [] (fun s t =>
      let r : LRead := { conn := id, stream := k, sealFrom := leAt q.payload 0 8, boot := leAt q.payload 8 3,
                         follow := bit q.arg.toNat 40, ticket := t, slot := m }
      (s.modLedger (fun l => { l with reads := l.reads ++ [r] })).serveReads)))

/-- ATTEST (R425). -/
def execAttest (m : Nat) (q : Cmd) (s : State) : Out :=
  quiet s (s.serve m q { op := 0x46, who := .all, arg := 2 ^ 37 - 1, len := fun n => n = 32 } (fun s =>
    let id := argFld q 0 32
    if m = 0 then refuse s stNoPath
    else if !s.bulkOpen id then refuse s stNoPeer
    else s.accept m (noCtx q) 0x46 id (argFld q 32 5) q.payload (fun s _ => s.attestAll)))

/-! ### Arming a replay (14 R428) -/

def State.modReplay (s : State) (x : Nat) (f : Replay → Replay) : State := s.modCtx x (fun c => { c with replay := f c.replay })

/-- REPLAY_ARM with action 0 (R428). -/
def execReplayArmSet (m : Nat) (q : Cmd) (s : State) : Out :=
  let q := withArg q 0 2 0
  quiet s (s.serve m q { op := 0x47, who := .owner, ctx := true, arg := 3, len := fun n => n = 520 } (fun s =>
    s.needCtx q.ctx (
      if (s.ctx q.ctx).phase ≠ .idle then refuse s stContextRunning
      else okay (s.modReplay q.ctx (fun r => { r with
        armed := true, orbit := some (leAt q.payload 0 8)
        pars := (List.range 64).map (fun n => BitVec.ofNat 64 (leAt q.payload (8 + 8 * n) 8)) })))))

/-- REPLAY_ARM with action 1 (R428). -/
def execReplayArmAppend (m : Nat) (q : Cmd) (s : State) : Out :=
  let q := withArg q 0 2 1
  quiet s (s.serve m q { op := 0x47, who := .owner, ctx := true, arg := 3,
                         len := fun n => n % 256 = 0 && decide (n ≤ 3840) } (fun s =>
    s.needCtx q.ctx (
      let l := chunksOf 256 16 q.payload
      if (s.ctx q.ctx).phase ≠ .idle then refuse s stContextRunning
      else if l.any (fun e => leAt e 0 1 < 2 || decide (4 < leAt e 0 1)) then refuse s stBadArg
      else if 1024 < (s.ctx q.ctx).replay.entries.length + l.length then refuse s stReplayState
      else okay (s.modReplay q.ctx (fun r => { r with armed := true, entries := r.entries ++ l })))))

/-! ### The field repair list (15 R439, R441) -/

/-- The list as the last change leaves it, stored yet or not. -/
def State.repairs (s : State) : List (BitVec 64) :=
  (s.flash.storing.toList ++ s.flash.waiting).foldl (fun l w => match w with | .repairs r => r | _ => l) s.flash.repairs

/-- An entry as the list holds it: SOURCE 1, reserved bits 0 (DEDUCED, log 113). -/
def repairEntry (e : BitVec 64) (cause : Nat) : BitVec 64 :=
  BitVec.ofNat 64 (pack [(4, fuseType e), (1, 1), (3, 0), (5, fuseUnit e), (7, fuseCore e), (2, fuseArray e), (10, 0),
    (30, fuseLoc e), (2, cause)])

/-- FIELD_REPAIR with ARG[0] = 1. -/
def execFieldRepairAdd (m : Nat) (q : Cmd) (s : State) : Out :=
  let q := withArg q 0 1 1
  quiet s (s.serve m q { op := 0x94, who := .owner, arg := 1, len := fun n => n = 8 } (fun s =>
    let l := s.repairs
    if 1024 ≤ l.length then refuse s stRepairFull
    else okay (s.store (.repairs (l ++ [repairEntry (BitVec.ofNat 64 (leAt q.payload 0 8)) 0])))))

/-- FIELD_REPAIR with ARG[0] = 0. -/
def execFieldRepairRemove (m : Nat) (q : Cmd) (s : State) : Out :=
  let q := withArg q 0 1 0
  quiet s (s.serve m q { op := 0x94, who := .owner, arg := 1, len := fun n => n = 8 } (fun s =>
    let e := BitVec.ofNat 64 (leAt q.payload 0 8)
    let l := s.repairs
    if !bit e.toNat 4 || !l.contains e then refuse s stBadArg
    else okay (s.store (.repairs (l.erase e)))))

/-! ### Firmware staging (15 R438) -/

/-- FW_STAGE with ARG[0] = 0: a copy of the length named arrives on a bulk connection. -/
def execFwStageBulk (m : Nat) (q : Cmd) (s : State) : Out :=
  let q := withArg q 0 1 0
  quiet s (s.serve m q { op := 0xA0, who := .owner, early := true, arg := 2 ^ 64 - 2 ^ 32 + 1, len := fun n => n = 8 } (fun s =>
    let id := argFld q 32 32
    let n := leAt q.payload 0 8
    if m = 0 then refuse s stNoPath
    else if !s.bulkOpen id then refuse s stNoPeer
    else s.accept m (noCtx q) 0xA0 id n [] (fun s t =>
      match s.bulk id, s.mbox.deferred.find? (fun d => d.ticket = t) with
      | some b, some d => if n = 0 then s.finish t stFwFormat 0 else s.bulkDeferred b d
      | _, _ => s)))

/-- FW_STAGE with ARG[0] = 1: the next bytes of a copy; the last chunk completes it (DESIGN CHOICE, log 114). -/
def execFwStageChunk (m : Nat) (q : Cmd) (s : State) : Out :=
  let q := withArg q 0 1 1
  quiet s (s.serve m q { op := 0xA0, who := .owner, early := true, rom := true, arg := 3, len := fun n => decide (8 ≤ n) } (fun s =>
    let at' := leAt q.payload 0 8
    if s.boot.staging.length < at' then refuse s stBadArg
    else s.accept m (noCtx q) 0xA0 (2 ^ 32) 0 [] (fun s t =>
      let b := putBytes (padTo (Nat.max s.boot.staging.length (at' + (q.payload.length - 8))) s.boot.staging) at'
        (q.payload.drop 8)
      if bit q.arg.toNat 1 then
        { s with boot := { s.boot with staging := [] } }.store (.firmware s.spareCopy b t m)
      else { s with boot := { s.boot with staging := b } }.finish t stOK 0)))

/-! ### TIME_SET (11 R295) -/

/-- The root's counter may be loaded: once, while no context exists. -/
def State.mayLoad (s : State) : Bool :=
  s.setting 0x03 0 = 1 && !s.time.loaded && (List.range 16).all (fun x => (s.ctx x).phase = .free)

/-- TIME_SET. -/
def execTimeSet (m : Nat) (q : Cmd) (s : State) : Out :=
  quiet s (s.serve m q { op := 0x75, who := .owner, len := fun n => n = 8 } (fun s =>
    if !s.mayLoad then refuse s stTimeInUse
    else
      let v := leAt q.payload 0 8
      okay (s.loadTime v (1000 * ((s.now : Int) - (v : Int))))))

end Sys2Proof.Machine
end

