-- ==== Sys2Proof/Machine/Opens.lean ====
section
/-! DEFINITION. Transit-through grants (09 R241), opening and closing elastic connections (10 R249-R268; 12 R339), retraining a
port (12 R318, R324). -/
namespace Sys2Proof.Machine
open Sys2Proof

/-! ### Grants (09 R241) -/

def State.putGrant (s : State) (n : Nat) (g : Grant) : State :=
  { s with grants := if n < s.grants.length then s.grants.set n g else s.grants ++ [g] }

/-- The lowest free entry of the grant table. -/
def State.grantRoom (s : State) : Option Nat :=
  (List.range 64).find? (fun n => match s.grants[n]? with | some g => !g.valid | none => true)

/-- A grant is issued: its event, and its entry in the context's stream. -/
def State.issueGrant (s : State) (n : Nat) (g : Grant) : State :=
  let s := (s.putGrant n g).raise 0x30 (some g.ctx) g.quad n
  let c := s.ctx g.ctx
  s.logEntry 6 g.ctx (if c.active then c.orbit else c.nextOrbit) 0 0x7FF [(40, bytesOf 1 1), (48, s.grantRecord g)]

/-- GRANT_ISSUE (R241). -/
def execGrantIssue (m : Nat) (q : Cmd) (s : State) : Out :=
  quiet s (s.serve m q { op := 0x70, who := .owner, arg := 0x1F3F3F } (fun s =>
    let x := argFld q 0 4
    let quad := argFld q 4 2
    let lanes := argFld q 16 5
    if (s.ctx x).phase = .free then refuse s stNoContext
    else if (s.ctx x).heldQuads.contains quad || decide (16 < lanes) then refuse s stBadArg
    else match s.grantRoom with
    | none => refuse s stGrantFull
    | some n =>
      let g : Grant := { ctx := x, quad, valid := true, seamLanes := argFld q 8 6, linkLanes := lanes, master := m,
                         issued := s.now }
      (s.issueGrant n g, { detail := n })))

/-- GRANT_REVOKE (R241). -/
def execGrantRevoke (m : Nat) (q : Cmd) (s : State) : Out :=
  quiet s (s.serve m q { op := 0x71, who := .owner, arg := 63 } (fun s =>
    match s.grants[argFld q 0 6]? with
    | none => refuse s stBadArg
    | some g =>
      if !g.valid then refuse s stBadArg
      else if s.grantServes g true then refuse s stGrantInUse
      else okay (s.endGrant g)))

/-! ### CONN_OPEN (10 R267, R268) -/

/-- Length of a CONN_SPEC with its PEER records. -/
def specLength (l : List Byte) : Nat :=
  let w := leAt l 0 8
  32 + (if bit w 0 then (if fld w 1 2 = 3 then 8 * (fld w 39 6 + 1) else 8) else 0)

/-- Ends of the context that wait to bind or to be acknowledged. -/
def State.comingEnds (s : State) (x : Nat) : List Bind :=
  (s.ctx x).binds.filter (fun b => !b.unbind) ++ (s.links.openings.filter (fun o => o.ctx = x)).map (·.bind)

/-- Whether a locked connection of an installed or staged image takes the endpoint or the semaphore. -/
def Ctx.lockTakes (x : Ctx) (b : Bind) : Bool :=
  (x.image.toList ++ x.staged.toList).any (fun i =>
    (i.lockedSems b.core).contains b.sem
      || i.locked.any (fun l => if b.send then l.src = b.core && l.sep = b.ep else l.dst = b.core && l.rep = b.ep))

/-- The endpoint or the semaphore is taken (R249). -/
def State.endTaken (s : State) (x : Nat) (b : Bind) : Bool :=
  let k := s.core ⟨x, b.core⟩
  (if b.send then (k.sendEps.get {} b.ep).elastic && (k.sendEps.get {} b.ep).state ≠ .unbound
   else (k.recvEps.get {} b.ep).elastic && (k.recvEps.get {} b.ep).state ≠ .unbound)
  || k.elasticBound b.sem || (s.ctx x).lockTakes b
  || (s.comingEnds x).any (fun o => o.core = b.core && ((o.send = b.send && o.ep = b.ep) || o.sem = b.sem))

/-- Where a receive end's store lines go, beside the ends bound, the ends that wait to bind and the locked ends of a
staged image; none where they do not fit (R253). -/
def State.storePlace (s : State) (x : Nat) (b : Bind) : Option Nat :=
  let k := s.core ⟨x, b.core⟩
  let coming := ((s.comingEnds x).filter (fun o => !o.send && o.core = b.core)).map (fun o => (o.base, o.lines))
  firstFit (k.storeUse ++ coming ++ (s.ctx x).staged.toList.flatMap (fun i => i.lockUse b.core)) b.lines

/-- The ends of a connection inside the module agree (R267). -/
def State.localAgrees (s : State) (b : Bind) (q : Peer) : Bool :=
  let c := s.ctx q.ctx
  let e := (s.core ⟨q.ctx, q.core⟩).recvEps.get {} q.ep
  c.phase ≠ .free && decide (q.core < c.ncores) && e.state = .bound && e.elastic && e.connId = b.connId && e.kind = b.kind
    && e.esize = b.esize && e.depth = b.depth && (b.kind ≠ 2 || (e.senders = b.count && decide (b.index < e.senders)))

/-- The status of CONN_OPEN before the peers are asked (DEDUCED, log 74; DEDUCED, log 112; DESIGN CHOICE, log 163): a
multicast has at most 16 receivers (R250), and more are out of range. -/
def State.openStart (s : State) (x : Nat) (b : Bind) (spec : Nat) : Nat :=
  let mgmt : Bool := b.core = 2047 && b.ep = 0
  if spec ≠ x || (!mgmt && (decide ((s.ctx x).ncores ≤ b.core) || decide (48 ≤ b.sem)))
      || (b.kind = 3 && decide (16 < b.count)) then stBadArg
  else if b.kind = 0 then stResource
  else if mgmt then stOK
  else if s.endTaken x b || (!b.send && (s.storePlace x b).isNone) then stResource
  else if s.settingNow 0x53 x ≤ s.linkUse x then stQuota
  else stOK

/-- The peers with their ports and tags; the status of the first that no way leads to. -/
def State.placePeers (s : State) (x : Nat) (b : Bind) : State × List Peer × Nat :=
  b.peers.foldl (fun (a : State × List Peer × Nat) q =>
    if a.2.2 ≠ stOK then a
    else if q.code = a.1.code then (a.1, a.2.1 ++ [{ q with port := localPort }], stOK)
    else match a.1.route q.code b.connId with
    | none => (a.1, a.2.1, stNoPeer)
    | some p =>
      if b.core ≠ 2047 && !a.1.laneGranted x p then (a.1, a.2.1, stNoGrant)
      else match a.1.takeTag p with
      | none => (a.1, a.2.1, stResource)
      | some (s, t) => (s, a.2.1 ++ [{ q with port := p, tag := t }], stOK)) (s, [], stOK)

/-- The open request to one peer (12 R313). -/
def State.sendOpen (s : State) (b : Bind) (q : Peer) : State :=
  if q.port = localPort then s
  else s.sendCtl q.port 3 [(0, 1, 3), (1, 4, b.connId), (5, 3, s.code), (8, 3, q.code), (11, 1, b.kind + 4 * b2n b.cls),
    (12, 2, q.tag), (14, 1, b.esize - 1), (15, 1, b.depth - 1), (16, 1, b.count - 1), (17, 1, b.index),
    (24, 8, natOf q.bytes)]

/-- A send end asks its peers. -/
def State.openSend (s : State) (m x ticket : Nat) (b : Bind) : State :=
  let b := { b with ticket }
  if b.peers.any (fun q => q.port = localPort && !s.localAgrees b q) then
    (b.peers.foldl (fun s q => if q.port = localPort then s else s.freeTag (s.bundleOf q.port) q.tag) s).finish ticket stConnMismatch 0
  else
    let waiting := (List.range b.peers.length).filter (fun i => match b.peers[i]? with | some q => q.port ≠ localPort | none => false)
    let o : Opening := { bind := b, ctx := x, slot := m, deadline := s.now + 100000000, waiting }
    let s := s.modLinks (fun l => { l with openings := l.openings ++ [o] })
    if waiting.isEmpty then s.openDone o else b.peers.foldl (fun s q => s.sendOpen b q) s

/-- The next number of an open. -/
def State.nextMade (s : State) : State × Nat :=
  ({ s with mbox := { s.mbox with opened := s.mbox.opened + 1 } }, s.mbox.opened + 1)

/-- A receive end is reserved: it binds at its context's next boundary; the management endpoint takes any. -/
def State.openRecv (s : State) (x ticket : Nat) (b : Bind) : State :=
  let s := if b.core = 2047 then s
    else s.modCtx x (fun c => { c with binds := c.binds ++ [{ b with ticket, base := (s.storePlace x b).getD 0 }] })
  s.finish ticket stOK 0

/-- CONN_OPEN (R267). -/
def execConnOpen (m : Nat) (q : Cmd) (s : State) : Out :=
  let spec := fld (leAt q.payload 0 8) 4 4
  quiet s (s.serve m q { op := 0x72, who := .owner, ctx := true, len := fun n => n = specLength q.payload } (fun s =>
    s.needCtx q.ctx (
      let x := q.ctx
      let b := Bind.ofBytes q.payload
      let st := s.openStart x b spec
      let p := s.placePeers x b
      if st ≠ stOK then refuse s st
      else if p.2.2 ≠ stOK then refuse s p.2.2
      else s.accept m q 0x72 b.connId 0 [] (fun s t =>
        let s := { s with links := p.1.links }
        let r := s.nextMade
        let b := { b with made := r.2, peers := p.2.1 }
        if b.send then r.1.openSend m x t b else r.1.openRecv x t b))))

/-! ### CONN_CLOSE (10 R266, R267) -/

/-- The unbinding that closes an elastic end, bound or waiting to bind. -/
def State.closing (s : State) (x p ep : Nat) (send : Bool) : Option Bind :=
  let k := s.core ⟨x, p⟩
  let e := k.sendEps.get {} ep
  let r := k.recvEps.get {} ep
  if send && e.elastic && e.state ≠ .unbound then some { e.bind p ep with unbind := true }
  else if !send && r.elastic && r.state ≠ .unbound then some { r.bind p ep with unbind := true }
  else (((s.ctx x).binds.find? (fun b => !b.unbind && b.core = p && b.ep = ep && b.send = send))).map (fun (b : Bind) =>
    { b with unbind := true })

/-- CONN_CLOSE (R267). -/
def execConnClose (m : Nat) (q : Cmd) (s : State) : Out :=
  quiet s (s.serve m q { op := 0x73, who := .owner, ctx := true, arg := 0x1F7FF } (fun s =>
    s.needCtx q.ctx (
      let p := argFld q 0 11
      let ep := argFld q 12 4
      let send := bit q.arg.toNat 16
      if (s.ctx q.ctx).ncores ≤ p then refuse s stBadArg
      else match s.closing q.ctx p ep send with
      | none => refuse s stBadArg
      | some b =>
        if (s.ctx q.ctx).binds.any (fun o => o.unbind && o.core = p && o.ep = ep && o.send = send) then okay s
        else okay (s.modCtx q.ctx (fun c => { c with binds := c.binds ++ [b] })))))

/-! ### PORT_RETRAIN (12 R318, R324) -/

/-- ABSENCE on a port, carried by it and no other: what it covers, and when the port is to be back. -/
def State.sendAbsence (s : State) (p scope returnBy : Nat) : State :=
  (s.modPort p (fun v => { v with planned := true })).queueFlit (s.bundleOf p)
    { vl := 3, ctl := true, tag := 0, on := some p
      flit := ctlFlit [(0, 1, 0x0B), (1, 1, scope), (2, 3, s.code), (8, 8, returnBy)] }

/-- The firmware retrains a port (DEDUCED, log 148). -/
def State.retrain (s : State) (p ticket : Nat) : State :=
  let s := if s.isUp p && (s.members p).length = 1 then s.sendAbsence p 0 (s.now + 60000000000) else s
  if s.role p = 0 || s.setting 0x11 0 = 16777215 then s.finish ticket stOK 0
  else (s.portOff p .down).trainPort p

/-- PORT_RETRAIN (R318). -/
def execPortRetrain (m : Nat) (q : Cmd) (s : State) : Out :=
  let p := argFld q 0 5
  quiet s (s.serve m q { op := 0x74, who := .owner, arg := 31 } (fun s =>
    if 20 ≤ p then refuse s stBadArg
    else if s.pendingS [0x10, 0x11, 0x12, 0x13, 0x14] then refuse s stTxnPending
    else s.accept m (noCtx q) 0x74 p 0 [] (fun s t => s.retrain p t)))

end Sys2Proof.Machine
end

