-- ==== Sys2Proof/Machine/Resets.lean ====
section
/-! DEFINITION. Reset scopes, their steps and outcomes, faults and the order of recoveries (15 R446-R459; 09 R242, R243;
11 R284; 14 R408). -/
namespace Sys2Proof.Machine
open Sys2Proof

/-! ### Scopes (R446) -/

/-- The logical cluster of a logical core, as RESET numbers it. -/
def clusterOf (core : Nat) : Nat := core / 72 * 9 + core % 72 / 8

/-- The quadrant of a unit, by scope and target. -/
def unitQuad (u : Nat × Nat) : Nat :=
  match u.1 with
  | 0 => u.2 / 288
  | 1 => u.2 / 36
  | _ => u.2

/-- A unit lies within another. -/
def within (a b : Nat × Nat) : Bool :=
  match b.1 with
  | 0 => a = b
  | 1 => (a.1 = 0 && clusterOf a.2 = b.2) || a = b
  | 2 => decide (a.1 ≤ 2) && unitQuad a = b.2
  | _ => true

/-- A new fault's unit shares something with what a recovery uses: at partition scope the seams of its quadrant too
(R456). -/
def overlaps (a used : Nat × Nat) : Bool :=
  within a used || within used a || (a.1 = 2 && used.1 = 2 && seams a.2 used.2 = 1)

/-- The enclosing unit of at least rung `k`. -/
def widenTo (k : Nat) (u : Nat × Nat) : Nat × Nat :=
  if k ≤ u.1 then u
  else match k with
  | 1 => (1, clusterOf u.2)
  | 2 => (2, unitQuad u)
  | _ => (3, 0)

/-- The smallest unit that contains both. -/
def encloseBoth (a b : Nat × Nat) : Nat × Nat :=
  if within a b then b
  else if within b a then a
  else if decide (a.1 ≤ 1) && decide (b.1 ≤ 1) && widenTo 1 a = widenTo 1 b then widenTo 1 a
  else if decide (a.1 ≤ 2) && decide (b.1 ≤ 2) && unitQuad a = unitQuad b then (2, unitQuad a)
  else (3, 0)

def Recovery.area (r : Recovery) : Nat × Nat := (r.scope, r.target)

/-- The unit of a merge with a recovery: one rung above it at the least (R457). -/
def Recovery.merge (r : Recovery) (u : Nat × Nat) : Nat × Nat := widenTo (Nat.min 3 (r.scope + 1)) (encloseBoth u r.area)

/-- Logical cores in a unit. -/
def unitCores (u : Nat × Nat) : List Nat :=
  match u.1 with
  | 0 => [u.2]
  | 1 => (List.range 8).map (fun i => u.2 / 9 * 72 + u.2 % 9 * 8 + i)
  | 2 => (List.range 288).map (fun i => u.2 * 288 + i)
  | _ => List.range 1152

/-- Sites in a unit, or that hold it. -/
def unitSites (u : Nat × Nat) : List Nat :=
  match u.1 with
  | 0 => [u.2 / 72]
  | 1 => [u.2 / 9]
  | 2 => (List.range 4).map (fun i => 4 * u.2 + i)
  | _ => List.range 16

/-- Contexts affected (R447). -/
def State.affected (s : State) (u : Nat × Nat) : List Nat :=
  s.liveCtxs.filter (fun x => (s.ctx x).sites.any (fun n => (unitSites u).contains n))

def maskOf (l : List Nat) : Nat := l.foldl (fun m x => m ||| 2 ^ x) 0

def State.setRunning (s : State) (r : Option Recovery) : State := { s with recovery := { s.recovery with running := r } }
def State.modRunning (s : State) (f : Recovery → Recovery) : State := s.setRunning (s.recovery.running.map f)

/-! ### A forced partition reset and foreign contexts (09 R243) -/

/-- The context uses the hub of a quadrant foreign to it. -/
def State.crosses (s : State) (x q : Nat) : Bool :=
  let c := s.ctx x
  !c.heldQuads.contains q && ((c.image.toList ++ c.staged.toList).any (fun i => (c.foreignVias i).contains q)
    || decide (0 < s.quadLanes x q))

/-- Foreign contexts with installed cells or link lanes in a quadrant. -/
def State.foreigners (s : State) (q : Nat) : List Nat :=
  s.liveCtxs.filter (fun x =>
    let c := s.ctx x
    !c.heldQuads.contains q && (c.image.toList.any (fun i => (c.foreignVias i).contains q) || decide (0 < s.quadLanes x q)))

/-- Connections that leave by a port of a quadrant, or whose link lanes cross its hub. -/
def State.connsThrough (s : State) (q : Nat) : List Nat :=
  let here : Nat → Bool := fun p => p / 5 = q && decide (p < 20)
  let mine := (List.range 16).flatMap (fun x =>
    let crossed : Nat → Bool := fun p => here p || ((s.ctx x).laneQuads p).contains q
    ((s.ctx x).cores.flatMap (fun p =>
      ((s.core ⟨x, p⟩).sendEps.filter (fun e => e.2.elastic && e.2.state = .bound
        && e.2.peers.any (fun t => t.port ≠ localPort && crossed t.port))).map (fun e => e.2.connId)))
    ++ ((s.ctx x).binds.filter (fun b => b.send && !b.unbind && b.peers.any (fun t => t.port ≠ localPort && crossed t.port))).map
        (·.connId))
  let through := (s.links.circuits.filter (fun c => here c.port || (match c.dest with
    | .through t _ => here t
    | .recv x _ _ _ => ((s.ctx x).laneQuads c.port).contains q
    | _ => false))).map (·.connId)
  (mine ++ through).foldr insertNat []

def State.breakAll (s : State) (ids : List Nat) (cause : Nat) : State := ids.foldl (fun s i => s.breakWith i cause none) s

/-- A line whose route crosses a hub that loses its cells at step `n`: one past it goes on, one inside it is dropped, one
before it will be dropped at the hub before (R243). -/
def Flight.meets (f : Flight) (q n : Nat) : Flight :=
  match f.gone (fun v => v = q) with
  | some (k + 1) =>
    if f.lost.isSome || decide (f.reaches (k + 1) + 8 ≤ n) then f
    else { f with lost := some 2, dropAt := Nat.max n (f.reaches (k + 1)) }
  | _ => f

/-- Cells of foreign contexts in the quadrant go, with the lines in flight there. -/
def State.removeForeign (s : State) (q : Nat) : State :=
  (s.liveCtxs.filter (fun x => s.crosses x q)).foldl (fun s x => s.modCtx x (fun c => { c with
    removed := insertNat q c.removed, flights := c.flights.map (fun f => f.meets q c.step) })) s

/-! ### Steps 1 and 2 (R448) -/

def portsOf (u : Nat × Nat) : List Nat :=
  match u.1 with
  | 2 => (List.range 5).map (fun k => 5 * u.2 + k)
  | 3 => List.range 20
  | _ => []

/-- The unit holds the halo port of a pairing that is ACTIVE at either end (R451). -/
def State.haloPort (s : State) (u : Nat × Nat) : Bool :=
  (portsOf u).any (fun p => s.role p = 5) && (List.range 16).any (fun x => (s.ctx x).halo.phase = .active)

/-- An eclipse hold on every affected context. -/
def State.eclipse (s : State) (u : Nat × Nat) : State :=
  (s.affected u).foldl (fun s x => s.modCtx x (fun c => { c with holds := { c.holds with eclipse := true } })) s

/-- ECLIPSE_BEGIN's DATA: the mask; the two bits that the scope claims as well are open. -/
def eclipseData (scope mask : Nat) : Nat := mask / 4 * 4 + Config.eclipseBits scope mask % 4

/-- A recovery begins. -/
def State.beginRecovery (s : State) (r : Recovery) : State :=
  let s := s.setRunning (some { r with step := 2, since := s.now })
  (s.raise 0x111 none r.target (eclipseData r.scope (maskOf (s.affected r.area)))).eclipse r.area

/-- The running recovery goes on at another scope, from step 2. -/
def State.widen (s : State) (u : Nat × Nat) : State :=
  (s.modRunning (fun r => { r with scope := u.1, target := u.2, merged := true, forced := true, step := 2, since := s.now })).eclipse u

/-- The running recovery becomes a module reset. -/
def State.escalate (s : State) (kind : Nat) : State := (s.widen (3, 0)).raise 0x116 none 0 kind

/-! ### The order of recoveries (R456-R459) -/

/-- What the table of R456 decides. -/
inductive Verdict where
  | start
  | absorb
  | escalate
  | queue
  | merge
  deriving DecidableEq, Repr

def State.verdict (s : State) (u : Nat × Nat) : Verdict :=
  match s.recovery.running with
  | none => .start
  | some r =>
    if r.scope = 3 then .absorb
    else if within u r.area && decide (r.step < 4) then .absorb
    else if r.merged then .escalate
    else if overlaps u r.area then .merge
    else if s.recovery.queue.any (fun v => overlaps u v.area) then .queue
    else if 8 ≤ s.recovery.queue.length then .escalate
    else .queue

/-- A recovery takes over the faulted cores of another (R455). -/
def Recovery.also (r : Recovery) (cores : List Nat) : Recovery := { r with cores := cores.foldr insertNat r.cores }

/-- A fault that overlaps a queued one merges with it; another takes the next place (DEDUCED, log 118). -/
def State.queueUp (s : State) (r : Recovery) : State :=
  match findIdxOpt (fun (v : Recovery) => overlaps r.area v.area) s.recovery.queue with
  | some (i, v) =>
    let u := v.merge r.area
    let w : Recovery := { v.also r.cores with scope := u.1, target := u.2, merged := true, forced := true }
    { s with recovery := { s.recovery with queue := s.recovery.queue.set i w } }.raise 0x115 none u.2 u.1
  | none =>
    { s with recovery := { s.recovery with queue := s.recovery.queue ++ [r] } }.raise 0x114 none r.target
      (pack [(4, r.kind), (4, s.recovery.queue.length)])

/-- The running recovery widens to a new fault. -/
def State.mergeRunning (s : State) (u : Nat × Nat) : State :=
  match s.recovery.running with
  | none => s
  | some r => let v := r.merge u; (s.widen v).raise 0x115 none v.2 v.1

/-- A fault whose recovery is to start enters the order. -/
def State.orderFault (s : State) (r : Recovery) : State :=
  let joined := s.modRunning (fun v => v.also r.cores)
  match s.verdict r.area with
  | .start => s.beginRecovery r
  | .absorb => joined
  | .escalate => joined.escalate r.kind
  | .merge => joined.mergeRunning r.area
  | .queue => s.queueUp r

/-! ### Step 2 ends (R448, R449) -/

/-- The wave of a context stands, as an eclipse needs it. -/
def Ctx.stands (c : Ctx) : Bool :=
  !c.active || (c.resume.isNone && (c.item ≠ 0 || (match c.freeze with | some z => z.settled | none => false)))

/-- Every step under a freeze has ended. -/
def State.settleAll (s : State) (l : List Nat) : State := l.foldl (fun s x => s.settleFreeze x) s

/-- Every affected context stands, and what a fence waits for holds for it. -/
def State.eclipsed (s : State) (u : Nat × Nat) : Bool := (s.affected u).all (fun x => (s.ctx x).stands && s.fenceHolds x)

/-- A context is cut at its step boundary: the step it would take next does not run (DEDUCED, log 134). -/
def Ctx.cut (c : Ctx) (now : Nat) : Ctx :=
  if c.stands then c
  else
    let step := if c.resume.isSome && c.item = 0 then c.step else if c.step = 0 then 2 ^ 48 - 1 else c.step - 1
    { c with step, resume := none, item := 0, freeze := some { step, since := now, settled := true } }

/-! ### Steps 3 and 4 -/

/-- ABSENCE on every UP port of a list. -/
def State.notice (s : State) (ports : List Nat) (scope ahead : Nat) : State :=
  (ports.filter s.isUp).foldl (fun s p => s.sendAbsence p scope (s.now + ahead)) s

/-- Every batch that can be signed is signed (fuel: the batches). -/
def State.sealMany : Nat → State → State
  | 0, s => s
  | n + 1, s => State.sealMany n s.sealNext

def State.sealAll (s : State) : State := State.sealMany s.ledger.closed.length s

def State.closeAll (s : State) : State := (List.range 17).foldl (fun s k => s.closeBatch k) s

/-- The orbit under way ends where it stands: its record carries ABANDONED and no class (R450). -/
def State.cutOrbit (s : State) (x : Nat) : State :=
  let c := s.ctx x
  if !c.active then s
  else
    let open' : Bool := c.item = 0 || c.item = 1 || c.resume.isSome
    if !open' then s
    else
      let since := match c.freeze with | some z => z.since | none => s.now
      let s := if c.item = 1 then s else s.modCtx x (fun c => { c with
        last := { c.last with endTick := s.now, freezeTicks := c.freezeTicks + (s.now - since) } })
      let s := (s.flagCtx x fAbandoned).modCtx x (fun c => { c with halo := { c.halo with catchUp := false } })
      let r := s.orbitRecord x
      let s := if s.isG then s.addEntry x s.now r else s
      (s.itemStatus x).1

/-- A segment of a context's weights lies in a unit. -/
def Ctx.segIn (c : Ctx) (u : Nat × Nat) (g : Seg) : Bool :=
  match g.place with
  | 0 => u.1 = 2 && quadOfSite (c.stackOf g.target) = u.2
  | 1 => u.1 = 2 && c.quad g.target = u.2
  | 2 => within (0, c.logical g.target) u
  | _ => false

/-- Weights that meet the reset (14 R408): what lies in the scope is lost; a swap under way ends with the orbit
(DESIGN CHOICE, log 120). -/
def State.resetWeights (s : State) (x : Nat) (u : Nat × Nat) : State :=
  let c := s.ctx x
  let w := c.weights
  let hit := (w.force.toList ++ w.next.toList).any (fun i => i.segs.any (c.segIn u))
  let s := if w.busy && (hit || w.phase = .swapping) then s.weightBroken x stWeightInvalid 0
    else if w.busy && w.swap then s.weightRefused x stNoImage else s
  let s := if hit && w.phase ≠ .none then s.modWeights x (fun w => { w with phase := .invalid, swap := false }) else s
  s.modCtx x (fun c => { c with holds := { c.holds with weightSwap := false } })

/-- The elastic ends of an affected context on cores in the scope go (DEDUCED, log 121). -/
def State.resetEnds (s : State) (x : Nat) (u : Nat × Nat) : State :=
  let c := s.ctx x
  let mine : Nat → Bool := fun p => within (0, c.logical p) u
  let s := (s.links.openings.filter (fun o => o.ctx = x && o.bind.core ≠ 2047 && mine o.bind.core)).foldl
    (fun s o => s.openFails o stNoPeer) s
  let s := (c.binds.filter (fun b => !b.unbind && mine b.core)).foldl (fun s b => s.tellFar b.connId 6 2 none) s
  (s.modCtx x (fun c => { c with binds := c.binds.filter (fun b => !mine b.core) })).breakFrom x mine 2

/-- A line in flight of an affected context still arrives: a write of base memory or DRAM whose ends lie outside the scope
and which no router of the scope holds (09 R242). What only the orbit's own rings, queues and departures would see ends
with the orbit. -/
def Ctx.arrives (c : Ctx) (u : Nat × Nat) (f : Flight) : Bool :=
  let q := unitQuad u
  let stackIn := fun k => u.1 = 2 && quadOfSite (c.stackOf k) = q
  let within := u.1 = 2 && (f.via.head? = some q || f.via.getLast? = some q || (match f.gone (fun v => v = q) with
    | some k => decide (f.reaches k ≤ c.step) && decide (c.step < f.reaches k + 8)
    | none => false))
  f.lost.isNone && !within && (match f.cargo with
    | .baseRead _ _ (some k) _ _ _ _ => !stackIn k
    | .baseWrite _ _ => true
    | .dramLine k _ _ => !stackIn k
    | _ => false)

/-- Reads of a context's orbit that have not landed are given up with the orbit: their rings and staging entries begin
anew with the next. -/
def State.dropReads (s : State) (x : Nat) : State :=
  let keep : DramReq → Bool := fun r => r.ctx ≠ x || r.write || (match r.dest with | .remote _ _ => true | _ => false)
  (s.ctx x).sites.foldl (fun s d => s.modStack d (fun k =>
    { k with waiting := k.waiting.filter keep, served := k.served.filter keep })) s

/-- What an affected context has written lands, and its lines in flight outside the scope arrive (07 R174, R191; 09 R242)
(DEDUCED, log 119). -/
def State.landOutside (s : State) (x : Nat) (u : Nat × Nat) : State :=
  let s := s.modCtx x (fun c => { c with flights := c.flights.filter (c.arrives u) })
  let s := s.takeFlightsBy x (2 ^ 64) Flight.isBank (fun all s f => s.arriveBase x all f)
  let s := s.takeFlightsBy x (2 ^ 64) Flight.isDramLine (fun _ s f => s.arriveDramLine x f)
  let s := s.modCtx x (fun v => { v with
    flights := [], baseWrites := v.baseWrites.filter (fun w => !(u.1 = 2 && w.2.1 = u.2)) })
  (s.landWrites x).dropReads x

/-- Everything in a partition but its cores: stacks, base memory, ports, pace domains. -/
def State.resetQuad (s : State) (q : Nat) : State :=
  let s := (List.range 4).foldl (fun s i =>
    let d := 4 * q + i
    ({ s with mem := Memory.clear s.mem (dramAddr d 0) 17179869184 }).modStack d (fun k =>
      { k with waiting := [], served := [], unsettled := [], remote := [], staging := {} })) s
  let s := { s with mem := Memory.clear s.mem (baseAddr q 0) 67108864 }
  let s := (portsOf (2, q)).foldl (fun s p => (s.portOff p .down).trainPort p) s
  ((16 + q) :: unitSites (2, q)).foldl (fun s d => s.setDomain d { s.domain d with detached := true, recent := [], curMhz := 0 }) s

/-- Queued recoveries within the scope are done with it (R458). -/
def State.dropQueued (s : State) (u : Nat × Nat) : State :=
  let gone := s.recovery.queue.filter (fun v => within v.area u)
  let s := s.modRunning (fun r => r.also (gone.flatMap (·.cores)))
  let s := { s with recovery := { s.recovery with queue := s.recovery.queue.filter (fun v => !within v.area u) } }
  { s with mbox := { s.mbox with deferred := s.mbox.deferred.map (fun d =>
    if d.opcode = 0x90 && gone.any (fun v => v.ticket = d.ticket) then { d with aux := 1 } else d) } }

/-- A module reset: fuses, flash, sealed batches and the power rails stand; everything else begins again (R452;
13 R385; 14 R420). `keep` are the RESET commands it completes (DESIGN CHOICE, log 115). -/
def State.moduleReset (s : State) (keep : List Deferred) : State :=
  let m : Mbox := { deferred := keep }
  { pending := s.pending, fuses := s.fuses
    flash := { s.flash with waiting := [], storing := none }
    ledger := { held := s.ledger.held, highRaised := s.ledger.highRaised }
    mbox := { m with slots := keep.foldl (fun t d => t.modify {} d.slot (fun v => { v with outstanding := v.outstanding + 1 })) [] }
    recovery := { running := s.recovery.running }
    power := { s.power with
      refclkLost := false, capSince := none, capRaised := false, paced := none, warned := [], throttled := [] } }

/-- RESET commands that a module reset completes. -/
def State.resetCmds (s : State) : List Deferred :=
  (s.mbox.deferred.filter (fun d => d.opcode = 0x90)).map (fun d => { d with aux := 1 })

/-- What a partition reset forces (09 R243; 15 R451): pairings are suspended, the quadrant's cells go, and where it is
forced every connection through it breaks. -/
def State.forceQuad (s : State) (r : Recovery) : State :=
  let q := r.target
  let s := if s.haloPort r.area then (List.range 16).foldl (fun s x => s.suspend x) s else s
  let s := (s.removeForeign q).modHub q (fun h => { h with inReset := true })
  if r.forced then s.breakAll (s.connsThrough q) 4 else s

/-- The reset point (DEDUCED, log 119). -/
def State.resetPoint (s : State) (r : Recovery) : State :=
  if r.scope = 3 then
    (s.moduleReset s.resetCmds).setRunning (some { r with step := 5, since := 0 })
  else
    let u := r.area
    let s := (s.affected u).foldl (fun s x => ((s.resetEnds x u).resetWeights x u).landOutside x u) s
    let s := if r.scope = 2 then s.forceQuad r else s
    let s := (unitCores u).foldl (fun s l => (s.idleCore l).clearCoreMem l) s
    let s := if r.scope = 2 then s.resetQuad r.target else s
    (s.dropQueued u).modRunning (fun r => { r with step := 5 })

/-- Step 3: notices, and at module scope the batches. -/
def State.resetNotice (s : State) (r : Recovery) : State :=
  let s := s.notice (portsOf r.area) (r.scope - 1) (if r.scope = 2 then 6000000000 else 12000000000)
  if r.scope = 3 then ((s.affected r.area).foldl (fun s x => s.cutOrbit x) s).closeAll.sealAll else s

/-- ECLIPSE_FROZEN (R448): steps 3 and 4, once every affected context stands; at module scope the reset waits until the
batches closed are sealed. -/
def execEclipseFrozen (s : State) : Out :=
  done s (match s.recovery.running with
  | none => s
  | some r =>
    if r.step = 2 then
      let t := s.settleAll (s.affected r.area)
      if t.eclipsed r.area then
        let t := if r.cutMask = 0 then t else t.raise 0x112 none 0 r.cutMask
        let t := (t.resetNotice r).modRunning (fun r => { r with step := 3 })
        if r.scope = 3 && !t.ledger.closed.isEmpty then t else t.resetPoint r
      else t
    else if r.step = 3 && s.ledger.closed.isEmpty then s.resetPoint r
    else s)

/-! ### Completion -/

/-- Eclipse holds are withdrawn; boundaries that waited go on. -/
def State.liftEclipse (s : State) : State :=
  (List.range 16).foldl (fun s x =>
    if (s.ctx x).holds.eclipse then
      let s := s.modCtx x (fun c => { c with holds := { c.holds with eclipse := false } })
      if (s.ctx x).item = 0 || (s.ctx x).resume.isSome then s else s.boundaryGo x
    else s) s

/-- RESET commands that ended with the recovery. -/
def State.endResets (s : State) (ticket status : Nat) : State :=
  (s.mbox.deferred.filter (fun d => d.opcode = 0x90 && (d.ticket = ticket || d.aux = 1))).foldl
    (fun s d => s.finish d.ticket status 0) s

/-- The first queued recovery starts. -/
def State.startNext (s : State) : State :=
  match s.recovery.queue with
  | [] => s
  | r :: l => { s with recovery := { s.recovery with queue := l } }.beginRecovery r

/-- The outcome of R450 for one affected context. -/
def State.resetOutcome (s : State) (x : Nat) : State :=
  let c := s.ctx x
  let s := s.cutOrbit x
  let s := if c.active then s.toIdle x else s
  let s := s.dropImages x
  let s := if (s.ctx x).phase = .idle then s.boundarySettings x else s
  let s := if c.holds.debug && !c.active then s.finishAll 0x52 x stOK 0 else s
  let s := if c.halo.catchUp then (s.raise 0x126 (some x) x 0).finish c.halo.ticket stHaloState 0 else s
  let s := s.modCtx x (fun c => { c with
    armed := false, holds := { c.holds with debug := false, eclipse := false }
    halo := { c.halo with catchUp := false, resume := false, ticket := 0 } })
  s.suspend x

/-- Domains of a partition attach again (11 R284). -/
def State.attach (s : State) (q : Nat) : State :=
  let from' := ([0, 1, 2, 3].find? (fun v => seams v q = 1)).getD 0
  let n := (s.domain (16 + from')).beats
  ((16 + q) :: unitSites (2, q)).foldl (fun s d => s.setDomain d { s.domain d with detached := false, beats := n }) s

/-- A scoped reset below the module completes (DEDUCED, log 117). -/
def State.restoreDone (s : State) (r : Recovery) : State :=
  let s := (s.affected r.area).foldl (fun s x => s.resetOutcome x) s
  if r.scope = 2 then (s.attach r.target).modHub r.target (fun h => { h with inReset := false }) else s

/-- The cores whose faults a recovery has mended (R455). -/
def State.stampCores (s : State) (r : Recovery) : State :=
  { s with recovery := { s.recovery with
    lastCore := r.cores.foldl (fun t n => t.set 0 n s.now) s.recovery.lastCore } }

/-- Holds stand only for a recovery that runs. -/
def State.liftIdle (s : State) : State := if s.recovery.running.isNone then s.liftEclipse else s


end Sys2Proof.Machine
end

