-- ==== Sys2Proof/Machine/Faults.lean ====
section
/-! DEFINITION. The RESET command (15 R453, R459), the eclipse budget (R449), faults (R454, R455), the management watchdog, and
the loss of the reference clock (16 R488). -/
namespace Sys2Proof.Machine
open Sys2Proof

/-! ### The eclipse budget (R449) -/

/-- A context is cut: its pipelines in flight go too, while what it has written stands. -/
def State.cutCtx (s : State) (x : Nat) : State :=
  (s.modCtx x (fun c => c.cut s.now)).mapCores x (fun _ k => { k with pipe := [], vpipe := [], opland := [], drainIn := [] })

/-- The budget has run out at step 2: an unforced RESET fails, and otherwise the contexts not frozen are cut;
ECLIPSE_CUT follows once the conditions of R216 hold for them. -/
def State.budgetOut (s : State) (r : Recovery) : State :=
  let s := s.settleAll (s.affected r.area)
  if s.eclipsed r.area then s
  else if r.kind = 0 && !r.forced then
    ((s.setRunning none).liftEclipse.endResets r.ticket stEclipseTimeout).startNext
  else
    let l := (s.affected r.area).filter (fun x => !(s.ctx x).stands)
    (l.foldl (fun s x => s.cutCtx x) s).modRunning (fun r => { r with cutMask := r.cutMask ||| maskOf l })

/-- ECLIPSE_BUDGET_EXPIRY. -/
def execEclipseBudgetExpiry (t : Nat) (s : State) : Out :=
  let u := s.atTick t
  done s (match u.recovery.running with
  | none => u
  | some r => if r.step = 2 && decide (r.since + u.setting 0x70 0 ≤ u.now) then u.budgetOut r else u)

/-! ### RESET (R453, R459) -/

/-- The target exists and lies in no unusable site. -/
def State.resetTarget (s : State) (u : Nat × Nat) : Bool :=
  match u.1 with
  | 0 => decide (u.2 < 1152) && s.siteFree (u.2 / 72)
  | 1 => decide (u.2 < 144) && s.siteFree (u.2 / 9)
  | 2 => decide (u.2 < 4)
  | 3 => u.2 = 0
  | _ => false

/-- The status of RESET, with its DETAIL (DESIGN CHOICE, log 123). -/
def State.resetCheck (s : State) (u : Nat × Nat) (force : Bool) : Nat × Nat :=
  if s.boot.rom then (if u = (3, 0) then (stOK, 0) else (stNotReady, 0))
  else if !s.resetTarget u then (stResetScope, 0)
  else if u.1 = 2 && !force && !(s.foreigners u.2).isEmpty then (stTransitBusy, maskOf (s.foreigners u.2))
  else if u.1 = 2 && !force && s.haloPort u then (stHaloActive, 0)
  else match s.verdict u with
    | .merge => (stRecoveryBusy, 0)
    | .escalate => (stRecoveryBusy, 0)
    | .queue => if s.recovery.queue.any (fun v => overlaps u v.area) then (stRecoveryBusy, 0) else (stOK, 0)
    | .start => (stOK, 0)
    | .absorb => (stOK, 0)

/-- RESET enters the order; in ROM recovery the boot ROM resets at once (DEDUCED, log 116). -/
def State.resetGo (s : State) (r : Recovery) : State :=
  if s.boot.rom then (s.setRunning none).beginRecovery r |>.resetPoint r
  else match s.verdict r.area with
    | .start => s.beginRecovery r
    | .queue => s.queueUp r
    | _ => s

/-- RESET (DEDUCED, log 132). -/
def execResetCmd (m : Nat) (q : Cmd) (s : State) : Out :=
  let u := (argFld q 0 3, argFld q 4 12)
  let force := bit q.arg.toNat 16
  done s (s.serve m q { op := 0x90, who := .owner, rom := true, arg := 0x1FFF7 } (fun s =>
    let st := s.resetCheck u force
    if st.1 ≠ stOK then refuse s st.1 st.2
    else s.accept m (noCtx q) 0x90 0 (b2n (!s.boot.rom && s.verdict u = .absorb)) [] (fun s t =>
      s.resetGo { kind := 0, scope := u.1, target := u.2, forced := force, tick := s.now, ticket := t, slot := m })))

/-! ### Faults (R454) -/

/-- The firmware runs: from stage 2 of a bring-up on. -/
def State.firmwareRuns (s : State) : Bool := !s.boot.rom && (s.boot.phase ≠ 0 || decide (2 ≤ s.boot.stage))

/-- A fault is reported; with AUTO_RECOVER the firmware starts its recovery, which enters the order. `cores` is the
physical core of a CORE_FAULT. -/
def State.fault (s : State) (kind scope target : Nat) (cores : List Nat) : State :=
  let s := s.raise 0x110 none target (pack [(4, kind), (2, scope)])
  if s.setting 0x71 0 = 1 && s.firmwareRuns then
    s.orderFault { kind, scope, target, forced := true, tick := s.now, cores }
  else s

/-- Faults are seen while the compute plane runs. -/
def State.faultIf (s : State) (ok : Bool) (kind scope target : Nat) : State :=
  if ok && s.mcRuns && s.power.compute then s.fault kind scope target [] else s

/-- The physical core of a logical core has faulted within a second of completing its previous recovery (R455)
(DEDUCED, log 125). -/
def State.faultsAgain (s : State) (core : Nat) : Bool :=
  let t := s.recovery.lastCore.get 0 (core / 72 * 80 + s.physical core)
  decide (0 < t) && decide (s.now ≤ t + 1000000000)

/-- A site fails for this boot (R443). -/
def State.siteFails (s : State) (site typ : Nat) : State :=
  if s.boot.failed.testBit site then s
  else { s with boot := { s.boot with failed := s.boot.failed ||| 2 ^ site } }.raise 0x104 none site typ

/-- The firmware adds entries to the field repair list, as far as there is room. -/
def State.addRepairs (s : State) (l : List (BitVec 64)) : State :=
  let old := s.repairs
  let new := l.take (1024 - old.length)
  if new.isEmpty then s else s.store (.repairs (old ++ new))

/-- A defect entry of the firmware's own: a core of a site. -/
def coreEntry (site pc cause : Nat) : BitVec 64 :=
  repairEntry (BitVec.ofNat 64 (pack [(8, 1), (5, site), (7, pc)])) cause

/-- CORE_FAULT (R455). -/
def execCoreFault (core t : Nat) (s : State) : Out :=
  let u := s.atTick t
  done s (if decide (1152 ≤ core) || !(u.mcRuns && u.power.compute) then u
  else if u.faultsAgain core && u.setting 0x71 0 = 1 then
    let u := u.raise 0x110 none core (pack [(4, 1), (2, 0)])
    (u.addRepairs [coreEntry (core / 72) (u.physical core) 2]).siteFails (core / 72) 1
  else u.fault 1 0 core [core / 72 * 80 + u.physical core])

/-- CLUSTER_FAULT. -/
def execClusterFault (site cluster t : Nat) (s : State) : Out :=
  done s ((s.atTick t).faultIf (decide (site < 16) && decide (cluster < 9)) 2 1 (9 * site + cluster))

/-- PACE_FAULT: a site's or base die's domain. -/
def execPaceFault (d t : Nat) (s : State) : Out :=
  done s ((s.atTick t).faultIf (decide (d < 20)) 3 2 (if d < 16 then d / 4 else d - 16))

/-- BASE_FAULT in a quadrant. -/
def execBaseFault (u t : Nat) (s : State) : Out := done s ((s.atTick t).faultIf (decide (u < 4)) 4 2 u)

/-- STACK_FAULT of a stack: its quadrant is reset. -/
def execStackFault (u t : Nat) (s : State) : Out := done s ((s.atTick t).faultIf (decide (u < 16)) 5 2 (u / 4))

/-- SEAM_FAULT. -/
def execSeamFault (t : Nat) (s : State) : Out := done s ((s.atTick t).faultIf true 6 3 0)

/-- A module reset with no eclipse: nothing runs after it but bring-up (R454, R480). -/
def State.hardReset (s : State) : State := (s.moduleReset []).setRunning none

/-- MC_WATCHDOG: the module is reset at once; the event stands in the new ring. -/
def execMcWatchdog (t : Nat) (s : State) : Out :=
  done s (if (s.atTick t).mcRuns then s.hardReset.raise 0x110 none 0 (pack [(4, 7), (2, 3)]) else s.atTick t)

/-! ### The reference clock (16 R488) -/

/-- Every port goes DOWN. -/
def State.portsDown (s : State) : State :=
  (List.range 20).foldl (fun s p => if (s.port p).phase = .down then s else s.portOff p .down) s

/-- REFCLK_LOSS. -/
def execRefclkLoss (t : Nat) (s : State) : Out :=
  let u := s.atTick t
  quiet s (if u.power.refclkLost || !u.mcRuns then u
  else ((u.modPower (fun p => { p with refclkLost := true })).raise 0x205 none 0 0
    |>.modTime (fun v => { v with good := 0 }) |>.timeState 4).portsDown)

end Sys2Proof.Machine
end

