-- ==== Sys2Proof/Machine/Bringup.lean ====
section
/-! DEFINITION. Bring-up: its five stages, the boot ROM's choice of a copy, defects found and units withdrawn (15 R433-R445;
14 R409, R423). -/
namespace Sys2Proof.Machine
open Sys2Proof

def State.modBoot (s : State) (f : Boot → Boot) : State := { s with boot := f s.boot }

/-! ### Stage 1 (R436, R437, R439; 14 R409, R423) -/

/-- A copy that may start; of one that the module left the factory with, the stage's report says whether it does (log 8). -/
def State.copyStarts (s : State) (ok : Bool) (n : Nat) : Bool :=
  let b := s.flash.copies.get [] n
  if b.isEmpty then ok else fwFormatOk b && fwVerifies b && decide (s.fuses.rollback ≤ fwSecVersion b)

/-- The copy that the boot ROM starts: the preferred one first. -/
def State.romCopy (s : State) (ok : Bool) : Option Nat :=
  [s.flash.selector, 1 - s.flash.selector].find? (s.copyStarts ok)

/-- A copy runs. -/
def State.runCopy (s : State) (n : Nat) : State :=
  let b := s.flash.copies.get [] n
  s.modBoot (fun o => { o with
    running := n
    fwVersion := if b.isEmpty then Config.factoryVersion n else fwVersionOf b
    fwDigest := if b.isEmpty then Config.factoryDigest n else fwDigestOf b })

/-- At each boot a key goes on at its persisted boundary, and the next block's boundary is stored (DEDUCED, log
122) (DEDUCED, log 142). -/
def State.bootKeys (s : State) : State :=
  let abandon := fun (s : State) (k : SignKey) (bitNo : Nat) =>
    if k.next < k.bound then s.raise 0x87 none 0 (pack [(1, bitNo), (64, k.bound)]) else s
  let g := s.flash.ledgerKey
  let i := s.flash.identityKey
  let s := if s.isG then
      ((abandon s g 0).modFlash (fun f => { f with ledgerKey := { g with next := g.bound } })).store (.ledgerIndex (g.bound + 4096))
    else s
  ((abandon s i 1).modFlash (fun f => { f with identityKey := { i with next := i.bound } })).store (.identityIndex (i.bound + 4096))

/-- A stage ends and the next begins. -/
def State.nextStage (s : State) (ms : Nat) : State :=
  let k := s.boot.stage
  (s.modBoot (fun o => { o with stage := k + 1, since := s.now, stageMs := o.stageMs.set (k - 1) ms })).raise 0x100 none k
    (ms % 65536)

/-- Stage 1 ends: the firmware starts, or the boot ROM stays. -/
def State.endStage1 (s : State) (r : StageReport) : State :=
  match s.romCopy r.ok with
  | none => (s.modBoot (fun o => { o with rom := true })).realert
  | some n =>
    let s := s.runCopy n
    let c := (s.flash.bootCount + 1) % 2 ^ 24
    let s := (s.modBoot (fun o => { o with count := c, merged := s.repairEntries })).store (.bootCount c)
    s.bootKeys.nextStage r.ms

/-! ### Defects (R440, R443) -/

/-- A stack is withdrawn (DEDUCED, log 129). -/
def State.stackFails (s : State) (d typ : Nat) : State :=
  if s.boot.drams.testBit d then s
  else (s.modBoot (fun o => { o with drams := o.drams ||| 2 ^ d })).raise 0x104 none d typ

/-- A quadrant's base memory is withdrawn. -/
def State.baseFails (s : State) (q : Nat) : State :=
  if s.boot.bases.testBit q then s
  else (s.modBoot (fun o => { o with bases := o.bases ||| 2 ^ q })).raise 0x104 none q 5

/-- A defect of a core: repaired at once, of a spare, or of a mapped core. -/
def State.coreDefect (s : State) (e : BitVec 64) : State :=
  let site := fuseUnit e
  let pc := fuseCore e
  let l := s.boot.merged ++ [e]
  if coreBad s.variant s.boot.merged site pc then s
  else if !coreBad s.variant l site pc then s.modBoot (fun o => { o with merged := l })
  else if (s.logicalOf site pc).isSome then s.siteFails site (fuseType e)
  else s

/-- A defect takes effect at once where spares remain, and withdraws its unit where they do not. -/
def State.absorbDefect (s : State) (e : BitVec 64) : State :=
  let u := fuseUnit e
  let l := s.boot.merged ++ [e]
  let take := s.modBoot (fun o => { o with merged := l })
  match fuseType e with
  | 5 => if 4 ≤ u then s else if baseBad l u then s.baseFails u else take
  | 6 => if 16 ≤ u then s else if stackBad l u then s.stackFails u 6 else take
  | 7 => take
  | 8 =>
    if u < 16 then (if siteBondBad l u then s.siteFails u 8 else take)
    else if stackBad l (u - 16) then s.stackFails (u - 16) 8 else take
  | _ => if 16 ≤ u || decide (80 ≤ fuseCore e) then s else s.coreDefect e

/-- Units that the merged lists leave beyond their spares. -/
def State.withdrawListed (s : State) : State :=
  let l := s.boot.merged
  let s := (List.range 4).foldl (fun s q => if baseBad l q then s.baseFails q else s) s
  (List.range 16).foldl (fun s d =>
    let s := if stackBad l d then s.stackFails d 6 else s
    if siteBondBad l d then s.raise 0x104 none d 8 else s) s

/-- Defects found are absorbed and added to the field repair list. -/
def State.foundDefects (s : State) (l : List (BitVec 64)) (cause : Nat) : State :=
  let l := (l.filter fuseUsed).map (fun e => repairEntry e cause)
  let room := 1024 - s.repairs.length
  let s := l.foldl (fun s e => s.absorbDefect e) s
  (s.modBoot (fun o => { o with added := o.added + Nat.min l.length room })).addRepairs l

/-! ### Stages 2 to 5 -/

def State.bringupFails (s : State) : State :=
  ((s.modBoot (fun o => { o with phase := 2 })).raise 0x102 none s.boot.stage 0).realert

/-- Stage 2 ends: twenty domains at Nominal, attached at beat 0; routers and firewalls cleared. -/
def State.endStage2 (s : State) (r : StageReport) : State :=
  if !r.ok then s.bringupFails else { s with domains := [], hubs := [] }.nextStage r.ms

/-- Stage 3 ends: memories tested, repaired and zeroed; stage 4 trains where MODULE_CODE is written. -/
def State.endStage3 (s : State) (r : StageReport) : State :=
  let s := ({ s with mem := [] }.withdrawListed.foundDefects r.defects 3).nextStage r.ms
  if s.code = 16777215 then s else s.trainAll

/-- A physical core has failed self-test. -/
def State.selfTestFail (s : State) (n : Nat) : State :=
  let site := n / 80
  let pc := n % 80
  if 16 ≤ site || coreBad s.variant s.boot.merged site pc then s
  else
    let s := (s.modBoot (fun o => { o with fails := o.fails + 1 })).raise 0x103 none (256 * site + pc) 0
    s.foundDefects [coreEntry site pc 1] 1

/-- The idle image in every logical core (R444). -/
def State.idleImage (s : State) : State :=
  let m := Memory.clear s.mem (imemAddr 0 false 0) (1152 * 131072)
  { s with cores := [], mem := (List.range 1152).foldl (fun m l => Memory.writeLine m (imemAddr l false 0) idleBundle) m }

/-- The firmware blows anti-rollback fuses for a copy with ADVANCE set (R436). -/
def State.advanceFuses (s : State) : State :=
  let b := s.flash.copies.get [] s.boot.running
  if fwAdvance b then { s with fuses := { s.fuses with rollback := Nat.max s.fuses.rollback (fwSecVersion b) } } else s

/-- Stage 5 ends: the module is ready. -/
def State.endStage5 (s : State) (r : StageReport) : State :=
  let s := r.failed.foldl (fun s n => s.selfTestFail n) s
  let s := (s.foundDefects r.defects 1).idleImage
  let s := s.modBoot (fun o => { o with phase := 1, readyTick := s.now, stageMs := o.stageMs.set 4 r.ms })
  ((s.raise 0x100 none 5 (r.ms % 65536)).raise 0x101 none 0 s.boot.count).advanceFuses.openCalendar

/-- The stage in progress ends with what it found. -/
def State.endStage (s : State) (r : StageReport) : State :=
  match s.boot.stage with
  | 1 => s.endStage1 r
  | 2 => s.endStage2 r
  | 3 => s.endStage3 r
  | 4 => if s.code = 16777215 then s else s.nextStage r.ms
  | _ => s.endStage5 r

/-! ### The end of a scoped reset (R448, R450, R452) -/

/-- A defect lies in a unit that is reset. -/
def defectIn (u : Nat × Nat) (e : BitVec 64) : Bool :=
  let t := fuseType e
  if t ≤ 4 then (unitSites u).contains (fuseUnit e)
  else u.1 = 2 && (if t = 5 then fuseUnit e = u.2 else if t = 6 then fuseUnit e / 4 = u.2
    else if t = 8 then fuseUnit e % 16 / 4 = u.2 else t = 7)

/-- The work of stages 3 and 5 for the units of a scope has found what it found (R443, R448). -/
def State.restoreFound (s : State) (u : Nat × Nat) (r : StageReport) : State :=
  let s := (r.failed.filter (fun n => (unitSites u).contains (n / 80))).foldl (fun s n => s.selfTestFail n) s
  s.foundDefects (r.defects.filter (defectIn u)) 3

/-- RESET_RESTORE_DONE: the restoring ends; a module reset completes when the module is ready. -/
def execResetRestoreDone (s : State) : Out :=
  done s (match s.recovery.running with
  | none => s
  | some r =>
    if r.step ≠ 5 || (r.scope = 3 && s.boot.phase ≠ 1) then s
    else
      let s := if r.scope = 3 then s else s.restoreDone r
      let s := ((s.stampCores r).setRunning none).raise 0x113 none r.target r.scope
      ((s.endResets r.ticket stOK).startNext.liftIdle))

/-! ### Stages end -/

/-- A stage is in progress. -/
def State.bringingUp (s : State) : Bool :=
  s.mcRuns && s.power.compute && s.boot.phase = 0 && !s.boot.rom

/-- A scoped reset below the module restores: the area of its units. -/
def State.restoring (s : State) : Option (Nat × Nat) :=
  (s.recovery.running.filter (fun r => r.step = 5 && r.scope ≠ 3)).map Recovery.area

/-- BRINGUP_STAGE_END (R433) (DEDUCED, log 153): a stage of bring-up, or of the work that a scoped reset repeats for its
units (R448) (DEDUCED, log 180). -/
def execBringupStageEnd (r : StageReport) (s : State) : Out :=
  done s (if s.bringingUp then s.endStage r else match s.restoring with
    | some u => s.restoreFound u r
    | none => s)

/-- STAGE_LIMIT_EXPIRY (R434): stages 1-3 fail, 4 and 5 end as they stand. -/
def execStageLimitExpiry (r : StageReport) (s : State) : Out :=
  done s (if !s.bringingUp then s else if s.boot.stage ≤ 3 then s.bringupFails else s.endStage r)

/-- LINKS_UNCONFIGURED (R434): stage 4 has waited 30 s for MODULE_CODE. -/
def execLinksUnconfigured (s : State) : Out :=
  quiet s (if s.bringingUp && s.boot.stage = 4 && s.code = 16777215 then
    let u := s.atTick (s.boot.since + 30000000000)
    ((u.raise 0x105 none 0 0).modBoot (fun o => { o with unconfigured := true })).nextStage 30000
  else s)

end Sys2Proof.Machine
end

