-- ==== Sys2Proof/Machine/Supply.lean ====
section
/-! DEFINITION. Power, reset and strap pins, power failure and its emergency seals, heat, the TAP (16 R474-R489). -/
namespace Sys2Proof.Machine
open Sys2Proof

/-! ### The compute plane goes (R482, R487) -/

/-- A context of a compute plane that is gone: nothing runs, no image, no weights. -/
def Ctx.unpowered (c : Ctx) : Ctx :=
  let w : Weights := c.weights
  let phase : WeightPhase := if w.phase = .none then .none else .invalid
  { c with image := none, staged := none, loading := none, freeze := none, resume := none, item := 0, holds := {}, flights := []
           wires := [], wireIn := [], wire := [], baseWrites := [], binds := [], removed := []
           weights := { w with phase, force := none, next := none, busy := false, swap := false, tier := [] } }

/-- Connections end with the links. -/
def State.linksOff (s : State) : State :=
  let s := s.links.openings.foldl (fun s o => s.openFails o stNoPeer) s
  let s := s.links.bulks.foldl (fun s b => s.breakWith b.connId 2 none) s
  let s := (List.range 20).foldl (fun s p => if (s.port p).phase = .down then s else s.portOff p .down) s
  s.modLinks (fun l => { l with bundles := [], circuits := [], openings := [], bulks := [], fronts := [] })

/-- The compute plane is removed: running contexts are cut, and what the plane holds is lost. The profile in force stands
(11 R286). -/
def State.computeOff (s : State) : State :=
  let s := s.linksOff
  let s := (s.liveCtxs.filter (fun x => (s.ctx x).active)).foldl (fun s x => s.toIdle x) s
  let s := s.liveCtxs.foldl (fun s x => s.modCtx x Ctx.unpowered) s
  { s with cores := [], mem := [], drams := [], base := [], hubs := []
           domains := s.domains.map (fun v => (v.1, { v.2 with recent := [], curMhz := 0 }))
           power := { s.power with compute := false, powerGood := false } }

/-! ### Input power failure (R477, R482; 14 R421) -/

def State.halt (s : State) : State := s.modPower (fun p => { p with halted := true, sealing := false, management := false })

/-- The first batch in stream order (R421). -/
def State.firstBatch (s : State) : Option Batch :=
  (sortBy (fun (a b : Batch) => decide (a.stream ≤ b.stream)) s.ledger.closed).head?

def State.spillUse (s : State) : Nat := (s.flash.spill.map Batch.size).sum

/-- The next emergency seal begins, or the plane halts: nothing to seal, no index, no room in the 64 MiB of the spill
area, or a guard that finds less than 1.2 J (DESIGN CHOICE, log 128). -/
def State.sealOrHalt (s : State) : State :=
  match s.firstBatch with
  | none => s.halt
  | some b =>
    if !s.isG || !s.flash.ledgerKey.ready (2 ^ 60) || decide (67108864 < s.spillUse + b.size) then s.halt
    else if s.power.energy < 120 then (s.raise 0x86 none 0 2).halt
    else s.modPower (fun p => { p with sealing := true })

/-- The part loses its input (DEDUCED, log 127). -/
def State.inputFails (s : State) (cause energy : Nat) : State :=
  let s := s.computeOff.raise 0x200 none 0 (pack [(8, cause), (8, 0), (16, energy)])
  ((s.setEnergy energy).closeAll).sealOrHalt

/-- INPUT_POWER_FAIL (R477): cause 0 undervoltage, 1 PWR_EN, 2 overcurrent. PWR_EN low clears the trip latch (R487). -/
def execInputPowerFail (cause : BitVec 2) (energy t : Nat) (s : State) : Out :=
  let u := s.atTick t
  let cause := cause.toNat
  let u := if cause = 1 then u.modPower (fun p => { p with pwrEn := false, tripLatch := false }) else u
  done s (if 2 < cause then s
  else if !u.power.management || u.power.halted || u.power.sealing then u else u.inputFails cause energy)

/-- EMERGENCY_SEAL_DONE (R482): the batch and its seal are in the spill area. -/
def execEmergencySealDone (energy : Nat) (s : State) : Out :=
  done s (match s.firstBatch with
  | none => s
  | some b =>
    if !s.power.sealing then s
    else
      let s := s.modLedger (fun l => { l with closed := l.closed.erase b })
      let (s, b) := s.signBatch b
      (((s.modFlash (fun f => { f with spill := f.spill ++ [{ b with spilled := true }] })).setEnergy energy).modPower
        (fun p => { p with sealing := false })).sealOrHalt)

/-! ### Sequencing (R478-R481) -/

/-- Both planes come up with nothing in them; MOD_RESET_N is held low until PWR_GOOD is released (R479). -/
def State.powerUp (s : State) (energy : Nat) : State :=
  { pending := s.pending, fuses := s.fuses, flash := { s.flash with waiting := [], storing := none }
    power := { modReset := true, energy, holdupOk := decide (3000 ≤ energy) } }

/-- PWR_EN_ASSERT (R478): an input that returns while the plane seals changes nothing (R483). -/
def execPwrEnAssert (energy : Nat) (s : State) : Out :=
  done s (if s.power.pwrEn then s
  else if s.power.management then s.modPower (fun p => { p with pwrEn := true })
  else s.powerUp energy)

/-- HOLDUP_BANK_CHARGED (R481). -/
def execHoldupBankCharged (energy : Nat) (s : State) : Out :=
  quiet s (if s.power.management && !s.power.halted && decide (3000 ≤ energy) then s.setEnergy energy else s)

/-- MOD_RESET_N_ASSERT (R480). -/
def execModResetNAssert (s : State) : Out :=
  done s (if s.power.modReset then s
  else
    let s := if s.power.management && !s.power.sealing then s.hardReset else s
    s.modPower (fun p => { p with modReset := true }))

/-- MOD_RESET_N_RELEASE (R433, R476, R481): SB_SEL is sampled; with PWR_GOOD, bring-up begins and the monitor measures. -/
def execModResetNRelease (sbSel : Bool) (energy : Nat) (s : State) : Out :=
  done s (if !s.power.modReset then s
  else
    let u := s.modPower (fun p => { p with modReset := false, sbI3c := sbSel })
    if s.power.management && s.power.powerGood && s.power.pwrEn && !s.power.sealing then u.hardReset.setEnergy energy else u)

/-! ### Heat (R486, R487) -/

/-- Warning, throttle and trip thresholds of a sensor in 0.25 °C: dies 0-19, stacks 20-35 (DEDUCED, log 126). -/
def tempWarn (i : Nat) : Nat := if i < 20 then 380 else 340
def tempThrottle (i : Nat) : Nat := if i < 20 then 420 else 380
def tempTrip (i : Nat) : Nat := if i < 20 then 460 else 420

/-- A sensor's reading is taken. -/
def State.heatSample (s : State) (i temp : Nat) : State :=
  let s := s.modPower (fun p => { p with temps := p.temps.set 0 i temp })
  let s :=
    if temp < tempWarn i then s.modPower (fun p => { p with warned := p.warned.filter (· ≠ i) })
    else if s.power.warned.contains i then s
    else (s.modPower (fun p => { p with warned := insertNat i p.warned })).raise 0x202 none i (temp % 65536)
  let s :=
    if tempThrottle i ≤ temp then s.modPower (fun p => { p with throttled := insertNat i p.throttled })
    else if temp ≤ tempThrottle i - 8 then s.modPower (fun p => { p with throttled := p.throttled.filter (· ≠ i) })
    else s
  if s.power.throttled.isEmpty then s else s.lowerTargets

/-- THERMAL_SAMPLE (R486). -/
def execThermalSample (sensor temp t : Nat) (s : State) : Out :=
  let u := s.atTick t
  quiet s (if u.mcRuns && decide (sensor < 36) then u.heatSample sensor temp else u)

/-- A sensor trips: the compute plane is off, its contexts are recorded as cut, every open batch closes. -/
def State.trip (s : State) (i temp : Nat) : State :=
  let cut := s.liveCtxs.filter (fun x => (s.ctx x).active)
  let s := (s.computeOff.modPower (fun p => { p with tripLatch := true, temps := p.temps.set 0 i temp })).raise 0x203 none i (temp % 65536)
  (s.raise 0x112 none 0 (maskOf cut)).closeAll

/-- THERMAL_TRIP (R487). -/
def execThermalTrip (sensor temp t : Nat) (s : State) : Out :=
  let u := s.atTick t
  done s (if u.power.compute && decide (sensor < 36) && decide (tempTrip sensor ≤ temp) then u.trip sensor temp else u)

/-! ### The TAP (R489) -/

/-- The TAP takes an instruction while the management plane is powered and TRST_N is high (PRESUMED, log 17;
DESIGN CHOICE, log 154). -/
def State.tap (s : State) (ir : Nat) : State :=
  if s.power.management && !s.power.trst then s.modPower (fun p => { p with ir }) else s

/-- EXTEST: with MOD_RESET_N high it selects the bypass register. -/
def execTapExtest (s : State) : Out := quiet s (s.tap (if s.power.modReset then 3 else 1))

/-- SAMPLE/PRELOAD: with MOD_RESET_N high it selects the bypass register. -/
def execTapSamplePreload (s : State) : Out := quiet s (s.tap (if s.power.modReset then 2 else 1))

/-- BYPASS. -/
def execTapBypass (s : State) : Out := quiet s (s.tap 1)

/-- IDCODE. -/
def execTapIdcode (s : State) : Out := quiet s (s.tap 0)

/-- TRST_N: low resets the TAP. -/
def execTrstN (low : Bool) (s : State) : Out :=
  quiet s (s.modPower (fun p => { p with trst := low, ir := if low then 0 else p.ir }))

end Sys2Proof.Machine
end

