-- ==== Sys2Proof/Machine/HaloCmds.lean ====
section
/-! DEFINITION. The commands of the halo partner: pairing, unpairing, takeover, resumption, checkpoints (15 R460, R465, R468,
R469). -/
namespace Sys2Proof.Machine
open Sys2Proof

/-! ### Payloads (R460) -/

/-- A REGION. -/
def Region.ofBytes (b : List Byte) : Region :=
  let w := leAt b 0 8
  { mem := fld w 0 2, target := fld w 2 11, first := leAt b 8 4, lines := leAt b 12 4 }

/-- `n` REGION entries from a payload offset. -/
def regionsAt (b : List Byte) (o n : Nat) : List Region :=
  (List.range n).map (fun i => Region.ofBytes ((b.drop (o + 16 * i)).take 16))

/-- A buffer: program stack and first context line. -/
def bufferAt (b : List Byte) (o : Nat) : Nat × Nat := (leAt b o 8 % 16, leAt b (o + 4) 4)

/-! ### Conditions (R460, R468) -/

/-- The image that pairing judges: the staged one or the installed one. -/
def Ctx.pairImage (c : Ctx) : Image := (c.target).getD {}

/-- A buffer lies within the allocations and overlaps no region. -/
def Ctx.bufferOk (c : Ctx) (regions : List Region) (b : Nat × Nat) : Bool :=
  let i := c.pairImage
  let top := i.heldLines b.1
  decide (b.1 < i.drams) && decide (b.2 < top)
    && !regions.any (fun r => r.mem = 0 && r.target = b.1 && decide (r.first < top) && decide (b.2 < r.first + r.lines))

/-- The role-5 port is UP and its trained partner is the module of a code. -/
def State.haloPartner (s : State) (code : Nat) : Bool :=
  (List.range 20).any (fun p => s.role p = 5 && s.isUp p && (s.port p).partner = code)

/-- What this module can check: IDLE, an image, weights VALID, the port. -/
def State.haloReady (s : State) (x code : Nat) : Bool :=
  let c := s.ctx x
  c.phase = .idle && (c.target).isSome && c.weights.phase = .valid && s.haloPartner code

/-- The conditions of a pairing that this module can check (DEDUCED, log 130). -/
def State.pairOk (s : State) (x code : Nat) (regions : List Region) (buffers : List (Nat × Nat)) : Bool :=
  let c := s.ctx x
  c.halo.phase = .unpaired && s.haloReady x code && c.pairImage.remoteOpen && c.job.id ≠ 0 && c.job.modules.contains s.code
    && c.job.modules.contains code && buffers.all (c.bufferOk regions)

/-- The partner answers for its side. -/
def State.askPartner (s : State) (pair : Nat) : State × Bool :=
  (s.modPower (fun p => { p with draws := p.draws + 1 }), Config.partnerAgrees pair s.power.draws)

/-! ### Pairing (R460) -/

/-- Length of the payload: a head of bytes and the regions that byte 3 counts. -/
def pairLen (q : Cmd) (head n : Nat) : Bool := n = head + 16 * leAt q.payload 3 1

/-- The region list is one that the command allows. -/
def regionsOk (n : Nat) (l : List Region) : Bool := decide (1 ≤ n) && decide (n ≤ 64) && l.all (fun r => r.mem ≠ 3)

/-- HALO_STANDBY: this module holds the standby. -/
def execHaloStandby (m : Nat) (q : Cmd) (s : State) : Out :=
  let code := leAt q.payload 0 3
  let n := leAt q.payload 3 1
  let regions := regionsAt q.payload 32 n
  let buffers := [8, 16, 24].map (bufferAt q.payload)
  quiet s (s.serve m q { op := 0x96, who := .owner, ctx := true, arg := 2 ^ 32 - 1, len := pairLen q 32 } (fun s =>
    s.needCtx q.ctx (
      if !regionsOk n regions then refuse s stBadArg
      else if !s.pairOk q.ctx code regions buffers then refuse s stHaloState
      else okay (s.modHalo q.ctx (fun _ =>
        { standby := true, partner := code, pairId := argFld q 0 32, regions, buffers })))))

/-- The mirror circuit opens on the role-5 port: of response class, between the management endpoints, its CONN_ID the
PAIR_ID (R460) (DEDUCED, log 170). -/
def State.openMirror (s : State) (x ticket : Nat) : State :=
  let h := (s.ctx x).halo
  match ((List.range 20).find? (fun p => s.role p = 5)).bind (fun p => (s.takeTag p).map (fun r => (p, r))) with
  | none => s.mirrorFails x ticket
  | some (p, u, tag) =>
    let q : Peer := { code := h.partner, ctx := x, core := 2047, ep := 0, port := p, tag }
    let b : Bind := { unbind := false, send := true, core := 2047, ep := 0, kind := 1, cls := true, sem := 0, esize := 64, depth := 16,
                      count := 1, index := 0, connId := h.pairId, peers := [q], ticket }
    let o : Opening := { bind := b, ctx := x, slot := h.slot, deadline := s.now + 100000000, waiting := [0] }
    (u.modLinks (fun l => { l with openings := l.openings ++ [o] })).sendOpen b q

/-- The pairing is made, and its mirror circuit opens. -/
def State.paired (s : State) (x ticket : Nat) (h : Halo) : State :=
  ((s.modHalo x (fun _ => { h with phase := .active })).raise 0x120 (some x) x h.pairId).openMirror x ticket

/-- HALO_PAIR: this module holds the mirrored context. -/
def execHaloPair (m : Nat) (q : Cmd) (s : State) : Out :=
  let code := leAt q.payload 0 3
  let n := leAt q.payload 3 1
  let regions := regionsAt q.payload 16 n
  let buffers := [bufferAt q.payload 8]
  let pair := argFld q 0 32
  quiet s (s.serve m q { op := 0x95, who := .owner, ctx := true, arg := 2 ^ 32 - 1, len := pairLen q 16 } (fun s =>
    s.needCtx q.ctx (
      if !regionsOk n regions then refuse s stBadArg
      else if (s.ctx q.ctx).halo.standby || !s.pairOk q.ctx code regions buffers then refuse s stHaloState
      else s.accept m q 0x95 q.ctx 0 [] (fun s t =>
        let a := s.askPartner pair
        if a.2 then a.1.paired q.ctx t { partner := code, pairId := pair, regions, buffers }
        else a.1.finish t stHaloState 0))))

/-- HALO_UNPAIR: the mirror circuit closes, and so both ends are UNPAIRED. -/
def execHaloUnpair (m : Nat) (q : Cmd) (s : State) : Out :=
  done s (s.serve m q { op := 0x97, who := .owner, ctx := true } (fun s =>
    s.needCtx q.ctx (
      let h := (s.ctx q.ctx).halo
      if (h.phase = .unpaired && !h.standby) || h.catchUp then refuse s stHaloState
      else
        okay ((s.endMirror q.ctx 5).unpair q.ctx))))

/-! ### Takeover and resumption (R465, R468) -/

/-- TAKEOVER. -/
def execTakeover (m : Nat) (q : Cmd) (s : State) : Out :=
  done s (s.serve m q { op := 0x98, who := .owner, ctx := true } (fun s =>
    s.needCtx q.ctx (
      let h := (s.ctx q.ctx).halo
      if !h.standby || !(h.phase = .active || h.phase = .suspended) then refuse s stHaloState
      else s.accept m q 0x98 q.ctx 0 [] (fun s t => s.takeOver q.ctx t))))

/-- HALO_RESUME: on success items flow back from the standby. -/
def execHaloResume (m : Nat) (q : Cmd) (s : State) : Out :=
  quiet s (s.serve m q { op := 0x99, who := .owner, ctx := true } (fun s =>
    s.needCtx q.ctx (
      let h := (s.ctx q.ctx).halo
      if h.standby || h.phase ≠ .suspended || h.resume || !s.haloReady q.ctx h.partner then refuse s stHaloState
      else s.accept m q 0x99 q.ctx 0 [] (fun s t =>
        let a := s.askPartner h.pairId
        if a.2 then (a.1.modHalo q.ctx (fun h =>
          { h with resume := true, ticket := t, slot := m, ckpts := [], items := [] })).openMirror q.ctx t
        else a.1.finish t stHaloState 0))))

/-! ### Checkpoints (R469) -/

/-- CHECKPOINT_RESTORE. -/
def execCheckpointRestore (m : Nat) (q : Cmd) (s : State) : Out :=
  done s (s.serve m q { op := 0x9A, who := .owner, ctx := true, arg := 2 ^ 32 - 1, len := fun n => n = 32 } (fun s =>
    s.needBulk m q (fun id =>
      let c := s.ctx q.ctx
      if c.phase ≠ .idle then refuse s stContextRunning
      else if c.image.isNone then refuse s stNoImage
      else s.accept m q 0x9A id 0 q.payload (fun s _ => s.bulkEvent id))))

/-- The first bytes of a buffer, by whole lines. -/
def State.bufferBytes (s : State) (x : Nat) (b : Nat × Nat) (n : Nat) : List Byte :=
  let i := (s.ctx x).img
  (s.regionBytes x i { bufferRegion i b with lines := (n + 63) / 64 }).take n

/-- The newest complete checkpoint that this module holds for a context. -/
def State.heldCkpt (s : State) (x : Nat) : Option (List Byte) :=
  let h := (s.ctx x).halo
  if h.standby then h.newest.map (·.bytes)
  else if h.nextCkpt = 0 then none
  else
    let b := h.buffers.headD (0, 0)
    some (s.bufferBytes x b (ckptLength (s.bufferBytes x b 64)))

/-- CHECKPOINT_READ (DESIGN CHOICE, log 131). -/
def execCheckpointRead (m : Nat) (q : Cmd) (s : State) : Out :=
  quiet s (s.serve m q { op := 0x9B, who := .all, ctx := true, arg := 2 ^ 32 - 1 } (fun s =>
    let id := argFld q 0 32
    if m = 0 then refuse s stNoPath
    else s.needCtx q.ctx (
      if !s.bulkOpen id then refuse s stNoPeer
      else match s.heldCkpt q.ctx with
      | none => refuse s stHaloState
      | some b => s.accept m q 0x9B id 0 [] (fun s t => (s.sendBulk id b).finish t stOK 0))))

end Sys2Proof.Machine
end

