-- ==== Sys2Proof/Machine/Dispatch.lean ====
section
/-! DEFINITION. One arm per command: a direct call of its meaning, or a refusal by name. -/
namespace Sys2Proof.Machine
open Sys2Proof

def exec (i : Instr) (s : State) : Host.Outcome State Fault Refusal :=
  match i with
  | .idleBundle f => Sys2Proof.Machine.execIdleBundle f s
  | .brk c => Sys2Proof.Machine.execBrk c s
  | .rdv c f => Sys2Proof.Machine.execRdv c f s
  | .fence c => Sys2Proof.Machine.execFence c s
  | .rdvFence c f => Sys2Proof.Machine.execRdvFence c f s
  | .orbitEnd c => Sys2Proof.Machine.execOrbitEnd c s
  | .rendezvousRelease x => Sys2Proof.Machine.execRendezvousRelease x s
  | .fenceRelease x => Sys2Proof.Machine.execFenceRelease x s
  | .orbitBoundary x => Sys2Proof.Machine.execOrbitBoundary x s
  | .jmp c f => Sys2Proof.Machine.execJmp c f s
  | .loop c f => Sys2Proof.Machine.execLoop c f s
  | .ubr c f => Sys2Proof.Machine.execUbr c f s
  | .fbr c f => Sys2Proof.Machine.execFbr c f s
  | .armend c => Sys2Proof.Machine.execArmend c s
  | .armCut c => Sys2Proof.Machine.execArmCut c s
  | .add c f => Sys2Proof.Machine.execAdd c f s
  | .sub c f => Sys2Proof.Machine.execSub c f s
  | .mul c f => Sys2Proof.Machine.execMul c f s
  | .and c f => Sys2Proof.Machine.execAnd c f s
  | .or c f => Sys2Proof.Machine.execOr c f s
  | .xor c f => Sys2Proof.Machine.execXor c f s
  | .shl c f => Sys2Proof.Machine.execShl c f s
  | .shr c f => Sys2Proof.Machine.execShr c f s
  | .sar c f => Sys2Proof.Machine.execSar c f s
  | .min c f => Sys2Proof.Machine.execMin c f s
  | .max c f => Sys2Proof.Machine.execMax c f s
  | .minu c f => Sys2Proof.Machine.execMinu c f s
  | .maxu c f => Sys2Proof.Machine.execMaxu c f s
  | .slt c f => Sys2Proof.Machine.execSlt c f s
  | .sltu c f => Sys2Proof.Machine.execSltu c f s
  | .seq c f => Sys2Proof.Machine.execSeq c f s
  | .csel c f => Sys2Proof.Machine.execCsel c f s
  | .movi c f => Sys2Proof.Machine.execMovi c f s
  | .movhi c f => Sys2Proof.Machine.execMovhi c f s
  | .rdpar c f => Sys2Proof.Machine.execRdpar c f s
  | .wrpar c f => Sys2Proof.Machine.execWrpar c f s
  | .rdstep c f => Sys2Proof.Machine.execRdstep c f s
  | .rdorbit c f => Sys2Proof.Machine.execRdorbit c f s
  | .rdpci c f => Sys2Proof.Machine.execRdpci c f s
  | .rdncore c f => Sys2Proof.Machine.execRdncore c f s
  | .rdsem c f => Sys2Proof.Machine.execRdsem c f s
  | .rdbrk c f => Sys2Proof.Machine.execRdbrk c f s
  | .reduce c f => Sys2Proof.Machine.execReduce c f s
  | .rdwire c f => Sys2Proof.Machine.execRdwire c f s
  | .lcset c f => Sys2Proof.Machine.execLcset c f s
  | .tapset c f => Sys2Proof.Machine.execTapset c f s
  | .tail c f => Sys2Proof.Machine.execTail c f s
  | .readTap c p t e => Sys2Proof.Machine.execReadTap c p t e s
  | .writeTap c p t e => Sys2Proof.Machine.execWriteTap c p t e s
  | .coreMemWriteVisible c => Sys2Proof.Machine.execCoreMemWriteVisible c s
  | .pipelineResult c e => Sys2Proof.Machine.execPipelineResult c e s
  | .wireLanding x => Sys2Proof.Machine.execWireLanding x s
  | .enter c k f e => Sys2Proof.Machine.execEnter c k f e s
  | .shift c k f e => Sys2Proof.Machine.execShift c k f e s
  | .swap c k f => Sys2Proof.Machine.execSwap c k f s
  | .operandBufferLanding c => Sys2Proof.Machine.execOperandBufferLanding c s
  | .arrayOutput c => Sys2Proof.Machine.execArrayOutput c s
  | .fadd c f => Sys2Proof.Machine.execFadd c f s
  | .fsub c f => Sys2Proof.Machine.execFsub c f s
  | .fmul c f => Sys2Proof.Machine.execFmul c f s
  | .fma c f => Sys2Proof.Machine.execFma c f s
  | .fnma c f => Sys2Proof.Machine.execFnma c f s
  | .fmin c f => Sys2Proof.Machine.execFmin c f s
  | .fmax c f => Sys2Proof.Machine.execFmax c f s
  | .fabs c f => Sys2Proof.Machine.execFabs c f s
  | .fneg c f => Sys2Proof.Machine.execFneg c f s
  | .fcpys c f => Sys2Proof.Machine.execFcpys c f s
  | .frint c f => Sys2Proof.Machine.execFrint c f s
  | .fscale c f => Sys2Proof.Machine.execFscale c f s
  | .fexp c f => Sys2Proof.Machine.execFexp c f s
  | .fmant c f => Sys2Proof.Machine.execFmant c f s
  | .fceq c f => Sys2Proof.Machine.execFceq c f s
  | .fclt c f => Sys2Proof.Machine.execFclt c f s
  | .fcle c f => Sys2Proof.Machine.execFcle c f s
  | .fcun c f => Sys2Proof.Machine.execFcun c f s
  | .fclass c f => Sys2Proof.Machine.execFclass c f s
  | .iceq c f => Sys2Proof.Machine.execIceq c f s
  | .iclt c f => Sys2Proof.Machine.execIclt c f s
  | .icltu c f => Sys2Proof.Machine.execIcltu c f s
  | .sel c f => Sys2Proof.Machine.execSel c f s
  | .kand c f => Sys2Proof.Machine.execKand c f s
  | .kor c f => Sys2Proof.Machine.execKor c f s
  | .kxor c f => Sys2Proof.Machine.execKxor c f s
  | .knot c f => Sys2Proof.Machine.execKnot c f s
  | .iadd c f => Sys2Proof.Machine.execIadd c f s
  | .isub c f => Sys2Proof.Machine.execIsub c f s
  | .imul c f => Sys2Proof.Machine.execImul c f s
  | .iand c f => Sys2Proof.Machine.execIand c f s
  | .ior c f => Sys2Proof.Machine.execIor c f s
  | .ixor c f => Sys2Proof.Machine.execIxor c f s
  | .ishl c f => Sys2Proof.Machine.execIshl c f s
  | .ishr c f => Sys2Proof.Machine.execIshr c f s
  | .isar c f => Sys2Proof.Machine.execIsar c f s
  | .imin c f => Sys2Proof.Machine.execImin c f s
  | .imax c f => Sys2Proof.Machine.execImax c f s
  | .umin c f => Sys2Proof.Machine.execUmin c f s
  | .umax c f => Sys2Proof.Machine.execUmax c f s
  | .mov c f => Sys2Proof.Machine.execMov c f s
  | .vecMovi c f => Sys2Proof.Machine.execVecMovi c f s
  | .laneid c f => Sys2Proof.Machine.execLaneid c f s
  | .vrotl c f => Sys2Proof.Machine.execVrotl c f s
  | .vlbc c f => Sys2Proof.Machine.execVlbc c f s
  | .cvtf c f => Sys2Proof.Machine.execCvtf c f s
  | .cvtw c f => Sys2Proof.Machine.execCvtw c f s
  | .cvtmx c f => Sys2Proof.Machine.execCvtmx c f s
  | .cvtwmx c f => Sys2Proof.Machine.execCvtwmx c f s
  | .ftoi c f => Sys2Proof.Machine.execFtoi c f s
  | .itof c f => Sys2Proof.Machine.execItof c f s
  | .vtail c f => Sys2Proof.Machine.execVtail c f s
  | .vtailu c f => Sys2Proof.Machine.execVtailu c f s
  | .rfsum c f => Sys2Proof.Machine.execRfsum c f s
  | .rfmax c f => Sys2Proof.Machine.execRfmax c f s
  | .rfmin c f => Sys2Proof.Machine.execRfmin c f s
  | .risum c f => Sys2Proof.Machine.execRisum c f s
  | .rusum c f => Sys2Proof.Machine.execRusum c f s
  | .rimax c f => Sys2Proof.Machine.execRimax c f s
  | .rimin c f => Sys2Proof.Machine.execRimin c f s
  | .rand c f => Sys2Proof.Machine.execRand c f s
  | .ror c f => Sys2Proof.Machine.execRor c f s
  | .rargmax c f => Sys2Proof.Machine.execRargmax c f s
  | .rkcnt c f => Sys2Proof.Machine.execRkcnt c f s
  | .vectorLoad c r => Sys2Proof.Machine.execVectorLoad c r s
  | .vectorStore c r => Sys2Proof.Machine.execVectorStore c r s
  | .dramToCore c sd => Sys2Proof.Machine.execDramToCore c sd s
  | .coreToDram c sd => Sys2Proof.Machine.execCoreToDram c sd s
  | .baseToCore c sd => Sys2Proof.Machine.execBaseToCore c sd s
  | .coreToBase c sd => Sys2Proof.Machine.execCoreToBase c sd s
  | .dramToBase c sd => Sys2Proof.Machine.execDramToBase c sd s
  | .baseToDram c sd => Sys2Proof.Machine.execBaseToDram c sd s
  | .comet c sd => Sys2Proof.Machine.execComet c sd s
  | .dramSlot d ch e => Sys2Proof.Machine.execDramSlot d ch e s
  | .maintenanceFrame d ch w => Sys2Proof.Machine.execMaintenanceFrame d ch w s
  | .dramLineLands d k t => Sys2Proof.Machine.execDramLineLands d k t s
  | .dramWriteCommit d k => Sys2Proof.Machine.execDramWriteCommit d k s
  | .stagingDeparture x => Sys2Proof.Machine.execStagingDeparture x s
  | .baseLineLands x => Sys2Proof.Machine.execBaseLineLands x s
  | .baseBankAccess x e => Sys2Proof.Machine.execBaseBankAccess x e s
  | .baseScrubSlot q bank e => Sys2Proof.Machine.execBaseScrubSlot q bank e s
  | .transitLineArrival x => Sys2Proof.Machine.execTransitLineArrival x s
  | .send c sep => Sys2Proof.Machine.execSend c sep s
  | .elast c sep token => Sys2Proof.Machine.execElast c sep token s
  | .recv c rep e => Sys2Proof.Machine.execRecv c rep e s
  | .semopAdd c n v => Sys2Proof.Machine.execSemopAdd c n v s
  | .semopSub c n v => Sys2Proof.Machine.execSemopSub c n v s
  | .chanLinesArrive x => Sys2Proof.Machine.execChanLinesArrive x s
  | .entryHeaderArrive x => Sys2Proof.Machine.execEntryHeaderArrive x s
  | .lockedCreditReturn x => Sys2Proof.Machine.execLockedCreditReturn x s
  | .stall x t => Sys2Proof.Machine.execStall x t s
  | .deadlineMiss x t => Sys2Proof.Machine.execDeadlineMiss x t s
  | .waitMiss x t => Sys2Proof.Machine.execWaitMiss x t s
  | .orbitAbandon x => Sys2Proof.Machine.execOrbitAbandon x s
  | .beat d replicaPs => Sys2Proof.Machine.execBeat d replicaPs s
  | .paceSwitch t => Sys2Proof.Machine.execPaceSwitch t s
  | .oscTrim d move => Sys2Proof.Machine.execOscTrim d move s
  | .dramRetrain d t => Sys2Proof.Machine.execDramRetrain d t s
  | .linkAdaptation p t => Sys2Proof.Machine.execLinkAdaptation p t s
  | .powerCapControl watts t => Sys2Proof.Machine.execPowerCapControl watts t s
  | .timeReqSend t ps => Sys2Proof.Machine.execTimeReqSend t ps s
  | .timeReq p f t ps => Sys2Proof.Machine.execTimeReq p f t ps s
  | .timeResp p f t ps => Sys2Proof.Machine.execTimeResp p f t ps s
  | .timeHoldover t => Sys2Proof.Machine.execTimeHoldover t s
  | .portTrainingStart p => Sys2Proof.Machine.execPortTrainingStart p s
  | .signalLock p lanes => Sys2Proof.Machine.execSignalLock p lanes s
  | .equalisationDone p lanes => Sys2Proof.Machine.execEqualisationDone p lanes s
  | .frameLock p code port lanes => Sys2Proof.Machine.execFrameLock p code port lanes s
  | .dwellEnd p own partner t => Sys2Proof.Machine.execDwellEnd p own partner t s
  | .retrainDelayExpiry p t => Sys2Proof.Machine.execRetrainDelayExpiry p t s
  | .laneBerCheck p bers t => Sys2Proof.Machine.execLaneBerCheck p bers t s
  | .dataFrameGroup p ok heads payloads t => Sys2Proof.Machine.execDataFrameGroup p ok heads payloads t s
  | .idleFrameGroup p g t => Sys2Proof.Machine.execIdleFrameGroup p g t s
  | .calibrationGroup p => Sys2Proof.Machine.execCalibrationGroup p s
  | .fseqGapTimeout p => Sys2Proof.Machine.execFseqGapTimeout p s
  | .heartbeatSend p t => Sys2Proof.Machine.execHeartbeatSend p t s
  | .portSilent p t => Sys2Proof.Machine.execPortSilent p t s
  | .absenceReturnBy p t => Sys2Proof.Machine.execAbsenceReturnBy p t s
  | .entryEnd p f => Sys2Proof.Machine.execEntryEnd p f s
  | .entryCredit p f => Sys2Proof.Machine.execEntryCredit p f s
  | .openFlit p f => Sys2Proof.Machine.execOpenFlit p f s
  | .openAck p f => Sys2Proof.Machine.execOpenAck p f s
  | .closeFlit p f => Sys2Proof.Machine.execCloseFlit p f s
  | .breakFlit p f => Sys2Proof.Machine.execBreakFlit p f s
  | .mgmt p f => Sys2Proof.Machine.execMgmt p f s
  | .faultFront p f => Sys2Proof.Machine.execFaultFront p f s
  | .absence p f => Sys2Proof.Machine.execAbsence p f s
  | .remoteRd p f => Sys2Proof.Machine.execRemoteRd p f s
  | .calFlit p f => Sys2Proof.Machine.execCalFlit p f s
  | .refclkLoss t => Sys2Proof.Machine.execRefclkLoss t s
  | .mctpMessage vendor body => Sys2Proof.Machine.execMctpMessage vendor body s
  | .pldmRequest r => Sys2Proof.Machine.execPldmRequest r s
  | .electionClose t => Sys2Proof.Machine.execElectionClose t s
  | .leaseExpiry t => Sys2Proof.Machine.execLeaseExpiry t s
  | .parkedReadServed m => Sys2Proof.Machine.execParkedReadServed m s
  | .parkedReadTimeout m t => Sys2Proof.Machine.execParkedReadTimeout m t s
  | .nopCmd m q => Sys2Proof.Machine.execNopCmd m q s
  | .claim m q => Sys2Proof.Machine.execClaim m q s
  | .renew m q => Sys2Proof.Machine.execRenew m q s
  | .handover m q => Sys2Proof.Machine.execHandover m q s
  | .releaseOwner m q => Sys2Proof.Machine.execReleaseOwner m q s
  | .ownerRead m q => Sys2Proof.Machine.execOwnerRead m q s
  | .settingRead m q => Sys2Proof.Machine.execSettingRead m q s
  | .settingWrite m q => Sys2Proof.Machine.execSettingWrite m q s
  | .beginTxn m q => Sys2Proof.Machine.execBeginTxn m q s
  | .setStage m q => Sys2Proof.Machine.execSetStage m q s
  | .commitBoundary m q => Sys2Proof.Machine.execCommitBoundary m q s
  | .commitTick m q => Sys2Proof.Machine.execCommitTick m q s
  | .txnApplyTick t => Sys2Proof.Machine.execTxnApplyTick t s
  | .rollback m q => Sys2Proof.Machine.execRollback m q s
  | .txnRead m q => Sys2Proof.Machine.execTxnRead m q s
  | .contextCreate m q => Sys2Proof.Machine.execContextCreate m q s
  | .contextZeroed x => Sys2Proof.Machine.execContextZeroed x s
  | .contextDestroy m q => Sys2Proof.Machine.execContextDestroy m q s
  | .contextStart m q => Sys2Proof.Machine.execContextStart m q s
  | .contextStop m q => Sys2Proof.Machine.execContextStop m q s
  | .evict m q => Sys2Proof.Machine.execEvict m q s
  | .patchStage m q => Sys2Proof.Machine.execPatchStage m q s
  | .jobOpen m q => Sys2Proof.Machine.execJobOpen m q s
  | .jobClose m q => Sys2Proof.Machine.execJobClose m q s
  | .imageLoad m q => Sys2Proof.Machine.execImageLoad m q s
  | .imageReceived x => Sys2Proof.Machine.execImageReceived x s
  | .weightLoad m q => Sys2Proof.Machine.execWeightLoad m q s
  | .weightSwap m q => Sys2Proof.Machine.execWeightSwap m q s
  | .anchorInstall m q => Sys2Proof.Machine.execAnchorInstall m q s
  | .anchorTableRead m q => Sys2Proof.Machine.execAnchorTableRead m q s
  | .anchorRemove m q => Sys2Proof.Machine.execAnchorRemove m q s
  | .ledgerRead m q => Sys2Proof.Machine.execLedgerRead m q s
  | .attest m q => Sys2Proof.Machine.execAttest m q s
  | .replayArmSet m q => Sys2Proof.Machine.execReplayArmSet m q s
  | .replayArmAppend m q => Sys2Proof.Machine.execReplayArmAppend m q s
  | .memRead m q => Sys2Proof.Machine.execMemRead m q s
  | .memWrite m q => Sys2Proof.Machine.execMemWrite m q s
  | .debugHold m q => Sys2Proof.Machine.execDebugHold m q s
  | .debugRelease m q => Sys2Proof.Machine.execDebugRelease m q s
  | .brkArm m q => Sys2Proof.Machine.execBrkArm m q s
  | .brkDisarm m q => Sys2Proof.Machine.execBrkDisarm m q s
  | .semSet m q => Sys2Proof.Machine.execSemSet m q s
  | .vregRead m q => Sys2Proof.Machine.execVregRead m q s
  | .queueRead m q => Sys2Proof.Machine.execQueueRead m q s
  | .imemOverride m q => Sys2Proof.Machine.execImemOverride m q s
  | .baseMemStatus m q => Sys2Proof.Machine.execBaseMemStatus m q s
  | .stackStatus m q => Sys2Proof.Machine.execStackStatus m q s
  | .hubStatus m q => Sys2Proof.Machine.execHubStatus m q s
  | .paceStatus m q => Sys2Proof.Machine.execPaceStatus m q s
  | .portMap m q => Sys2Proof.Machine.execPortMap m q s
  | .slotTableRead m q => Sys2Proof.Machine.execSlotTableRead m q s
  | .calendarRead m q => Sys2Proof.Machine.execCalendarRead m q s
  | .grantTableRead m q => Sys2Proof.Machine.execGrantTableRead m q s
  | .grantIssue m q => Sys2Proof.Machine.execGrantIssue m q s
  | .grantRevoke m q => Sys2Proof.Machine.execGrantRevoke m q s
  | .connOpen m q => Sys2Proof.Machine.execConnOpen m q s
  | .connOpenTimeout connId t => Sys2Proof.Machine.execConnOpenTimeout connId t s
  | .connClose m q => Sys2Proof.Machine.execConnClose m q s
  | .portRetrain m q => Sys2Proof.Machine.execPortRetrain m q s
  | .timeSet m q => Sys2Proof.Machine.execTimeSet m q s
  | .eventRead m q => Sys2Proof.Machine.execEventRead m q s
  | .eventAck m q => Sys2Proof.Machine.execEventAck m q s
  | .resetCmd m q => Sys2Proof.Machine.execResetCmd m q s
  | .recoveryRead m q => Sys2Proof.Machine.execRecoveryRead m q s
  | .readyReport m q => Sys2Proof.Machine.execReadyReport m q s
  | .fuseMapRead m q => Sys2Proof.Machine.execFuseMapRead m q s
  | .fieldRepairAdd m q => Sys2Proof.Machine.execFieldRepairAdd m q s
  | .fieldRepairRemove m q => Sys2Proof.Machine.execFieldRepairRemove m q s
  | .haloPair m q => Sys2Proof.Machine.execHaloPair m q s
  | .haloStandby m q => Sys2Proof.Machine.execHaloStandby m q s
  | .haloUnpair m q => Sys2Proof.Machine.execHaloUnpair m q s
  | .takeover m q => Sys2Proof.Machine.execTakeover m q s
  | .haloResume m q => Sys2Proof.Machine.execHaloResume m q s
  | .checkpointRestore m q => Sys2Proof.Machine.execCheckpointRestore m q s
  | .checkpointRead m q => Sys2Proof.Machine.execCheckpointRead m q s
  | .haloStatus m q => Sys2Proof.Machine.execHaloStatus m q s
  | .fwStageBulk m q => Sys2Proof.Machine.execFwStageBulk m q s
  | .fwStageChunk m q => Sys2Proof.Machine.execFwStageChunk m q s
  | .mirrorItem pair item => Sys2Proof.Machine.execMirrorItem pair item s
  | .mirrorAck pair orbit ckpt => Sys2Proof.Machine.execMirrorAck pair orbit ckpt s
  | .batchCloseTimer stream t => Sys2Proof.Machine.execBatchCloseTimer stream t s
  | .sealSigned => Sys2Proof.Machine.execSealSigned s
  | .holdupGuardConfirm energy => Sys2Proof.Machine.execHoldupGuardConfirm energy s
  | .flashStoreDone => Sys2Proof.Machine.execFlashStoreDone s
  | .modResetNRelease sbSel energy => Sys2Proof.Machine.execModResetNRelease sbSel energy s
  | .bringupStageEnd r => Sys2Proof.Machine.execBringupStageEnd r s
  | .stageLimitExpiry r => Sys2Proof.Machine.execStageLimitExpiry r s
  | .linksUnconfigured => Sys2Proof.Machine.execLinksUnconfigured s
  | .eclipseFrozen => Sys2Proof.Machine.execEclipseFrozen s
  | .eclipseBudgetExpiry t => Sys2Proof.Machine.execEclipseBudgetExpiry t s
  | .resetRestoreDone => Sys2Proof.Machine.execResetRestoreDone s
  | .coreFault core t => Sys2Proof.Machine.execCoreFault core t s
  | .clusterFault site cluster t => Sys2Proof.Machine.execClusterFault site cluster t s
  | .paceFault d t => Sys2Proof.Machine.execPaceFault d t s
  | .baseFault u t => Sys2Proof.Machine.execBaseFault u t s
  | .stackFault u t => Sys2Proof.Machine.execStackFault u t s
  | .seamFault t => Sys2Proof.Machine.execSeamFault t s
  | .mcWatchdog t => Sys2Proof.Machine.execMcWatchdog t s
  | .pwrEnAssert energy => Sys2Proof.Machine.execPwrEnAssert energy s
  | .inputPowerFail cause energy t => Sys2Proof.Machine.execInputPowerFail cause energy t s
  | .emergencySealDone energy => Sys2Proof.Machine.execEmergencySealDone energy s
  | .modResetNAssert => Sys2Proof.Machine.execModResetNAssert s
  | .thermalSample sensor temp t => Sys2Proof.Machine.execThermalSample sensor temp t s
  | .thermalTrip sensor temp t => Sys2Proof.Machine.execThermalTrip sensor temp t s
  | .tapExtest => Sys2Proof.Machine.execTapExtest s
  | .tapSamplePreload => Sys2Proof.Machine.execTapSamplePreload s
  | .tapBypass => Sys2Proof.Machine.execTapBypass s
  | .tapIdcode => Sys2Proof.Machine.execTapIdcode s
  | .trstN low => Sys2Proof.Machine.execTrstN low s
  | .holdupBankCharged energy => Sys2Proof.Machine.execHoldupBankCharged energy s
  | .absentPartnerReturns p => Sys2Proof.Machine.execAbsentPartnerReturns p s
  | .resourcesReleased x => Sys2Proof.Machine.execResourcesReleased x s

end Sys2Proof.Machine
end

