-- ==== Sys2Proof/Machine/Posted.lean ====
section
/-! DEFINITION. A command as its slot's area holds it, read back as a row of the table (13 R350, R363), and the messages
that leave for the masters of m1-m7 (R346, R389). -/
namespace Sys2Proof.Machine
open Sys2Proof

/-- The fields of a command's header, and its payload (R350). -/
def cmdOf (b : List Byte) : Cmd :=
  { seq := leAt b 2 1, ctx := leAt b 3 1 % 16, ctxValid := bit (leAt b 3 1) 4, arg := BitVec.ofNat 64 (leAt b 8 8)
    payload := b.drop 16 }

/-- The meaning of the row of an opcode; ARG[0] selects between two rows of one opcode (R363; 14 R399, R428; 15
R438, R441) (DESIGN CHOICE, log 133). -/
def rowOf (m op : Nat) (q : Cmd) : Option (State → Out) :=
  match op with
  | 0x01 => some (execNopCmd m q)
  | 0x10 => some (execClaim m q)
  | 0x11 => some (execRenew m q)
  | 0x12 => some (execHandover m q)
  | 0x13 => some (execReleaseOwner m q)
  | 0x14 => some (execOwnerRead m q)
  | 0x20 => some (execSettingRead m q)
  | 0x21 => some (execSettingWrite m q)
  | 0x22 => some (execBeginTxn m q)
  | 0x23 => some (execSetStage m q)
  | 0x24 => some (if bit q.arg.toNat 0 then execCommitTick m q else execCommitBoundary m q)
  | 0x25 => some (execRollback m q)
  | 0x26 => some (execTxnRead m q)
  | 0x30 => some (execContextCreate m q)
  | 0x31 => some (execContextDestroy m q)
  | 0x32 => some (execContextStart m q)
  | 0x33 => some (execContextStop m q)
  | 0x34 => some (execEvict m q)
  | 0x35 => some (execPatchStage m q)
  | 0x36 => some (execJobOpen m q)
  | 0x37 => some (execJobClose m q)
  | 0x40 => some (execImageLoad m q)
  | 0x41 => some (execWeightLoad m q)
  | 0x42 => some (execWeightSwap m q)
  | 0x43 => some (execAnchorInstall m q)
  | 0x44 => some (if bit q.arg.toNat 0 then execAnchorRemove m q else execAnchorTableRead m q)
  | 0x45 => some (execLedgerRead m q)
  | 0x46 => some (execAttest m q)
  | 0x47 => some (if bit q.arg.toNat 0 then execReplayArmAppend m q else execReplayArmSet m q)
  | 0x50 => some (execMemRead m q)
  | 0x51 => some (execMemWrite m q)
  | 0x52 => some (execDebugHold m q)
  | 0x53 => some (execDebugRelease m q)
  | 0x54 => some (if bit q.arg.toNat 0 then execBrkArm m q else execBrkDisarm m q)
  | 0x55 => some (execSemSet m q)
  | 0x56 => some (execVregRead m q)
  | 0x57 => some (execQueueRead m q)
  | 0x58 => some (execImemOverride m q)
  | 0x60 => some (execBaseMemStatus m q)
  | 0x61 => some (execStackStatus m q)
  | 0x62 => some (execHubStatus m q)
  | 0x63 => some (execPaceStatus m q)
  | 0x64 => some (execPortMap m q)
  | 0x65 => some (execSlotTableRead m q)
  | 0x66 => some (execCalendarRead m q)
  | 0x67 => some (execGrantTableRead m q)
  | 0x70 => some (execGrantIssue m q)
  | 0x71 => some (execGrantRevoke m q)
  | 0x72 => some (execConnOpen m q)
  | 0x73 => some (execConnClose m q)
  | 0x74 => some (execPortRetrain m q)
  | 0x75 => some (execTimeSet m q)
  | 0x80 => some (execEventRead m q)
  | 0x81 => some (execEventAck m q)
  | 0x90 => some (execResetCmd m q)
  | 0x91 => some (execRecoveryRead m q)
  | 0x92 => some (execReadyReport m q)
  | 0x93 => some (execFuseMapRead m q)
  | 0x94 => some (if bit q.arg.toNat 0 then execFieldRepairAdd m q else execFieldRepairRemove m q)
  | 0x95 => some (execHaloPair m q)
  | 0x96 => some (execHaloStandby m q)
  | 0x97 => some (execHaloUnpair m q)
  | 0x98 => some (execTakeover m q)
  | 0x99 => some (execHaloResume m q)
  | 0x9A => some (execCheckpointRestore m q)
  | 0x9B => some (execCheckpointRead m q)
  | 0x9C => some (execHaloStatus m q)
  | 0xA0 => some (if bit q.arg.toNat 0 then execFwStageChunk m q else execFwStageBulk m q)
  | _ => none

/-- What serves a posted command: its row, or the status that ends it at once (R366). An action of REPLAY_ARM that
14 R428 does not name is BAD_ARG. -/
def rowOrStatus (m : Nat) (b : List Byte) : (State → Out) ⊕ Nat :=
  let q := cmdOf b
  let op := leAt b 0 2
  match rowOf m op q with
  | none => .inr stBadOpcode
  | some f =>
    if leAt b 4 2 % 4096 ≠ q.payload.length then .inr stBadLength
    else if op = 0x47 && bit q.arg.toNat 1 then .inr stBadArg
    else .inl f

/-! ### Messages (R346, R351, R389) -/

/-- A message as MGMT flits of 56 bytes on its path. -/
def State.sendMgmt (s : State) (v : Message) : State :=
  let parts := chunksOf 56 74 v.bytes
  (List.range parts.length).foldl (fun s i =>
    let d := parts.getD i []
    s.queueFlit (s.bundleOf v.port)
      { vl := 3, ctl := true, tag := v.tag
        flit := ctlFlit [(0, 1, 9), (2, 1, v.slot), (3, 1, b2n (i = 0) + 2 * b2n (i + 1 = parts.length)), (4, 2, d.length),
          (8, d.length, natOf d)] }) s

/-- Responses leave, and events in SEQ order, as their entries in the ring now stand. -/
def State.sendMessages (s : State) : State :=
  let events := s.mbox.forward.flatMap (fun f => (s.events.held.filter (fun e => e.seq = f.2)).flatMap (fun e =>
    s.letter f.1 (eventMessage e)))
  let l := s.mbox.messages ++ events
  l.foldl State.sendMgmt { s with mbox := { s.mbox with messages := [], forward := [] } }

/-! ### Rounds (R353) -/

/-- The slot of a visit: m0 to m7, then the owner's slot again. -/
def State.visit (s : State) (k : Nat) : Option Nat := if k < 8 then some k else s.owner

/-- The next visit that finds a command to serve, with the place after it. -/
def State.nextVisit (s : State) : Option (Nat × Nat) :=
  (List.range 9).findSome? (fun i =>
    let k := (s.mbox.round + i) % 9
    match s.visit k with
    | some m => if (s.slot m).posted && s.servesSlot m then some (m, (k + 1) % 9) else none
    | none => none)

/-- A command that no row takes is answered at once. -/
def State.answer (s : State) (m : Nat) (b : List Byte) (status : Nat) : State :=
  let s := (s.modSlot m (fun v => { v with posted := false })).mboxTimers.renew m
  s.respond m (leAt b 2 1) { status := if s.boot.rom then stNotReady else status }

end Sys2Proof.Machine
end

