-- ==== Sys2Proof/Machine/Service.lean ====
section
/-! DEFINITION. What the block does when no command waits: a tick of the time base, messages out, and one visit of the
management core's round (13 R353; log 2). -/
namespace Sys2Proof.Machine
open Sys2Proof

/-- The management core serves the next posted command of its round. -/
def State.serveNext (s : State) : State :=
  match s.nextVisit with
  | none => s
  | some (m, k) =>
    let s := { s with mbox := { s.mbox with round := k } }
    let b := (s.slot m).command
    match rowOrStatus m b with
    | .inl f =>
      let u := s.modSlot m (fun v => { v with posted := false })
      after (f u) u
    | .inr st => s.answer m b st

/-- The time base counts while the management plane has power and is out of reset, also while it seals (11 R292); the
management core serves. -/
def State.idle (s : State) : State :=
  let counts := s.power.management && !s.power.halted && !s.power.modReset
  let t := if counts then { s with time := { s.time with now := (s.time.now + 1) % 2 ^ 64 } } else s
  if t.mcRuns then t.sendMessages.serveNext else t

/-- An empty queue: the queue stays empty. -/
def idleStep (s : State) : Out := done s s.idle

end Sys2Proof.Machine
end

