-- ==== Sys2Proof/Safety.lean ====
section
/-! DEFINITION. What a safe state is, and the words the statements are made of: a command completes; what it puts in
flight, what it leaves alone. -/
namespace Sys2Proof.Machine
open Sys2Proof

/-- Memory stands in its canonical form. -/
def State.memOk (s : State) : Prop := Memory.wf s.mem = true

/-- The command completes and leaves a state of which `P` holds. -/
def Completes (i : Instr) (s : State) (P : State → Prop) : Prop := ∃ t, exec i s = .next t ∧ P t

/-! ### Cores -/

/-- The core as the fields of the present step read it (03 R64). -/
def State.view (s : State) (c : CoreRef) : Core := (s.core c).at' (s.stepOf c)

/-- From `s` to `t` the core `c` has gained one scalar result, due `lat` steps after the present one (03 R88). -/
def PutsScalar (s : State) (c : CoreRef) (lat : Nat) (d : SDest) (v : W64) (t : State) : Prop :=
  (t.core c).pipe = (s.core c).pipe ++
    [{ due := s.stepOf c + lat, issued := s.stepOf c, red := false, dest := d, val := v }]

/-- From `s` to `t` the core `c` has gained the vector writes `l`, due `lat` steps after the present one (06 R155). -/
def PutsVectors (s : State) (c : CoreRef) (lat : Nat) (l : List VecWrite) (t : State) : Prop :=
  (t.core c).vpipe = (s.core c).vpipe ++ l.map (fun w =>
    { due := s.stepOf c + lat, issued := s.stepOf c, load := false, reg := w.reg, en := w.en, data := w.data })

/-- Lane `l` of vector result `r` under mask `m`: the lane is written with `v` where the mask has its bit, and
otherwise is written with zero or kept, as MZ says (06 R154). -/
def LaneIs (f : VectorField) (m : Mask) (r : VecRes) (l v : Nat) : Prop :=
  if bit m.toNat l then laneOf r.en l = 2 ^ 32 - 1 ∧ laneOf r.data l = v % 2 ^ 32
  else if f.mz then laneOf r.en l = 2 ^ 32 - 1 ∧ laneOf r.data l = 0
  else laneOf r.en l = 0

/-- From `s` to `t` the core has gained one result for register VD, due `lat` steps on, whose lane `l` holds
`val l`. -/
def PutsLanes (s : State) (c : CoreRef) (f : VectorField) (lat : Nat) (val : Nat → Nat) (t : State) : Prop :=
  ∃ r : VecRes, (t.core c).vpipe = (s.core c).vpipe ++ [r] ∧ r.due = s.stepOf c + lat ∧ r.issued = s.stepOf c ∧
    r.load = false ∧ r.reg = f.vd.toNat ∧ ∀ l, l < 256 → LaneIs f ((s.view c).vecArgs f).m r l (val l)

/-- From `s` to `t` the core has gained one result for mask VD[2:0], due two steps on, whose bit `l` is `val l`; a
result for mask 0 is none (06 R149, R154). -/
def PutsMask (s : State) (c : CoreRef) (f : VectorField) (val : Nat → Bool) (t : State) : Prop :=
  let m := ((s.view c).vecArgs f).m
  if bvf f.vd 0 3 = 0 then (t.core c).vpipe = (s.core c).vpipe
  else ∃ r : VecRes, (t.core c).vpipe = (s.core c).vpipe ++ [r] ∧ r.due = s.stepOf c + 2 ∧ r.issued = s.stepOf c ∧
    r.load = false ∧ r.reg = 64 + bvf f.vd 0 3 ∧ ∀ l, l < 256 →
      if bit m.toNat l then bit r.en.toNat l = true ∧ bit r.data.toNat l = val l
      else bit r.en.toNat l = f.mz ∧ bit r.data.toNat l = false

/-- From `s` to `t` the core has gained one reduction of vector lanes, due eight steps on in sr[VS] (06 R164). -/
def PutsReduction (s : State) (c : CoreRef) (f : VectorField) (v : W64) (t : State) : Prop :=
  (t.core c).pipe = (s.core c).pipe ++
    [{ due := s.stepOf c + 8, issued := s.stepOf c, red := true, dest := .sr f.vs.toNat, val := v }]

/-- The core whose bundle a command presents, for the commands that are fields of a bundle (03 R62). -/
def bundleCore : Instr → Option CoreRef
  | .idleBundle f => some f.core | .brk c => some c | .rdv c _ => some c | .fence c => some c | .rdvFence c _ => some c
  | .orbitEnd c => some c | .jmp c _ => some c | .loop c _ => some c | .ubr c _ => some c | .fbr c _ => some c
  | .armend c => some c | .armCut c => some c
  | .add c _ => some c | .sub c _ => some c | .mul c _ => some c | .and c _ => some c | .or c _ => some c
  | .xor c _ => some c | .shl c _ => some c | .shr c _ => some c | .sar c _ => some c | .min c _ => some c
  | .max c _ => some c | .minu c _ => some c | .maxu c _ => some c | .slt c _ => some c | .sltu c _ => some c
  | .seq c _ => some c | .csel c _ => some c | .movi c _ => some c | .movhi c _ => some c | .rdpar c _ => some c
  | .wrpar c _ => some c | .rdstep c _ => some c | .rdorbit c _ => some c | .rdpci c _ => some c
  | .rdncore c _ => some c | .rdsem c _ => some c | .rdbrk c _ => some c | .reduce c _ => some c
  | .rdwire c _ => some c | .lcset c _ => some c | .tapset c _ => some c | .tail c _ => some c
  | .readTap c _ _ _ => some c | .writeTap c _ _ _ => some c
  | .enter c _ _ _ => some c | .shift c _ _ _ => some c | .swap c _ _ => some c
  | .fadd c _ => some c | .fsub c _ => some c | .fmul c _ => some c | .fma c _ => some c | .fnma c _ => some c
  | .fmin c _ => some c | .fmax c _ => some c | .fabs c _ => some c | .fneg c _ => some c | .fcpys c _ => some c
  | .frint c _ => some c | .fscale c _ => some c | .fexp c _ => some c | .fmant c _ => some c
  | .fceq c _ => some c | .fclt c _ => some c | .fcle c _ => some c | .fcun c _ => some c | .fclass c _ => some c
  | .iceq c _ => some c | .iclt c _ => some c | .icltu c _ => some c | .sel c _ => some c
  | .kand c _ => some c | .kor c _ => some c | .kxor c _ => some c | .knot c _ => some c
  | .iadd c _ => some c | .isub c _ => some c | .imul c _ => some c | .iand c _ => some c | .ior c _ => some c
  | .ixor c _ => some c | .ishl c _ => some c | .ishr c _ => some c | .isar c _ => some c | .imin c _ => some c
  | .imax c _ => some c | .umin c _ => some c | .umax c _ => some c | .mov c _ => some c | .vecMovi c _ => some c
  | .laneid c _ => some c | .vrotl c _ => some c | .vlbc c _ => some c
  | .cvtf c _ => some c | .cvtw c _ => some c | .cvtmx c _ => some c | .cvtwmx c _ => some c | .ftoi c _ => some c
  | .itof c _ => some c | .vtail c _ => some c | .vtailu c _ => some c
  | .rfsum c _ => some c | .rfmax c _ => some c | .rfmin c _ => some c | .risum c _ => some c | .rusum c _ => some c
  | .rimax c _ => some c | .rimin c _ => some c | .rand c _ => some c | .ror c _ => some c | .rargmax c _ => some c
  | .rkcnt c _ => some c | .vectorLoad c _ => some c | .vectorStore c _ => some c
  | .dramToCore c _ => some c | .coreToDram c _ => some c | .baseToCore c _ => some c | .coreToBase c _ => some c
  | .dramToBase c _ => some c | .baseToDram c _ => some c | .comet c _ => some c
  | .send c _ => some c | .elast c _ _ => some c | .recv c _ _ => some c | .semopAdd c _ _ => some c
  | .semopSub c _ _ => some c
  | _ => none

/-! ### The mailbox -/

/-- The management core serves slot `m` with command `q` at once and the command passes the checks that every command
meets: the firmware runs, the slot is free and served, no lease or election is due, and the gate accepts it as what the
opcode table says of the command (13 R353, R361, R365; 15 R435). -/
structure Serves (s : State) (m : Nat) (q : Cmd) (k : CmdSpec) : Prop where
  runs : s.mcRuns = true
  slot : m < 8
  free : (s.slot m).busy = false
  served : s.servesSlot m = true
  lease : ∀ o, s.mbox.owner = some o → s.now < s.mbox.leaseEnd
  election : ∀ t, s.mbox.election = some t → s.now < t
  gate : s.gate m q k = stOK

/-- The state at the start of a command's service: its bytes stand in the slot's area, and the owner's lease has
started again (13 R350, R358). -/
def State.entered (s : State) (m : Nat) (q : Cmd) (op : Nat) : State :=
  ((s.post m (cmdBytes q op)).modSlot m (fun v => { v with posted := false })).renew m

/-- From `s` to `t` slot `m` has been served with command `q` of opcode `op`: `f` says what the command does to the
state at the start of its service and what it answers; the answer stands in the slot, which is free again. -/
def Answered (s : State) (m : Nat) (q : Cmd) (op : Nat) (f : State → State × Reply) (t : State) : Prop :=
  t = (f (s.entered m q op)).1.respond m q.seq (f (s.entered m q op)).2

/-- The command answers with a record and does nothing more. -/
def Reads (payload : State → List Byte) (u : State) : State × Reply := (u, { payload := payload u })

/-- The command is deferred: ACCEPTED with a ticket of its own, and `go` is what it does at once (13 R355). -/
def Defers (m : Nat) (q : Cmd) (op key aux : Nat) (data : List Byte) (go : State → Nat → State) (u : State) :
    State × Reply :=
  let r := u.defer m q op key aux data
  (go r.1 r.2, { status := stAccepted, ticket := r.2 })

/-- The context of the command exists and has room for a deferred command (13 R355, R374). -/
structure Roomy (u : State) (q : Cmd) : Prop where
  held : (u.ctx q.ctx).phase ≠ .free
  room : q.ctxValid = true → u.cmdRoom q.ctx = true

/-- The bulk connection that ARG names is one of the command's context, and the slot has a link (13 R378). -/
structure HasBulk (u : State) (m : Nat) (q : Cmd) (b : Bulk) : Prop where
  link : m ≠ 0
  bulk : u.bulk (argFld q 0 32) = some b
  mine : b.ctx = q.ctx

/-- The opcode, slot and command of the rows that only the owner's slot may send (13 R361). -/
def ownerRow : Instr → Option (Nat × Nat × Cmd)
  | .renew m q => some (0x11, m, q) | .handover m q => some (0x12, m, q) | .releaseOwner m q => some (0x13, m, q)
  | .beginTxn m q => some (0x22, m, q) | .setStage m q => some (0x23, m, q)
  | .commitBoundary m q => some (0x24, m, withArg q 0 1 0) | .commitTick m q => some (0x24, m, withArg q 0 1 1)
  | .rollback m q => some (0x25, m, q) | .contextCreate m q => some (0x30, m, q)
  | .contextDestroy m q => some (0x31, m, q) | .contextStart m q => some (0x32, m, q)
  | .contextStop m q => some (0x33, m, q) | .evict m q => some (0x34, m, q) | .patchStage m q => some (0x35, m, q)
  | .jobOpen m q => some (0x36, m, q) | .jobClose m q => some (0x37, m, q) | .imageLoad m q => some (0x40, m, q)
  | .weightLoad m q => some (0x41, m, q) | .weightSwap m q => some (0x42, m, q)
  | .anchorInstall m q => some (0x43, m, q) | .anchorRemove m q => some (0x44, m, withArg q 0 1 1)
  | .replayArmSet m q => some (0x47, m, withArg q 0 2 0) | .replayArmAppend m q => some (0x47, m, withArg q 0 2 1)
  | .memWrite m q => some (0x51, m, q) | .debugHold m q => some (0x52, m, q) | .debugRelease m q => some (0x53, m, q)
  | .brkArm m q => some (0x54, m, withArg q 0 1 1) | .brkDisarm m q => some (0x54, m, withArg q 0 1 0)
  | .semSet m q => some (0x55, m, q) | .imemOverride m q => some (0x58, m, q) | .grantIssue m q => some (0x70, m, q)
  | .grantRevoke m q => some (0x71, m, q) | .connOpen m q => some (0x72, m, q) | .connClose m q => some (0x73, m, q)
  | .portRetrain m q => some (0x74, m, q) | .timeSet m q => some (0x75, m, q) | .resetCmd m q => some (0x90, m, q)
  | .fieldRepairAdd m q => some (0x94, m, withArg q 0 1 1) | .fieldRepairRemove m q => some (0x94, m, withArg q 0 1 0)
  | .haloPair m q => some (0x95, m, q) | .haloStandby m q => some (0x96, m, q) | .haloUnpair m q => some (0x97, m, q)
  | .takeover m q => some (0x98, m, q) | .haloResume m q => some (0x99, m, q)
  | .checkpointRestore m q => some (0x9A, m, q) | .fwStageBulk m q => some (0xA0, m, withArg q 0 1 0)
  | .fwStageChunk m q => some (0xA0, m, withArg q 0 1 1)
  | _ => none

end Sys2Proof.Machine
end

