-- ==== Sys2Proof/Certificates/Slice0/Obligations.lean ====
section
/-! DEFINITION. The statements for the provers, about the commands, the step and the state after reset. Each docstring
names the rules of the spec a statement follows. -/
open Sys2Proof Sys2Proof.Machine

/-! ### The step and the queue -/

/-- A step takes the command at the front of the queue and answers what the command does on the state with the rest
of the queue; nothing is added around it. -/
def Obligations.StepRunsFront : Prop :=
  ∀ (s : State) (c : Instr) (r : List Instr), s.pending = c :: r →
    step s = exec c { s with pending := r }

/-- Every command completes, and none touches the queue. -/
def Obligations.EveryCommandCompletes : Prop :=
  ∀ (c : Instr) (s : State), Completes c s (fun t => t.pending = s.pending)

/-- With an empty queue, no command posted and no message or event to send, a step advances the tick counter by one and
changes nothing else; it also does while the management plane seals, and stands still in module reset, halted or
without power (11 R292; log 2: the model's choice). -/
def Obligations.IdleStepTicks : Prop :=
  ∀ s : State, s.pending = [] →
    let ticked := { s with time := { s.time with now := (s.time.now + 1) % 2 ^ 64 } }
    (s.mcRuns = true → s.mbox.messages = [] → s.mbox.forward = [] → (∀ m, m < 8 → (s.slot m).posted = false) →
      step s = .next ticked) ∧
    (s.mcRuns = false → s.power.management = true → s.power.halted = false → s.power.modReset = false →
      step s = .next ticked) ∧
    (s.power.management = false ∨ s.power.halted = true ∨ s.power.modReset = true → step s = .next s)

/-! ### Memory -/

/-- Every step keeps memory in its canonical form: addresses rise strictly and no listed byte is zero. -/
def Obligations.StepKeepsMemoryCanonical : Prop :=
  ∀ s t : State, s.memOk → step s = .next t → t.memOk

/-- The machine after reset has memory in canonical form, with no byte listed. -/
def Obligations.ResetMemoryCanonical : Prop := State.reset.memOk ∧ ∀ a, Memory.byte State.reset.mem a = 0

/-! ### Fields of a bundle: where they act, and what they leave alone -/

/-- Where the context does not run, its wave stands, the core is not one of the context's, or the core idles at the
end of an arm, the fields of a bundle change nothing (03 R62, R72; 01 R29). -/
def Obligations.FieldsNeedLiveCore : Prop :=
  ∀ (i : Instr) (c : CoreRef) (s : State), bundleCore i = some c → s.live c = false → Completes i s (fun t => t = s)

/-- The fields of a bundle leave alone every other core, every other context, all of memory, the stacks, base
memories and grants, the time base and the domains, the links, the mailbox but for the events to send, the ledger, the
flash, the anchors, the boot and recovery state and the power state; and no field changes a register, memory write, queue
or buffer of its core before its result lands: the scalar registers, parameters, loop counters, taps, vector and mask
registers, operand buffer, drain window, ring, semaphores, endpoints and stream positions stand (03 R64). -/
def Obligations.FieldsFrame : Prop :=
  (∀ (i : Instr) (c : CoreRef) (s : State), bundleCore i = some c → Completes i s (fun t =>
    (∀ l, l ≠ (s.ctx c.ctx).logical c.core → t.coreAt l = s.coreAt l) ∧
    (∀ y, y ≠ c.ctx → t.ctx y = s.ctx y) ∧
    (∀ a, Memory.byte t.mem a = Memory.byte s.mem a) ∧
    t.drams = s.drams ∧ t.base = s.base ∧ t.hubs = s.hubs ∧ t.grants = s.grants ∧
    t.time = s.time ∧ t.domains = s.domains ∧ t.calendar = s.calendar ∧ t.links = s.links ∧
    t.mbox = { s.mbox with messages := t.mbox.messages, forward := t.mbox.forward } ∧ t.fuses = s.fuses ∧
    t.anchors = s.anchors ∧
    t.ledger = s.ledger ∧ t.flash = s.flash ∧ t.boot = s.boot ∧ t.recovery = s.recovery ∧ t.power = s.power)) ∧
  (∀ (i : Instr) (c : CoreRef) (s : State), bundleCore i = some c → Completes i s (fun t =>
    (t.core c).sr = (s.core c).sr ∧ (t.core c).par = (s.core c).par ∧ (t.core c).lc = (s.core c).lc ∧
    (t.core c).taps = (s.core c).taps ∧ (t.core c).vregs = (s.core c).vregs ∧ (t.core c).masks = (s.core c).masks ∧
    (t.core c).opbuf = (s.core c).opbuf ∧ (t.core c).opland = (s.core c).opland ∧
    (t.core c).drain = (s.core c).drain ∧ (t.core c).drainIn = (s.core c).drainIn ∧
    (t.core c).memWrites = (s.core c).memWrites ∧ (t.core c).sdCur = (s.core c).sdCur ∧
    (t.core c).ring = (s.core c).ring ∧ (t.core c).sems = (s.core c).sems ∧
    (t.core c).sendEps = (s.core c).sendEps ∧ (t.core c).recvEps = (s.core c).recvEps ∧
    (t.core c).store = (s.core c).store ∧ (t.core c).semIn = (s.core c).semIn))

/-! ### The scalar unit -/

/-- The two-operand scalar operations: sr[SD] takes the 64-bit result one step on, MUL's two steps on, from sr[SA] and
operand B as the step began (03 R76, R88). -/
def Obligations.ScalarArithmetic : Prop :=
  ∀ (s : State) (c : CoreRef) (f : ScalarField), s.live c = true →
    let a := (s.view c).sra f.sa.toNat
    let b := (s.view c).operandB f
    let d := SDest.sr f.sd.toNat
    Completes (.add c f) s (PutsScalar s c 1 d (a + b)) ∧
    Completes (.sub c f) s (PutsScalar s c 1 d (a - b)) ∧
    Completes (.mul c f) s (PutsScalar s c 2 d (a * b)) ∧
    Completes (.and c f) s (PutsScalar s c 1 d (a &&& b)) ∧
    Completes (.or c f) s (PutsScalar s c 1 d (a ||| b)) ∧
    Completes (.xor c f) s (PutsScalar s c 1 d (a ^^^ b)) ∧
    Completes (.shl c f) s (PutsScalar s c 1 d (a <<< (b.toNat % 64))) ∧
    Completes (.shr c f) s (PutsScalar s c 1 d (a >>> (b.toNat % 64))) ∧
    Completes (.sar c f) s (PutsScalar s c 1 d (a.sshiftRight (b.toNat % 64))) ∧
    Completes (.min c f) s (PutsScalar s c 1 d (if a.toInt < b.toInt then a else b)) ∧
    Completes (.max c f) s (PutsScalar s c 1 d (if a.toInt < b.toInt then b else a)) ∧
    Completes (.minu c f) s (PutsScalar s c 1 d (if a.toNat < b.toNat then a else b)) ∧
    Completes (.maxu c f) s (PutsScalar s c 1 d (if a.toNat < b.toNat then b else a)) ∧
    Completes (.slt c f) s (PutsScalar s c 1 d (if a.toInt < b.toInt then 1 else 0)) ∧
    Completes (.sltu c f) s (PutsScalar s c 1 d (if a.toNat < b.toNat then 1 else 0)) ∧
    Completes (.seq c f) s (PutsScalar s c 1 d (if a = b then 1 else 0))

/-- The scalar moves and reads: CSEL selects by sr[SB]; MOVI is sign-extended; MOVHI keeps sd's low half; parameters,
step, orbit, core number, core count and wire slots are read; TAIL draws from a seed parameter; RDSEM returns BRK in bit
31 over VALUE, and zero for semaphores 48 to 63, as the channels' arrivals of the step have left the semaphore; RDBRK
returns whether an elastic endpoint is broken (03 R76, R78, R88; 10 R246, R259, R265). -/
def Obligations.ScalarReads : Prop :=
  (∀ (s : State) (c : CoreRef) (f : ScalarField), s.live c = true →
    let v := s.view c
    let x := s.ctx c.ctx
    let d := SDest.sr f.sd.toNat
    Completes (.csel c f) s (PutsScalar s c 1 d
      (if v.sra f.sb.toNat = 0 then v.sra f.sd.toNat else v.sra f.sa.toNat)) ∧
    Completes (.movi c f) s (PutsScalar s c 1 d (f.imm.signExtend 64)) ∧
    Completes (.movhi c f) s (PutsScalar s c 1 d
      (BitVec.ofNat 64 (f.imm.toNat * 2 ^ 32 + (v.sra f.sd.toNat).toNat % 2 ^ 32))) ∧
    Completes (.rdpar c f) s (PutsScalar s c 1 d (v.par.get 0 (f.sx.toNat % 64))) ∧
    Completes (.rdstep c f) s (PutsScalar s c 1 d (BitVec.ofNat 64 (x.step % 2 ^ 48))) ∧
    Completes (.rdorbit c f) s (PutsScalar s c 1 d (BitVec.ofNat 64 x.orbit)) ∧
    Completes (.rdpci c f) s (PutsScalar s c 1 d (BitVec.ofNat 64 c.core)) ∧
    Completes (.rdncore c f) s (PutsScalar s c 1 d (BitVec.ofNat 64 x.img.cores)) ∧
    Completes (.rdwire c f) s (PutsScalar s c 1 d (x.wireAt x.step (f.sx.toNat % 4))) ∧
    Completes (.tail c f) s (PutsScalar s c 4 d ((Machine.tail (v.par.get 0 (f.sx.toNat % 64)) (BitVec.ofNat 64 x.orbit)
      ((v.sra f.sa.toNat).toNat % 2 ^ 48) ((v.sra f.sb.toNat).toNat % 2 ^ 16) (f.imm.toNat % 2 ^ 8)).setWidth 64))) ∧
  (∀ (s : State) (c : CoreRef) (f : ScalarField), s.live c = true →
    let n := f.sx.toNat % 64
    let q : Sem := if n < 48 then ((s.chanView c.ctx).core c).sems.get {} n else {}
    let d := SDest.sr f.sd.toNat
    Completes (.rdsem c f) s (PutsScalar s c 1 d (BitVec.ofNat 64 (q.value + (if q.brk then 2 ^ 31 else 0)))) ∧
    (f.sx.toNat.testBit 4 = true →
      let e := (s.core c).sendEps.get {} (f.sx.toNat % 16)
      Completes (.rdbrk c f) s (PutsScalar s c 1 d (if e.elastic = true ∧ e.state = .broken then 1 else 0))) ∧
    (f.sx.toNat.testBit 4 = false →
      let e := (s.core c).recvEps.get {} (f.sx.toNat % 16)
      Completes (.rdbrk c f) s (PutsScalar s c 1 d (if e.elastic = true ∧ e.state = .broken then 1 else 0))))

/-- WRPAR and LCSET put a value in flight to a parameter and a loop counter, LCSET's from IMM or from a parameter;
TAPSET waits for the end of the step; REDUCE contributes to its wire slot, and code 7 contributes nothing (03 R70, R76,
R79, R82, R89). -/
def Obligations.ScalarWrites : Prop :=
  ∀ (s : State) (c : CoreRef) (f : ScalarField), s.live c = true →
    let v := s.view c
    let a := v.sra f.sa.toNat
    Completes (.wrpar c f) s (PutsScalar s c 1 (.par (f.sx.toNat % 64)) a) ∧
    Completes (.lcset c f) s (PutsScalar s c 1 (.lc (f.sx.toNat % 4)) (BitVec.ofNat 64
      (if f.sx.toNat.testBit 2 then (v.par.get 0 (f.imm.toNat % 64)).toNat % 2 ^ 16 else f.imm.toNat % 2 ^ 16))) ∧
    Completes (.tapset c f) s (fun t => (t.core c).pipe = (s.core c).pipe ∧
      (t.core c).work.tapsets = (s.core c).work.tapsets ++ [(f.sx.toNat % 32, f.imm.toNat % 8, a)]) ∧
    Completes (.reduce c f) s (fun t => (t.core c).pipe = (s.core c).pipe ∧
      (t.ctx c.ctx).wireIn = (s.ctx c.ctx).wireIn ++
        (if f.sx.toNat / 4 % 8 = 7 then [] else [⟨f.sx.toNat % 4, c.core, f.sx.toNat / 4 % 8, a⟩]))

/-! ### Results land -/

/-- PIPELINE_RESULT: the results due at the step leave flight and reach their registers; of several for one scalar
register the one due last, and of those the one issued last, stands, a scalar operation over a reduction of its step; a
vector or mask register takes the bits a result writes and keeps the rest; every other register stands (03 R64, R77,
R88; 06 R154, R155). -/
def Obligations.ResultsLand : Prop :=
  ∀ (s : State) (c : CoreRef) (e : Ecc), s.lands c = true →
    let n := s.stepOf c
    let k := s.core c
    Completes (.pipelineResult c e) s (fun t =>
      let j := t.core c
      j.pipe = k.pipe.filter (fun r => decide (n < r.due)) ∧
      j.vpipe = k.vpipe.filter (fun r => decide (n < r.due)) ∧
      (∀ r ∈ k.pipe, r.due ≤ n →
        (∀ q ∈ k.pipe, q.due ≤ n → q.dest = r.dest → q = r ∨ q.due < r.due ∨ (q.due = r.due ∧ q.issued < r.issued) ∨
          (q.due = r.due ∧ q.issued = r.issued ∧ q.red = true ∧ r.red = false)) →
        match r.dest with
        | .sr i => j.sr.get 0 i = r.val
        | .par i => j.par.get 0 i = r.val
        | .lc i => j.lc.get 0 i = r.val.setWidth 16) ∧
      (∀ i, (∀ r ∈ k.pipe, r.due ≤ n → r.dest ≠ .sr i) → j.sr.get 0 i = k.sr.get 0 i) ∧
      (∀ i, (∀ r ∈ k.pipe, r.due ≤ n → r.dest ≠ .par i) → j.par.get 0 i = k.par.get 0 i) ∧
      (∀ i, (∀ r ∈ k.pipe, r.due ≤ n → r.dest ≠ .lc i) → j.lc.get 0 i = k.lc.get 0 i) ∧
      (∀ r ∈ k.vpipe, r.due ≤ n → r.reg < 64 → (∀ q ∈ k.vpipe, q.due ≤ n → q.reg = r.reg → q = r) →
        j.vregs.get 0 r.reg = ((k.vregs.get 0 r.reg &&& ~~~r.en) ||| (r.data &&& r.en))) ∧
      (∀ i, i < 64 → (∀ r ∈ k.vpipe, r.due ≤ n → r.reg ≠ i) → j.vregs.get 0 i = k.vregs.get 0 i) ∧
      (∀ i, (∀ r ∈ k.vpipe, r.due ≤ n → r.reg ≠ 64 + i) → j.masks.get 0 i = k.masks.get 0 i))

/-- OPERAND_BUFFER_LANDING, ARRAY_OUTPUT and WIRE_LANDING: what is due at the step takes its slot, drain line or wire
slot; what is due for no slot leaves it as it is; what is not due stays in flight. CORE_MEM_WRITE_VISIBLE: a line of core
memory holds the last write to it issued two steps before or earlier, as a read of the step finds it; every byte outside
the lines so written is unchanged; younger writes wait (03 R79; 04 R103, R110, R111; 07 R174). -/
def Obligations.BuffersLand : Prop :=
  (∀ (s : State) (c : CoreRef), s.lands c = true →
    let n := s.stepOf c
    let k := s.core c
    let x := s.ctx c.ctx
    Completes (.operandBufferLanding c) s (fun t =>
      (t.core c).opland = k.opland.filter (fun r => decide (n < r.1)) ∧
      (∀ r ∈ k.opland, r.1 ≤ n → (∀ q ∈ k.opland, q.1 ≤ n → q.2.1 = r.2.1 → q = r) →
        (t.core c).opbuf.get 0 r.2.1 = r.2.2) ∧
      (∀ i, (∀ r ∈ k.opland, r.1 ≤ n → r.2.1 ≠ i) → (t.core c).opbuf.get 0 i = k.opbuf.get 0 i)) ∧
    Completes (.arrayOutput c) s (fun t =>
      (t.core c).drainIn = k.drainIn.filter (fun r => decide (n < r.due)) ∧
      (∀ r ∈ k.drainIn, r.due ≤ n → (∀ q ∈ k.drainIn, q.due ≤ n → q = r) → ∀ p ∈ r.lines,
        (∀ q ∈ r.lines, q.1 = p.1 → q = p) → (t.core c).drain.get 0 p.1 = p.2) ∧
      (∀ i, (∀ r ∈ k.drainIn, r.due ≤ n → ∀ p ∈ r.lines, p.1 ≠ i) → (t.core c).drain.get 0 i = k.drain.get 0 i)) ∧
    Completes (.wireLanding c.ctx) s (fun t =>
      (t.ctx c.ctx).wires = x.wires.filter (fun r => decide (n < r.due)) ∧
      (∀ r ∈ x.wires, r.due ≤ n → (∀ q ∈ x.wires, q.due ≤ n → q.slot = r.slot → q = r) →
        (t.ctx c.ctx).wire.get 0 r.slot = r.val) ∧
      (∀ i, (∀ r ∈ x.wires, r.due ≤ n → r.slot ≠ i) → (t.ctx c.ctx).wire.get 0 i = x.wire.get 0 i))) ∧
  (∀ (s : State) (c : CoreRef), s.lands c = true →
    let n := s.stepOf c
    let l := (s.ctx c.ctx).logical c.core
    let k := s.core c
    Completes (.coreMemWriteVisible c) s (fun t =>
      (∀ i, Memory.line t.mem (coreAddr l i) = s.lineAt l k n i) ∧
      (∀ a, (∀ w ∈ k.memWrites, w.issued + 2 ≤ n → a < coreAddr l w.line ∨ coreAddr l w.line + 64 ≤ a) →
        Memory.byte t.mem a = Memory.byte s.mem a) ∧
      (t.core c).memWrites = k.memWrites.filter (fun w => decide (n < w.issued + 2)) ∧
      (∀ m, m ≠ l → t.coreAt m = s.coreAt m) ∧ (∀ y, t.ctx y = s.ctx y)))

/-! ### The control field -/

/-- RDV, FENCE, RDV_FENCE and ORBIT_END, on the last repetition and outside an arm, begin the freeze of their context
at its step or join the one begun: the core is counted, its conditions are listed, a fence is asked for (01 R29, R31,
R32, R36; 03 R67, R74). -/
def Obligations.ControlsFreeze : Prop :=
  ∀ (s : State) (c : CoreRef) (f : CtlField), s.ctlActs c = true → (s.core c).seq.inArm = false →
    let z := (s.ctx c.ctx).freeze.getD { since := s.now }
    Completes (.rdv c f) s (fun t => (t.ctx c.ctx).freeze =
      some { z with rdvBy := insertNat c.core z.rdvBy, conds := z.conds ++ ctlConds f c.core }) ∧
    Completes (.fence c) s (fun t => (t.ctx c.ctx).freeze = some { z with fence := true }) ∧
    Completes (.rdvFence c f) s (fun t => (t.ctx c.ctx).freeze =
      some { z with rdvBy := insertNat c.core z.rdvBy, conds := z.conds ++ ctlConds f c.core, fence := true }) ∧
    Completes (.orbitEnd c) s (fun t => (t.ctx c.ctx).freeze =
      some { z with endBy := insertNat c.core z.endBy, fence := true })

/-- While an arm runs, only NONE, JMP, LOOP and ARMEND act: RDV, FENCE, RDV_FENCE, ORBIT_END, UBR and FBR act as NONE
and set ARM_CUT, so that the context's freeze and the core's sequencer stand and the flag of the core and of the orbit are
set. An ARMEND outside an arm acts as NONE and sets nothing (03 R73). -/
def Obligations.ControlsInsideArmCut : Prop :=
  ∀ (s : State) (c : CoreRef) (f : CtlField), s.ctlActs c = true →
    ((s.core c).seq.inArm = true →
      (∀ i : Instr, i = .rdv c f ∨ i = .fence c ∨ i = .rdvFence c f ∨ i = .orbitEnd c ∨ i = .ubr c f ∨ i = .fbr c f →
        Completes i s (fun t => (t.core c).rep.armCut = true ∧ (t.ctx c.ctx).flags.toNat.testBit fArmCut = true ∧
          (t.ctx c.ctx).freeze = (s.ctx c.ctx).freeze ∧ (t.core c).seq = (s.core c).seq ∧
          (t.core c).work = { (s.core c).work with given := true })) ∧
      Completes (.jmp c f) s (fun t => (t.core c).seq.target = some (ctlTarget f)) ∧
      ((s.view c).lc.get 0 (ctlLcsel f) ≠ 0 → Completes (.loop c f) s (fun t =>
        (t.core c).seq.target = some (ctlTarget f) ∧ (t.core c).work.loopDec = some (ctlLcsel f))) ∧
      Completes (.armend c) s (fun t => (t.core c).work.armEnd = true)) ∧
    ((s.core c).seq.inArm = false → Completes (.armend c) s (fun t => t = s.present c))

/-- JMP, LOOP, UBR, FBR and ARMEND, on the last repetition: where the next step executes, the counter LOOP takes from,
the arm FBR begins, the end of the arm; ARM_CUT ends the repeat of an arm's last step and sets the flag. IDLE_BUNDLE
presents the core's bundle and does nothing more where its fetch meets no uncorrectable error, and otherwise marks the core
and the orbit with ECC_UE and raises one event for each; BRK asks for a debug hold where the context's breakpoints are
armed, and is an idle bundle where they are not (01 R34; 03 R66, R67, R69-R73, R92; 07 R178). -/
def Obligations.BranchesSetTarget : Prop :=
  (∀ (s : State) (c : CoreRef) (f : CtlField), s.ctlActs c = true →
    let k := s.core c
    let v := s.view c
    let w := { k.work with given := true }
    let arm := some (ctlArmLen f, ctlJoin f, if condHolds (ctlArmCond f) (v.sra (ctlCsr f)).toInt then ctlTarget f
      else (k.seq.baddr + 1) % 1024)
    Completes (.jmp c f) s (fun t => (t.core c).seq = { k.seq with target := some (ctlTarget f) }) ∧
    (v.lc.get 0 (ctlLcsel f) = 0 → Completes (.loop c f) s (fun t => (t.core c).seq = k.seq ∧ (t.core c).work = w)) ∧
    (v.lc.get 0 (ctlLcsel f) ≠ 0 → Completes (.loop c f) s (fun t =>
      (t.core c).seq = { k.seq with target := some (ctlTarget f) } ∧
      (t.core c).work = { w with loopDec := some (ctlLcsel f) })) ∧
    (k.seq.inArm = false → Completes (.ubr c f) s (fun t => (t.core c).seq =
      if condHolds (ctlCond f) ((s.ctx c.ctx).wireAt (s.stepOf c) (ctlWsel f)).toInt
      then { k.seq with target := some (ctlTarget f) } else k.seq)) ∧
    (k.seq.inArm = false → Completes (.fbr c f) s (fun t => (t.core c).work = { w with newArm := arm })) ∧
    (k.seq.inArm = true → Completes (.armend c) s (fun t => (t.core c).work = { w with armEnd := true })) ∧
    (k.seq.inArm = false → Completes (.armend c) s (fun t => (t.core c).work = w)) ∧
    (k.seq.inArm = true → k.seq.armLeft ≤ 1 → k.work.armEnd = false → Completes (.armCut c) s (fun t =>
      (t.core c).seq = { k.seq with repLeft := 0, target := none } ∧ (t.core c).rep.armCut = true ∧
      (t.ctx c.ctx).flags.toNat.testBit fArmCut = true)) ∧
    (∀ x : Int, condHolds 0 x = decide (x = 0) ∧ condHolds 1 x = decide (x ≠ 0) ∧ condHolds 2 x = decide (x < 0) ∧
      condHolds 3 x = decide (0 ≤ x) ∧ condHolds 4 x = decide (0 < x) ∧ condHolds 5 x = decide (x ≤ 0) ∧
      condHolds 6 x = false ∧ condHolds 7 x = false)) ∧
  (∀ (s : State) (c : CoreRef) (e : Ecc), s.live c = true →
    (e.ue = [] → Completes (.idleBundle ⟨c, e⟩) s (fun t => t = s.modCoreOf c.ctx c.core (fun k =>
      { k with work := { k.work with given := true } }))) ∧
    (e.ue ≠ [] → Completes (.idleBundle ⟨c, e⟩) s (fun t => (t.core c).rep.eccUe = true ∧
      (t.ctx c.ctx).flags.toNat.testBit fEccUe = true ∧ (t.core c).work = { (s.core c).work with given := true } ∧
      (t.core c).seq = (s.core c).seq ∧ t.events.nextSeq = s.events.nextSeq + e.ue.length)) ∧
    ((s.ctx c.ctx).armed = true → Completes (.brk c) s (fun t =>
      (t.ctx c.ctx) = { s.ctx c.ctx with holds := { (s.ctx c.ctx).holds with debug := true } })) ∧
    ((s.ctx c.ctx).armed = false → Completes (.brk c) s (fun t => t.ctx c.ctx = s.ctx c.ctx)))

/-! ### Taps, arrays, streams and channels -/

/-- Enabled taps ask for the lines of their descriptor, from CUR as the step began, in order; a disabled read tap asks
for none; the port 3 write tap names RECV's width even where it is disabled. ENTER, SHIFT and SWAP ask for their action
of array k at the end of the step; a module of variant C has no arrays and does nothing (03 R80-R82, R84, R492; 04 R98,
R106, R108, R109; 10 R256). -/
def Obligations.TapsAndArraysAct : Prop :=
  (∀ (s : State) (c : CoreRef) (p : BitVec 2) (z : TapField) (e : Ecc), s.live c = true →
    let k := s.core c
    let td := k.taps.get {} z.td.toNat
    let q : TapReq := { port := p.toNat, td := z.td.toNat, inc := z.inc, lines := (List.range td.w).map (fun j =>
      (td.base + (td.cur + j) % td.lines) % 8192), ecc := e }
    Completes (.readTap c p z e) s (fun t =>
      (t.core c).work.reads = k.work.reads ++ (if z.en then [q] else []) ∧
      (t.core c).work.writes = k.work.writes) ∧
    Completes (.writeTap c p z e) s (fun t =>
      (t.core c).work.writes = k.work.writes ++ (if z.en then [q] else []) ∧
      (t.core c).work.reads = k.work.reads ∧
      (t.core c).work.recvTd = if p = 3 then z.td.toNat else k.work.recvTd)) ∧
  (∀ (s : State) (c : CoreRef) (k : BitVec 2) (f : ArrayFields) (e : Ecc), s.live c = true →
    let w := (s.core c).work.arrays
    let add := fun (r : ArrayReq) (t : State) => (t.core c).work.arrays = if s.fuses.variant = 2 then w else w ++ [r]
    Completes (.enter c k f e) s (add { k := k.toNat, f := f, enter := true, enterBad := e.bad }) ∧
    Completes (.shift c k f e) s (add { k := k.toNat, f := f, shift := true, shiftBad := e.bad }) ∧
    Completes (.swap c k f) s (add { k := k.toNat, f := f, swap := true }))

/-- The seven stream commands issue descriptor SDESC at the end of the step where it is of their KIND, and are idle
where it is of another; the vector load and store name their register; SEND, ELAST and RECV name their endpoint for the
end of the step, ELAST its token; SEMOP adds or subtracts IMM16 on semaphores 0 to 47 and acts as none on 48 to 63
(03 R83, R86, R87; 08 R209; 09 R213, R214; 10 R247, R254, R256). -/
def Obligations.StreamsAndChannelsIssue : Prop :=
  (∀ (s : State) (c : CoreRef) (sd : BitVec 8) (r : BitVec 6), s.live c = true →
    let w := (s.core c).work
    let kind := ((s.ctx c.ctx).img.desc c.core sd.toNat).kind
    let issues := fun (n : Nat) (t : State) =>
      (t.core c).work = { w with given := true, issue := if kind = n then some sd.toNat else w.issue }
    Completes (.dramToCore c sd) s (issues 1) ∧ Completes (.coreToDram c sd) s (issues 2) ∧
    Completes (.baseToCore c sd) s (issues 3) ∧ Completes (.coreToBase c sd) s (issues 4) ∧
    Completes (.dramToBase c sd) s (issues 5) ∧ Completes (.baseToDram c sd) s (issues 6) ∧
    Completes (.comet c sd) s (issues 7) ∧
    Completes (.vectorLoad c r) s (fun t => (t.core c).work = { w with given := true, vlde := some r.toNat }) ∧
    Completes (.vectorStore c r) s (fun t => (t.core c).work = { w with given := true, vste := some r.toNat })) ∧
  (∀ (s : State) (c : CoreRef) (ep : BitVec 4) (tok : BitVec 16) (n : BitVec 6) (v : BitVec 16) (e : Ecc),
    s.live c = true →
    let w := { (s.core c).work with given := true }
    Completes (.send c ep) s (fun t => (t.core c).work = { w with send := some ep.toNat }) ∧
    Completes (.elast c ep tok) s (fun t => (t.core c).work = { w with elast := some (ep.toNat, tok.toNat) }) ∧
    Completes (.recv c ep e) s (fun t => (t.core c).work = { w with recv := some ep.toNat }) ∧
    Completes (.semopAdd c n v) s (fun t => (t.core c).work =
      { w with sems := w.sems ++ (if n.toNat < 48 then [(n.toNat, (v.toNat : Int))] else []) }) ∧
    Completes (.semopSub c n v) s (fun t => (t.core c).work =
      { w with sems := w.sems ++ (if n.toNat < 48 then [(n.toNat, -(v.toNat : Int))] else []) }))

/-! ### The vector unit -/

/-- Floating-point lanes: VFMT 0 works on the FP32 value of every lane, VFMT 1 on the two BF16 values of each; sums and
products land four steps on, minima, maxima and sign operations two steps on; MIN and MAX give the quiet NaN where an
operand is one and order -0 below +0. FRINT, FSCALE, FEXP and FMANT take FP32 lanes only: rounding to an integral value
to nearest even, scaling by a power of two, exponent and significand (06 R151, R155-R158). -/
def Obligations.FloatLanes : Prop :=
  (∀ (s : State) (c : CoreRef) (f : VectorField), s.live c = true → f.vfmt.toNat ≤ 1 →
    let g := (s.view c).vecArgs f
    let lanes := fun (lat : Nat) (op : Fmt → Nat → Nat → Nat → Nat) => PutsLanes s c f lat (fun l =>
      if f.vfmt = 1 then op bf16 (laneOf g.a l % 2 ^ 16) (laneOf g.b l % 2 ^ 16) (laneOf g.c l % 2 ^ 16) +
        op bf16 (laneOf g.a l / 2 ^ 16) (laneOf g.b l / 2 ^ 16) (laneOf g.c l / 2 ^ 16) * 2 ^ 16
      else op fp32 (laneOf g.a l) (laneOf g.b l) (laneOf g.c l))
    Completes (.fadd c f) s (lanes 4 (fun t a b _ => t.addE (t.decode a) (t.decode b))) ∧
    Completes (.fsub c f) s (lanes 4 (fun t a b _ => t.addE (t.decode a) (t.decode b).negate)) ∧
    Completes (.fmul c f) s (lanes 4 (fun t a b _ => t.mulE (t.decode a) (t.decode b))) ∧
    Completes (.fma c f) s (lanes 4 (fun t a b d => t.fmaE (t.decode a) (t.decode b) (t.decode d))) ∧
    Completes (.fnma c f) s (lanes 4 (fun t a b d => t.fmaE (t.decode a).negate (t.decode b) (t.decode d))) ∧
    Completes (.fmin c f) s (lanes 2 (fun t a b _ => if t.isNan a ∨ t.isNan b then t.nan
      else if t.orderKey a < t.orderKey b then a else b)) ∧
    Completes (.fmax c f) s (lanes 2 (fun t a b _ => if t.isNan a ∨ t.isNan b then t.nan
      else if t.orderKey a < t.orderKey b then b else a)) ∧
    Completes (.fabs c f) s (lanes 2 (fun t a _ _ => if t.isNan a then t.nan else t.mag a)) ∧
    Completes (.fneg c f) s (lanes 2 (fun t a _ _ => if t.isNan a then t.nan else t.withSign (!t.sign a) (t.mag a))) ∧
    Completes (.fcpys c f) s (lanes 2 (fun t a b _ => if t.isNan a then t.nan else t.withSign (t.sign b) (t.mag a)))) ∧
  (∀ (s : State) (c : CoreRef) (f : VectorField), s.live c = true → f.vfmt = 0 →
    let g := (s.view c).vecArgs f
    Completes (.frint c f) s (PutsLanes s c f 4 (fun l => fRint (laneOf g.a l))) ∧
    Completes (.fscale c f) s (PutsLanes s c f 4 (fun l => fScale (laneOf g.a l) (laneOf g.b l))) ∧
    Completes (.fexp c f) s (PutsLanes s c f 2 (fun l => fExp (laneOf g.a l))) ∧
    Completes (.fmant c f) s (PutsLanes s c f 2 (fun l => fMant (laneOf g.a l))))

/-- Integer lanes: 32-bit two's complement arithmetic that wraps, shifts by the low five bits of B, signed and unsigned
minima and maxima; four steps for IMUL, two for the rest (06 R151, R155). -/
def Obligations.IntegerLanes : Prop :=
  ∀ (s : State) (c : CoreRef) (f : VectorField), s.live c = true → f.vfmt.toNat ≤ 9 →
    let g := (s.view c).vecArgs f
    let a := fun l => BitVec.ofNat 32 (laneOf g.a l)
    let b := fun l => BitVec.ofNat 32 (laneOf g.b l)
    let lanes := fun (lat : Nat) (v : Nat → W32) => PutsLanes s c f lat (fun l => (v l).toNat)
    Completes (.iadd c f) s (lanes 2 (fun l => a l + b l)) ∧
    Completes (.isub c f) s (lanes 2 (fun l => a l - b l)) ∧
    Completes (.imul c f) s (lanes 4 (fun l => a l * b l)) ∧
    Completes (.iand c f) s (lanes 2 (fun l => a l &&& b l)) ∧
    Completes (.ior c f) s (lanes 2 (fun l => a l ||| b l)) ∧
    Completes (.ixor c f) s (lanes 2 (fun l => a l ^^^ b l)) ∧
    Completes (.ishl c f) s (lanes 2 (fun l => a l <<< ((b l).toNat % 32))) ∧
    Completes (.ishr c f) s (lanes 2 (fun l => a l >>> ((b l).toNat % 32))) ∧
    Completes (.isar c f) s (lanes 2 (fun l => (a l).sshiftRight ((b l).toNat % 32))) ∧
    Completes (.imin c f) s (lanes 2 (fun l => if (a l).toInt < (b l).toInt then a l else b l)) ∧
    Completes (.imax c f) s (lanes 2 (fun l => if (a l).toInt < (b l).toInt then b l else a l)) ∧
    Completes (.umin c f) s (lanes 2 (fun l => if (a l).toNat < (b l).toNat then a l else b l)) ∧
    Completes (.umax c f) s (lanes 2 (fun l => if (a l).toNat < (b l).toNat then b l else a l))

/-- Moves between lanes: MOV, the immediate, lane numbers, a rotation by the lane amount, one lane broadcast, and a
selection by mask VC[2:0]; all two steps on (06 R151, R154, R155). -/
def Obligations.LaneMoves : Prop :=
  ∀ (s : State) (c : CoreRef) (f : VectorField), s.live c = true → f.vfmt.toNat ≤ 9 →
    let v := s.view c
    let g := v.vecArgs f
    let by_ := if f.vsel then (v.sra f.vs.toNat).toNat % 256 else f.vimm.toNat % 256
    Completes (.mov c f) s (PutsLanes s c f 2 (laneOf g.b)) ∧
    Completes (.vecMovi c f) s (PutsLanes s c f 2 (fun _ => (f.vimm.signExtend 32).toNat)) ∧
    Completes (.laneid c f) s (PutsLanes s c f 2 id) ∧
    Completes (.vrotl c f) s (PutsLanes s c f 2 (fun l => laneOf g.a ((l + by_) % 256))) ∧
    Completes (.vlbc c f) s (PutsLanes s c f 2 (fun _ => laneOf g.a by_)) ∧
    Completes (.sel c f) s (PutsLanes s c f 2 (fun l =>
      if bit (v.maskReg (f.vc.toNat % 8)).toNat l then laneOf g.a l else laneOf g.b l))

/-- A draw taken as a uniform value is the FP32 value (r >> 8) × 2^-24, which is exact and lies from 0 to 1 - 2^-24;
test vector A gives 8,477,931 × 2^-24 (05 R147). Values are counted in units of 2^-149, the grid of FP32. -/
def Obligations.UniformDraws : Prop :=
  let units := fun r : W32 => (fp32.decode (uniform32 r)).m * 2 ^ ((fp32.decode (uniform32 r)).e + 149).toNat
  (∀ r : W32, (fp32.decode (uniform32 r)).cls = 0 ∧ (fp32.decode (uniform32 r)).neg = false ∧
    -149 ≤ (fp32.decode (uniform32 r)).e ∧ units r = r.toNat / 2 ^ 8 * 2 ^ 125 ∧ units r ≤ (2 ^ 24 - 1) * 2 ^ 125) ∧
  units (Machine.tail 0 0 0 0 0) = 8477931 * 2 ^ 125

/-- Compares and mask operations write k[VD[2:0]] two steps on: FP32 compares are false where an operand is a NaN but
for FCUN, -0 equals +0, FCLASS tests the classes VIMM names, integer compares take any VFMT, and mask 0 is never
written (06 R149, R151, R154, R155). -/
def Obligations.MaskResults : Prop :=
  ∀ (s : State) (c : CoreRef) (f : VectorField), s.live c = true → f.vfmt.toNat ≤ 9 →
    let v := s.view c
    let g := v.vecArgs f
    let a := laneOf g.a
    let b := laneOf g.b
    let ka := (v.maskReg (f.va.toNat % 8)).toNat
    let kb := (v.maskReg (f.vb.toNat % 8)).toNat
    let num := fun l => fp32.isNan (a l) = false ∧ fp32.isNan (b l) = false
    (f.vfmt = 0 →
      Completes (.fceq c f) s (PutsMask s c f (fun l => decide (num l ∧ fp32.cmpKey (a l) = fp32.cmpKey (b l)))) ∧
      Completes (.fclt c f) s (PutsMask s c f (fun l => decide (num l ∧ fp32.cmpKey (a l) < fp32.cmpKey (b l)))) ∧
      Completes (.fcle c f) s (PutsMask s c f (fun l => decide (num l ∧ fp32.cmpKey (a l) ≤ fp32.cmpKey (b l)))) ∧
      Completes (.fcun c f) s (PutsMask s c f (fun l => decide (¬num l))) ∧
      Completes (.fclass c f) s (PutsMask s c f (fun l => f.vimm.toNat.testBit (fClass (a l))))) ∧
    Completes (.iceq c f) s (PutsMask s c f (fun l => decide (a l = b l))) ∧
    Completes (.iclt c f) s (PutsMask s c f (fun l =>
      decide ((BitVec.ofNat 32 (a l)).toInt < (BitVec.ofNat 32 (b l)).toInt))) ∧
    Completes (.icltu c f) s (PutsMask s c f (fun l => decide (a l < b l))) ∧
    Completes (.kand c f) s (PutsMask s c f (fun l => bit ka l && bit kb l)) ∧
    Completes (.kor c f) s (PutsMask s c f (fun l => bit ka l || bit kb l)) ∧
    Completes (.kxor c f) s (PutsMask s c f (fun l => Bool.xor (bit ka l) (bit kb l))) ∧
    Completes (.knot c f) s (PutsMask s c f (fun l => !bit ka l))

/-- Conversions and draws, four steps on: CVTF and CVTMX write the elements of their part of VD, CVTMX also the eight
scale bytes in VC; CVTW, CVTWMX, FTOI and ITOF give FP32 or integer lanes; VTAIL and VTAILU give draws of the Tail
generator (06 R151, R155, R159-R163). -/
def Obligations.Conversions : Prop :=
  ∀ (s : State) (c : CoreRef) (f : VectorField), s.live c = true →
    let v := s.view c
    let g := v.vecArgs f
    let o := BitVec.ofNat 64 (s.ctx c.ctx).orbit
    let k := f.vfmt.toNat
    let part := fun e => let p := partPlace k f.vimm.toNat e; fld g.a.toNat p.1 p.2
    (1 ≤ k → k ≤ 9 →
      Completes (.cvtf c f) s (PutsVectors s c 4 [partOut f g.m ((List.range 256).map (fun e =>
        toNarrow k (cvtRound v o f e) (laneOf g.a e)))]) ∧
      Completes (.cvtw c f) s (PutsLanes s c f 4 (fun e => (narrowElem false k (part e)).toF32))) ∧
    (3 ≤ k → k ≤ 8 →
      Completes (.cvtmx c f) s (PutsVectors s c 4
        (let bl := mxBlocks f g.m g.a (cvtRound v o f)
         [partOut f g.m (bl.flatMap (fun q => q.2)), scaleOut f (bl.map (fun q => q.1))])) ∧
      Completes (.cvtwmx c f) s (PutsLanes s c f 4 (fun e =>
        match scaleExp (fld g.c.toNat (64 * (f.vimm.toNat % 8) + 8 * (e / 32)) 8) with
        | none => qnan32
        | some n => let x := narrowElem true k (part e); { x with e := x.e + n }.toF32))) ∧
    (k ≤ 9 →
      Completes (.ftoi c f) s (PutsLanes s c f 4 (fun l =>
        toIntN 32 (if f.vimm.toNat.testBit 0 then fun q _ _ => q else rne) (f32 (laneOf g.a l)))) ∧
      Completes (.itof c f) s (PutsLanes s c f 4 (fun l => (intElem 32 0 31 (laneOf g.a l)).toF32)) ∧
      Completes (.vtail c f) s (PutsLanes s c f 4 (fun l => (vtailLane v o f l).toNat)) ∧
      Completes (.vtailu c f) s (PutsLanes s c f 4 (fun l => uniform32 (vtailLane v o f l))))

/-- Reductions of the unmasked lanes of VA to sr[VS], eight steps on: RFSUM by the tree of eight levels with -0 for a
masked lane, maxima and minima, integer sums of exact value, bitwise AND and OR, the first greatest lane, and the count
of a mask's bits (06 R151, R164). -/
def Obligations.Reductions : Prop :=
  ∀ (s : State) (c : CoreRef) (f : VectorField), s.live c = true → f.vfmt.toNat ≤ 9 →
    let v := s.view c
    let g := v.vecArgs f
    let on := (List.range 256).filter (fun l => bit g.m.toNat l)
    let u := on.map (laneOf g.a)
    let i := on.map (fun l => (BitVec.ofNat 32 (laneOf g.a l)).toInt)
    (f.vfmt = 0 →
      Completes (.rfsum c f) s (PutsReduction s c f (BitVec.ofNat 64 (treeRoot Machine.fadd 0 8
        ((List.range 256).map (fun l => if bit g.m.toNat l then laneOf g.a l else 2 ^ 31))))) ∧
      Completes (.rfmax c f) s (PutsReduction s c f (BitVec.ofNat 64 (u.foldl (fMax fp32) 0xFF800000))) ∧
      Completes (.rfmin c f) s (PutsReduction s c f (BitVec.ofNat 64 (u.foldl (fMin fp32) 0x7F800000))) ∧
      Completes (.rargmax c f) s (PutsReduction s c f (BitVec.ofNat 64 (argMax ((List.range 256).map (fun l =>
        (bit g.m.toNat l, laneOf g.a l))))))) ∧
    Completes (.risum c f) s (PutsReduction s c f (BitVec.ofInt 64 i.sum)) ∧
    Completes (.rusum c f) s (PutsReduction s c f (BitVec.ofNat 64 u.sum)) ∧
    Completes (.rimax c f) s (PutsReduction s c f (BitVec.ofInt 64 (i.foldl max (-2 ^ 31)))) ∧
    Completes (.rimin c f) s (PutsReduction s c f (BitVec.ofInt 64 (i.foldl min (2 ^ 31 - 1)))) ∧
    Completes (.rand c f) s (PutsReduction s c f (BitVec.ofNat 64 (u.foldl Nat.land (2 ^ 32 - 1)))) ∧
    Completes (.ror c f) s (PutsReduction s c f (BitVec.ofNat 64 (u.foldl Nat.lor 0))) ∧
    Completes (.rkcnt c f) s (PutsReduction s c f (BitVec.ofNat 64
      (on.filter (fun l => bit (v.maskReg (f.va.toNat % 8)).toNat l)).length))

/-- A reserved VFMT of 10 to 15, or one the operation does not take, empties a vector operation: the bundle is
presented and nothing is put in flight (06 R152). -/
def Obligations.ReservedFormatsEmpty : Prop :=
  ∀ (s : State) (c : CoreRef) (f : VectorField), s.live c = true →
    let empty := fun (t : State) => t = s.present c
    (9 < f.vfmt.toNat → Completes (.iadd c f) s empty ∧ Completes (.fadd c f) s empty ∧
      Completes (.kand c f) s empty ∧ Completes (.mov c f) s empty ∧ Completes (.risum c f) s empty ∧
      Completes (.vtail c f) s empty ∧ Completes (.cvtf c f) s empty) ∧
    (f.vfmt ≠ 0 → Completes (.frint c f) s empty ∧ Completes (.fceq c f) s empty ∧ Completes (.rfsum c f) s empty) ∧
    (1 < f.vfmt.toNat → Completes (.fadd c f) s empty ∧ Completes (.fmax c f) s empty) ∧
    (f.vfmt = 0 → Completes (.cvtf c f) s empty ∧ Completes (.cvtmx c f) s empty)

/-! ### The mailbox: what every command meets -/

/-- A slot that holds a command refuses a NOP, a read of the owner, a setting, memory or events, a setting write and a
context start at once: SLOT_BUSY goes to its master, the count of refusals saturates at 65,535, and the command the slot
holds is untouched (13 R352). -/
def Obligations.BusySlotRefuses : Prop :=
  ∀ (s : State) (m : Nat) (q : Cmd), s.mcRuns = true → m < 8 → (s.slot m).busy = true →
    ∀ i : Instr, i = .nopCmd m q ∨ i = .ownerRead m q ∨ i = .settingRead m q ∨ i = .settingWrite m q ∨
        i = .memRead m q ∨ i = .contextStart m q ∨ i = .eventRead m q →
      Completes i s (fun t =>
        t.slot m = { s.slot m with busyRefusals := Nat.min 65535 ((s.slot m).busyRefusals + 1) } ∧
        (m = 0 → t.mbox.mctp = ({ status := stSlotBusy } : Reply).bytes q.seq) ∧
        (m ≠ 0 → t.mbox.messages = s.mbox.messages ++ s.letter m (({ status := stSlotBusy } : Reply).bytes q.seq)) ∧
        t = { s with mbox := t.mbox })

/-- A command that changes the module is answered NOT_OWNER in every slot but the owner's, and does nothing else
(13 R361). -/
def Obligations.OwnerRowsRefused : Prop :=
  ∀ (i : Instr) (op m : Nat) (q : Cmd) (s : State), ownerRow i = some (op, m, q) → s.mcRuns = true → m < 8 →
    (s.slot m).busy = false → s.servesSlot m = true → (∀ o, s.mbox.owner = some o → s.now < s.mbox.leaseEnd) →
    (∀ t, s.mbox.election = some t → s.now < t) → s.boot.rom = false → s.boot.phase = 1 → 0 < q.seq → q.seq < 256 →
    q.payload.length ≤ 4080 → s.mbox.owner ≠ some m →
    Completes i s (Answered s m q op (fun u => (u, { status := stNotOwner })))

/-- A deferred command takes the next ticket, counts against its slot, and stands in the list until it ends; ending it
raises COMMAND_DONE with its ticket, status and DETAIL and takes it off (13 R355). -/
def Obligations.TicketsRun : Prop :=
  ∀ (s : State) (m : Nat) (q : Cmd) (op key aux : Nat) (data : List Byte),
    let r := s.defer m q op key aux data
    r.2 = s.mbox.tickets + 1 ∧ r.1.mbox.tickets = s.mbox.tickets + 1 ∧
    (r.1.slot m).outstanding = (s.slot m).outstanding + 1 ∧
    (∃ d : Deferred, r.1.mbox.deferred = s.mbox.deferred ++ [d] ∧ d.ticket = r.2 ∧ d.slot = m ∧ d.opcode = op) ∧
    ((∀ d ∈ s.mbox.deferred, d.ticket ≠ r.2) → ∀ st detail : Nat,
      ((r.1.finish r.2 st detail).slot m).outstanding = (s.slot m).outstanding ∧
      (r.1.finish r.2 st detail).events.nextSeq = s.events.nextSeq + 1 ∧
      ∀ d ∈ (r.1.finish r.2 st detail).mbox.deferred, d.ticket ≠ r.2)

/-! ### Ownership -/

/-- RENEW restarts the owner's lease at 2,000,000,000 ticks from now, as a NOP of the owner's slot does, which leaves the
lease alone from any other; NOP answers OK and OWNER_READ the owner or 255. At the end of its lease the owner loses
ownership: OWNER_LOST is raised for its slot at that tick and an open transaction rolls back; before it, and where
there is no owner, nothing happens (13 R358, R360, R363, R373). -/
def Obligations.OwnerKeepsLease : Prop :=
  (∀ (s : State) (m : Nat) (q : Cmd),
    (Serves s m q { op := 0x11, who := .owner, early := true } → s.boot.rom = false →
      Completes (.renew m q) s (fun t => Answered s m q 0x11 okay t ∧ t.mbox.owner = some m ∧
        t.mbox.leaseEnd = s.now + 2000000000)) ∧
    (Serves s m q { op := 0x01, who := .all, early := true } →
      Completes (.nopCmd m q) s (fun t => Answered s m q 0x01 okay t ∧
        (s.mbox.owner = some m → t.mbox.leaseEnd = s.now + 2000000000) ∧
        (s.mbox.owner ≠ some m → t.mbox.leaseEnd = s.mbox.leaseEnd))) ∧
    (Serves s m q { op := 0x14, who := .all, early := true } →
      Completes (.ownerRead m q) s (Answered s m q 0x14 (fun u => (u, { detail := s.mbox.owner.getD 255 }))))) ∧
  (∀ (s : State) (t : Nat),
    (s.mbox.owner = none → Completes (.leaseExpiry t) s (fun u => u = s.atTick t)) ∧
    (∀ o, s.mbox.owner = some o →
      (s.mbox.leaseEnd ≤ (s.atTick t).now → Completes (.leaseExpiry t) s (fun u => u.mbox.owner = none ∧
        u.mbox.txn = none ∧ u.events.nextSeq = s.events.nextSeq + (if s.mbox.txn.isSome then 2 else 1) ∧
        ((∀ v ∈ s.events.held, v.tick < (s.atTick t).now) →
          ∃ e ∈ u.events.held, e.code = 3 ∧ e.tick = (s.atTick t).now ∧ e.unit = o % 65536))) ∧
      ((s.atTick t).now < s.mbox.leaseEnd → Completes (.leaseExpiry t) s (fun u => u = s.atTick t))))

/-- HANDOVER passes ownership to another slot that has a path, with a fresh lease, and answers NO_SLOT for a slot that
has none or the owner's own; RELEASE leaves no owner. Both roll an open transaction back and raise OWNER_CHANGED
(13 R359). -/
def Obligations.OwnershipPasses : Prop :=
  ∀ (s : State) (m : Nat) (q : Cmd),
    let dest := argFld q 0 3
    let raised := fun (n : Nat) (t : State) =>
      t.events.nextSeq = s.events.nextSeq + (if s.mbox.txn.isSome then 2 else 1) ∧
      ((∀ v ∈ s.events.held, v.tick < s.now) → ∃ e ∈ t.events.held, e.code = 2 ∧ e.tick = s.now ∧ e.unit = n)
    (Serves s m q { op := 0x12, who := .owner, early := true, arg := 7 } →
      (dest ≠ m → (dest = 0 ∨ (s.slot dest).bound = true) → Completes (.handover m q) s (fun t =>
        Answered s m q 0x12 (fun u => okay (u.passOwner (some dest))) t ∧ t.mbox.owner = some dest ∧
        t.mbox.leaseEnd = s.now + 2000000000 ∧ t.mbox.txn = none ∧ raised dest t)) ∧
      (dest = m ∨ (dest ≠ 0 ∧ (s.slot dest).bound = false) → Completes (.handover m q) s
        (Answered s m q 0x12 (fun u => (u, { status := stNoSlot }))))) ∧
    (Serves s m q { op := 0x13, who := .owner, early := true } →
      Completes (.releaseOwner m q) s (fun t => Answered s m q 0x13 (fun u => okay (u.passOwner none)) t ∧
        t.mbox.owner = none ∧ t.mbox.txn = none ∧ raised 255 t))

/-- CLAIM with no owner stands in an election that closes 5,000,000 ticks after its first claim; with another owner it is
answered OWNED and names it. At its tick an election gives ownership to the claim of lowest priority value, then lowest
nonce, then lowest slot; before it nothing happens (13 R356, R357). -/
def Obligations.ElectionsDecide : Prop :=
  (∀ (s : State) (m : Nat) (q : Cmd), Serves s m q claimSpec →
    (s.mbox.owner = none → Completes (.claim m q) s (fun t =>
      (t.slot m).claim = some { seq := q.seq, priority := argFld q 0 4, nonce := argFld q 32 32 } ∧
      (t.slot m).inService = true ∧ t.mbox.owner = none ∧
      t.mbox.election = some (s.mbox.election.getD (s.now + 5000000)))) ∧
    (∀ o, s.mbox.owner = some o → o ≠ m → Completes (.claim m q) s
      (Answered s m q 0x10 (fun u => (u, { status := stOwned, detail := o })))) ∧
    (s.mbox.owner = some m → Completes (.claim m q) s (Answered s m q 0x10 okay))) ∧
  (∀ (s : State) (t e : Nat), s.mbox.election = some e →
    (e ≤ (s.atTick t).now → ∀ (w : Nat) (k : Claim), w < 8 → (s.slot w).claim = some k →
      (∀ n, n < 8 → ∀ c, (s.slot n).claim = some c → n = w ∨ k.priority < c.priority ∨
        (k.priority = c.priority ∧ (k.nonce < c.nonce ∨ (k.nonce = c.nonce ∧ w < n)))) →
      Completes (.electionClose t) s (fun u => u.mbox.owner = some w ∧ u.mbox.election = none ∧
        u.mbox.leaseEnd = (s.atTick t).now + 2000000000)) ∧
    ((s.atTick t).now < e → Completes (.electionClose t) s (fun u => u = s.atTick t)))

/-! ### Commands that read -/

/-- Commands that answer with a record of the module and change nothing but their slot: units, ports, calendar, grants,
bring-up, recoveries and anchors (07 R193; 08 R223; 09 R241, R245; 11 R299; 12 R321; 14 R430; 15 R445, R470). -/
def Obligations.RecordsRead : Prop :=
  ∀ (s : State) (m : Nat) (q : Cmd),
    (Serves s m q { op := 0x60, who := .all, early := true, arg := 3 } →
      Completes (.baseMemStatus m q) s (Answered s m q 0x60 (Reads (fun u => u.baseStatus (argFld q 0 2))))) ∧
    (Serves s m q { op := 0x61, who := .all, early := true, arg := 15 } →
      Completes (.stackStatus m q) s (Answered s m q 0x61 (Reads (fun u => u.stackStatusRec (argFld q 0 4))))) ∧
    (Serves s m q { op := 0x62, who := .all, early := true, arg := 3 } →
      Completes (.hubStatus m q) s (Answered s m q 0x62 (Reads (fun u => u.hubStatusRec (argFld q 0 2))))) ∧
    (Serves s m q { op := 0x64, who := .all, early := true } →
      Completes (.portMap m q) s (Answered s m q 0x64 (Reads (fun u => (List.range 20).flatMap u.portRecord)))) ∧
    (Serves s m q { op := 0x66, who := .all, early := true } →
      Completes (.calendarRead m q) s (Answered s m q 0x66 (Reads (fun u =>
        padTo 2048 (u.calendar.flatMap CalEntry.bytes))))) ∧
    (Serves s m q { op := 0x67, who := .all, early := true } →
      Completes (.grantTableRead m q) s (Answered s m q 0x67 (Reads (fun u =>
        padTo 1024 (u.grants.flatMap u.grantRecord))))) ∧
    (Serves s m q { op := 0x91, who := .all } →
      Completes (.recoveryRead m q) s (Answered s m q 0x91 (Reads (fun u =>
        padTo 144 ((u.recovery.running.map Recovery.bytes).getD (List.replicate 16 0) ++
          u.recovery.queue.flatMap Recovery.bytes))))) ∧
    (Serves s m q { op := 0x92, who := .all, early := true } →
      Completes (.readyReport m q) s (Answered s m q 0x92 (Reads State.readyRecord))) ∧
    (Serves s m (withArg q 0 1 0) { op := 0x44, who := .all, arg := 0xF00 } →
      Completes (.anchorTableRead m q) s (Answered s m (withArg q 0 1 0) 0x44 (Reads (fun u =>
        (List.range 16).flatMap (fun a => (u.anchors.get {} a).bytes)))))

/-- Commands that read a part of a list: events from a sequence number with what has been lost, the fuse map and repair
list, staged settings; and PACE_STATUS, which may clear the lowest values (11 R300, R301; 13 R365, R385; 15 R439). -/
def Obligations.ListsRead : Prop :=
  ∀ (s : State) (m : Nat) (q : Cmd),
    (Serves s m q { op := 0x80, who := .all, early := true, arg := 2 ^ 32 - 1 } →
      let l := (s.events.held.filter (fun e => decide (argFld q 0 32 ≤ e.seq))).take 127
      Completes (.eventRead m q) s (Answered s m q 0x80 (fun u =>
        (u, { detail := s.events.lost (argFld q 0 32), payload := l.flatMap Event.bytes })))) ∧
    (Serves s m q { op := 0x93, who := .all, early := true, arg := 65535 } →
      let l := ((s.repairEntries.drop (argFld q 0 16)).take 510).flatMap (fun e => bytesOf 8 e.toNat)
      Completes (.fuseMapRead m q) s (Answered s m q 0x93 (fun u =>
        (u, { detail := s.repairEntries.length, payload := l })))) ∧
    (∀ l, s.mbox.txn = some l → Serves s m q { op := 0x26, who := .all, arg := 0xFFFF } →
      let b := ((l.drop (argFld q 0 16)).take 255).flatMap (fun e => bytesOf 16 (pack [(64, e.sid), (64, e.value)]))
      Completes (.txnRead m q) s (Answered s m q 0x26 (fun u => (u, { detail := l.length, payload := b })))) ∧
    (argFld q 0 1 = 0 → Serves s m q { op := 0x63, who := .all, early := true, arg := 1 } →
      Completes (.paceStatus m q) s (Answered s m q 0x63 (Reads (fun u =>
        (List.range 20).flatMap (fun d => (u.domain d).record) ++ u.timeRecord)))) ∧
    (argFld q 0 1 = 1 → Serves s m q { op := 0x63, who := .owner, early := true, arg := 1 } →
      Completes (.paceStatus m q) s (Answered s m q 0x63 (fun u =>
        let b := (List.range 20).flatMap (fun d => (u.domain d).record) ++ u.timeRecord
        (u.clearPace, { payload := b }))))

/-- Commands that read of a context, a setting or a core: the setting's entry, the slot table of the installed image, the
halo record, vector registers and receive queues of a held context (06 R169; 09 R234; 10 R271, R272; 13 R367; 15 R469). -/
def Obligations.ContextsRead : Prop :=
  ∀ (s : State) (m : Nat) (q : Cmd),
    ((sidInfo s.variant (argSid q)).isSome = true → Serves s m q { op := 0x20, who := .all, early := true, arg := 2 ^ 32 - 1 } →
      Completes (.settingRead m q) s (Answered s m q 0x20 (Reads (fun u => u.settingEntry (argSid q))))) ∧
    (sidInfo s.variant (argSid q) = none → Serves s m q { op := 0x20, who := .all, early := true, arg := 2 ^ 32 - 1 } →
      Completes (.settingRead m q) s (Answered s m q 0x20 (fun u => (u, { status := stUnknownSetting })))) ∧
    (∀ i, (s.ctx q.ctx).phase ≠ .free → (s.ctx q.ctx).image = some i →
      Serves s m q { op := 0x65, who := .all, early := true, ctx := true, arg := 0x1FFF } →
      let n := fld i.slotHeader 0 13
      let l := ((i.sect 7 2047).drop (64 + 32 * argFld q 0 13)).take (32 * Nat.min 125 (n - argFld q 0 13))
      Completes (.slotTableRead m q) s (Answered s m q 0x65 (fun u =>
        (u, { detail := n, payload := bytesOf 64 (maskBits slotHeaderFields (natOf (padTo 64 (i.sect 7 2047)))) ++
          (chunksOf 32 126 l).flatMap (fun e => bytesOf 32 (maskBits transitFields (natOf e))) })))) ∧
    ((s.ctx q.ctx).phase ≠ .free → Serves s m q { op := 0x9C, who := .all, ctx := true } →
      Completes (.haloStatus m q) s (Answered s m q 0x9C (Reads (fun u => u.haloRecord q.ctx)))) ∧
    ((s.ctx q.ctx).phase ≠ .free → argFld q 0 11 < (s.ctx q.ctx).ncores → (s.ctx q.ctx).held = true →
      argFld q 24 2 ≠ 0 → argFld q 16 6 + argFld q 24 2 ≤ 64 →
      Serves s m q { op := 0x56, who := .all, ctx := true, arg := 0x033F07FF } →
      Completes (.vregRead m q) s (Answered s m q 0x56 (Reads (fun u => (List.range (argFld q 24 2)).flatMap (fun i =>
        bytesOf 1024 ((u.seen ((s.ctx q.ctx).logical (argFld q 0 11))).vregs.get 0 (argFld q 16 6 + i)).toNat))))) ∧
    ((s.ctx q.ctx).phase ≠ .free → argFld q 0 11 < (s.ctx q.ctx).ncores → (s.ctx q.ctx).held = true →
      ((s.core ⟨q.ctx, argFld q 0 11⟩).recvEps.get {} (argFld q 16 4)).state = .unbound →
      Serves s m q { op := 0x57, who := .all, ctx := true, arg := 0x3F03FF000F07FF } →
      Completes (.queueRead m q) s (Answered s m q 0x57 (Reads (fun _ => bytesOf 8 0)))) ∧
    (∀ h, (s.ctx q.ctx).phase ≠ .free → argFld q 0 11 < (s.ctx q.ctx).ncores → (s.ctx q.ctx).held = true →
      let e := (s.core ⟨q.ctx, argFld q 0 11⟩).recvEps.get {} (argFld q 16 4)
      e.state ≠ .unbound → (e.entryAt (argFld q 32 10)).2 = some h →
      Serves s m q { op := 0x57, who := .all, ctx := true, arg := 0x3F03FF000F07FF } →
      Completes (.queueRead m q) s (Answered s m q 0x57 (Reads (fun _ =>
        bytesOf 8 (headWord e.elastic (e.entryAt (argFld q 32 10)).1 (some h)) ++
          ((((s.core ⟨q.ctx, argFld q 0 11⟩).entryLines e (e.entryAt (argFld q 32 10)).1 h).drop
            (argFld q 48 6)).take 63).flatMap lineBytes))))

/-! ### Memory over the mailbox -/

/-- MEM_READ of 1 to 4,080 bytes that pass the checks of a span is answered with its bytes where every context that owns a
line stands or does not run, and is parked otherwise; one that fails a check is answered with that check's status. A
parked read is answered when its owners stand; it ends CONTEXT_RUNNING 100 ms after it was parked and not before; with none
parked nothing happens. MEM_WRITE that passes the checks writes its bytes line by line, one to a core control window
writes nothing, and one that fails a check is answered with that check's status. IMEM_OVERRIDE of a held context writes one
bundle of the bank its core fetches from, changes no other byte, and counts as an intervention of its context; of a
context that is not held it is answered NOT_HELD (00 R11; 02 R55; 03 R94; 13 R354, R365; 14 R410). -/
def Obligations.MemoryOverTheMailbox : Prop :=
  (∀ (s : State) (m t k : Nat) (q : Cmd),
    let a := q.arg.toNat % 2 ^ 48
    let n := q.arg.toNat / 2 ^ 48
    let p := (readSpan (leAt (s.slot m).command 8 8)).1
    let l := (readSpan (leAt (s.slot m).command 8 8)).2
    (Serves s m q memReadSpec →
      (n = 0 ∨ 4080 < n →
        Completes (.memRead m q) s (Answered s m q 0x50 (fun u => (u, { status := stBadArg })))) ∧
      (0 < n → n ≤ 4080 → (s.entered m q 0x50).spanCheck a n ≠ stOK →
        Completes (.memRead m q) s (Answered s m q 0x50 (fun u => (u, { status := u.spanCheck a n })))) ∧
      (0 < n → n ≤ 4080 → (s.entered m q 0x50).spanCheck a n = stOK → (s.entered m q 0x50).readable a n = true →
        Completes (.memRead m q) s (Answered s m q 0x50 (Reads (fun u => u.readBytes a n)))) ∧
      (0 < n → n ≤ 4080 → (s.entered m q 0x50).spanCheck a n = stOK → (s.entered m q 0x50).readable a n = false →
        Completes (.memRead m q) s (fun t => (t.slot m).parked = some s.now ∧ (t.slot m).inService = true ∧
          (t.slot m).respValid = false ∧ t.mbox.messages = s.mbox.messages))) ∧
    ((s.slot m).parked = none → Completes (.parkedReadServed m) s (fun u => u = s) ∧
      Completes (.parkedReadTimeout m t) s (fun u => u = s.atTick t)) ∧
    ((s.slot m).parked = some k →
      (s.readable p l = false → Completes (.parkedReadServed m) s (fun u => u = s)) ∧
      (s.mcRuns = true → s.readable p l = true → Completes (.parkedReadServed m) s (fun u =>
        u = s.respond m (leAt (s.slot m).command 2 1) { payload := s.readBytes p l })) ∧
      (k + 100000000 ≤ (s.atTick t).now → Completes (.parkedReadTimeout m t) s (fun u =>
        u = (s.atTick t).respond m (leAt (s.slot m).command 2 1) { status := stContextRunning })) ∧
      ((s.atTick t).now < k + 100000000 → Completes (.parkedReadTimeout m t) s (fun u => u = s.atTick t)))) ∧
  (∀ (s : State) (m : Nat) (q : Cmd),
    (let u := s.entered m q 0x51
     let a := argFld q 0 48
     Serves s m q { op := 0x51, who := .owner, arg := 2 ^ 48 - 1, len := fun n => decide (64 ≤ n) && decide (n ≤ 4032) } →
      (u.spanCheck a q.payload.length ≠ stOK → Completes (.memWrite m q) s
        (Answered s m q 0x51 (fun u => (u, { status := u.spanCheck a q.payload.length })))) ∧
      (u.spanCheck a q.payload.length = stOK → u.writeCheck a q.payload.length ≠ stOK → Completes (.memWrite m q) s
        (Answered s m q 0x51 (fun u => (u, { status := u.writeCheck a q.payload.length })))) ∧
      (u.spanCheck a q.payload.length = stOK → u.writeCheck a q.payload.length = stOK → regionUnit a = 8 →
        Completes (.memWrite m q) s (Answered s m q 0x51 okay)) ∧
      (u.spanCheck a q.payload.length = stOK → u.writeCheck a q.payload.length = stOK → regionUnit a ≠ 8 →
        Completes (.memWrite m q) s (Answered s m q 0x51 (fun u => okay
          ((List.range (q.payload.length / 64)).foldl (fun v i =>
            v.writeLine (a + 64 * i) ((q.payload.drop (64 * i)).take 64)) u))))) ∧
    ((s.ctx q.ctx).phase ≠ .free → argFld q 0 11 < (s.ctx q.ctx).ncores →
      Serves s m q { op := 0x58, who := .owner, ctx := true, arg := 0x03FF07FF, len := fun n => n = 64 } →
      ((s.ctx q.ctx).held = false → Completes (.imemOverride m q) s
        (Answered s m q 0x58 (fun u => (u, { status := stNotHeld })))) ∧
      ((s.ctx q.ctx).held = true → Completes (.imemOverride m q) s (fun t =>
        let l := (s.ctx q.ctx).logical (argFld q 0 11)
        let at_ := imemAddr l (s.coreAt l).seq.bank (argFld q 16 10)
        (t.ctx q.ctx).flags.toNat.testBit fIntervened = true ∧
        (t.ctx q.ctx).interventions = (s.ctx q.ctx).interventions + 1 ∧
        (∀ i, i < 64 → Memory.byte t.mem (at_ + i) = q.payload.getD i 0) ∧
        (∀ a, a < at_ ∨ at_ + 64 ≤ a → Memory.byte t.mem a = Memory.byte s.mem a)))))

/-! ### Debugging -/

/-- DEBUG_HOLD asks for the hold, and ends at once where the context stands or does not run, and stays deferred otherwise;
DEBUG_RELEASE of a context that is not at its orbit boundary gives the hold up; BRK_ARM sets and clears the context's
breakpoints; SEM_SET sets a semaphore's VALUE and counts as an intervention where the context stands or is held, and is
answered CONTEXT_RUNNING elsewhere (01 R34, R35; 03 R66; 10 R271; 13 R363). -/
def Obligations.DebugCommands : Prop :=
  ∀ (s : State) (m : Nat) (q : Cmd), (s.ctx q.ctx).phase ≠ .free →
    (Roomy s q → Serves s m q { op := 0x52, who := .owner, ctx := true } →
      (∀ d ∈ s.mbox.deferred, d.ticket ≠ s.mbox.tickets + 1) →
      Completes (.debugHold m q) s (fun t => (t.ctx q.ctx).holds.debug = true ∧
        (t.slot m).response = ({ status := stAccepted, ticket := s.mbox.tickets + 1 } : Reply).bytes q.seq ∧
        ((s.ctx q.ctx).frozen = true ∨ (s.ctx q.ctx).active = false →
          t.mbox.deferred = s.mbox.deferred ∧ t.events.nextSeq = s.events.nextSeq + 1) ∧
        ((s.ctx q.ctx).frozen = false → (s.ctx q.ctx).active = true → t.events = s.events ∧
          ∃ d, t.mbox.deferred = s.mbox.deferred ++ [d] ∧ d.opcode = 0x52 ∧ d.key = q.ctx))) ∧
    (Serves s m q { op := 0x53, who := .owner, ctx := true } → (s.ctx q.ctx).item = 0 →
      Completes (.debugRelease m q) s (fun t =>
        t.ctx q.ctx = { s.ctx q.ctx with holds := { (s.ctx q.ctx).holds with debug := false } } ∧
        (t.slot m).response = ({} : Reply).bytes q.seq)) ∧
    (Serves s m (withArg q 0 1 1) { op := 0x54, who := .owner, ctx := true, arg := 1 } →
      Completes (.brkArm m q) s (Answered s m (withArg q 0 1 1) 0x54 (fun u =>
        okay (u.modCtx q.ctx (fun c => { c with armed := true }))))) ∧
    (Serves s m (withArg q 0 1 0) { op := 0x54, who := .owner, ctx := true, arg := 1 } →
      Completes (.brkDisarm m q) s (Answered s m (withArg q 0 1 0) 0x54 (fun u =>
        okay (u.modCtx q.ctx (fun c => { c with armed := false }))))) ∧
    (Serves s m q { op := 0x55, who := .owner, ctx := true, arg := 0x7FFFFFFF003F07FF } →
      argFld q 0 11 < (s.ctx q.ctx).ncores → argFld q 16 6 < 48 →
      let stands := ((s.ctx q.ctx).active = true ∧ (s.ctx q.ctx).frozen = true) ∨ (s.ctx q.ctx).held = true
      (¬ stands → Completes (.semSet m q) s (Answered s m q 0x55 (fun u => (u, { status := stContextRunning })))) ∧
      (stands → Completes (.semSet m q) s (fun t =>
        (t.core ⟨q.ctx, argFld q 0 11⟩).sems.get {} (argFld q 16 6) =
          { (s.core ⟨q.ctx, argFld q 0 11⟩).sems.get {} (argFld q 16 6) with value := argFld q 32 31 } ∧
        (t.ctx q.ctx).flags.toNat.testBit fIntervened = true ∧
        (t.ctx q.ctx).interventions = (s.ctx q.ctx).interventions + 1)))

/-! ### Freezes and boundaries -/

/-- A settled freeze that ends no orbit releases when every listed condition holds, its fence holds and no hold is
present: the step after the freezing step then waits for its router phase. While any of these fails nothing changes.
A consuming condition alone takes its threshold from VALUE, fed from PENDING (01 R29-R33; 10 R262, R263). -/
def Obligations.FreezesRelease : Prop :=
  ∀ (s : State) (x : Nat) (z : Freeze), (s.ctx x).freeze = some z → z.settled = true → z.endBy = [] →
    z.abandon = false → (s.ctx x).item = 0 → (s.ctx x).rt.abandon = false → (s.ctx x).resume = none →
    let go := (s.ctx x).holds.any = false ∧ (∀ c ∈ z.conds, s.condMet x c = true) ∧
      (z.fence = true → s.fenceHolds x = true)
    ∀ row : Instr, (row = .rendezvousRelease x ∧ z.rdvBy ≠ []) ∨ (row = .fenceRelease x ∧ z.rdvBy = []) →
      (go → Completes row s (fun t => (t.ctx x).resume = some (z.since, z.step + 1))) ∧
      (¬ go → Completes row s (fun t => t = s)) ∧
      (∀ c, go → z.conds = [c] → c.consume = true → (s.core ⟨x, c.core⟩).elasticAsem c.sem = none → c.thr < 1024 →
        let q := (s.core ⟨x, c.core⟩).sems.get {} c.sem
        q.brk = false → q.value < 2 ^ 31 → q.pending < 2 ^ 31 →
        Completes row s (fun t => (t.core ⟨x, c.core⟩).sems.get {} c.sem =
          { q with value := q.value - c.thr, pending := q.pending - (c.thr - q.value) }))

/-- From the counters of its orbit boundary a context that is neither mirrored nor held enters its next orbit: step 0
waits for its router phase, nothing is in flight, every core has an empty pipeline and zero vector and mask registers,
and keeps its scalar registers and parameters (01 R36). -/
def Obligations.BoundariesEnterOrbits : Prop :=
  ∀ (s : State) (x : Nat), (s.ctx x).item = 7 → (∀ z, (s.ctx x).freeze = some z → z.settled = true) →
    s.mirrored x = false → (s.ctx x).holds.eclipse = false → (s.ctx x).holds.debug = false →
    (s.ctx x).resume = none → (s.ctx x).halo.catchUp = false →
    Completes (.orbitBoundary x) s (fun t =>
      (t.ctx x).orbit = (s.ctx x).nextOrbit ∧ (t.ctx x).step = 0 ∧ (t.ctx x).resume = some (s.now, 0) ∧
      (t.ctx x).flights = [] ∧ (t.ctx x).wire = [] ∧ (t.ctx x).interventions = 0 ∧
      (∀ p, p < (s.ctx x).ncores → (t.core ⟨x, p⟩).pipe = [] ∧ (t.core ⟨x, p⟩).vregs = [] ∧
        (t.core ⟨x, p⟩).masks = [] ∧ (t.core ⟨x, p⟩).ring = {} ∧ (t.core ⟨x, p⟩).sr = (s.core ⟨x, p⟩).sr ∧
        (t.core ⟨x, p⟩).par = (s.core ⟨x, p⟩).par))

/-! ### What arrives at steps -/

/-- What falls due in a context whose wave moves, one flight of its kind being due: a channel line takes its place in
the receive store, a header completes its entry and is to add its token, a credit frees a place and is to add one, a
base line takes its ring position and a dropped one leaves it as it was, a staging entry departs as a base write, and a
dropped line is counted once, in the quadrant of its first router where no removed cell would have admitted it (08 R205,
R213; 09 R240, R244; 10 R247, R255, R257, R259). -/
def Obligations.ArrivalsAct : Prop :=
  ∀ (s : State) (x : Nat) (f : Flight), (s.ctx x).active = true → (s.ctx x).frozen = false →
    let due := fun kind : Flight → Bool => (s.ctx x).flights.filter (fun g => kind g && decide (g.due ≤ (s.ctx x).step))
    let left := fun kind : Flight → Bool =>
      (s.ctx x).flights.filter (fun g => !(kind g && decide (g.due ≤ (s.ctx x).step)))
    (∀ dst ep sub no pos data, f.cargo = .chanLine dst ep sub no pos data → due Flight.isChanLine = [f] →
      f.lost = none → pos < ((s.core ⟨x, dst⟩).recvEps.get {} ep).esize →
      Completes (.chanLinesArrive x) s (fun t => (t.ctx x).flights = left Flight.isChanLine ∧
        (t.core ⟨x, dst⟩).store.get 0 (((s.core ⟨x, dst⟩).recvEps.get {} ep).slotLine sub no pos) = data)) ∧
    (∀ dst ep sub token lines, f.cargo = .header dst ep sub token lines → due Flight.isHeader = [f] →
      due Flight.isChanLine = [] → ((s.core ⟨x, dst⟩).recvEps.get {} ep).kind ≠ 2 →
      let e := (s.core ⟨x, dst⟩).recvEps.get {} ep
      let q := e.sub sub
      let q' : SubQueue := { q with entries := q.entries ++ [⟨q.done, token, lines, true⟩], done := q.done + 1, arrived := 0 }
      Completes (.entryHeaderArrive x) s (fun t => (t.ctx x).flights = left Flight.isHeader ∧
        (t.core ⟨x, dst⟩).recvEps.get {} ep = { e with subs := e.subs.set {} sub q' } ∧
        (t.core ⟨x, dst⟩).semIn = (s.core ⟨x, dst⟩).semIn ++ [(e.asem, (token : Int))])) ∧
    (∀ src ep, f.cargo = .credit src ep → due Flight.isCredit = [f] →
      let e := (s.core ⟨x, src⟩).sendEps.get {} ep
      Completes (.lockedCreditReturn x) s (fun t => (t.ctx x).flights = left Flight.isCredit ∧
        (t.core ⟨x, src⟩).sendEps.get {} ep = { e with inFlight := e.inFlight - 1 } ∧
        (t.core ⟨x, src⟩).semIn = (s.core ⟨x, src⟩).semIn ++ [(e.csem, 1)])) ∧
    (∀ no d, f.cargo = .ringLine no (some d) → due Flight.isRing = [f] → due Flight.isDramLine = [] →
      Completes (.baseLineLands x) s (fun t => (t.ctx x).flights = left Flight.isRing ∧
        (t.core ⟨x, f.src⟩).ring.lines.get 0 (no % 512) =
          (if f.lost = none then d else (s.core ⟨x, f.src⟩).ring.lines.get 0 (no % 512)) ∧
        no ∉ (t.core ⟨x, f.src⟩).ring.unlanded)) ∧
    (∀ k no quad line sd, f.cargo = .departure k no quad line sd → due Flight.isDeparture = [f] →
      Completes (.stagingDeparture x) s (fun t =>
        (t.stack k).staging = Ring.pass (s.stack k).staging.skip.length (s.stack k).staging ∧
        ((s.stack k).staging.u ∉ (s.stack k).staging.skip → (t.stack k).staging.u = (s.stack k).staging.u + 1) ∧
        ∃ g : Flight, (t.ctx x).flights = left Flight.isDeparture ++ [g] ∧
          g.due = f.due + 2 + hubT (quadOfSite k) quad ∧
          g.cargo = .baseWrite quad [(line, (s.stack k).staging.lines.get 0 (no % 1024))])) ∧
    (let drop := fun g : Flight => g.lost.isSome && !g.counted && decide (g.dropAt ≤ (s.ctx x).step)
     (s.ctx x).flights.filter drop = [f] → ∀ cause, f.lost = some cause →
      let q := if cause = 2 then s.dropQuad x f else f.via.headD ((s.ctx x).quadOf f.src)
      Completes (.transitLineArrival x) s (fun t =>
        (t.ctx x).flights = (s.ctx x).flights.map (fun g => if drop g then { g with counted := true } else g) ∧
        (t.hub q).drops = Nat.min (2 ^ 32 - 1) ((s.hub q).drops + 1) ∧
        (t.ctx x).flags.toNat.testBit fFwDrop = true ∧
        (cause = 2 → (t.ctx x).flags.toNat.testBit fTransitLost = true)))

/-! ### Memory at the channels and banks -/

/-- A pattern slot takes the first request its class allows: a write becomes unsettled, a read is served with the line
as it stands and its corrected words counted; without one the slot passes. A served read for one core's ring lands there,
during a step as the step ends; the only unsettled write commits to memory; a maintenance frame ends the channel's
period, and one of patrol scrub takes the next line; a base write alone at its bank joins the writes under way and a
base read of one line alone there sends the line it finds; base memory's scrub takes its next line where it is on (07
R190-R192; 08 R196-R200, R205, R206, R216, R217). -/
def Obligations.ChannelsServe : Prop :=
  ∀ (s : State) (d ch : Nat) (e : Ecc) (es : List Ecc),
    (let k := s.stack d
     let n := k.slots.get 0 ch
     let pick := k.choose (s.coming d) (slotClass (s.splitOf d) (n % 16)) ch
     (pick = none → Completes (.dramSlot d ch e) s (fun t =>
        t.stack d = { k with slots := k.slots.set 0 ch ((n + 1) % 240) })) ∧
     (∀ r, pick = some (r, false) → r.write = true → Completes (.dramSlot d ch e) s (fun t =>
        (t.stack d).unsettled = k.unsettled ++ [r] ∧ (t.stack d).waiting = removeOne r k.waiting)) ∧
     (∀ r b, pick = some (r, b) → r.write = false → Completes (.dramSlot d ch e) s (fun t =>
        (t.stack d).served = k.served ++ [{ r with data := some (s.dramRead d r.line), ue := e.bad }] ∧
        (t.stack d).ce = Nat.min 4294967295 (k.ce + e.ce)))) ∧
    (∀ w : MaintWork, (∀ v, w ≠ .scrub v) → Completes (.maintenanceFrame d ch w) s (fun t =>
        t.stack d = { s.stack d with slots := (s.stack d).slots.set 0 ch 0 })) ∧
    (s.setting 0x61 d ≠ 0 → Completes (.maintenanceFrame d ch (.scrub e)) s (fun t =>
        (t.stack d).slots.get 0 ch = 0 ∧ (t.stack d).scrubPos.get 0 ch = (s.stack d).scrubPos.get 0 ch + 1)) ∧
    (∀ (i t0 x p no : Nat) (r : DramReq), (s.stack d).served[i]? = some r → r.landed = false → r.ctx = x →
      r.dest = .rings [(p, no)] → r.xw = 3 → ∀ v, r.data = some v →
      Completes (.dramLineLands d i t0) s (fun t => (t.stack d).served = removeOne r (s.stack d).served ∧
        ((s.ctx x).active = true → (s.ctx x).frozen = false →
          (t.core ⟨x, p⟩).ring.fresh = (s.core ⟨x, p⟩).ring.fresh ++ [(no, v, r.ue)] ∧
          (t.core ⟨x, p⟩).ring.lines = (s.core ⟨x, p⟩).ring.lines) ∧
        ((s.ctx x).active = false ∨ (s.ctx x).frozen = true → (t.core ⟨x, p⟩).ring.lines.get 0 (no % 512) = v ∧
          no ∉ (t.core ⟨x, p⟩).ring.unlanded))) ∧
    (∀ (i : Nat) (r : DramReq), (s.stack d).unsettled = [r] → i = 0 →
      Completes (.dramWriteCommit d i) s (fun t => (t.stack d).unsettled = [] ∧
        (∀ b, b < 64 → Memory.byte t.mem (dramAddr d r.line + b) = (lineBytes (r.data.getD 0)).getD b 0) ∧
        (∀ a, a < dramAddr d r.line ∨ dramAddr d r.line + 64 ≤ a → Memory.byte t.mem a = Memory.byte s.mem a))) ∧
    (∀ (x quad : Nat) (f : Flight) (l : Nat) (v : Line), (s.ctx x).active = true → (s.ctx x).frozen = false →
      (s.ctx x).flights.filter (fun g => g.isBank && decide (g.due ≤ (s.ctx x).step)) = [f] →
      f.cargo = .baseWrite quad [(l, v)] → f.lost = none → (s.ctx x).baseWrites = [] → (s.ctx x).step < f.due + 3 →
      Completes (.baseBankAccess x es) s (fun t => (t.ctx x).baseWrites = [(f.due, quad, l, v)])) ∧
    (∀ (x quad sd l tout : Nat) (pos : List Nat) (f : Flight), (s.ctx x).active = true → (s.ctx x).frozen = false →
      (s.ctx x).flights.filter (fun g => g.isBank && decide (g.due ≤ (s.ctx x).step)) = [f] →
      f.cargo = .baseRead quad [l] none sd pos tout 3 → f.lost = none →
      Completes (.baseBankAccess x es) s (fun t => ∃ g : Flight,
        (t.ctx x).flights = (s.ctx x).flights.filter (fun g => !(g.isBank && decide (g.due ≤ (s.ctx x).step))) ++ [g] ∧
        g.due = f.due + 5 + tout ∧ g.cargo = .ringLine (pos.getD 0 0) (some (s.baseLineAt x f.due quad l)))) ∧
    (∀ q bank : Nat,
      (s.setting 0x60 q ≠ 0 → Completes (.baseScrubSlot q bank e) s (fun t =>
        (t.baseOf q).scrubPos.get 0 bank = (s.baseOf q).scrubPos.get 0 bank + 1 ∧
        (t.baseOf q).ce = Nat.min 4294967295 ((s.baseOf q).ce + e.ce))) ∧
      (s.setting 0x60 q = 0 → Completes (.baseScrubSlot q bank e) s (fun t => t = s)))

/-! ### Monitors -/

/-- The stall, deadline and wait monitors act once past their budgets and not before, and an orbit whose monitor asks
for it is abandoned at the freeze that stands (08 R219-R221; 10 R270). -/
def Obligations.MonitorsAct : Prop :=
  ∀ (s : State) (x t0 : Nat) (z : Freeze),
    let u := s.atTick t0
    ((s.ctx x).freeze = some z → z.settled = true → z.stallRaised = false → s.setting 0x42 x ≠ 0 →
      (z.since + s.setting 0x42 x < u.now → Completes (.stall x t0) s (fun t =>
        (t.ctx x).freeze = some { z with stallRaised := true } ∧ (t.ctx x).stallReport = u.stallBytes x z ∧
        t.events.nextSeq = s.events.nextSeq + 1)) ∧
      (u.now ≤ z.since + s.setting 0x42 x → Completes (.stall x t0) s (fun t => t = u))) ∧
    ((s.ctx x).inOrbit = true → s.setting 0x43 x = 1 → s.setting 0x44 x ≠ 0 → (s.ctx x).rt.deadlineRaised = false →
      ((s.ctx x).entryTick + s.setting 0x44 x < u.now → Completes (.deadlineMiss x t0) s (fun t =>
        (t.ctx x).rt.deadlineRaised = true ∧ (t.ctx x).flags.toNat.testBit fDeadlineMiss = true ∧
        (t.ctx x).rt.deadlineMisses = Nat.min 4294967295 ((s.ctx x).rt.deadlineMisses + 1) ∧
        (t.ctx x).rt.abandon = ((s.ctx x).rt.abandon || decide (s.setting 0x46 x = 1)))) ∧
      (u.now ≤ (s.ctx x).entryTick + s.setting 0x44 x → Completes (.deadlineMiss x t0) s (fun t => t = u))) ∧
    ((s.ctx x).freeze = some z → (s.ctx x).inOrbit = true → z.settled = true → z.waitRaised = false →
      s.setting 0x43 x = 1 → s.waitBudgetOf x ≠ 0 →
      (z.since + s.waitBudgetOf x < u.now → Completes (.waitMiss x t0) s (fun t =>
        (t.ctx x).freeze = some { z with waitRaised := true } ∧ (t.ctx x).flags.toNat.testBit fWaitMiss = true ∧
        (t.ctx x).rt.waitMisses = Nat.min 4294967295 ((s.ctx x).rt.waitMisses + 1))) ∧
      (u.now ≤ z.since + s.waitBudgetOf x → Completes (.waitMiss x t0) s (fun t => t = u))) ∧
    ((s.ctx x).freeze = some z → z.settled = true → (s.ctx x).resume = none →
      ((s.ctx x).rt.abandon = true → Completes (.orbitAbandon x) s (fun t =>
        (t.ctx x).freeze = some { z with abandon := true, fence := true })) ∧
      ((s.ctx x).rt.abandon = false → Completes (.orbitAbandon x) s (fun t => t = s)))

/-! ### Pace domains and the time base -/

/-- A domain beats where its power stands and no attached neighbour lags 8 beats behind, and holds otherwise; a base
die's beat begins the contexts of its quadrant that wait for its phase, and a site's beat takes its context one step
on once every site of the context has one (11 R273, R275, R281; 09 R230). -/
def Obligations.DomainsBeat : Prop :=
  ∀ (s : State) (d r : Nat), s.paced = true → (s.domain d).detached = false → d < 20 →
    let w := (s.setDomain d ((s.domain d).beat d r)).marginWarn d
    (s.domainHolds d = true → Completes (.beat d r) s (fun t => t = s.setDomain d ((s.domain d).hold d r))) ∧
    (s.domainHolds d = false →
      (16 ≤ d → Completes (.beat d r) s (fun t => (t.domain d).beats = ((s.domain d).beats + 1) % 2 ^ 64 ∧
        ∀ x since n, x < 16 → (s.ctx x).resume = some (since, n) → (s.ctx x).quads.headD 4 = d - 16 →
          ((n + (s.ctx x).img.delta) % 16 = ((s.domain d).beats + 1) % 2 ^ 64 % 16 →
            (t.ctx x).step = n ∧ (t.ctx x).freeze = none ∧ (t.ctx x).resume = none) ∧
          ((n + (s.ctx x).img.delta) % 16 ≠ ((s.domain d).beats + 1) % 2 ^ 64 % 16 → t.ctx x = s.ctx x))) ∧
      (d < 16 → s.holderOf d = none → Completes (.beat d r) s (fun t => t = w)) ∧
      (∀ x k, d < 16 → s.holderOf d = some (x, k) → (s.ctx x).active = true → (s.ctx x).frozen = false →
        let ahead := (s.ctx x).ahead.modify 0 d (· + 1)
        ((∃ e ∈ (s.ctx x).sites, ahead.get 0 e = 0) → Completes (.beat d r) s (fun t =>
          t = w.modCtx x (fun c => { c with ahead := ahead }))) ∧
        ((∀ e ∈ (s.ctx x).sites, 0 < ahead.get 0 e) → Completes (.beat d r) s (fun t =>
          let b := (s.ctx x).sites.foldl (fun (v : Tab Nat) e => v.modify 0 e (· - 1)) ahead
          t = { (w.modCtx x (fun c => { c with ahead := b })).stepCtx x with pending := s.pending }))))

/-- A pending profile change switches every domain at its tick and not before; in its domain's announced window a trim
moves the code by at most one unit, and it, a retraining and an adaptation announce the next window of their kind, a period
after the window's start, where the calendar has room; outside its window a trim moves nothing; above the cap every target
falls by 25 MHz, well below it every target rises; the loss of the reference clock leaves holdover and every port DOWN (11
R290, R298, R299; 16 R484, R488). -/
def Obligations.PaceChanges : Prop :=
  ∀ (s : State) (d t0 : Nat),
    let u := s.atTick t0
    (∀ p, s.time.pend = some p →
      (p.tick ≤ u.now → Completes (.paceSwitch t0) s (fun t => t.time.pend = none ∧
        ∀ e, e < 20 → (t.domain e).profile = p.profile ∧ (t.domain e).target = targetMhz p.profile)) ∧
      (u.now < p.tick → Completes (.paceSwitch t0) s (fun t => t = u))) ∧
    (∀ move : Option Bool,
      (s.windowNow 0 d = none → Completes (.oscTrim d move) s (fun t => t.domains = s.domains)) ∧
      (∀ e, s.windowNow 0 d = some e → Completes (.oscTrim d move) s (fun t =>
        (t.domain d).trim = (match move with
          | none => (s.domain d).trim
          | some true => Nat.min 255 ((s.domain d).trim + 1)
          | some false => (s.domain d).trim - 1) ∧
        ((s.calendar.filter (fun e => decide (s.now < e.stop))).length < 64 → s.now < e.start + 5020000 →
          { kind := 0, unit := (d + 1) % 20, start := e.start + 5000000, stop := e.start + 5020000 : CalEntry } ∈ t.calendar)))) ∧
    (let room := (s.calendar.filter (fun e => decide (u.now < e.stop))).length < 64
     (∀ e, u.windowNow 1 d = some e → room → u.now < e.start + 1200000 → Completes (.dramRetrain d t0) s (fun t =>
       { kind := 1, unit := (d + 1) % 16, start := e.start + 1100000, stop := e.start + 1200000 : CalEntry } ∈ t.calendar)) ∧
     (∀ e q, u.windowNow 2 d = some e → s.nextTrained d = some q → room → u.now < e.start + 1100000 →
       Completes (.linkAdaptation d t0) s (fun t =>
         { kind := 2, unit := q, start := e.start + 1050000, stop := e.start + 1100000 : CalEntry } ∈ t.calendar))) ∧
    (∀ watts, u.mayPace = true →
      (s.settingNow 0x80 0 < watts → s.atLowEnd = false → Completes (.powerCapControl watts t0) s (fun t =>
        t.power.watts = watts ∧ ∀ e, e < 20 →
          (t.domain e).target = Nat.max (lowMhz (s.domain e).profile) ((s.domain e).target - 25))) ∧
      (watts * 100 < s.settingNow 0x80 0 * 95 → s.power.throttled = [] →
        Completes (.powerCapControl watts t0) s (fun t => t.power.watts = watts ∧ ∀ e, e < 20 →
          (t.domain e).target = Nat.min (targetMhz (s.domain e).profile) ((s.domain e).target + 25)))) ∧
    (s.power.refclkLost = false → s.mcRuns = true → Completes (.refclkLoss t0) s (fun t =>
      t.power.refclkLost = true ∧ t.time.state = 4 ∧ ∀ p, p < 20 → (t.port p).phase = .down))

/-- A follower asks its parent with its send time, and the root asks nobody; a parent answers a request for it with the
times of arrival and departure, and one for another module goes on with its residence added to CORR; the follower takes
half the difference less the corrections as its offset, where the answer is its parent's to its last request, and ignores
any other: locked after 8 in a row within 0.25 ns of requests sent 10 µs apart, loaded once while no context exists and
the offset exceeds 1 µs. With no parent, and without an answer for 100 µs, a follower that has measured one holds over
(11 R295, R296; 12 R341). -/
def Obligations.TimeFollows : Prop :=
  ∀ (s : State) (t0 ps : Nat),
    let u := s.atTick t0
    (s.setting 0x03 0 = 1 → Completes (.timeReqSend t0 ps) s (fun t => t = u)) ∧
    (∀ p dst, s.setting 0x03 0 ≠ 1 → u.parentNow = some (p, dst) → Completes (.timeReqSend t0 ps) s (fun t =>
      let seq := (s.time.seq + 1) % 256
      t.time = { u.time with parent := some p, seq, asked := some (seq, t0, ps) } ∧
      t = { u with time := t.time }.sendCtl p 2 (timeFlit 7 seq t0 ps 0 0 0 0 0 dst s.code))) ∧
    (s.setting 0x03 0 ≠ 1 → u.parentNow = none → Completes (.timeReqSend t0 ps) s (fun t =>
      t.time.parent = none ∧ t.time.state = if s.time.state = 2 ∨ s.time.state = 3 then 4 else s.time.state)) ∧
    (∀ p f, flitAt f 56 3 = s.code → Completes (.timeReq p f t0 ps) s (fun t =>
      let out := 1000 * t0 + ps + Config.residencePs s.power.draws
      let v := if flitAt f 60 3 = (s.port p).partner then u.modPort p (fun q => { q with asks := some u.now }) else u
      t = { v with power := { v.power with draws := v.power.draws + 1 } }.sendCtl p 2
        (timeFlit 8 (flitAt f 1 1) (flitAt f 8 8) (flitAt f 16 2) t0 ps (out / 1000) (out % 1000) (flitAt f 52 4)
          (flitAt f 60 3) s.code))) ∧
    (∀ p f, flitAt f 56 3 ≠ s.code → ∀ row : Instr, row = .timeReq p f t0 ps ∨ row = .timeResp p f t0 ps →
      (u.route (flitAt f 56 3) 0 = none → Completes row s (fun t => t = u)) ∧
      (∀ q, u.route (flitAt f 56 3) 0 = some q → Completes row s (fun t =>
        t = { u with power := { u.power with draws := u.power.draws + 1 } }.sendFlit q 2 true 0
          (BitVec.ofNat 512 (putFld f.toNat 416 32 (flitAt f 52 4 + Config.residencePs s.power.draws)))))) ∧
    (∀ p f, flitAt f 56 3 = s.code → s.time.asked = none ∨ s.setting 0x03 0 = 1 ∨ s.time.parent ≠ some p ∨
        (∀ a, s.time.asked = some a → flitAt f 1 1 ≠ a.1) → Completes (.timeResp p f t0 ps) s (fun t => t = u)) ∧
    (∀ p f seq t1 ps1, flitAt f 56 3 = s.code → s.setting 0x03 0 ≠ 1 → s.time.parent = some p →
      s.time.asked = some (seq, t1, ps1) → flitAt f 1 1 = seq →
      let off := timeOffset ((1000 * t1 + ps1 : Nat) : Int) ((1000 * flitAt f 24 8 + flitAt f 32 2 : Nat) : Int)
        ((1000 * flitAt f 40 8 + flitAt f 48 2 : Nat) : Int) ((1000 * t0 + ps : Nat) : Int) (flitAt f 52 4 : Int)
      let loads := s.time.loaded = false ∧ (∀ x, x < 16 → (s.ctx x).phase = .free) ∧ 1000000 < off.natAbs
      (¬ loads → Completes (.timeResp p f t0 ps) s (fun t =>
        t.time.offset = -off ∧ t.time.asked = none ∧ t.time.askedAt = some t1 ∧ t.time.lastSync = u.now ∧
        t.time.good = (if 250 < off.natAbs then 0
          else if s.time.askedAt.map (· + 10000) = some t1 then s.time.good + 1 else 1) ∧
        t.time.state = (if 8 ≤ t.time.good then 2 else 3))) ∧
      (loads → Completes (.timeResp p f t0 ps) s (fun t => t.time.loaded = true ∧ t.time.state = 3 ∧ t.time.good = 0 ∧
        t.time.now = ((((1000 * u.now + ps : Nat) : Int) + off).toNat / 1000) % 2 ^ 64))) ∧
    (s.time.state = 2 ∨ s.time.state = 3 → s.time.lastSync + 100000 ≤ u.now →
      Completes (.timeHoldover t0) s (fun t => t.time.state = 4 ∧ t.time.good = 0)) ∧
    ((s.time.state ≠ 2 ∧ s.time.state ≠ 3) ∨ u.now < s.time.lastSync + 100000 →
      Completes (.timeHoldover t0) s (fun t => t = u))

/-! ### Link ports -/

/-- A port trains by signal, equalisation, frame lock and dwell: the lanes ready at both ends give its width, and it
comes UP, fails, or is miswired; a failed port trains again after 10 s, a planned absence at once (12 R314-R317, R319). -/
def Obligations.PortsTrain : Prop :=
  ∀ (s : State) (p t0 : Nat),
    let u := s.atTick t0
    (s.mayTrain p = true → (s.port p).phase = .down → (s.port p).since = 0 →
      Completes (.portTrainingStart p) s (fun t => (t.port p).phase = .training ∧ (t.port p).train = .signal ∧
        (t.port p).width = 0)) ∧
    (s.mayTrain p = true → (s.port p).phase = .absentPlanned → Completes (.absentPartnerReturns p) s (fun t =>
      (t.port p).phase = .training ∧ (t.port p).train = .signal)) ∧
    (s.mayTrain p = true → (s.port p).phase = .failed ∨ (s.port p).phase = .down ∨ (s.port p).phase = .lost →
      (s.port p).since ≠ 0 →
      ((s.port p).since + 10000000000 ≤ u.now → Completes (.retrainDelayExpiry p t0) s (fun t =>
        (t.port p).phase = .training ∧ (t.port p).train = .signal)) ∧
      (u.now < (s.port p).since + 10000000000 → Completes (.retrainDelayExpiry p t0) s (fun t => t = u))) ∧
    (∀ lanes : BitVec 9, (s.port p).phase = .training →
      ((s.port p).train = .signal → Completes (.signalLock p lanes) s (fun t =>
        t.port p = { s.port p with lanes := lanes.toNat, train := .equalise })) ∧
      ((s.port p).train = .equalise → Completes (.equalisationDone p lanes) s (fun t =>
        t.port p = { s.port p with lanes := Nat.land (s.port p).lanes lanes.toNat, train := .frameLock })) ∧
      (∀ (code : BitVec 24) (far : BitVec 5), (s.port p).train = .frameLock →
        Completes (.frameLock p code far lanes) s (fun t => (t.port p).phase = .dwell ∧
          (t.port p).partner = code.toNat ∧ (t.port p).partnerPort = far.toNat ∧
          (t.port p).miswired = !s.partnerOk p code.toNat far.toNat))) ∧
    (∀ (own : List Nat) (partner : List (BitVec 8)), (s.port p).phase = .dwell →
      let q := (s.port p).select (laneDead s.boot.merged p) own partner
      ((s.port p).miswired = true → Completes (.dwellEnd p own partner t0) s (fun t => (t.port p).phase = .miswired)) ∧
      ((s.port p).miswired = false → q.width = 0 → Completes (.dwellEnd p own partner t0) s (fun t =>
        (t.port p).phase = .failed ∧ (t.port p).since = u.now)) ∧
      ((s.port p).miswired = false → q.width ≠ 0 → Completes (.dwellEnd p own partner t0) s (fun t =>
        (t.port p).phase = .up ∧ (t.port p).upSince = u.now ∧ (t.port p).width = q.width ∧
        (t.port p).active = q.active)))

/-- A port in service: the one active lane whose code falls below 50 is to be replaced by the lowest ready spare, where
there is one; the 256th group since training takes the spares in, and no other does; a heartbeat leaves once for each
multiple of 1,000 ticks, in an idle group whose frames name the last FSEQ sent, with what is to be acknowledged and
credited; a heartbeat of the partner keeps the port alive, and its map flit acknowledges and credits; a group missing or
in error is asked for again, and the 16th error in a row takes the port DOWN; a data group of one flit in order is
delivered and acknowledged: its line waits for the end of its entry (12 R304-R308, R310-R312, R318, R322). -/
def Obligations.PortsServe : Prop :=
  ∀ (s : State) (p t0 : Nat),
    let u := s.atTick t0
    let b := s.bundleOf p
    (∀ (errors : List Nat), s.isUp p = true →
      let code := fun i => berCode (dwellBits / 2) (errors.getD i 0)
      ((∀ i, i < 9 → (s.port p).active.contains i = true → 50 ≤ code i) → Completes (.laneBerCheck p errors t0) s (fun t =>
        (t.port p).swap = (s.port p).swap ∧ (t.port p).active = (s.port p).active ∧
        (t.port p).width = (s.port p).width)) ∧
      (∀ k j, k < 9 → (s.port p).active.contains k = true → (s.port p).swap = [] → code k < 50 →
        (∀ i, i < 9 → i ≠ k → (s.port p).active.contains i = true → 50 ≤ code i) →
        (bitsUp 9 (if (s.port p).ready.testBit k then (s.port p).ready - 2 ^ k else (s.port p).ready)).find?
          (fun i => !(s.port p).active.contains i) = some j →
        Completes (.laneBerCheck p errors t0) s (fun t => (t.port p).swap = [(k, j)] ∧
          (t.port p).active = (s.port p).active ∧ (t.port p).width = (s.port p).width))) ∧
    ((s.port p).phase = .up ∨ (s.port p).phase = .miswired →
      ((s.port p).groups % 256 ≠ 255 → Completes (.calibrationGroup p) s (fun t => t.port p = s.port p)) ∧
      ((s.port p).groups % 256 = 255 → Completes (.calibrationGroup p) s (fun t => (t.port p).swap = [] ∧
        (t.port p).groups = (s.port p).groups + 1 ∧ (t.port p).width = (s.port p).width ∧
        (∀ k j, (s.port p).swap = [(k, j)] →
          (t.port p).active = (s.port p).active.map (fun l => if l = k then j else l)))) ∧
      ((s.port p).beat < u.now / 1000 * 1000 → Completes (.heartbeatSend p t0) s (fun t =>
        (t.port p).beat = u.now / 1000 * 1000 ∧ (t.port p).mapSent = u.mapFlit p true ∧
        (t.port p).heads = (List.range (widthLanes (s.port p).width)).map (frameHead (s.bundle b).sent 1) ∧
        t.bundle b = { s.bundle b with freed := [0, 0, 0, 0, 0], nak := false })) ∧
      (u.now / 1000 * 1000 ≤ (s.port p).beat → Completes (.heartbeatSend p t0) s (fun t => t = u))) ∧
    (∀ (head : BitVec 20) (m : Flit), s.isUp p = true → fld m.toNat 472 24 = (s.port p).partner →
      fld m.toNat 496 5 = (s.port p).partnerPort → bit m.toNat 464 = true → (s.bundle b).waiting = [] →
      Completes (.idleFrameGroup p ⟨head, m⟩ t0) s (fun t => (t.port p).heard = u.now ∧
        (t.port p).tdepth = fld m.toNat 466 4 ∧ t.bundle b = { s.bundle b with seen := bvf head 0 12 }.mapped m)) ∧
    (s.isUp p = true →
      ((s.bundle b).gap = true → Completes (.fseqGapTimeout p) s (fun t => bit (t.port p).mapSent.toNat 12 = true ∧
        t.bundle b = { s.bundle b with freed := [0, 0, 0, 0, 0], nak := false })) ∧
      ((s.bundle b).gap = false → Completes (.fseqGapTimeout p) s (fun t => t = s))) ∧
    (∀ heads payloads, s.isUp p = true →
      ((s.port p).fails < 15 → Completes (.dataFrameGroup p false heads payloads t0) s (fun t =>
        bit (t.port p).mapSent.toNat 12 = true ∧ (t.port p).fails = (s.port p).fails + 1 ∧
        (t.bundle b).got = (s.bundle b).got)) ∧
      (15 ≤ (s.port p).fails → Completes (.dataFrameGroup p false heads payloads t0) s (fun t =>
        (t.port p).phase = .down ∧ (t.port p).since = u.now ∧ (t.bundle b).nak = true))) ∧
    (∀ heads payloads, ∀ (q : Tagged) (c : Circuit), let frames := framesOf heads payloads
      s.isUp p = true → (s.bundle b).held = [] →
      (s.bundle b).waiting = [] → (s.bundle b).got < 4096 → groupFseq frames = ((s.bundle b).got + 1) % 4096 →
      groupFlits (s.port p).width (deskew (widthLanes (s.port p).width) frames) = [q] → q.ctl = false →
      s.circuit b q.tag = some c → (∀ o n, c.dest ≠ .through o n) →
      Completes (.dataFrameGroup p true heads payloads t0) s (fun t => (t.bundle b).got = groupFseq frames ∧
        fld (t.port p).mapSent.toNat 0 12 = groupFseq frames ∧
        t.circuit b q.tag = some { c with lines := c.lines ++ [q.flit] }))

/-- A watched port that hears nothing for 3,500 ticks goes DOWN with its event and is watched no more, another member of
its bundle being UP; a planned absence takes a port out until its partner's return, from which it is watched again; a
front about another module, of a job that no context here names, is handled once in 10 ms; and the first of several
management flits on a host bridge port begins the command of the slot its agent is bound to (12 R323, R324, R326; 13
R346). -/
def Obligations.PartnersLeave : Prop :=
  ∀ (s : State) (p t0 : Nat) (f : Flit),
    let u := s.atTick t0
    ((s.port p).watch = true → (s.port p).returnBy = none →
      ((s.port p).heard + 3500 ≤ u.now → (s.port p).phase = .up →
        (∃ v, v < 20 ∧ v ≠ p ∧ s.bundleOf v = s.bundleOf p ∧ s.isUp v = true) →
        Completes (.portSilent p t0) s (fun t => (t.port p).phase = .down ∧ (t.port p).silent = true ∧
          (t.port p).watch = false ∧ t.events.nextSeq = s.events.nextSeq + 1)) ∧
      (u.now < (s.port p).heard + 3500 → Completes (.portSilent p t0) s (fun t => t = u))) ∧
    (∀ r, (s.port p).returnBy = some r → s.isUp p = false →
      (r ≤ u.now → Completes (.absenceReturnBy p t0) s (fun t => (t.port p).watch = true ∧
        (t.port p).heard = r ∧ (t.port p).returnBy = none)) ∧
      (u.now < r → Completes (.absenceReturnBy p t0) s (fun t => t = u))) ∧
    (s.isUp p = true → (flitAt f 1 1 = 0 ∨ (s.role p ≠ 5 ∧ (flitAt f 1 1 ≠ 2 ∨ s.connsBy (flitAt f 2 3) = []))) →
      Completes (.absence p f) s (fun t =>
      (t.port p).phase = .absentPlanned ∧ (t.port p).since = s.now ∧
      (t.port p).returnBy = some (Nat.min (flitAt f 8 8) (s.now + 60000000000)))) ∧
    ((∃ v ∈ s.links.fronts, v.lost = flitAt f 1 3 ∧ v.job = flitAt f 16 4 ∧ s.now < v.tick + 10000000) →
      Completes (.faultFront p f) s (fun t => t = s)) ∧
    ((∀ v ∈ s.links.fronts, v.lost = flitAt f 1 3 → v.job = flitAt f 16 4 → v.tick + 10000000 ≤ s.now) →
      flitAt f 1 3 ≠ s.code → (∀ x, (s.ctx x).phase = .free ∧ (s.ctx x).halo.phase = .unpaired ∧ (s.ctx x).job.modules = []) →
      Completes (.faultFront p f) s (fun t => t.events.nextSeq = s.events.nextSeq + 1 ∧
        (⟨flitAt f 1 3, flitAt f 16 4, s.now⟩ : Front) ∈ t.links.fronts)) ∧
    (∀ tag : Nat, (∀ c o n, s.circuitOn p tag = some c → c.dest ≠ .through o n) →
      s.mcRuns = true → 1 ≤ flitAt f 2 1 → flitAt f 2 1 ≤ 6 → s.role p = 6 → (s.slot (flitAt f 2 1)).bound = true →
      (s.slot (flitAt f 2 1)).agent = (s.port p).partner → (s.port p).partner ≠ 16777215 → bit (flitAt f 3 1) 0 = true →
      bit (flitAt f 3 1) 1 = false → Completes (.mgmt p ⟨tag, f⟩) s (fun t =>
        (t.slot (flitAt f 2 1)).assembling = some (((lineBytes f).drop 8).take (Nat.min 56 (flitAt f 4 2))) ∧
        (t.slot (flitAt f 2 1)).transport = 1 ∧ (t.slot (flitAt f 2 1)).port = p))

/-! ### Circuits -/

/-- An entry's end completes the entry at its receive end, whose semaphore gains the token, or joins its lines to the bulk
connection's bytes where nothing waits for them; a credit frees the send end; an entry's end, a credit or a management
flit of through traffic goes on with the next hop's tag, and one of a tag that no circuit has changes nothing; a remote
read is queued at its stack or refused with no lines; CAL changes nothing (08 R218; 10 R255, R257; 12 R308, R313, R339;
13 R346, R378). -/
def Obligations.CircuitsCarry : Prop :=
  ∀ (s : State) (p : Nat) (f : Flit) (c : Circuit),
    let b := s.bundleOf p
    (∀ x core ep i, s.circuit b (flitAt f 2 2) = some c → c.dest = .recv x core ep i →
      let e := (s.core ⟨x, core⟩).recvEps.get {} ep
      let q := e.sub 0
      let n := Nat.min (Nat.min (flitAt f 6 1) c.lines.length) e.esize
      let q' : SubQueue := { q with entries := q.entries ++ [⟨q.done, flitAt f 4 2, n, false⟩], done := q.done + 1, arrived := 0 }
      e.state = .bound → e.elastic = true → e.kind ≠ 2 →
      Completes (.entryEnd p f) s (fun t =>
        (t.core ⟨x, core⟩).recvEps.get {} ep = { e with subs := e.subs.set {} 0 q' } ∧
        ((t.core ⟨x, core⟩).sems.get {} e.asem).pending =
          Nat.min 2147483647 (((s.core ⟨x, core⟩).sems.get {} e.asem).pending + flitAt f 4 2))) ∧
    (∀ x core ep i, s.circuit b (flitAt f 2 2) = some c → c.dest = .send x core ep i →
      let e := (s.core ⟨x, core⟩).sendEps.get {} ep
      e.state ≠ .unbound → e.elastic = true →
      Completes (.entryCredit p f) s (fun t =>
        (t.core ⟨x, core⟩).sendEps.get {} ep = (e.credit i (flitAt f 4 1)).1 ∧
        ((t.core ⟨x, core⟩).sems.get {} e.csem).pending =
          Nat.min 2147483647 (((s.core ⟨x, core⟩).sems.get {} e.csem).pending + (e.credit i (flitAt f 4 1)).2))) ∧
    (∀ x k, s.circuit b (flitAt f 2 2) = some c → c.dest = .bulk x → s.bulk c.connId = some k → k.broken = false →
      ((s.ctx k.ctx).weights.busy = false ∨ (s.ctx k.ctx).weights.conn ≠ c.connId) →
      (∀ d ∈ s.mbox.deferred, d.key ≠ c.connId) →
      Completes (.entryEnd p f) s (fun t => ∃ n, t.bulk c.connId =
        some { k with bytes := k.bytes ++ (c.lines.take (flitAt f 6 1)).flatMap lineBytes, owed := n })) ∧
    (∀ q o, s.circuit b (flitAt f 2 2) = some c → c.dest = .through q o →
      let g : Flit := BitVec.ofNat 512 (putFld f.toNat 16 16 o)
      Completes (.entryCredit p f) s (fun t => t = s.sendFlit q 3 true 0 g) ∧
      Completes (.entryEnd p f) s (fun t => t =
        (s.modCircuit b (flitAt f 2 2) (fun k => { k with lines := [] })).sendFlit q c.vl true 0 g)) ∧
    (s.circuit b (flitAt f 2 2) = none → Completes (.entryEnd p f) s (fun t => t = s) ∧
      Completes (.entryCredit p f) s (fun t => t = s)) ∧
    (∀ tag q o, s.circuitOn p tag = some c → c.dest = .through q o → Completes (.mgmt p ⟨tag, f⟩) s (fun t =>
      t = s.queueFlit q { vl := 3, ctl := true, tag := o, flit := f })) ∧
    (s.replyCtx b (flitAt f 2 2) = none → Completes (.remoteRd p f) s (fun t => t = s.remoteReply p f [])) ∧
    (∀ x, s.replyCtx b (flitAt f 2 2) = some x →
      let n := flitAt f 12 1 % 64 + 1
      let d := (s.ctx x).stackOf (flitAt f 4 1)
      (s.remoteClosed x (flitAt f 4 1) (flitAt f 8 4) n = true →
        Completes (.remoteRd p f) s (fun t => t = s.remoteReply p f [])) ∧
      (s.remoteClosed x (flitAt f 4 1) (flitAt f 8 4) n = false → Completes (.remoteRd p f) s (fun t =>
        (∃ l, (t.stack d).remote = (s.stack d).remote ++ l ∧ l.length = n ∧ ∀ r ∈ l, r.write = false ∧ r.ctx = x) ∧
        (t.stack d).waiting = (s.stack d).waiting))) ∧
    Completes (.calFlit p f) s (fun t => t = s)

/-- OPEN for this module: a refusal, and the lack of a tag, is answered and opens nothing; one accepted for a core gives
one circuit to its receive end, one for a management endpoint a circuit and a bulk connection. OPEN for another module
takes a tag on the bundle of its next hop and gives a through circuit, or is refused where no way leads there or no tag
is left. OPEN_ACK of an opening under way: a peer's acknowledgement gives its circuit, the last ends the opening and lets
the send end bind at its context's next boundary or the bulk connection stand, a refusal ends it; an acknowledgement of
through traffic goes on with a reverse circuit, a refusal of it ends the through circuit, one that nothing here waits for
changes nothing. At its deadline an opening ends, and not before; the end of a mirror circuit's opening unpairs, or ends
the resumption, where the boundary does not wait for the standby. CLOSE and BREAK of a connection that is no pairing's and
of which no command waits for bytes end its circuits and break every end of it here, those bound, those that wait to bind
and the bulk connection (10 R264-R267; 12 R339; 13 R378; 15 R460). -/
def Obligations.ConnectionsOpenAndBreak : Prop :=
  ∀ (s : State) (p t0 : Nat) (f : Flit),
    let b := s.bundleOf p
    let u := s.atTick t0
    let id := flitAt f 1 4
    let core := fld (flitAt f 24 8) 28 11
    let gone := fun (o : Opening) (t : State) => ∀ v ∈ t.links.openings, v.bind.ticket ≠ o.bind.ticket
    let fails := fun (o : Opening) (t : State) =>
      (s.opensMirror o = false → gone o t ∧ t.ctx o.ctx = s.ctx o.ctx) ∧
      (s.opensMirror o = true → (s.ctx o.ctx).holds.checkpoint = false → (s.ctx o.ctx).holds.mirrorLag = false →
        gone o t ∧ (t.ctx o.ctx).halo = if (s.ctx o.ctx).halo.resume then
          { (s.ctx o.ctx).halo with resume := false, ticket := 0 } else {})
    (flitAt f 8 3 = s.code →
      (s.openCheck p f ≠ 0 → Completes (.openFlit p f) s (fun t => t = s.openAckOn b id (s.openCheck p f) 0)) ∧
      (s.openCheck p f = 0 → s.takeTag b = none → Completes (.openFlit p f) s (fun t => t = s.openAckOn b id 2 0)) ∧
      (∀ v rev, s.openCheck p f = 0 → s.takeTag b = some (v, rev) →
        (core ≠ 2047 → Completes (.openFlit p f) s (fun t => t.links.bulks = s.links.bulks ∧
          ∃ c : Circuit, t.links.circuits = s.links.circuits ++ [c] ∧ c.port = b ∧ c.tag = flitAt f 12 2 ∧ c.rev = rev ∧
            c.connId = id ∧ c.dest = .recv (fld (flitAt f 24 8) 24 4) core (fld (flitAt f 24 8) 39 4)
              (if fld (flitAt f 11 1) 0 2 = 2 then flitAt f 17 1 else 0))) ∧
        (core = 2047 → Completes (.openFlit p f) s (fun t =>
          let x := (s.mirrorFor p f).getD (fld (flitAt f 24 8) 24 4)
          t.bulk id = some { connId := id, ctx := x, port := b, tag := rev } ∧
          ∃ c : Circuit, t.links.circuits = s.links.circuits ++ [c] ∧ c.port = b ∧ c.tag = flitAt f 12 2 ∧ c.rev = rev ∧
            c.connId = id ∧ c.dest = .bulk x)))) ∧
    (flitAt f 8 3 ≠ s.code →
      (s.route (flitAt f 8 3) id = none → Completes (.openFlit p f) s (fun t => t = s.openAckOn b id 2 0)) ∧
      (∀ q, s.route (flitAt f 8 3) id = some q →
        (s.takeTag q = none → Completes (.openFlit p f) s (fun t => t = s.openAckOn b id 2 0)) ∧
        (∀ v out, s.takeTag q = some (v, out) → Completes (.openFlit p f) s (fun t =>
          ∃ c : Circuit, t.links.circuits = s.links.circuits ++ [c] ∧ c.port = b ∧ c.tag = flitAt f 12 2 ∧ c.connId = id ∧
            c.dest = .through (s.bundleOf q) out)))) ∧
    (∀ o, s.links.openings.find? (fun o => o.bind.connId = id) = some o →
      (flitAt f 5 1 = 0 →
        let asked := o.waiting.find? (fun i => match o.bind.peers[i]? with | some q => s.bundleOf q.port = b | none => false)
        (asked = none → Completes (.openAck p f) s (fun t => t = s)) ∧
        (∀ i, asked = some i → Completes (.openAck p f) s (fun t =>
          (∃ c : Circuit, t.links.circuits = s.links.circuits ++ [c] ∧ c.port = b ∧ c.tag = flitAt f 12 2 ∧
            c.connId = o.bind.connId ∧
            c.dest = if o.bind.core = 2047 then .bulk o.ctx else .send o.ctx o.bind.core o.bind.ep i) ∧
          ((∃ j ∈ o.waiting, j ≠ i) → (t.ctx o.ctx).binds = (s.ctx o.ctx).binds ∧
            ∀ v ∈ s.links.openings, v.bind.ticket = o.bind.ticket →
              { o with waiting := o.waiting.filter (· ≠ i) } ∈ t.links.openings) ∧
          ((∀ j ∈ o.waiting, j = i) → gone o t ∧
            (o.bind.core ≠ 2047 → (t.ctx o.ctx).binds = (s.ctx o.ctx).binds ++ [o.bind]) ∧
            (o.bind.core = 2047 → ∃ k, t.bulk o.bind.connId = some k ∧ k.ctx = o.ctx ∧ k.broken = false ∧ k.bytes = []))))) ∧
      (flitAt f 5 1 ≠ 0 → Completes (.openAck p f) s (fails o))) ∧
    (s.links.openings.find? (fun o => o.bind.connId = id) = none →
      (s.throughOf b id = none → Completes (.openAck p f) s (fun t => t = s)) ∧
      (∀ c n, s.throughOf b id = some (c, n) →
        let w := s.dropCircuits (fun k => k.port = c.port && k.tag = c.tag)
        (flitAt f 5 1 ≠ 0 → Completes (.openAck p f) s (fun t => t = w.sendFlit c.port 3 true 0 f)) ∧
        (flitAt f 5 1 = 0 → s.takeTag c.port = none → Completes (.openAck p f) s (fun t => t = w.openAckOn c.port id 2 0)) ∧
        (∀ v out, flitAt f 5 1 = 0 → s.takeTag c.port = some (v, out) → Completes (.openAck p f) s (fun t =>
          ∃ r : Circuit, t.links.circuits = s.links.circuits ++ [r] ∧ r.port = b ∧ r.tag = flitAt f 12 2 ∧ r.connId = id ∧
            r.dest = .through c.port out)))) ∧
    (∀ id : BitVec 32,
      (s.links.openings.find? (fun o => o.bind.connId = id.toNat) = none →
        Completes (.connOpenTimeout id t0) s (fun t => t = u)) ∧
      (∀ o, s.links.openings.find? (fun o => o.bind.connId = id.toNat) = some o →
        (o.deadline ≤ u.now → Completes (.connOpenTimeout id t0) s (fails o)) ∧
        (u.now < o.deadline → Completes (.connOpenTimeout id t0) s (fun t => t = u)))) ∧
    (s.role p ≠ 5 ∨ (∀ x, x < 16 → (s.ctx x).halo.pairId ≠ id) →
      (∀ k, s.bulk id = some k → s.ledger.reads = [] ∧ (∀ d ∈ s.mbox.deferred, d.key ≠ id) ∧
        ((s.ctx k.ctx).weights.busy = false ∨ (s.ctx k.ctx).weights.conn ≠ id)) →
      ∀ row : Instr, row = .closeFlit p f ∨ row = .breakFlit p f → Completes row s (fun t =>
        (∀ c ∈ t.links.circuits, c.connId ≠ id) ∧
        (∀ k, s.bulk id = some k → t.bulk id = some { k with broken := true }) ∧
        (∀ x, x < 16 → (t.ctx x).binds = (s.ctx x).binds.map (fun v => v.breakSend id)) ∧
        ∀ x core ep, x < 16 → core < (s.ctx x).ncores →
          (let e := (s.core ⟨x, core⟩).recvEps.get {} ep
           e.state = .bound → e.elastic = true → e.connId = id →
            ((t.core ⟨x, core⟩).recvEps.get {} ep).state = .broken ∧ ((t.core ⟨x, core⟩).sems.get {} e.asem).brk = true) ∧
          (let e := (s.core ⟨x, core⟩).sendEps.get {} ep
           e.state = .bound → e.elastic = true → e.connId = id →
            ((t.core ⟨x, core⟩).sendEps.get {} ep).state = .broken ∧ ((t.core ⟨x, core⟩).sems.get {} e.csem).brk = true)))

/-! ### Settings and transactions -/

/-- A lone setting write by class: class I takes force at once, class L waits for its running context's boundary, class S
is refused while its unit runs, class T must be staged; TIME_SET loads the root's counter (11 R295; 13 R368). -/
def Obligations.SettingWrites : Prop :=
  ∀ (s : State) (m : Nat) (q : Cmd),
    let sid := argSid q
    let v := leAt q.payload 0 8
    let who : Who := if boardSetting (sidNum sid) then .ownerOrBoard else .owner
    let u := s.entered m q 0x21
    (Serves s m q { op := 0x21, who, early := true, arg := 2 ^ 32 - 1, len := fun n => n = 8 } →
      (u.settingCheck sid v ≠ stOK → Completes (.settingWrite m q) s
        (Answered s m q 0x21 (fun u => (u, { status := u.settingCheck sid v })))) ∧
      (∀ c, u.settingCheck sid v = stOK → sidInfo s.variant sid = some (0, c) →
        (sidNum sid = 0x54 → u.sealsOver [⟨sid, v, 0⟩] = false) →
        Completes (.settingWrite m q) s (fun t => t.settingRaw sid = some v)) ∧
      (∀ c, u.settingCheck sid v = stOK → sidInfo s.variant sid = some (1, c) → (s.ctx (sidInst sid)).active = true →
        Completes (.settingWrite m q) s (fun t =>
          Answered s m q 0x21 (fun u => (u.stageLone sid v, { status := stPending })) t ∧
          t.settingRaw sid = s.settingRaw sid ∧ (∃ e ∈ t.mbox.lone, e.sid = sid ∧ e.value = v))) ∧
      (∀ c, u.settingCheck sid v = stOK → sidInfo s.variant sid = some (2, c) → u.unitRuns sid = true →
        Completes (.settingWrite m q) s (Answered s m q 0x21 (fun u => (u, { status := stUnitRunning })))) ∧
      (∀ c, u.settingCheck sid v = stOK → sidInfo s.variant sid = some (3, c) →
        Completes (.settingWrite m q) s (Answered s m q 0x21 (fun u => (u, { status := stPairedField }))))) ∧
    (Serves s m q { op := 0x75, who := .owner, len := fun n => n = 8 } →
      (s.mayLoad = true → Completes (.timeSet m q) s (fun t => t.time.now = v % 2 ^ 64 ∧ t.time.loaded = true)) ∧
      (s.mayLoad = false → Completes (.timeSet m q) s
        (Answered s m q 0x75 (fun u => (u, { status := stTimeInUse })))))

/-- A transaction opens empty, takes staged values in the order of their first SET, rolls back whole, and commits whole:
in boundary mode what waits for a context stays, in tick mode everything waits for its tick, and then applies
(13 R370-R373; 11 R288). -/
def Obligations.TransactionsRun : Prop :=
  ∀ (s : State) (m : Nat) (q : Cmd),
    (Serves s m q { op := 0x22, who := .owner } →
      (s.mbox.txn = none → Completes (.beginTxn m q) s (fun t => t.mbox.txn = some [] ∧ t.mbox.txnSlot = m)) ∧
      (s.mbox.txn ≠ none → Completes (.beginTxn m q) s
        (Answered s m q 0x22 (fun u => (u, { status := stTxnBusy }))))) ∧
    (∀ l, s.mbox.txn = some l →
      (let sid := argSid q
       let v := leAt q.payload 0 8
       Serves s m q { op := 0x23, who := .owner, arg := 2 ^ 32 - 1, len := fun n => n = 8 } →
        (s.entered m q 0x23).settingCheck sid v = stOK → l.length < 512 →
        Completes (.setStage m q) s (fun t => t.mbox.txn = some (stageIn l ⟨sid, v, s.mbox.accepted + 1⟩) ∧
          t.mbox.settings = s.mbox.settings)) ∧
      (Serves s m q { op := 0x25, who := .owner } → Completes (.rollback m q) s (fun t =>
        Answered s m q 0x25 (fun u => okay (u.rollBack m 0)) t ∧ t.mbox.txn = none ∧
        t.mbox.settings = s.mbox.settings)) ∧
      (let q' := withArg q 0 1 0
       let u := s.entered m q' 0x24
       Serves s m q' { op := 0x24, who := .owner, arg := 1, len := fun n => n = 8 } →
        (u.commitCheck l none).1 = stOK → ∀ w, l.filter (fun e => !u.partNow e) = w → w ≠ [] →
        Completes (.commitBoundary m q) s (fun t => t.mbox.txn = none ∧
          ∃ c, t.mbox.committed = some c ∧ c.rest = w ∧ c.tick = none)) ∧
      (let q' := withArg q 0 1 1
       let u := s.entered m q' 0x24
       let tk := leAt q.payload 0 8
       Serves s m q' { op := 0x24, who := .owner, arg := 1, len := fun n => n = 8 } →
        (u.commitCheck l (some tk)).1 = stOK → l ≠ [] → Completes (.commitTick m q) s (fun t => t.mbox.txn = none ∧
          t.mbox.committed = some ⟨some (s.deferred tk), l, 0, s.mbox.accepted + 1, m⟩ ∧
          ∀ p, stagedPace l = some p → t.time.pend = some ⟨s.deferred tk, p, s.deferred tk ≠ tk⟩))) ∧
    (∀ (t0 : Nat) (c : Committed) (e : Nat) (p : Staged) (i : Nat × Nat), s.mbox.committed = some c → c.tick = some e →
      c.rest = [p] → p.sid ≠ 1 → sidInfo s.variant p.sid = some i → i.1 ≠ 1 → s.partLost p.sid = false →
      (e ≤ (s.atTick t0).now → Completes (.txnApplyTick t0) s (fun t =>
        t.settingRaw p.sid = some p.value ∧ t.mbox.committed = none)) ∧
      ((s.atTick t0).now < e → Completes (.txnApplyTick t0) s (fun t => t = s.atTick t0)))

/-! ### Contexts -/

/-- A context is created on free usable sites, is IDLE with zero core memory once it is zeroed, is freed whole once its
resources are released, and keeps no more than its quota when evicted (13 R374-R376, R382; 07 R171). -/
def Obligations.ContextsComeAndGo : Prop :=
  ∀ (s : State) (m x : Nat) (q : Cmd),
    (let sites := bitsUp 16 (argFld q 0 16)
     Serves s m q { op := 0x30, who := .owner, ctx := true, arg := 65535 } → s.createCheck q.ctx sites = stOK →
      s.cmdRoom q.ctx = true → Completes (.contextCreate m q) s (fun t =>
        Answered s m q 0x30 (Defers m q 0x30 q.ctx 0 [] (fun u _ => u.createCtx q.ctx sites)) t ∧
        (t.ctx q.ctx).phase = .creating ∧ (t.ctx q.ctx).sites = programSites sites ∧ (t.ctx q.ctx).image = none)) ∧
    ((s.ctx x).phase = .creating → s.loadOf x = none → Completes (.contextZeroed x) s (fun t =>
      (t.ctx x).phase = .idle ∧ ∀ p a, p < (s.ctx x).ncores → a < 524288 →
        Memory.byte t.mem (coreAddr ((s.ctx x).logical p) 0 + a) = 0)) ∧
    (Serves s m q { op := 0x31, who := .owner, ctx := true } → Roomy s q → (s.ctx q.ctx).phase = .idle →
      Completes (.contextDestroy m q) s (fun t => (t.ctx q.ctx).phase = .destroying ∧ (t.ctx q.ctx).job = {} ∧
        (t.ctx q.ctx).binds = [])) ∧
    ((s.ctx x).phase = .destroying → Completes (.resourcesReleased x) s (fun t => t.ctx x = {} ∧
      ∀ p, p < (s.ctx x).ncores → t.coreAt ((s.ctx x).logical p) = {})) ∧
    (Serves s m q { op := 0x34, who := .owner, ctx := true, arg := 255 } → Roomy s q → (s.ctx q.ctx).phase = .idle →
      argFld q 0 8 = 1 → Completes (.evict m q) s (fun t =>
        granuleSum (t.ctx q.ctx).dram ≤ s.settingNow 0x50 q.ctx ∧ (t.ctx q.ctx).base = (s.ctx q.ctx).base))

/-- A start with nothing pending begins the context's first orbit at step 0 of its next router phase, a stop ends at a
boundary, a patch stands until replaced, a job names its modules (03 R91; 13 R376, R377, R384). -/
def Obligations.ContextsStartAndStop : Prop :=
  ∀ (s : State) (m : Nat) (q : Cmd), (s.ctx q.ctx).phase ≠ .free →
    (let c := s.ctx q.ctx
     Serves s m q { op := 0x32, who := .owner, ctx := true } → s.startCheck q.ctx = stOK → s.allStaged q.ctx = false →
      s.mbox.lone = [] → s.mbox.committed = none → c.binds = [] → c.weights.phase ≠ .swapPending →
      c.weights.phase ≠ .swapping → c.replay = {} → c.holds = {} → c.halo.phase = .unpaired →
      c.halo.catchUp = false → Completes (.contextStart m q) s (fun t => (t.ctx q.ctx).phase = .running ∧
        (t.ctx q.ctx).orbit = c.startOrbit.getD 0 ∧ (t.ctx q.ctx).step = 0 ∧ (t.ctx q.ctx).resume = some (s.now, 0))) ∧
    (Serves s m q { op := 0x33, who := .owner, ctx := true } → Roomy s q → (s.ctx q.ctx).phase = .running →
      (s.ctx q.ctx).item ≠ 4 → Completes (.contextStop m q) s (fun t =>
        Answered s m q 0x33 (Defers m q 0x33 q.ctx 0 [] (fun u _ =>
          u.modCtx q.ctx (fun c => { c with phase := .stopping }))) t ∧ (t.ctx q.ctx).phase = .stopping)) ∧
    (Serves s m q { op := 0x35, who := .owner, ctx := true, len := fun n => n % 16 = 0 && decide (n ≤ 1024) } →
      Completes (.patchStage m q) s (fun t =>
        (t.ctx q.ctx).patch = (chunksOf 16 65 q.payload).map (fun b => BitVec.ofNat 128 (maskBits patchFields (natOf b))) ∧
        (t.ctx q.ctx).patchNew = true)) ∧
    (let n := leAt q.payload 0 2
     let layout := ((q.payload.drop 8).take 20).map BitVec.toNat
     Serves s m q { op := 0x36, who := .owner, ctx := true, arg := 2 ^ 32 - 1, len := fun l => l = 32 + 4 * n } →
      0 < n → n ≤ 1012 → argFld q 0 32 ≠ 0 → (∀ v ∈ layout, v ≤ 3) → (s.ctx q.ctx).job.id = 0 →
      s.layoutCheck layout = none → Completes (.jobOpen m q) s (fun t => (t.ctx q.ctx).job.id = argFld q 0 32 ∧
        (t.ctx q.ctx).job.modules = (List.range n).map (fun i => leAt q.payload (32 + 4 * i) 3))) ∧
    (Serves s m q { op := 0x37, who := .owner, ctx := true } → Completes (.jobClose m q) s (fun t =>
      t.ctx q.ctx = { s.ctx q.ctx with job := {} }))

/-- A program image stands staged on every core once its bytes have arrived and pass the load checks, or ends with the
first check's status; a weight load and a weight swap wait for their bytes; arming a replay sets the first orbit, its
parameters and its entries (13 R378; 14 R400, R405, R428). -/
def Obligations.ImagesAndWeightsLoad : Prop :=
  ∀ (s : State) (m x : Nat) (q : Cmd) (b : Bulk),
    let id := argFld q 0 32
    let n := leAt q.payload 0 8
    (HasBulk s m q b → Roomy s q → b.broken = false → (∀ d ∈ s.mbox.deferred, d.key ≠ id) →
      (s.ctx q.ctx).weights.busy = false → (s.ctx q.ctx).halo.phase ≠ .active →
      ((s.ctx q.ctx).phase ≠ .destroying → (s.ctx q.ctx).loading = none →
        Serves s m q { op := 0x40, who := .owner, ctx := true, arg := 2 ^ 32 - 1, len := fun n => n = 8 } →
        Completes (.imageLoad m q) s (fun t => (t.ctx q.ctx).loading = some id ∧
          ∃ d, t.mbox.deferred = s.mbox.deferred ++ [d] ∧ d.opcode = 0x40 ∧ d.aux = n)) ∧
      (0 < n → b.bytes = [] → (s.ctx q.ctx).item ≠ 4 →
        ((s.ctx q.ctx).phase = .idle →
          Serves s m q { op := 0x41, who := .owner, ctx := true, arg := 2 ^ 32 - 1, len := fun n => n = 8 } →
          Completes (.weightLoad m q) s (fun t => (t.ctx q.ctx).weights.busy = true ∧
            (t.ctx q.ctx).weights.conn = id ∧ (t.ctx q.ctx).weights.len = n ∧ (t.ctx q.ctx).weights.swap = false)) ∧
        ((s.ctx q.ctx).active = true → (s.ctx q.ctx).halo.phase ≠ .suspended →
          Serves s m q { op := 0x42, who := .owner, ctx := true, arg := 2 ^ 32 - 1, len := fun n => n = 8 } →
          Completes (.weightSwap m q) s (fun t => (t.ctx q.ctx).weights.busy = true ∧
            (t.ctx q.ctx).weights.conn = id ∧ (t.ctx q.ctx).weights.len = n ∧ (t.ctx q.ctx).weights.swap = true)))) ∧
    (∀ d, s.loadOf x = some d → s.bulk d.key = some b → (s.ctx x).phase ≠ .creating → (s.ctx x).phase ≠ .destroying →
      d.aux ≤ b.bytes.length →
      let v := (s.modCtx x (fun c => { c with loading := none })).bulkTake d.key (some d.aux)
      (∀ st, v.imageCheck x (b.bytes.take d.aux) = .inr st → Completes (.imageReceived x) s (fun t =>
        t = v.finish d.ticket st 0)) ∧
      (∀ dr ba i, v.imageCheck x (b.bytes.take d.aux) = .inl (dr, ba, i) → Completes (.imageReceived x) s (fun t =>
        (t.ctx x).staged = some i ∧ (t.ctx x).dram = dr ∧ (t.ctx x).base = ba ∧ (t.ctx x).loading = none ∧
        ∀ p, p < (s.ctx x).ncores → (t.core ⟨x, p⟩).seq.staged = true))) ∧
    ((s.ctx q.ctx).phase = .idle →
      (let q' := withArg q 0 2 0
       Serves s m q' { op := 0x47, who := .owner, ctx := true, arg := 3, len := fun n => n = 520 } →
        Completes (.replayArmSet m q) s (fun t => (t.ctx q.ctx).replay.armed = true ∧
          (t.ctx q.ctx).replay.orbit = some n ∧ ∀ k, k < 64 →
            (t.ctx q.ctx).replay.pars.getD k 0 = BitVec.ofNat 64 (leAt q.payload (8 + 8 * k) 8))) ∧
      (let q' := withArg q 0 2 1
       let l := chunksOf 256 16 q.payload
       Serves s m q' { op := 0x47, who := .owner, ctx := true, arg := 3,
                       len := fun n => n % 256 = 0 && decide (n ≤ 3840) } →
        (∀ e ∈ l, 2 ≤ leAt e 0 1 ∧ leAt e 0 1 ≤ 4) → (s.ctx q.ctx).replay.entries.length + l.length ≤ 1024 →
        Completes (.replayArmAppend m q) s (fun t =>
          (t.ctx q.ctx).replay.entries = (s.ctx q.ctx).replay.entries ++ l)))

/-! ### Grants, connections, ports, lists -/

/-- A grant takes the lowest free entry and leaves the table when revoked; a receive end waits to bind at its context's
next boundary and a closed end to unbind; a port is retrained; the acknowledged sequence number rises, never past the
last raised (09 R241; 10 R266, R267; 12 R318; 13 R387). -/
def Obligations.GrantsAndEndsOpen : Prop :=
  ∀ (s : State) (m : Nat) (q : Cmd),
    (∀ n, Serves s m q { op := 0x70, who := .owner, arg := 0x1F3F3F } → (s.ctx (argFld q 0 4)).phase ≠ .free →
      (s.ctx (argFld q 0 4)).heldQuads.contains (argFld q 4 2) = false → argFld q 16 5 ≤ 16 → s.grantRoom = some n →
      n ≤ s.grants.length → Completes (.grantIssue m q) s (fun t => ∃ g, t.grants[n]? = some g ∧ g.valid = true ∧
        g.ctx = argFld q 0 4 ∧ g.quad = argFld q 4 2 ∧ g.seamLanes = argFld q 8 6 ∧ g.linkLanes = argFld q 16 5 ∧
        g.master = m)) ∧
    (∀ g, Serves s m q { op := 0x71, who := .owner, arg := 63 } → s.grants[argFld q 0 6]? = some g → g.valid = true →
      (s.entered m q 0x71).grantServes g true = false → Completes (.grantRevoke m q) s (fun t => g ∉ t.grants)) ∧
    (let b := Bind.ofBytes q.payload
     let u := s.entered m q 0x72
     Serves s m q { op := 0x72, who := .owner, ctx := true, len := fun n => n = specLength q.payload } → Roomy s q →
      b.send = false → b.core ≠ 2047 → u.openStart q.ctx b (fld (leAt q.payload 0 8) 4 4) = stOK →
      Completes (.connOpen m q) s (fun t => ∃ b', (t.ctx q.ctx).binds = (s.ctx q.ctx).binds ++ [b'] ∧ b'.unbind = false ∧
        b'.core = b.core ∧ b'.ep = b.ep ∧ b'.connId = b.connId)) ∧
    (∀ b, Serves s m q { op := 0x73, who := .owner, ctx := true, arg := 0x1F7FF } → (s.ctx q.ctx).phase ≠ .free →
      argFld q 0 11 < (s.ctx q.ctx).ncores →
      s.closing q.ctx (argFld q 0 11) (argFld q 12 4) (bit q.arg.toNat 16) = some b →
      (∀ o ∈ (s.ctx q.ctx).binds, o.unbind = false) → Completes (.connClose m q) s (fun t =>
        (t.ctx q.ctx).binds = (s.ctx q.ctx).binds ++ [b])) ∧
    (let p := argFld q 0 5
     Serves s m q { op := 0x74, who := .owner, arg := 31 } → p < 20 → s.pendingS [0x10, 0x11, 0x12, 0x13, 0x14] = false →
      s.role p ≠ 0 → s.code ≠ 16777215 → Completes (.portRetrain m q) s (fun t => (t.port p).phase = .training ∧
        (t.port p).train = .signal ∧ (t.port p).width = 0)) ∧
    (Serves s m q { op := 0x81, who := .ownerOrBoard, early := true, arg := 2 ^ 32 - 1 } →
      Completes (.eventAck m q) s (fun t => t.events.held = s.events.held ∧
        t.events.ackSeq = Nat.min (Nat.max (argFld q 0 32) s.events.ackSeq) (s.events.nextSeq - 1)))

/-- Anchors are installed at the lowest free place and removed when no weights use them; the field repair list takes an
entry and gives one up by a store to flash; a following ledger read stands; an attestation uses the identity key's next
index; a firmware copy waits for its bytes or takes its next chunk (14 R399, R425, R430; 15 R438, R441). -/
def Obligations.TrustCommands : Prop :=
  ∀ (s : State) (m : Nat) (q : Cmd),
    (∀ n, Serves s m q { op := 0x43, who := .owner, len := fun n => n = 76 } → s.anchorRoom = some n →
      oidOk (keyOid (q.payload.drop 8)) = true → Completes (.anchorInstall m q) s (fun t =>
        t.anchors.get {} n = { id := leAt q.payload 0 4, mask := leAt q.payload 4 2, valid := true,
                               key := q.payload.drop 8, installed := s.now } ∧
        ∀ k, k ≠ n → t.anchors.get {} k = s.anchors.get {} k)) ∧
    (let q' := withArg q 0 1 1
     let n := argFld q' 8 4
     Serves s m q' { op := 0x44, who := .owner, arg := 0xF01 } → (s.anchors.get {} n).valid = true →
      (∀ x, x < 16 → (s.ctx x).weights.usesAnchor n = false) → Completes (.anchorRemove m q) s (fun t =>
        t.anchors.get {} n = {} ∧ ∀ k, k ≠ n → t.anchors.get {} k = s.anchors.get {} k)) ∧
    (let q' := withArg q 0 1 1
     Serves s m q' { op := 0x94, who := .owner, arg := 1, len := fun n => n = 8 } → s.repairs.length < 1024 →
      Completes (.fieldRepairAdd m q) s (fun t =>
        t.repairs = s.repairs ++ [repairEntry (BitVec.ofNat 64 (leAt q.payload 0 8)) 0])) ∧
    (let q' := withArg q 0 1 0
     let e := BitVec.ofNat 64 (leAt q.payload 0 8)
     Serves s m q' { op := 0x94, who := .owner, arg := 1, len := fun n => n = 8 } → bit e.toNat 4 = true →
      s.repairs.contains e = true → Completes (.fieldRepairRemove m q) s (fun t => t.repairs = s.repairs.erase e)) ∧
    (Serves s m q { op := 0x45, who := .all, arg := 2 ^ 37 - 1 + 2 ^ 40, len := fun n => n = 16 } → s.isG = true →
      m ≠ 0 → argFld q 32 5 ≤ 16 → s.bulkOpen (argFld q 0 32) = true → s.ledger.reads = [] → s.ledger.held = [] →
      s.flash.spill = [] → bit q.arg.toNat 40 = true → Completes (.ledgerRead m q) s (fun t =>
        ∃ r, t.ledger.reads = [r] ∧ r.conn = argFld q 0 32 ∧ r.stream = argFld q 32 5 ∧ r.follow = true)) ∧
    (Serves s m q { op := 0x46, who := .all, arg := 2 ^ 37 - 1, len := fun n => n = 32 } → m ≠ 0 →
      s.bulkOpen (argFld q 0 32) = true → (∀ d ∈ s.mbox.deferred, d.opcode ≠ 0x46) →
      s.flash.identityKey.ready (2 ^ 40) = true → Completes (.attest m q) s (fun t =>
        t.flash.identityKey = { s.flash.identityKey with next := s.flash.identityKey.next + 1 })) ∧
    (∀ b, let q' := withArg q 0 1 0
     let n := leAt q.payload 0 8
     Serves s m q' { op := 0xA0, who := .owner, early := true, arg := 2 ^ 64 - 2 ^ 32 + 1, len := fun n => n = 8 } →
      m ≠ 0 → s.bulk (argFld q' 32 32) = some b → b.broken = false → b.bytes.length < n →
      (∀ d ∈ s.mbox.deferred, d.ticket ≠ s.mbox.tickets + 1) → Completes (.fwStageBulk m q) s
        (Answered s m q' 0xA0 (Defers m (noCtx q') 0xA0 (argFld q' 32 32) n [] (fun u _ => u)))) ∧
    (let q' := withArg q 0 1 1
     let o := leAt q.payload 0 8
     Serves s m q' { op := 0xA0, who := .owner, early := true, rom := true, arg := 3, len := fun n => decide (8 ≤ n) } →
      o ≤ s.boot.staging.length → bit q'.arg.toNat 1 = false → Completes (.fwStageChunk m q) s (fun t =>
        t.boot.staging = putBytes (padTo (Nat.max s.boot.staging.length (o + (q.payload.length - 8))) s.boot.staging) o
          (q.payload.drop 8)))

/-! ### The halo partner -/

/-- HALO_STANDBY makes the record of a standby; HALO_PAIR and HALO_RESUME ask the partner (its answer is a free value), and
where it agrees and a tag is left on the halo port's bundle the pairing is made, or resumed, and its mirror circuit is
being opened; where it does not the record stands. HALO_UNPAIR clears the record, and so does CLOSE of the mirror circuit
by the partner; BREAK of it suspends the pairing. A standby takes items in order, and TAKEOVER begins at its newest
checkpoint where no later orbit is mirrored; the mirrored module drops what is acknowledged (15 R460, R463-R465, R468,
R469). That BREAK suspends is the model's choice (log 170). -/
def Obligations.HaloPartners : Prop :=
  ∀ (s : State) (m : Nat) (q : Cmd), (s.ctx q.ctx).phase ≠ .free →
    let x := q.ctx
    let h := (s.ctx x).halo
    let code := leAt q.payload 0 3
    let n := leAt q.payload 3 1
    let pair := argFld q 0 32
    let tagLeft := ((List.range 20).find? (fun p => s.role p = 5)).bind (fun p => s.takeTag p) ≠ none
    let opens := fun (id : Nat) (t : State) => ∃ o ∈ t.links.openings, o.ctx = x ∧ o.bind.core = 2047 ∧ o.bind.send = true ∧
      o.bind.connId = id
    (let regions := regionsAt q.payload 32 n
     let buffers := [8, 16, 24].map (bufferAt q.payload)
     Serves s m q { op := 0x96, who := .owner, ctx := true, arg := 2 ^ 32 - 1, len := pairLen q 32 } →
      regionsOk n regions = true → s.pairOk x code regions buffers = true → Completes (.haloStandby m q) s (fun t =>
        (t.ctx x).halo = { standby := true, partner := code, pairId := pair, regions, buffers })) ∧
    (let regions := regionsAt q.payload 16 n
     let buffers := [bufferAt q.payload 8]
     Serves s m q { op := 0x95, who := .owner, ctx := true, arg := 2 ^ 32 - 1, len := pairLen q 16 } → Roomy s q →
      regionsOk n regions = true → h.standby = false → s.pairOk x code regions buffers = true →
      (Config.partnerAgrees pair s.power.draws = true → tagLeft → Completes (.haloPair m q) s (fun t =>
        (t.ctx x).halo = { phase := .active, partner := code, pairId := pair, regions, buffers } ∧ opens pair t)) ∧
      (Config.partnerAgrees pair s.power.draws = false → Completes (.haloPair m q) s (fun t => (t.ctx x).halo = h))) ∧
    (Serves s m q { op := 0x97, who := .owner, ctx := true } → h.phase ≠ .unpaired ∨ h.standby = true →
      h.catchUp = false → (s.ctx x).item = 0 → Completes (.haloUnpair m q) s (fun t => (t.ctx x).halo = {})) ∧
    (∀ c, Serves s m q { op := 0x98, who := .owner, ctx := true } → Roomy s q → h.standby = true →
      h.phase = .active ∨ h.phase = .suspended → h.newest = some c → h.mirrorPoint = none → h.resume = false →
      (s.ctx x).phase = .idle → s.allStaged x = false → ckptBinds c.bytes = 0 → ckptSems c.bytes = 0 →
      ckptSets c.bytes = 0 → Completes (.takeover m q) s (fun t => (t.ctx x).halo.phase = .takenOver ∧
        (t.ctx x).orbit = ckptOrbitOf c.bytes ∧ (t.ctx x).phase = .idle)) ∧
    (Serves s m q { op := 0x99, who := .owner, ctx := true } → Roomy s q → h.standby = false → h.phase = .suspended →
      h.resume = false → s.haloReady x h.partner = true →
      (Config.partnerAgrees h.pairId s.power.draws = true → tagLeft → Completes (.haloResume m q) s (fun t =>
        (t.ctx x).halo = { h with resume := true, ticket := s.mbox.tickets + 1, slot := m, ckpts := [], items := [] } ∧
        opens h.pairId t)) ∧
      (Config.partnerAgrees h.pairId s.power.draws = false → Completes (.haloResume m q) s (fun t =>
        (t.ctx x).halo = h))) ∧
    (∀ p f, x < 16 → flitAt f 1 4 = h.pairId → s.role p = 5 → (s.port p).partner = h.partner → h.catchUp = false →
      h.phase = .active ∨ h.phase = .suspended → (s.ctx x).item = 0 →
      (∀ y, y < 16 → y ≠ x → (s.ctx y).halo.pairId ≠ h.pairId) →
      (∀ k, s.bulk h.pairId = some k → s.ledger.reads = [] ∧ (∀ d ∈ s.mbox.deferred, d.key ≠ h.pairId) ∧
        ((s.ctx k.ctx).weights.busy = false ∨ (s.ctx k.ctx).weights.conn ≠ h.pairId)) →
      Completes (.closeFlit p f) s (fun t => (t.ctx x).halo = {} ∧ ∀ c ∈ t.links.circuits, c.connId ≠ h.pairId) ∧
      Completes (.breakFlit p f) s (fun t => (∀ c ∈ t.links.circuits, c.connId ≠ h.pairId) ∧
        (h.phase = .suspended → (t.ctx x).halo = h) ∧
        (h.phase = .active → (t.ctx x).halo = { h with phase := .suspended, out := [], ckptOpen := false }))) ∧
    (∀ b, HasBulk s m q b → Roomy s q → b.broken = false → b.bytes = [] → (s.ctx x).weights.busy = false →
      (∀ d ∈ s.mbox.deferred, d.key ≠ pair) → (s.ctx x).phase = .idle → (s.ctx x).image ≠ none →
      Serves s m q { op := 0x9A, who := .owner, ctx := true, arg := 2 ^ 32 - 1, len := fun n => n = 32 } →
      Completes (.checkpointRestore m q) s
        (Answered s m q 0x9A (Defers m q 0x9A pair 0 q.payload (fun u _ => u)))) ∧
    (∀ b, Serves s m q { op := 0x9B, who := .all, ctx := true, arg := 2 ^ 32 - 1 } → Roomy s q → m ≠ 0 →
      s.bulkOpen pair = true → s.heldCkpt x = some b → Completes (.checkpointRead m q) s
        (Answered s m q 0x9B (Defers m q 0x9B pair 0 [] (fun u t => (u.sendBulk pair b).finish t stOK 0)))) ∧
    (∀ (id : BitVec 32) (y : Nat), (List.range 16).find? (fun x => s.takesItems x id.toNat) = some y →
      (s.ctx y).halo.standby = true → (s.ctx y).halo.phase = .active → (s.ctx y).halo.resume = false →
      (∀ o p, Completes (.mirrorItem id (.boundary o p)) s (fun t =>
        (t.ctx y).halo.items = (s.ctx y).halo.items ++ [.boundary o p])) ∧
      (∀ o r, Completes (.mirrorItem id (.orbitEnd o r)) s (fun t =>
        (t.ctx y).halo.mirrorPoint = some (Nat.max o ((s.ctx y).halo.mirrorPoint.getD 0))))) ∧
    (∀ (id : BitVec 32) (y o : Nat) (r : List Byte),
      (List.range 16).find? (fun x => s.mirrored x && (s.ctx x).halo.pairId = id.toNat) = some y →
      (s.ctx y).halo.out = [.orbitEnd o r] → (s.ctx y).item = 0 → Completes (.mirrorAck id o none) s (fun t =>
        (t.ctx y).halo.out = [] ∧
        (t.ctx y).halo.mirrorPoint = some (Nat.max o ((s.ctx y).halo.mirrorPoint.getD 0))))

/-! ### Recoveries -/

/-- A fault is reported, and with AUTO_RECOVER its recovery begins; RESET begins one; with every affected context
standing the unit is reset to its first state, the stages repeated for it leave the recovery running, and it ends with
its event; out of time a forced recovery cuts what does
not stand; the watchdog resets the module (15 R446-R455). -/
def Obligations.RecoveriesRun : Prop :=
  ∀ (s : State) (m t0 : Nat) (q : Cmd) (r : Recovery),
    let v := s.atTick t0
    (let a := (argFld q 0 3, argFld q 4 12)
     Serves s m q { op := 0x90, who := .owner, rom := true, arg := 0x1FFF7 } → s.boot.rom = false →
      s.recovery.running = none → s.resetTarget a = true → a.1 ≠ 2 → Completes (.resetCmd m q) s (fun t =>
        ∃ r, t.recovery.running = some r ∧ r.scope = a.1 ∧ r.target = a.2 ∧ r.step = 2 ∧ r.kind = 0 ∧
          ∀ x ∈ s.affected a, (t.ctx x).holds.eclipse = true)) ∧
    (s.mcRuns = true → s.power.compute = true → s.setting 0x71 0 = 0 →
      (∀ c, c < 1152 → Completes (.coreFault c t0) s (fun t => t = v.raise 0x110 none c (pack [(4, 1), (2, 0)]))) ∧
      (∀ d k, d < 16 → k < 9 → Completes (.clusterFault d k t0) s (fun t =>
        t = v.raise 0x110 none (9 * d + k) (pack [(4, 2), (2, 1)]))) ∧
      (∀ d, d < 20 → Completes (.paceFault d t0) s (fun t =>
        t = v.raise 0x110 none (if d < 16 then d / 4 else d - 16) (pack [(4, 3), (2, 2)]))) ∧
      (∀ d, d < 4 → Completes (.baseFault d t0) s (fun t => t = v.raise 0x110 none d (pack [(4, 4), (2, 2)]))) ∧
      (∀ d, d < 16 → Completes (.stackFault d t0) s (fun t => t = v.raise 0x110 none (d / 4) (pack [(4, 5), (2, 2)]))) ∧
      Completes (.seamFault t0) s (fun t => t = v.raise 0x110 none 0 (pack [(4, 6), (2, 3)]))) ∧
    (s.mcRuns = true → s.power.compute = true → s.setting 0x71 0 = 1 → s.firmwareRuns = true →
      s.recovery.running = none →
      (∀ c, c < 1152 → v.faultsAgain c = false → Completes (.coreFault c t0) s (fun t => ∃ r,
        t.recovery.running = some r ∧ r.kind = 1 ∧ r.scope = 0 ∧ r.target = c ∧ r.step = 2)) ∧
      (∀ d k, d < 16 → k < 9 → Completes (.clusterFault d k t0) s (fun t => ∃ r,
        t.recovery.running = some r ∧ r.kind = 2 ∧ r.scope = 1 ∧ r.target = 9 * d + k ∧ r.step = 2)) ∧
      Completes (.seamFault t0) s (fun t => ∃ r, t.recovery.running = some r ∧ r.kind = 6 ∧ r.scope = 3 ∧ r.step = 2)) ∧
    (s.mcRuns = true → Completes (.mcWatchdog t0) s (fun t => t.ctxs = [] ∧ t.cores = [] ∧ t.mem = [] ∧
      t.boot = {} ∧ t.events.nextSeq = 2 ∧ t.fuses = s.fuses ∧ t.ledger.held = s.ledger.held)) ∧
    (s.recovery.running = some r →
      (r.step = 2 → r.scope = 0 → s.affected r.area = [] → s.recovery.queue = [] → Completes (.eclipseFrozen) s (fun t =>
        t.recovery.running = some { r with step := 5 } ∧ t.coreAt r.target = {} ∧
        ∀ a, a < 524288 → Memory.byte t.mem (coreAddr r.target 0 + a) = 0)) ∧
      (r.step = 2 → r.forced = true → (∀ x ∈ s.affected r.area, ∀ z, (s.ctx x).freeze = some z → z.settled = true) →
        (∃ x ∈ s.affected r.area, (s.ctx x).stands = false) →
        (r.since + s.setting 0x70 0 ≤ v.now → Completes (.eclipseBudgetExpiry t0) s (fun t =>
          (∀ x ∈ s.affected r.area, (t.ctx x).stands = true) ∧
          ∃ k, t.recovery.running = some { r with cutMask := k })) ∧
        (v.now < r.since + s.setting 0x70 0 → Completes (.eclipseBudgetExpiry t0) s (fun t => t = v))) ∧
      (r.step = 5 → r.scope ≠ 2 → (r.scope = 3 → s.boot.phase = 1) → (r.scope ≠ 3 → s.affected r.area = []) →
        s.recovery.queue = [] → (∀ x, (s.ctx x).holds.eclipse = false) → Completes (.resetRestoreDone) s (fun t =>
          t.recovery.running = none ∧ s.events.nextSeq < t.events.nextSeq)) ∧
      (r.step = 5 → r.scope ≠ 3 → s.boot.phase = 1 → ∀ found, Completes (.bringupStageEnd found) s (fun t =>
        t.recovery.running = some r ∧ (found.failed = [] → found.defects = [] → t.repairs = s.repairs ∧ t.boot = s.boot))))

/-! ### Bring-up and power -/

/-- A stage that ends well gives way to the next and the last makes the module ready; stages 1 to 3 fail at their limit,
and stage 4 ends unconfigured; the pins of module reset and power, the loss of input, heat and the hold-up bank act as
their rules say (15 R433, R434; 16 R474-R487). -/
def Obligations.PowerAndBringUp : Prop :=
  ∀ (s : State) (r : StageReport) (e t0 : Nat),
    let u := s.atTick t0
    (s.bringingUp = true →
      (s.boot.stage = 2 → r.ok = true → Completes (.bringupStageEnd r) s (fun t => t.boot.stage = 3 ∧ t.domains = [])) ∧
      (s.boot.stage = 2 → r.ok = false → Completes (.bringupStageEnd r) s (fun t => t.boot.phase = 2)) ∧
      (s.boot.stage = 4 → s.code ≠ 16777215 → Completes (.bringupStageEnd r) s (fun t => t.boot.stage = 5)) ∧
      (s.boot.stage = 5 → r.failed = [] → r.defects = [] → Completes (.bringupStageEnd r) s (fun t =>
        t.boot.phase = 1 ∧ t.boot.readyTick = s.now ∧ t.cores = [])) ∧
      (s.boot.stage ≤ 3 → Completes (.stageLimitExpiry r) s (fun t => t.boot.phase = 2)) ∧
      (s.boot.stage = 4 → s.code = 16777215 → Completes (.linksUnconfigured) s (fun t =>
        t.boot.stage = 5 ∧ t.boot.unconfigured = true))) ∧
    (∀ sel, s.power.modReset = true → Completes (.modResetNRelease sel e) s (fun t =>
      t.power.modReset = false ∧ t.power.sbI3c = sel)) ∧
    (s.power.modReset = false → s.power.management = true → s.power.sealing = false →
      Completes (.modResetNAssert) s (fun t => t.power.modReset = true ∧ t.ctxs = [] ∧ t.mem = [] ∧ t.boot = {})) ∧
    (s.power.pwrEn = false →
      (s.power.management = true → Completes (.pwrEnAssert e) s (fun t => t = { s with power := { s.power with pwrEn := true } })) ∧
      (s.power.management = false → Completes (.pwrEnAssert e) s (fun t => t.power.management = true ∧
        t.power.compute = true ∧ t.power.modReset = true ∧ t.boot = {} ∧ t.fuses = s.fuses))) ∧
    (∀ cause : BitVec 2, cause.toNat ≤ 2 → s.power.management = true → s.power.halted = false →
      s.power.sealing = false → Completes (.inputPowerFail cause e t0) s (fun t => t.power.compute = false ∧
        t.power.powerGood = false ∧ t.power.energy = e ∧ t.cores = [] ∧ t.mem = [] ∧ t.drams = [])) ∧
    (∀ b, s.power.sealing = true → s.firstBatch = some b → Completes (.emergencySealDone e) s (fun t =>
      t.ledger.closed = s.ledger.closed.erase b ∧ ∃ b', t.flash.spill = s.flash.spill ++ [b'] ∧
        b'.stream = b.stream ∧ b'.entries = b.entries ∧ b'.spilled = true ∧ b'.sigIndex = s.flash.ledgerKey.next)) ∧
    (s.power.management = true → s.power.halted = false → 3000 ≤ e → Completes (.holdupBankCharged e) s (fun t =>
      t.power.energy = e ∧ t.power.holdupOk = true)) ∧
    (∀ i temp, i < 36 →
      (s.mcRuns = true → Completes (.thermalSample i temp t0) s (fun t => t.power.temps.get 0 i = temp ∧
        (tempThrottle i ≤ temp → i ∈ t.power.throttled) ∧ (temp ≤ tempThrottle i - 8 → i ∉ t.power.throttled))) ∧
      (s.power.compute = true →
        (tempTrip i ≤ temp → Completes (.thermalTrip i temp t0) s (fun t => t.power.compute = false ∧
          t.power.tripLatch = true ∧ t.cores = [] ∧ t.mem = [])) ∧
        (temp < tempTrip i → Completes (.thermalTrip i temp t0) s (fun t => t = u))))

/-! ### Ledger, flash, pins -/

/-- An open batch closes 1 ms after its first entry; the first closed batch is signed under the key's next index and
held; the guard lets a store begin where it finds three times its energy, and a store that ends takes effect; the TAP
takes its instruction; a message of the vendor's waits in slot 0 as its command, a request for the FRU record or for one
of the 41 sensors is answered
(13 R345; 14 R417, R418, R422, R423; 16 R489). -/
def Obligations.LedgerFlashAndPins : Prop :=
  ∀ (s : State) (k t0 energy : Nat),
    let u := s.atTick t0
    (∀ e l g, (s.lstream k).opened = e :: l → s.sealGap k = some g → s.isG = true →
      (e.tick + 1000000 ≤ u.now → (s.lstream k).lastClose = 0 ∨ (s.lstream k).lastClose + g ≤ u.now →
        Completes (.batchCloseTimer k t0) s (fun t => (t.lstream k).opened = [] ∧ (t.lstream k).lastClose = u.now ∧
          ∃ b, t.ledger.closed = s.ledger.closed ++ [b] ∧ b.stream = k ∧ b.entries = e :: l ∧ b.closeTick = u.now)) ∧
      (u.now < e.tick + 1000000 → Completes (.batchCloseTimer k t0) s (fun t => t = u))) ∧
    (∀ b l, s.power.sealing = false → s.ledger.closed = b :: l → b.delivered = false → s.isG = true →
      s.flash.ledgerKey.ready (2 ^ 60) = true → s.sealedUse + b.size ≤ sealedArea → s.ledger.reads = [] →
      (∀ x, (s.ctx x).holds.ledger = false) → Completes (.sealSigned) s (fun t => t.ledger.closed = l ∧
        t.flash.ledgerKey.next = s.flash.ledgerKey.next + 1 ∧
        (t.lstream b.stream).sealNo = (s.lstream b.stream).sealNo + 1 ∧
        ∃ b' ∈ t.ledger.held, b'.entries = b.entries ∧ b'.sealNo = (s.lstream b.stream).sealNo ∧
          b'.sigIndex = s.flash.ledgerKey.next)) ∧
    (∀ w l, s.power.halted = false → s.power.sealing = false → s.flash.storing = none → s.flash.waiting = w :: l →
      (w.need ≤ energy → Completes (.holdupGuardConfirm energy) s (fun t => t.flash.storing = some w ∧
        t.flash.waiting = l ∧ t.power.energy = energy)) ∧
      (energy < w.need → Completes (.holdupGuardConfirm energy) s (fun t => t.flash = s.flash ∧
        t.power.energy = energy))) ∧
    (∀ n, s.flash.storing = some (.ledgerIndex n) → Completes (.flashStoreDone) s (fun t => t.flash.storing = none ∧
      t.flash.ledgerKey.bound = Nat.max n s.flash.ledgerKey.bound)) ∧
    (∀ n, s.flash.storing = some (.bootCount n) → Completes (.flashStoreDone) s (fun t => t.flash.storing = none ∧
      t.flash.bootCount = n)) ∧
    (∀ l, s.flash.storing = some (.repairs l) → Completes (.flashStoreDone) s (fun t => t.flash.storing = none ∧
      t.flash.repairs = l)) ∧
    (s.power.management = true → s.power.trst = false →
      Completes (.tapExtest) s (fun t => t.power.ir = if s.power.modReset then 3 else 1) ∧
      Completes (.tapSamplePreload) s (fun t => t.power.ir = if s.power.modReset then 2 else 1) ∧
      Completes (.tapBypass) s (fun t => t.power.ir = 1) ∧ Completes (.tapIdcode) s (fun t => t.power.ir = 0)) ∧
    (∀ low, Completes (.trstN low) s (fun t => t.power.trst = low ∧ (low = true → t.power.ir = 0))) ∧
    (∀ body, s.mcRuns = true → (s.slot 0).busy = false → 16 ≤ body.length → body.length ≤ 4096 →
      Completes (.mctpMessage Config.vendorId body) s (fun t => (t.slot 0).posted = true ∧ (t.slot 0).command = body)) ∧
    (∀ vendor body, vendor ≠ Config.vendorId → Completes (.mctpMessage vendor body) s (fun t => t = s)) ∧
    (s.power.management = true → s.power.halted = false →
      Completes (.pldmRequest .fru) s (fun t => t.mbox.fru = s.fruRecord) ∧
      (∀ i, i ≤ 40 → Completes (.pldmRequest (.sensor i)) s (fun t => (i, s.sensor i) ∈ t.mbox.pldm)) ∧
      (∀ i, 40 < i → Completes (.pldmRequest (.sensor i)) s (fun t => t = s)))
end

