-- ==== Sys2Proof/Laws/Bits.lean ====
section
/-! SUPPORT. Lanes and bits: what a register made of lanes reads as. -/
namespace Sys2Proof

/-- A bit of values laid side by side is a bit of one of them. -/
theorem testBit_joinBits (w : Nat) (hw : 0 < w) (l : List Nat) (i : Nat) :
    (joinBits w l).testBit i = (l.getD (i / w) 0).testBit (i % w) := by
  induction l generalizing i with
  | nil => simp [joinBits]
  | cons x r ih =>
    have e : joinBits w (x :: r) = 2 ^ w * joinBits w r + x % 2 ^ w := by
      simp [joinBits, Nat.shiftLeft_eq, Nat.mul_comm, Nat.add_comm]
    rw [e, Nat.testBit_two_pow_mul_add _ (Nat.mod_lt _ (Nat.two_pow_pos w))]
    by_cases h : i < w
    · simp [h, Nat.div_eq_of_lt h, Nat.mod_eq_of_lt h, Nat.testBit_mod_two_pow]
    · have h1 : i / w = (i - w) / w + 1 := by
        rw [Nat.div_eq_sub_div hw (by omega)]
      have h2 : i % w = (i - w) % w := by
        rw [Nat.mod_eq_sub_mod (by omega)]
      simp [h, ih, h1, h2]

theorem joinBits_lt (w : Nat) (l : List Nat) : joinBits w l < 2 ^ (w * l.length) := by
  induction l with
  | nil => simp [joinBits]
  | cons x r ih =>
    have e : joinBits w (x :: r) = 2 ^ w * joinBits w r + x % 2 ^ w := by
      simp [joinBits, Nat.shiftLeft_eq, Nat.mul_comm, Nat.add_comm]
    rw [e, List.length_cons, Nat.mul_add, Nat.mul_one, Nat.add_comm (w * _), Nat.pow_add]
    have hm : x % 2 ^ w < 2 ^ w := Nat.mod_lt _ (Nat.two_pow_pos w)
    calc 2 ^ w * joinBits w r + x % 2 ^ w < 2 ^ w * joinBits w r + 2 ^ w := by omega
      _ = 2 ^ w * (joinBits w r + 1) := by rw [Nat.mul_add, Nat.mul_one]
      _ ≤ 2 ^ w * 2 ^ (w * r.length) := Nat.mul_le_mul_left _ ih

theorem testBit_fld (w lo len i : Nat) : (fld w lo len).testBit i = (decide (i < len) && w.testBit (lo + i)) := by
  simp [fld, Nat.testBit_mod_two_pow, Nat.testBit_shiftRight]

/-- Lane `i` of a register made of at most 256 values is the value, cut to 32 bits. -/
theorem laneOf_vregOf (l : List Nat) (hl : l.length ≤ 256) (i : Nat) : laneOf (vregOf l) i = l.getD i 0 % 2 ^ 32 := by
  have h : joinBits 32 l < 2 ^ 8192 :=
    Nat.lt_of_lt_of_le (joinBits_lt 32 l) (Nat.pow_le_pow_right (by decide) (by omega))
  apply Nat.eq_of_testBit_eq
  intro j
  simp only [laneOf, vregOf, BitVec.toNat_ofNat, Nat.mod_eq_of_lt h, testBit_fld, testBit_joinBits 32 (by decide),
    Nat.testBit_mod_two_pow]
  by_cases hj : j < 32
  · have h1 : (32 * i + j) / 32 = i := by omega
    have h2 : (32 * i + j) % 32 = j := by omega
    simp [hj, h1, h2]
  · simp [hj]

/-- A lane is a 32-bit number. -/
theorem laneOf_lt (v : VReg) (l : Nat) : laneOf v l < 2 ^ 32 := Nat.mod_lt _ (by decide)

namespace Machine

theorem getD_range_map (f : Nat → Nat) (l : Nat) (h : l < 256) : ((List.range 256).map f).getD l 0 = f l := by
  simp [List.getD, h]

/-- What `lanesOut` writes, lane by lane (06 R154). -/
theorem lanesOut_lane (f : VectorField) (m : Mask) (v : List Nat) (l : Nat) (h : l < 256) :
    laneOf (lanesOut f m v).en l = (if bit m.toNat l || f.mz then 2 ^ 32 - 1 else 0) ∧
    laneOf (lanesOut f m v).data l = (if bit m.toNat l then v.getD l 0 % 2 ^ 32 else 0) := by
  constructor
  · simp only [lanesOut]
    rw [laneOf_vregOf _ (by simp), getD_range_map _ l h]
    split <;> simp
  · simp only [lanesOut]
    rw [laneOf_vregOf _ (by simp), getD_range_map _ l h]
    split <;> simp

end Machine
end Sys2Proof
end

