-- ==== Sys2Proof/Laws/State.lean ====
section
/-! SUPPORT. What each update of the state leaves alone: one lemma per field and update, all true by definition. -/
namespace Sys2Proof.Machine
open Sys2Proof
variable (s : State)

/-! ### setCtx -/

@[simp] theorem State.setCtx_pending (x : Nat) (c : Ctx) : (s.setCtx x c).pending = s.pending := rfl
@[simp] theorem State.setCtx_time (x : Nat) (c : Ctx) : (s.setCtx x c).time = s.time := rfl
@[simp] theorem State.setCtx_domains (x : Nat) (c : Ctx) : (s.setCtx x c).domains = s.domains := rfl
@[simp] theorem State.setCtx_calendar (x : Nat) (c : Ctx) : (s.setCtx x c).calendar = s.calendar := rfl
@[simp] theorem State.setCtx_events (x : Nat) (c : Ctx) : (s.setCtx x c).events = s.events := rfl
@[simp] theorem State.setCtx_cores (x : Nat) (c : Ctx) : (s.setCtx x c).cores = s.cores := rfl
@[simp] theorem State.setCtx_mem (x : Nat) (c : Ctx) : (s.setCtx x c).mem = s.mem := rfl
@[simp] theorem State.setCtx_drams (x : Nat) (c : Ctx) : (s.setCtx x c).drams = s.drams := rfl
@[simp] theorem State.setCtx_base (x : Nat) (c : Ctx) : (s.setCtx x c).base = s.base := rfl
@[simp] theorem State.setCtx_hubs (x : Nat) (c : Ctx) : (s.setCtx x c).hubs = s.hubs := rfl
@[simp] theorem State.setCtx_grants (x : Nat) (c : Ctx) : (s.setCtx x c).grants = s.grants := rfl
@[simp] theorem State.setCtx_links (x : Nat) (c : Ctx) : (s.setCtx x c).links = s.links := rfl
@[simp] theorem State.setCtx_mbox (x : Nat) (c : Ctx) : (s.setCtx x c).mbox = s.mbox := rfl
@[simp] theorem State.setCtx_fuses (x : Nat) (c : Ctx) : (s.setCtx x c).fuses = s.fuses := rfl
@[simp] theorem State.setCtx_anchors (x : Nat) (c : Ctx) : (s.setCtx x c).anchors = s.anchors := rfl
@[simp] theorem State.setCtx_ledger (x : Nat) (c : Ctx) : (s.setCtx x c).ledger = s.ledger := rfl
@[simp] theorem State.setCtx_flash (x : Nat) (c : Ctx) : (s.setCtx x c).flash = s.flash := rfl
@[simp] theorem State.setCtx_boot (x : Nat) (c : Ctx) : (s.setCtx x c).boot = s.boot := rfl
@[simp] theorem State.setCtx_recovery (x : Nat) (c : Ctx) : (s.setCtx x c).recovery = s.recovery := rfl
@[simp] theorem State.setCtx_power (x : Nat) (c : Ctx) : (s.setCtx x c).power = s.power := rfl

/-! ### modCtx -/

@[simp] theorem State.modCtx_pending (x : Nat) (f : Ctx → Ctx) : (s.modCtx x f).pending = s.pending := rfl
@[simp] theorem State.modCtx_time (x : Nat) (f : Ctx → Ctx) : (s.modCtx x f).time = s.time := rfl
@[simp] theorem State.modCtx_domains (x : Nat) (f : Ctx → Ctx) : (s.modCtx x f).domains = s.domains := rfl
@[simp] theorem State.modCtx_calendar (x : Nat) (f : Ctx → Ctx) : (s.modCtx x f).calendar = s.calendar := rfl
@[simp] theorem State.modCtx_events (x : Nat) (f : Ctx → Ctx) : (s.modCtx x f).events = s.events := rfl
@[simp] theorem State.modCtx_cores (x : Nat) (f : Ctx → Ctx) : (s.modCtx x f).cores = s.cores := rfl
@[simp] theorem State.modCtx_mem (x : Nat) (f : Ctx → Ctx) : (s.modCtx x f).mem = s.mem := rfl
@[simp] theorem State.modCtx_drams (x : Nat) (f : Ctx → Ctx) : (s.modCtx x f).drams = s.drams := rfl
@[simp] theorem State.modCtx_base (x : Nat) (f : Ctx → Ctx) : (s.modCtx x f).base = s.base := rfl
@[simp] theorem State.modCtx_hubs (x : Nat) (f : Ctx → Ctx) : (s.modCtx x f).hubs = s.hubs := rfl
@[simp] theorem State.modCtx_grants (x : Nat) (f : Ctx → Ctx) : (s.modCtx x f).grants = s.grants := rfl
@[simp] theorem State.modCtx_links (x : Nat) (f : Ctx → Ctx) : (s.modCtx x f).links = s.links := rfl
@[simp] theorem State.modCtx_mbox (x : Nat) (f : Ctx → Ctx) : (s.modCtx x f).mbox = s.mbox := rfl
@[simp] theorem State.modCtx_fuses (x : Nat) (f : Ctx → Ctx) : (s.modCtx x f).fuses = s.fuses := rfl
@[simp] theorem State.modCtx_anchors (x : Nat) (f : Ctx → Ctx) : (s.modCtx x f).anchors = s.anchors := rfl
@[simp] theorem State.modCtx_ledger (x : Nat) (f : Ctx → Ctx) : (s.modCtx x f).ledger = s.ledger := rfl
@[simp] theorem State.modCtx_flash (x : Nat) (f : Ctx → Ctx) : (s.modCtx x f).flash = s.flash := rfl
@[simp] theorem State.modCtx_boot (x : Nat) (f : Ctx → Ctx) : (s.modCtx x f).boot = s.boot := rfl
@[simp] theorem State.modCtx_recovery (x : Nat) (f : Ctx → Ctx) : (s.modCtx x f).recovery = s.recovery := rfl
@[simp] theorem State.modCtx_power (x : Nat) (f : Ctx → Ctx) : (s.modCtx x f).power = s.power := rfl

/-! ### setCore -/

@[simp] theorem State.setCore_pending (l : Nat) (c : Core) : (s.setCore l c).pending = s.pending := rfl
@[simp] theorem State.setCore_time (l : Nat) (c : Core) : (s.setCore l c).time = s.time := rfl
@[simp] theorem State.setCore_domains (l : Nat) (c : Core) : (s.setCore l c).domains = s.domains := rfl
@[simp] theorem State.setCore_calendar (l : Nat) (c : Core) : (s.setCore l c).calendar = s.calendar := rfl
@[simp] theorem State.setCore_events (l : Nat) (c : Core) : (s.setCore l c).events = s.events := rfl
@[simp] theorem State.setCore_ctxs (l : Nat) (c : Core) : (s.setCore l c).ctxs = s.ctxs := rfl
@[simp] theorem State.setCore_mem (l : Nat) (c : Core) : (s.setCore l c).mem = s.mem := rfl
@[simp] theorem State.setCore_drams (l : Nat) (c : Core) : (s.setCore l c).drams = s.drams := rfl
@[simp] theorem State.setCore_base (l : Nat) (c : Core) : (s.setCore l c).base = s.base := rfl
@[simp] theorem State.setCore_hubs (l : Nat) (c : Core) : (s.setCore l c).hubs = s.hubs := rfl
@[simp] theorem State.setCore_grants (l : Nat) (c : Core) : (s.setCore l c).grants = s.grants := rfl
@[simp] theorem State.setCore_links (l : Nat) (c : Core) : (s.setCore l c).links = s.links := rfl
@[simp] theorem State.setCore_mbox (l : Nat) (c : Core) : (s.setCore l c).mbox = s.mbox := rfl
@[simp] theorem State.setCore_fuses (l : Nat) (c : Core) : (s.setCore l c).fuses = s.fuses := rfl
@[simp] theorem State.setCore_anchors (l : Nat) (c : Core) : (s.setCore l c).anchors = s.anchors := rfl
@[simp] theorem State.setCore_ledger (l : Nat) (c : Core) : (s.setCore l c).ledger = s.ledger := rfl
@[simp] theorem State.setCore_flash (l : Nat) (c : Core) : (s.setCore l c).flash = s.flash := rfl
@[simp] theorem State.setCore_boot (l : Nat) (c : Core) : (s.setCore l c).boot = s.boot := rfl
@[simp] theorem State.setCore_recovery (l : Nat) (c : Core) : (s.setCore l c).recovery = s.recovery := rfl
@[simp] theorem State.setCore_power (l : Nat) (c : Core) : (s.setCore l c).power = s.power := rfl

/-! ### modCore -/

@[simp] theorem State.modCore_pending (l : Nat) (f : Core → Core) : (s.modCore l f).pending = s.pending := rfl
@[simp] theorem State.modCore_time (l : Nat) (f : Core → Core) : (s.modCore l f).time = s.time := rfl
@[simp] theorem State.modCore_domains (l : Nat) (f : Core → Core) : (s.modCore l f).domains = s.domains := rfl
@[simp] theorem State.modCore_calendar (l : Nat) (f : Core → Core) : (s.modCore l f).calendar = s.calendar := rfl
@[simp] theorem State.modCore_events (l : Nat) (f : Core → Core) : (s.modCore l f).events = s.events := rfl
@[simp] theorem State.modCore_ctxs (l : Nat) (f : Core → Core) : (s.modCore l f).ctxs = s.ctxs := rfl
@[simp] theorem State.modCore_mem (l : Nat) (f : Core → Core) : (s.modCore l f).mem = s.mem := rfl
@[simp] theorem State.modCore_drams (l : Nat) (f : Core → Core) : (s.modCore l f).drams = s.drams := rfl
@[simp] theorem State.modCore_base (l : Nat) (f : Core → Core) : (s.modCore l f).base = s.base := rfl
@[simp] theorem State.modCore_hubs (l : Nat) (f : Core → Core) : (s.modCore l f).hubs = s.hubs := rfl
@[simp] theorem State.modCore_grants (l : Nat) (f : Core → Core) : (s.modCore l f).grants = s.grants := rfl
@[simp] theorem State.modCore_links (l : Nat) (f : Core → Core) : (s.modCore l f).links = s.links := rfl
@[simp] theorem State.modCore_mbox (l : Nat) (f : Core → Core) : (s.modCore l f).mbox = s.mbox := rfl
@[simp] theorem State.modCore_fuses (l : Nat) (f : Core → Core) : (s.modCore l f).fuses = s.fuses := rfl
@[simp] theorem State.modCore_anchors (l : Nat) (f : Core → Core) : (s.modCore l f).anchors = s.anchors := rfl
@[simp] theorem State.modCore_ledger (l : Nat) (f : Core → Core) : (s.modCore l f).ledger = s.ledger := rfl
@[simp] theorem State.modCore_flash (l : Nat) (f : Core → Core) : (s.modCore l f).flash = s.flash := rfl
@[simp] theorem State.modCore_boot (l : Nat) (f : Core → Core) : (s.modCore l f).boot = s.boot := rfl
@[simp] theorem State.modCore_recovery (l : Nat) (f : Core → Core) : (s.modCore l f).recovery = s.recovery := rfl
@[simp] theorem State.modCore_power (l : Nat) (f : Core → Core) : (s.modCore l f).power = s.power := rfl

/-! ### modCoreOf -/

@[simp] theorem State.modCoreOf_pending (x p : Nat) (f : Core → Core) : (s.modCoreOf x p f).pending = s.pending := rfl
@[simp] theorem State.modCoreOf_time (x p : Nat) (f : Core → Core) : (s.modCoreOf x p f).time = s.time := rfl
@[simp] theorem State.modCoreOf_domains (x p : Nat) (f : Core → Core) : (s.modCoreOf x p f).domains = s.domains := rfl
@[simp] theorem State.modCoreOf_calendar (x p : Nat) (f : Core → Core) : (s.modCoreOf x p f).calendar = s.calendar := rfl
@[simp] theorem State.modCoreOf_events (x p : Nat) (f : Core → Core) : (s.modCoreOf x p f).events = s.events := rfl
@[simp] theorem State.modCoreOf_ctxs (x p : Nat) (f : Core → Core) : (s.modCoreOf x p f).ctxs = s.ctxs := rfl
@[simp] theorem State.modCoreOf_mem (x p : Nat) (f : Core → Core) : (s.modCoreOf x p f).mem = s.mem := rfl
@[simp] theorem State.modCoreOf_drams (x p : Nat) (f : Core → Core) : (s.modCoreOf x p f).drams = s.drams := rfl
@[simp] theorem State.modCoreOf_base (x p : Nat) (f : Core → Core) : (s.modCoreOf x p f).base = s.base := rfl
@[simp] theorem State.modCoreOf_hubs (x p : Nat) (f : Core → Core) : (s.modCoreOf x p f).hubs = s.hubs := rfl
@[simp] theorem State.modCoreOf_grants (x p : Nat) (f : Core → Core) : (s.modCoreOf x p f).grants = s.grants := rfl
@[simp] theorem State.modCoreOf_links (x p : Nat) (f : Core → Core) : (s.modCoreOf x p f).links = s.links := rfl
@[simp] theorem State.modCoreOf_mbox (x p : Nat) (f : Core → Core) : (s.modCoreOf x p f).mbox = s.mbox := rfl
@[simp] theorem State.modCoreOf_fuses (x p : Nat) (f : Core → Core) : (s.modCoreOf x p f).fuses = s.fuses := rfl
@[simp] theorem State.modCoreOf_anchors (x p : Nat) (f : Core → Core) : (s.modCoreOf x p f).anchors = s.anchors := rfl
@[simp] theorem State.modCoreOf_ledger (x p : Nat) (f : Core → Core) : (s.modCoreOf x p f).ledger = s.ledger := rfl
@[simp] theorem State.modCoreOf_flash (x p : Nat) (f : Core → Core) : (s.modCoreOf x p f).flash = s.flash := rfl
@[simp] theorem State.modCoreOf_boot (x p : Nat) (f : Core → Core) : (s.modCoreOf x p f).boot = s.boot := rfl
@[simp] theorem State.modCoreOf_recovery (x p : Nat) (f : Core → Core) : (s.modCoreOf x p f).recovery = s.recovery := rfl
@[simp] theorem State.modCoreOf_power (x p : Nat) (f : Core → Core) : (s.modCoreOf x p f).power = s.power := rfl

/-! ### setStack -/

@[simp] theorem State.setStack_pending (d : Nat) (k : Stack) : (s.setStack d k).pending = s.pending := rfl
@[simp] theorem State.setStack_time (d : Nat) (k : Stack) : (s.setStack d k).time = s.time := rfl
@[simp] theorem State.setStack_domains (d : Nat) (k : Stack) : (s.setStack d k).domains = s.domains := rfl
@[simp] theorem State.setStack_calendar (d : Nat) (k : Stack) : (s.setStack d k).calendar = s.calendar := rfl
@[simp] theorem State.setStack_events (d : Nat) (k : Stack) : (s.setStack d k).events = s.events := rfl
@[simp] theorem State.setStack_cores (d : Nat) (k : Stack) : (s.setStack d k).cores = s.cores := rfl
@[simp] theorem State.setStack_ctxs (d : Nat) (k : Stack) : (s.setStack d k).ctxs = s.ctxs := rfl
@[simp] theorem State.setStack_mem (d : Nat) (k : Stack) : (s.setStack d k).mem = s.mem := rfl
@[simp] theorem State.setStack_base (d : Nat) (k : Stack) : (s.setStack d k).base = s.base := rfl
@[simp] theorem State.setStack_hubs (d : Nat) (k : Stack) : (s.setStack d k).hubs = s.hubs := rfl
@[simp] theorem State.setStack_grants (d : Nat) (k : Stack) : (s.setStack d k).grants = s.grants := rfl
@[simp] theorem State.setStack_links (d : Nat) (k : Stack) : (s.setStack d k).links = s.links := rfl
@[simp] theorem State.setStack_mbox (d : Nat) (k : Stack) : (s.setStack d k).mbox = s.mbox := rfl
@[simp] theorem State.setStack_fuses (d : Nat) (k : Stack) : (s.setStack d k).fuses = s.fuses := rfl
@[simp] theorem State.setStack_anchors (d : Nat) (k : Stack) : (s.setStack d k).anchors = s.anchors := rfl
@[simp] theorem State.setStack_ledger (d : Nat) (k : Stack) : (s.setStack d k).ledger = s.ledger := rfl
@[simp] theorem State.setStack_flash (d : Nat) (k : Stack) : (s.setStack d k).flash = s.flash := rfl
@[simp] theorem State.setStack_boot (d : Nat) (k : Stack) : (s.setStack d k).boot = s.boot := rfl
@[simp] theorem State.setStack_recovery (d : Nat) (k : Stack) : (s.setStack d k).recovery = s.recovery := rfl
@[simp] theorem State.setStack_power (d : Nat) (k : Stack) : (s.setStack d k).power = s.power := rfl

/-! ### modStack -/

@[simp] theorem State.modStack_pending (d : Nat) (f : Stack → Stack) : (s.modStack d f).pending = s.pending := rfl
@[simp] theorem State.modStack_time (d : Nat) (f : Stack → Stack) : (s.modStack d f).time = s.time := rfl
@[simp] theorem State.modStack_domains (d : Nat) (f : Stack → Stack) : (s.modStack d f).domains = s.domains := rfl
@[simp] theorem State.modStack_calendar (d : Nat) (f : Stack → Stack) : (s.modStack d f).calendar = s.calendar := rfl
@[simp] theorem State.modStack_events (d : Nat) (f : Stack → Stack) : (s.modStack d f).events = s.events := rfl
@[simp] theorem State.modStack_cores (d : Nat) (f : Stack → Stack) : (s.modStack d f).cores = s.cores := rfl
@[simp] theorem State.modStack_ctxs (d : Nat) (f : Stack → Stack) : (s.modStack d f).ctxs = s.ctxs := rfl
@[simp] theorem State.modStack_mem (d : Nat) (f : Stack → Stack) : (s.modStack d f).mem = s.mem := rfl
@[simp] theorem State.modStack_base (d : Nat) (f : Stack → Stack) : (s.modStack d f).base = s.base := rfl
@[simp] theorem State.modStack_hubs (d : Nat) (f : Stack → Stack) : (s.modStack d f).hubs = s.hubs := rfl
@[simp] theorem State.modStack_grants (d : Nat) (f : Stack → Stack) : (s.modStack d f).grants = s.grants := rfl
@[simp] theorem State.modStack_links (d : Nat) (f : Stack → Stack) : (s.modStack d f).links = s.links := rfl
@[simp] theorem State.modStack_mbox (d : Nat) (f : Stack → Stack) : (s.modStack d f).mbox = s.mbox := rfl
@[simp] theorem State.modStack_fuses (d : Nat) (f : Stack → Stack) : (s.modStack d f).fuses = s.fuses := rfl
@[simp] theorem State.modStack_anchors (d : Nat) (f : Stack → Stack) : (s.modStack d f).anchors = s.anchors := rfl
@[simp] theorem State.modStack_ledger (d : Nat) (f : Stack → Stack) : (s.modStack d f).ledger = s.ledger := rfl
@[simp] theorem State.modStack_flash (d : Nat) (f : Stack → Stack) : (s.modStack d f).flash = s.flash := rfl
@[simp] theorem State.modStack_boot (d : Nat) (f : Stack → Stack) : (s.modStack d f).boot = s.boot := rfl
@[simp] theorem State.modStack_recovery (d : Nat) (f : Stack → Stack) : (s.modStack d f).recovery = s.recovery := rfl
@[simp] theorem State.modStack_power (d : Nat) (f : Stack → Stack) : (s.modStack d f).power = s.power := rfl

/-! ### modBase -/

@[simp] theorem State.modBase_pending (q : Nat) (f : BaseMem → BaseMem) : (s.modBase q f).pending = s.pending := rfl
@[simp] theorem State.modBase_time (q : Nat) (f : BaseMem → BaseMem) : (s.modBase q f).time = s.time := rfl
@[simp] theorem State.modBase_domains (q : Nat) (f : BaseMem → BaseMem) : (s.modBase q f).domains = s.domains := rfl
@[simp] theorem State.modBase_calendar (q : Nat) (f : BaseMem → BaseMem) : (s.modBase q f).calendar = s.calendar := rfl
@[simp] theorem State.modBase_events (q : Nat) (f : BaseMem → BaseMem) : (s.modBase q f).events = s.events := rfl
@[simp] theorem State.modBase_cores (q : Nat) (f : BaseMem → BaseMem) : (s.modBase q f).cores = s.cores := rfl
@[simp] theorem State.modBase_ctxs (q : Nat) (f : BaseMem → BaseMem) : (s.modBase q f).ctxs = s.ctxs := rfl
@[simp] theorem State.modBase_mem (q : Nat) (f : BaseMem → BaseMem) : (s.modBase q f).mem = s.mem := rfl
@[simp] theorem State.modBase_drams (q : Nat) (f : BaseMem → BaseMem) : (s.modBase q f).drams = s.drams := rfl
@[simp] theorem State.modBase_hubs (q : Nat) (f : BaseMem → BaseMem) : (s.modBase q f).hubs = s.hubs := rfl
@[simp] theorem State.modBase_grants (q : Nat) (f : BaseMem → BaseMem) : (s.modBase q f).grants = s.grants := rfl
@[simp] theorem State.modBase_links (q : Nat) (f : BaseMem → BaseMem) : (s.modBase q f).links = s.links := rfl
@[simp] theorem State.modBase_mbox (q : Nat) (f : BaseMem → BaseMem) : (s.modBase q f).mbox = s.mbox := rfl
@[simp] theorem State.modBase_fuses (q : Nat) (f : BaseMem → BaseMem) : (s.modBase q f).fuses = s.fuses := rfl
@[simp] theorem State.modBase_anchors (q : Nat) (f : BaseMem → BaseMem) : (s.modBase q f).anchors = s.anchors := rfl
@[simp] theorem State.modBase_ledger (q : Nat) (f : BaseMem → BaseMem) : (s.modBase q f).ledger = s.ledger := rfl
@[simp] theorem State.modBase_flash (q : Nat) (f : BaseMem → BaseMem) : (s.modBase q f).flash = s.flash := rfl
@[simp] theorem State.modBase_boot (q : Nat) (f : BaseMem → BaseMem) : (s.modBase q f).boot = s.boot := rfl
@[simp] theorem State.modBase_recovery (q : Nat) (f : BaseMem → BaseMem) : (s.modBase q f).recovery = s.recovery := rfl
@[simp] theorem State.modBase_power (q : Nat) (f : BaseMem → BaseMem) : (s.modBase q f).power = s.power := rfl

/-! ### modHub -/

@[simp] theorem State.modHub_pending (q : Nat) (f : Hub → Hub) : (s.modHub q f).pending = s.pending := rfl
@[simp] theorem State.modHub_time (q : Nat) (f : Hub → Hub) : (s.modHub q f).time = s.time := rfl
@[simp] theorem State.modHub_domains (q : Nat) (f : Hub → Hub) : (s.modHub q f).domains = s.domains := rfl
@[simp] theorem State.modHub_calendar (q : Nat) (f : Hub → Hub) : (s.modHub q f).calendar = s.calendar := rfl
@[simp] theorem State.modHub_events (q : Nat) (f : Hub → Hub) : (s.modHub q f).events = s.events := rfl
@[simp] theorem State.modHub_cores (q : Nat) (f : Hub → Hub) : (s.modHub q f).cores = s.cores := rfl
@[simp] theorem State.modHub_ctxs (q : Nat) (f : Hub → Hub) : (s.modHub q f).ctxs = s.ctxs := rfl
@[simp] theorem State.modHub_mem (q : Nat) (f : Hub → Hub) : (s.modHub q f).mem = s.mem := rfl
@[simp] theorem State.modHub_drams (q : Nat) (f : Hub → Hub) : (s.modHub q f).drams = s.drams := rfl
@[simp] theorem State.modHub_base (q : Nat) (f : Hub → Hub) : (s.modHub q f).base = s.base := rfl
@[simp] theorem State.modHub_grants (q : Nat) (f : Hub → Hub) : (s.modHub q f).grants = s.grants := rfl
@[simp] theorem State.modHub_links (q : Nat) (f : Hub → Hub) : (s.modHub q f).links = s.links := rfl
@[simp] theorem State.modHub_mbox (q : Nat) (f : Hub → Hub) : (s.modHub q f).mbox = s.mbox := rfl
@[simp] theorem State.modHub_fuses (q : Nat) (f : Hub → Hub) : (s.modHub q f).fuses = s.fuses := rfl
@[simp] theorem State.modHub_anchors (q : Nat) (f : Hub → Hub) : (s.modHub q f).anchors = s.anchors := rfl
@[simp] theorem State.modHub_ledger (q : Nat) (f : Hub → Hub) : (s.modHub q f).ledger = s.ledger := rfl
@[simp] theorem State.modHub_flash (q : Nat) (f : Hub → Hub) : (s.modHub q f).flash = s.flash := rfl
@[simp] theorem State.modHub_boot (q : Nat) (f : Hub → Hub) : (s.modHub q f).boot = s.boot := rfl
@[simp] theorem State.modHub_recovery (q : Nat) (f : Hub → Hub) : (s.modHub q f).recovery = s.recovery := rfl
@[simp] theorem State.modHub_power (q : Nat) (f : Hub → Hub) : (s.modHub q f).power = s.power := rfl

/-! ### setDomain -/

@[simp] theorem State.setDomain_pending (d : Nat) (v : Domain) : (s.setDomain d v).pending = s.pending := rfl
@[simp] theorem State.setDomain_time (d : Nat) (v : Domain) : (s.setDomain d v).time = s.time := rfl
@[simp] theorem State.setDomain_calendar (d : Nat) (v : Domain) : (s.setDomain d v).calendar = s.calendar := rfl
@[simp] theorem State.setDomain_events (d : Nat) (v : Domain) : (s.setDomain d v).events = s.events := rfl
@[simp] theorem State.setDomain_cores (d : Nat) (v : Domain) : (s.setDomain d v).cores = s.cores := rfl
@[simp] theorem State.setDomain_ctxs (d : Nat) (v : Domain) : (s.setDomain d v).ctxs = s.ctxs := rfl
@[simp] theorem State.setDomain_mem (d : Nat) (v : Domain) : (s.setDomain d v).mem = s.mem := rfl
@[simp] theorem State.setDomain_drams (d : Nat) (v : Domain) : (s.setDomain d v).drams = s.drams := rfl
@[simp] theorem State.setDomain_base (d : Nat) (v : Domain) : (s.setDomain d v).base = s.base := rfl
@[simp] theorem State.setDomain_hubs (d : Nat) (v : Domain) : (s.setDomain d v).hubs = s.hubs := rfl
@[simp] theorem State.setDomain_grants (d : Nat) (v : Domain) : (s.setDomain d v).grants = s.grants := rfl
@[simp] theorem State.setDomain_links (d : Nat) (v : Domain) : (s.setDomain d v).links = s.links := rfl
@[simp] theorem State.setDomain_mbox (d : Nat) (v : Domain) : (s.setDomain d v).mbox = s.mbox := rfl
@[simp] theorem State.setDomain_fuses (d : Nat) (v : Domain) : (s.setDomain d v).fuses = s.fuses := rfl
@[simp] theorem State.setDomain_anchors (d : Nat) (v : Domain) : (s.setDomain d v).anchors = s.anchors := rfl
@[simp] theorem State.setDomain_ledger (d : Nat) (v : Domain) : (s.setDomain d v).ledger = s.ledger := rfl
@[simp] theorem State.setDomain_flash (d : Nat) (v : Domain) : (s.setDomain d v).flash = s.flash := rfl
@[simp] theorem State.setDomain_boot (d : Nat) (v : Domain) : (s.setDomain d v).boot = s.boot := rfl
@[simp] theorem State.setDomain_recovery (d : Nat) (v : Domain) : (s.setDomain d v).recovery = s.recovery := rfl
@[simp] theorem State.setDomain_power (d : Nat) (v : Domain) : (s.setDomain d v).power = s.power := rfl

/-! ### setPort -/

@[simp] theorem State.setPort_pending (p : Nat) (v : Port) : (s.setPort p v).pending = s.pending := rfl
@[simp] theorem State.setPort_time (p : Nat) (v : Port) : (s.setPort p v).time = s.time := rfl
@[simp] theorem State.setPort_domains (p : Nat) (v : Port) : (s.setPort p v).domains = s.domains := rfl
@[simp] theorem State.setPort_calendar (p : Nat) (v : Port) : (s.setPort p v).calendar = s.calendar := rfl
@[simp] theorem State.setPort_events (p : Nat) (v : Port) : (s.setPort p v).events = s.events := rfl
@[simp] theorem State.setPort_cores (p : Nat) (v : Port) : (s.setPort p v).cores = s.cores := rfl
@[simp] theorem State.setPort_ctxs (p : Nat) (v : Port) : (s.setPort p v).ctxs = s.ctxs := rfl
@[simp] theorem State.setPort_mem (p : Nat) (v : Port) : (s.setPort p v).mem = s.mem := rfl
@[simp] theorem State.setPort_drams (p : Nat) (v : Port) : (s.setPort p v).drams = s.drams := rfl
@[simp] theorem State.setPort_base (p : Nat) (v : Port) : (s.setPort p v).base = s.base := rfl
@[simp] theorem State.setPort_hubs (p : Nat) (v : Port) : (s.setPort p v).hubs = s.hubs := rfl
@[simp] theorem State.setPort_grants (p : Nat) (v : Port) : (s.setPort p v).grants = s.grants := rfl
@[simp] theorem State.setPort_mbox (p : Nat) (v : Port) : (s.setPort p v).mbox = s.mbox := rfl
@[simp] theorem State.setPort_fuses (p : Nat) (v : Port) : (s.setPort p v).fuses = s.fuses := rfl
@[simp] theorem State.setPort_anchors (p : Nat) (v : Port) : (s.setPort p v).anchors = s.anchors := rfl
@[simp] theorem State.setPort_ledger (p : Nat) (v : Port) : (s.setPort p v).ledger = s.ledger := rfl
@[simp] theorem State.setPort_flash (p : Nat) (v : Port) : (s.setPort p v).flash = s.flash := rfl
@[simp] theorem State.setPort_boot (p : Nat) (v : Port) : (s.setPort p v).boot = s.boot := rfl
@[simp] theorem State.setPort_recovery (p : Nat) (v : Port) : (s.setPort p v).recovery = s.recovery := rfl
@[simp] theorem State.setPort_power (p : Nat) (v : Port) : (s.setPort p v).power = s.power := rfl

/-! ### modPort -/

@[simp] theorem State.modPort_pending (p : Nat) (f : Port → Port) : (s.modPort p f).pending = s.pending := rfl
@[simp] theorem State.modPort_time (p : Nat) (f : Port → Port) : (s.modPort p f).time = s.time := rfl
@[simp] theorem State.modPort_domains (p : Nat) (f : Port → Port) : (s.modPort p f).domains = s.domains := rfl
@[simp] theorem State.modPort_calendar (p : Nat) (f : Port → Port) : (s.modPort p f).calendar = s.calendar := rfl
@[simp] theorem State.modPort_events (p : Nat) (f : Port → Port) : (s.modPort p f).events = s.events := rfl
@[simp] theorem State.modPort_cores (p : Nat) (f : Port → Port) : (s.modPort p f).cores = s.cores := rfl
@[simp] theorem State.modPort_ctxs (p : Nat) (f : Port → Port) : (s.modPort p f).ctxs = s.ctxs := rfl
@[simp] theorem State.modPort_mem (p : Nat) (f : Port → Port) : (s.modPort p f).mem = s.mem := rfl
@[simp] theorem State.modPort_drams (p : Nat) (f : Port → Port) : (s.modPort p f).drams = s.drams := rfl
@[simp] theorem State.modPort_base (p : Nat) (f : Port → Port) : (s.modPort p f).base = s.base := rfl
@[simp] theorem State.modPort_hubs (p : Nat) (f : Port → Port) : (s.modPort p f).hubs = s.hubs := rfl
@[simp] theorem State.modPort_grants (p : Nat) (f : Port → Port) : (s.modPort p f).grants = s.grants := rfl
@[simp] theorem State.modPort_mbox (p : Nat) (f : Port → Port) : (s.modPort p f).mbox = s.mbox := rfl
@[simp] theorem State.modPort_fuses (p : Nat) (f : Port → Port) : (s.modPort p f).fuses = s.fuses := rfl
@[simp] theorem State.modPort_anchors (p : Nat) (f : Port → Port) : (s.modPort p f).anchors = s.anchors := rfl
@[simp] theorem State.modPort_ledger (p : Nat) (f : Port → Port) : (s.modPort p f).ledger = s.ledger := rfl
@[simp] theorem State.modPort_flash (p : Nat) (f : Port → Port) : (s.modPort p f).flash = s.flash := rfl
@[simp] theorem State.modPort_boot (p : Nat) (f : Port → Port) : (s.modPort p f).boot = s.boot := rfl
@[simp] theorem State.modPort_recovery (p : Nat) (f : Port → Port) : (s.modPort p f).recovery = s.recovery := rfl
@[simp] theorem State.modPort_power (p : Nat) (f : Port → Port) : (s.modPort p f).power = s.power := rfl

/-! ### setSlot -/

@[simp] theorem State.setSlot_pending (m : Nat) (v : Slot) : (s.setSlot m v).pending = s.pending := rfl
@[simp] theorem State.setSlot_time (m : Nat) (v : Slot) : (s.setSlot m v).time = s.time := rfl
@[simp] theorem State.setSlot_domains (m : Nat) (v : Slot) : (s.setSlot m v).domains = s.domains := rfl
@[simp] theorem State.setSlot_calendar (m : Nat) (v : Slot) : (s.setSlot m v).calendar = s.calendar := rfl
@[simp] theorem State.setSlot_events (m : Nat) (v : Slot) : (s.setSlot m v).events = s.events := rfl
@[simp] theorem State.setSlot_cores (m : Nat) (v : Slot) : (s.setSlot m v).cores = s.cores := rfl
@[simp] theorem State.setSlot_ctxs (m : Nat) (v : Slot) : (s.setSlot m v).ctxs = s.ctxs := rfl
@[simp] theorem State.setSlot_mem (m : Nat) (v : Slot) : (s.setSlot m v).mem = s.mem := rfl
@[simp] theorem State.setSlot_drams (m : Nat) (v : Slot) : (s.setSlot m v).drams = s.drams := rfl
@[simp] theorem State.setSlot_base (m : Nat) (v : Slot) : (s.setSlot m v).base = s.base := rfl
@[simp] theorem State.setSlot_hubs (m : Nat) (v : Slot) : (s.setSlot m v).hubs = s.hubs := rfl
@[simp] theorem State.setSlot_grants (m : Nat) (v : Slot) : (s.setSlot m v).grants = s.grants := rfl
@[simp] theorem State.setSlot_links (m : Nat) (v : Slot) : (s.setSlot m v).links = s.links := rfl
@[simp] theorem State.setSlot_fuses (m : Nat) (v : Slot) : (s.setSlot m v).fuses = s.fuses := rfl
@[simp] theorem State.setSlot_anchors (m : Nat) (v : Slot) : (s.setSlot m v).anchors = s.anchors := rfl
@[simp] theorem State.setSlot_ledger (m : Nat) (v : Slot) : (s.setSlot m v).ledger = s.ledger := rfl
@[simp] theorem State.setSlot_flash (m : Nat) (v : Slot) : (s.setSlot m v).flash = s.flash := rfl
@[simp] theorem State.setSlot_boot (m : Nat) (v : Slot) : (s.setSlot m v).boot = s.boot := rfl
@[simp] theorem State.setSlot_recovery (m : Nat) (v : Slot) : (s.setSlot m v).recovery = s.recovery := rfl
@[simp] theorem State.setSlot_power (m : Nat) (v : Slot) : (s.setSlot m v).power = s.power := rfl

/-! ### modSlot -/

@[simp] theorem State.modSlot_pending (m : Nat) (f : Slot → Slot) : (s.modSlot m f).pending = s.pending := rfl
@[simp] theorem State.modSlot_time (m : Nat) (f : Slot → Slot) : (s.modSlot m f).time = s.time := rfl
@[simp] theorem State.modSlot_domains (m : Nat) (f : Slot → Slot) : (s.modSlot m f).domains = s.domains := rfl
@[simp] theorem State.modSlot_calendar (m : Nat) (f : Slot → Slot) : (s.modSlot m f).calendar = s.calendar := rfl
@[simp] theorem State.modSlot_events (m : Nat) (f : Slot → Slot) : (s.modSlot m f).events = s.events := rfl
@[simp] theorem State.modSlot_cores (m : Nat) (f : Slot → Slot) : (s.modSlot m f).cores = s.cores := rfl
@[simp] theorem State.modSlot_ctxs (m : Nat) (f : Slot → Slot) : (s.modSlot m f).ctxs = s.ctxs := rfl
@[simp] theorem State.modSlot_mem (m : Nat) (f : Slot → Slot) : (s.modSlot m f).mem = s.mem := rfl
@[simp] theorem State.modSlot_drams (m : Nat) (f : Slot → Slot) : (s.modSlot m f).drams = s.drams := rfl
@[simp] theorem State.modSlot_base (m : Nat) (f : Slot → Slot) : (s.modSlot m f).base = s.base := rfl
@[simp] theorem State.modSlot_hubs (m : Nat) (f : Slot → Slot) : (s.modSlot m f).hubs = s.hubs := rfl
@[simp] theorem State.modSlot_grants (m : Nat) (f : Slot → Slot) : (s.modSlot m f).grants = s.grants := rfl
@[simp] theorem State.modSlot_links (m : Nat) (f : Slot → Slot) : (s.modSlot m f).links = s.links := rfl
@[simp] theorem State.modSlot_fuses (m : Nat) (f : Slot → Slot) : (s.modSlot m f).fuses = s.fuses := rfl
@[simp] theorem State.modSlot_anchors (m : Nat) (f : Slot → Slot) : (s.modSlot m f).anchors = s.anchors := rfl
@[simp] theorem State.modSlot_ledger (m : Nat) (f : Slot → Slot) : (s.modSlot m f).ledger = s.ledger := rfl
@[simp] theorem State.modSlot_flash (m : Nat) (f : Slot → Slot) : (s.modSlot m f).flash = s.flash := rfl
@[simp] theorem State.modSlot_boot (m : Nat) (f : Slot → Slot) : (s.modSlot m f).boot = s.boot := rfl
@[simp] theorem State.modSlot_recovery (m : Nat) (f : Slot → Slot) : (s.modSlot m f).recovery = s.recovery := rfl
@[simp] theorem State.modSlot_power (m : Nat) (f : Slot → Slot) : (s.modSlot m f).power = s.power := rfl

/-! ### atTick -/

@[simp] theorem State.atTick_pending (t : Nat) : (s.atTick t).pending = s.pending := rfl
@[simp] theorem State.atTick_domains (t : Nat) : (s.atTick t).domains = s.domains := rfl
@[simp] theorem State.atTick_calendar (t : Nat) : (s.atTick t).calendar = s.calendar := rfl
@[simp] theorem State.atTick_events (t : Nat) : (s.atTick t).events = s.events := rfl
@[simp] theorem State.atTick_cores (t : Nat) : (s.atTick t).cores = s.cores := rfl
@[simp] theorem State.atTick_ctxs (t : Nat) : (s.atTick t).ctxs = s.ctxs := rfl
@[simp] theorem State.atTick_mem (t : Nat) : (s.atTick t).mem = s.mem := rfl
@[simp] theorem State.atTick_drams (t : Nat) : (s.atTick t).drams = s.drams := rfl
@[simp] theorem State.atTick_base (t : Nat) : (s.atTick t).base = s.base := rfl
@[simp] theorem State.atTick_hubs (t : Nat) : (s.atTick t).hubs = s.hubs := rfl
@[simp] theorem State.atTick_grants (t : Nat) : (s.atTick t).grants = s.grants := rfl
@[simp] theorem State.atTick_links (t : Nat) : (s.atTick t).links = s.links := rfl
@[simp] theorem State.atTick_mbox (t : Nat) : (s.atTick t).mbox = s.mbox := rfl
@[simp] theorem State.atTick_fuses (t : Nat) : (s.atTick t).fuses = s.fuses := rfl
@[simp] theorem State.atTick_anchors (t : Nat) : (s.atTick t).anchors = s.anchors := rfl
@[simp] theorem State.atTick_ledger (t : Nat) : (s.atTick t).ledger = s.ledger := rfl
@[simp] theorem State.atTick_flash (t : Nat) : (s.atTick t).flash = s.flash := rfl
@[simp] theorem State.atTick_boot (t : Nat) : (s.atTick t).boot = s.boot := rfl
@[simp] theorem State.atTick_recovery (t : Nat) : (s.atTick t).recovery = s.recovery := rfl
@[simp] theorem State.atTick_power (t : Nat) : (s.atTick t).power = s.power := rfl

/-! ### setSetting -/

@[simp] theorem State.setSetting_pending (sid v : Nat) : (s.setSetting sid v).pending = s.pending := rfl
@[simp] theorem State.setSetting_time (sid v : Nat) : (s.setSetting sid v).time = s.time := rfl
@[simp] theorem State.setSetting_domains (sid v : Nat) : (s.setSetting sid v).domains = s.domains := rfl
@[simp] theorem State.setSetting_calendar (sid v : Nat) : (s.setSetting sid v).calendar = s.calendar := rfl
@[simp] theorem State.setSetting_events (sid v : Nat) : (s.setSetting sid v).events = s.events := rfl
@[simp] theorem State.setSetting_cores (sid v : Nat) : (s.setSetting sid v).cores = s.cores := rfl
@[simp] theorem State.setSetting_ctxs (sid v : Nat) : (s.setSetting sid v).ctxs = s.ctxs := rfl
@[simp] theorem State.setSetting_mem (sid v : Nat) : (s.setSetting sid v).mem = s.mem := rfl
@[simp] theorem State.setSetting_drams (sid v : Nat) : (s.setSetting sid v).drams = s.drams := rfl
@[simp] theorem State.setSetting_base (sid v : Nat) : (s.setSetting sid v).base = s.base := rfl
@[simp] theorem State.setSetting_hubs (sid v : Nat) : (s.setSetting sid v).hubs = s.hubs := rfl
@[simp] theorem State.setSetting_grants (sid v : Nat) : (s.setSetting sid v).grants = s.grants := rfl
@[simp] theorem State.setSetting_links (sid v : Nat) : (s.setSetting sid v).links = s.links := rfl
@[simp] theorem State.setSetting_fuses (sid v : Nat) : (s.setSetting sid v).fuses = s.fuses := rfl
@[simp] theorem State.setSetting_anchors (sid v : Nat) : (s.setSetting sid v).anchors = s.anchors := rfl
@[simp] theorem State.setSetting_ledger (sid v : Nat) : (s.setSetting sid v).ledger = s.ledger := rfl
@[simp] theorem State.setSetting_flash (sid v : Nat) : (s.setSetting sid v).flash = s.flash := rfl
@[simp] theorem State.setSetting_boot (sid v : Nat) : (s.setSetting sid v).boot = s.boot := rfl
@[simp] theorem State.setSetting_recovery (sid v : Nat) : (s.setSetting sid v).recovery = s.recovery := rfl
@[simp] theorem State.setSetting_power (sid v : Nat) : (s.setSetting sid v).power = s.power := rfl

end Sys2Proof.Machine
end

