-- ==== Sys2Proof/Laws/Table.lean ====
section
/-! SUPPORT. Sparse tables: a read after a write, and the canonical form. -/
namespace Sys2Proof
variable {α : Type}

theorem Tab.get_ins_self (d : α) (t : Tab α) (i : Nat) (x : α) : Tab.get d (Tab.ins t i x) i = x := by
  induction t with
  | nil => simp [Tab.ins, Tab.get]
  | cons h r ih =>
    simp only [Tab.ins]
    split
    · simp [Tab.get]
    · split
      · simp [Tab.get]
      · rename_i h2
        simp [Tab.get, h2, ih]

theorem Tab.get_ins_other (d : α) (t : Tab α) {i j : Nat} (x : α) (h : j ≠ i) :
    Tab.get d (Tab.ins t i x) j = Tab.get d t j := by
  induction t with
  | nil => simp [Tab.ins, Tab.get, h]
  | cons p r ih =>
    simp only [Tab.ins]
    split
    · simp [Tab.get, h]
    · split
      · rename_i h2
        subst h2
        simp [Tab.get, h]
      · simp [Tab.get, ih]

theorem Tab.get_del_self (d : α) (t : Tab α) (i : Nat) : Tab.get d (Tab.del t i) i = d := by
  induction t with
  | nil => rfl
  | cons p r ih =>
    simp only [Tab.del]
    split
    · exact ih
    · rename_i h2
      simp [Tab.get, h2, ih]

theorem Tab.get_del_other (d : α) (t : Tab α) {i j : Nat} (h : j ≠ i) :
    Tab.get d (Tab.del t i) j = Tab.get d t j := by
  induction t with
  | nil => rfl
  | cons p r ih =>
    simp only [Tab.del]
    split
    · rename_i h2
      subst h2
      simp [Tab.get, h, ih]
    · simp [Tab.get, ih]

variable [DecidableEq α]

/-- A read after a write of the same key. -/
@[simp] theorem Tab.get_set_self (d : α) (t : Tab α) (i : Nat) (x : α) : Tab.get d (Tab.set d t i x) i = x := by
  unfold Tab.set
  split
  · rename_i h
    rw [h]
    exact Tab.get_del_self d t i
  · exact Tab.get_ins_self d t i x

/-- A write leaves every other key alone. -/
theorem Tab.get_set_other (d : α) (t : Tab α) {i j : Nat} (x : α) (h : j ≠ i) :
    Tab.get d (Tab.set d t i x) j = Tab.get d t j := by
  unfold Tab.set
  split
  · exact Tab.get_del_other d t h
  · exact Tab.get_ins_other d t x h

theorem Tab.get_set (d : α) (t : Tab α) (i j : Nat) (x : α) :
    Tab.get d (Tab.set d t i x) j = if j = i then x else Tab.get d t j := by
  split
  · rename_i h
    subst h
    simp
  · rename_i h
    exact Tab.get_set_other d t x h

@[simp] theorem Tab.get_modify_self (d : α) (t : Tab α) (i : Nat) (f : α → α) :
    Tab.get d (Tab.modify d t i f) i = f (Tab.get d t i) := Tab.get_set_self _ _ _ _

theorem Tab.get_modify_other (d : α) (t : Tab α) {i j : Nat} (f : α → α) (h : j ≠ i) :
    Tab.get d (Tab.modify d t i f) j = Tab.get d t j := Tab.get_set_other _ _ _ h

/-- Keys above a bound stay above a lower one. -/
theorem Tab.wfFrom_weaken (d : α) (t : Tab α) {lo hi : Nat} (h : Tab.wfFrom d (some hi) t = true) (le : lo ≤ hi) :
    Tab.wfFrom d (some lo) t = true := by
  cases t with
  | nil => rfl
  | cons p r =>
    simp only [Tab.wfFrom, Bool.and_eq_true, decide_eq_true_eq] at h ⊢
    exact ⟨⟨Nat.lt_of_le_of_lt le h.1.1, h.1.2⟩, h.2⟩

theorem Tab.wfFrom_none (d : α) (t : Tab α) {lo : Nat} (h : Tab.wfFrom d (some lo) t = true) :
    Tab.wfFrom d none t = true := by
  cases t with
  | nil => rfl
  | cons p r =>
    simp only [Tab.wfFrom, Bool.and_eq_true, decide_eq_true_eq, Bool.true_and] at h ⊢
    exact ⟨h.1.2, h.2⟩

theorem Tab.wfFrom_ins (d : α) (t : Tab α) (i : Nat) (x : α) (hx : x ≠ d) (lo : Option Nat)
    (hlo : ∀ l, lo = some l → l < i) (h : Tab.wfFrom d lo t = true) : Tab.wfFrom d lo (Tab.ins t i x) = true := by
  induction t generalizing lo with
  | nil => cases lo <;> simp_all [Tab.ins, Tab.wfFrom]
  | cons p r ih =>
    obtain ⟨k, v⟩ := p
    simp only [Tab.wfFrom, Bool.and_eq_true, decide_eq_true_eq] at h
    have tail : ∀ q : Option Nat, (∀ l, q = some l → l < i) →
        ((match q with | none => true | some l => decide (l < i)) = true) := by
      intro q hq
      cases q with
      | none => rfl
      | some l => simpa using hq l rfl
    simp only [Tab.ins]
    split
    · rename_i hik
      simp only [Tab.wfFrom, Bool.and_eq_true, decide_eq_true_eq]
      exact ⟨⟨tail lo hlo, hx⟩, ⟨hik, h.1.2⟩, h.2⟩
    · split
      · rename_i _ hik
        subst hik
        simp only [Tab.wfFrom, Bool.and_eq_true, decide_eq_true_eq]
        exact ⟨⟨tail lo hlo, hx⟩, h.2⟩
      · rename_i h1 h2
        simp only [Tab.wfFrom, Bool.and_eq_true, decide_eq_true_eq]
        refine ⟨h.1, ih (some k) ?_ h.2⟩
        intro l hl
        cases hl
        omega

theorem Tab.wfFrom_del (d : α) (t : Tab α) (i : Nat) (lo : Option Nat) (h : Tab.wfFrom d lo t = true) :
    Tab.wfFrom d lo (Tab.del t i) = true := by
  induction t generalizing lo with
  | nil => exact h
  | cons p r ih =>
    obtain ⟨k, v⟩ := p
    simp only [Tab.wfFrom, Bool.and_eq_true, decide_eq_true_eq] at h
    simp only [Tab.del]
    split
    · have h3 := ih (some k) h.2
      cases lo with
      | none => exact Tab.wfFrom_none d _ h3
      | some l =>
        have h4 : l < k := by simpa using h.1.1
        exact Tab.wfFrom_weaken d _ h3 (Nat.le_of_lt h4)
    · simp only [Tab.wfFrom, Bool.and_eq_true, decide_eq_true_eq]
      exact ⟨h.1, ih (some k) h.2⟩

/-- A write keeps the canonical form. -/
theorem Tab.wf_set (d : α) (t : Tab α) (i : Nat) (x : α) (h : Tab.wf d t = true) : Tab.wf d (Tab.set d t i x) = true := by
  unfold Tab.set
  split
  · exact Tab.wfFrom_del d t i none h
  · rename_i hx
    exact Tab.wfFrom_ins d t i x hx none (by intro l hl; cases hl) h

theorem Tab.wfFrom_filter (d : α) (t : Tab α) (p : Nat × α → Bool) (lo : Option Nat) (h : Tab.wfFrom d lo t = true) :
    Tab.wfFrom d lo (t.filter p) = true := by
  induction t generalizing lo with
  | nil => exact h
  | cons q r ih =>
    obtain ⟨k, v⟩ := q
    simp only [Tab.wfFrom, Bool.and_eq_true, decide_eq_true_eq] at h
    simp only [List.filter]
    split
    · simp only [Tab.wfFrom, Bool.and_eq_true, decide_eq_true_eq]
      exact ⟨h.1, ih (some k) h.2⟩
    · have h3 := ih (some k) h.2
      cases lo with
      | none => exact Tab.wfFrom_none d _ h3
      | some l =>
        have h4 : l < k := by simpa using h.1.1
        exact Tab.wfFrom_weaken d _ h3 (Nat.le_of_lt h4)

/-- Removing entries keeps the canonical form. -/
theorem Tab.wf_filter (d : α) (t : Tab α) (p : Nat × α → Bool) (h : Tab.wf d t = true) :
    Tab.wf d (t.filter p) = true := Tab.wfFrom_filter d t p none h

end Sys2Proof
end

