-- ==== Sys2Proof/Laws/Bundle.lean ====
section
/-! SUPPORT. What the operations of a bundle's rows do: the change of the core they name, and nothing else. -/
namespace Sys2Proof.Machine
open Sys2Proof
variable (s : State) (c : CoreRef)

@[simp] theorem State.ctx_modCoreOf (x p y : Nat) (f : Core → Core) : (s.modCoreOf x p f).ctx y = s.ctx y := rfl
@[simp] theorem State.ctx_modCtx_self (x : Nat) (f : Ctx → Ctx) : (s.modCtx x f).ctx x = f (s.ctx x) := by
  simp [State.modCtx, State.setCtx, State.ctx]
theorem State.ctx_modCtx_other {x y : Nat} (f : Ctx → Ctx) (h : y ≠ x) : (s.modCtx x f).ctx y = s.ctx y := by
  simp [State.modCtx, State.setCtx, State.ctx, Tab.get_set_other _ _ _ h]
@[simp] theorem State.coreAt_modCtx (x l : Nat) (f : Ctx → Ctx) : (s.modCtx x f).coreAt l = s.coreAt l := rfl
@[simp] theorem State.coreAt_modCore_self (l : Nat) (f : Core → Core) : (s.modCore l f).coreAt l = f (s.coreAt l) := by
  simp [State.modCore, State.setCore, State.coreAt]
theorem State.coreAt_modCore_other {l m : Nat} (f : Core → Core) (h : m ≠ l) :
    (s.modCore l f).coreAt m = s.coreAt m := by
  simp [State.modCore, State.setCore, State.coreAt, Tab.get_set_other _ _ _ h]

/-- A change of the core named: that core afterwards. -/
@[simp] theorem State.core_modCoreOf (f : Core → Core) : (s.modCoreOf c.ctx c.core f).core c = f (s.core c) :=
  State.coreAt_modCore_self s ((s.ctx c.ctx).logical c.core) f

/-- A field of a step that may act changes the core it names as given and marks its bundle as presented. -/
theorem State.onCore_live (f : Core → Core) (h : s.live c = true) : s.onCore c f =
    s.modCoreOf c.ctx c.core (fun k => { f k with work := { (f k).work with given := true } }) := by
  simp [State.onCore, h]

/-- A field of a step that may not act changes nothing. -/
theorem State.onCore_dead (f : Core → Core) (h : s.live c = false) : s.onCore c f = s := by
  simp [State.onCore, h]

@[simp] theorem State.onCore_core (f : Core → Core) (h : s.live c = true) :
    (s.onCore c f).core c = { f (s.core c) with work := { (f (s.core c)).work with given := true } } := by
  simp [State.onCore_live, h]

@[simp] theorem State.onCore_ctx (f : Core → Core) (y : Nat) : (s.onCore c f).ctx y = s.ctx y := by
  unfold State.onCore; split <;> rfl
@[simp] theorem State.onCore_mem (f : Core → Core) : (s.onCore c f).mem = s.mem := by
  unfold State.onCore; split <;> rfl
@[simp] theorem State.onCore_pending (f : Core → Core) : (s.onCore c f).pending = s.pending := by
  unfold State.onCore; split <;> rfl

end Sys2Proof.Machine
end

