-- ==== Sys2Proof/Laws/Fields.lean ====
section
/-! SUPPORT. The reach of a bundle's fields: one relation between the states before and after, kept by every operation
that those fields use. -/
namespace Sys2Proof.Machine
open Sys2Proof

/-- The registers of a core that results reach only by landing. -/
def Core.sameRegs (k j : Core) : Prop :=
  j.sr = k.sr ∧ j.par = k.par ∧ j.lc = k.lc ∧ j.taps = k.taps ∧ j.vregs = k.vregs ∧ j.masks = k.masks ∧
  j.opbuf = k.opbuf ∧ j.opland = k.opland ∧ j.drain = k.drain ∧ j.drainIn = k.drainIn ∧ j.memWrites = k.memWrites ∧
  j.sdCur = k.sdCur ∧ j.ring = k.ring ∧ j.sems = k.sems ∧ j.sendEps = k.sendEps ∧ j.recvEps = k.recvEps ∧
  j.store = k.store ∧ j.semIn = k.semIn

theorem Core.sameRegs_refl (k : Core) : k.sameRegs k := by simp [Core.sameRegs]

theorem Core.sameRegs_trans {a b d : Core} (h : a.sameRegs b) (g : b.sameRegs d) : a.sameRegs d := by
  unfold Core.sameRegs at *
  simp_all

/-- From `s` to `t` only core `p` of context `x`, the context itself, the events and the event messages change; the
context keeps its sites and the core the registers that results reach by landing. -/
structure Reaches (x p : Nat) (s t : State) : Prop where
  cores : ∀ l, l ≠ (s.ctx x).logical p → t.coreAt l = s.coreAt l
  regs : (s.coreAt ((s.ctx x).logical p)).sameRegs (t.coreAt ((s.ctx x).logical p))
  ctxs : ∀ y, y ≠ x → t.ctx y = s.ctx y
  sites : (t.ctx x).sites = (s.ctx x).sites
  mem : t.mem = s.mem
  pending : t.pending = s.pending
  drams : t.drams = s.drams
  base : t.base = s.base
  hubs : t.hubs = s.hubs
  grants : t.grants = s.grants
  time : t.time = s.time
  domains : t.domains = s.domains
  calendar : t.calendar = s.calendar
  links : t.links = s.links
  mbox : t.mbox = { s.mbox with messages := t.mbox.messages, forward := t.mbox.forward }
  fuses : t.fuses = s.fuses
  anchors : t.anchors = s.anchors
  ledger : t.ledger = s.ledger
  flash : t.flash = s.flash
  boot : t.boot = s.boot
  recovery : t.recovery = s.recovery
  power : t.power = s.power

variable {x p : Nat} {s t u : State}

theorem logical_of_sites {a b : Ctx} (h : b.sites = a.sites) (p : Nat) : b.logical p = a.logical p := by
  simp [Ctx.logical, h]

theorem Reaches.refl (x p : Nat) (s : State) : Reaches x p s s := by
  constructor <;> simp [Core.sameRegs_refl]

theorem Reaches.trans (h : Reaches x p s t) (g : Reaches x p t u) : Reaches x p s u := by
  have e := logical_of_sites h.sites p
  constructor
  · intro l hl
    rw [g.cores l (by rw [e]; exact hl), h.cores l hl]
  · have r := g.regs
    rw [e] at r
    exact Core.sameRegs_trans h.regs r
  · intro y hy
    rw [g.ctxs y hy, h.ctxs y hy]
  · rw [g.sites, h.sites]
  · rw [g.mem, h.mem]
  · rw [g.pending, h.pending]
  · rw [g.drams, h.drams]
  · rw [g.base, h.base]
  · rw [g.hubs, h.hubs]
  · rw [g.grants, h.grants]
  · rw [g.time, h.time]
  · rw [g.domains, h.domains]
  · rw [g.calendar, h.calendar]
  · rw [g.links, h.links]
  · rw [g.mbox, h.mbox]
  · rw [g.fuses, h.fuses]
  · rw [g.anchors, h.anchors]
  · rw [g.ledger, h.ledger]
  · rw [g.flash, h.flash]
  · rw [g.boot, h.boot]
  · rw [g.recovery, h.recovery]
  · rw [g.power, h.power]

/-- Nothing of the core or the memory of core `c` moves from `s` to `t`, in terms of the core. -/
theorem Reaches.core (c : CoreRef) (h : Reaches c.ctx c.core s t) : (s.core c).sameRegs (t.core c) := by
  have r := h.regs
  unfold State.core
  rw [logical_of_sites h.sites]
  exact r

theorem Reaches.modCoreOf (f : Core → Core) (hf : ∀ k, Core.sameRegs k (f k)) :
    Reaches x p s (s.modCoreOf x p f) := by
  constructor <;> try (first | rfl | (intros; rfl))
  · intro l hl
    exact State.coreAt_modCore_other s f hl
  · rw [State.modCoreOf, State.coreAt_modCore_self]
    exact hf _

theorem Reaches.modCtx (f : Ctx → Ctx) (hf : ∀ k, (f k).sites = k.sites) : Reaches x p s (s.modCtx x f) := by
  constructor <;> try (first | rfl | (intros; rfl))
  · exact Core.sameRegs_refl _
  · intro y hy
    exact State.ctx_modCtx_other s f hy
  · rw [State.ctx_modCtx_self]
    exact hf _

theorem Reaches.raise (code : Nat) (cx : Option Nat) (unit data : Nat) :
    Reaches x p s (s.raise code cx unit data) := by
  constructor <;> try (first | rfl | (intros; rfl))
  · exact Core.sameRegs_refl _

theorem Reaches.flagCtx (b : Nat) : Reaches x p s (s.flagCtx x b) := Reaches.modCtx _ (fun _ => rfl)

theorem Reaches.onCore (c : CoreRef) (f : Core → Core) (hf : ∀ k, Core.sameRegs k (f k)) :
    Reaches c.ctx c.core s (s.onCore c f) := by
  unfold State.onCore
  split
  · exact Reaches.modCoreOf _ (fun k => hf k)
  · exact Reaches.refl _ _ _

theorem Reaches.ite {b : Prop} [Decidable b] {a d : State} (h : Reaches x p s a) (g : Reaches x p s d) :
    Reaches x p s (if b then a else d) := by split <;> assumption

theorem Reaches.armCutAt : Reaches x p s (s.armCutAt x p) :=
  (Reaches.flagCtx _).trans (Reaches.modCoreOf _ (fun _ => by simp [Core.sameRegs]))

theorem Reaches.chanFault (b i n : Nat) : Reaches x p s (s.modCoreOf x p (fun k => k.chanFault b i n)) :=
  Reaches.modCoreOf _ (fun k => by simp [Core.sameRegs, Core.chanFault])

theorem Reaches.brokenSeen (i n : Nat) : Reaches x p s (s.brokenSeen x p i n) :=
  (Reaches.flagCtx _).trans (Reaches.chanFault _ _ _)

theorem Reaches.parity (k n : Nat) : Reaches x p s (s.parity x p k n) :=
  ((Reaches.flagCtx _).trans (Reaches.modCoreOf _ (fun _ => by simp [Core.sameRegs]))).trans (Reaches.raise _ _ _ _)

/-- What reaches no further at each element of a list reaches no further in all. -/
theorem Reaches.foldl {α : Type} (f : State → α → State) (h : ∀ t a, Reaches x p t (f t a)) (l : List α) :
    Reaches x p s (l.foldl f s) := by
  induction l generalizing s with
  | nil => exact Reaches.refl _ _ _
  | cons a r ih => exact (h s a).trans ih

theorem Reaches.ceThreshold : Reaches x p s (s.ceThreshold x p) :=
  Reaches.ite ((Reaches.modCoreOf _ (fun _ => by simp [Core.sameRegs])).trans (Reaches.raise _ _ _ _)) (Reaches.refl _ _ _)

theorem Reaches.memCe (n : Nat) : Reaches x p s (s.memCe x p n) :=
  Reaches.ite (Reaches.refl _ _ _) ((Reaches.modCoreOf _ (fun _ => by simp [Core.sameRegs])).trans Reaches.ceThreshold)

theorem Reaches.memUe (port n line word : Nat) : Reaches x p s (s.memUe x p port n line word) :=
  ((Reaches.flagCtx _).trans (Reaches.modCoreOf _ (fun _ => by simp [Core.sameRegs]))).trans (Reaches.raise _ _ _ _)

theorem Reaches.memUeFirst (src n line word : Nat) : Reaches x p s (s.memUeFirst x p src n line word) := by
  refine Reaches.modCoreOf _ (fun k => ?_)
  dsimp only
  split <;> simp [Core.sameRegs]

theorem Reaches.eccRead (port src n : Nat) (e : Ecc) : Reaches x p s (s.eccRead x p port src n e) :=
  (Reaches.memCe _).trans (Reaches.foldl _ (fun _ _ => (Reaches.memUeFirst _ _ _ _).trans (Reaches.memUe _ _ _ _)) _)

theorem Reaches.fetchUe (n baddr : Nat) (e : Ecc) : Reaches x p s (s.fetchUe x p n baddr e) :=
  Reaches.foldl _ (fun _ _ => Reaches.memUe _ _ _ _) _

theorem Reaches.present (c : CoreRef) : Reaches c.ctx c.core s (s.present c) :=
  Reaches.onCore _ _ Core.sameRegs_refl

theorem Reaches.scalarOp (c : CoreRef) (f : ScalarField) (lat : Nat) (op : W64 → W64 → W64) :
    Reaches c.ctx c.core s (s.scalarOp c f lat op) :=
  Reaches.onCore _ _ (fun _ => by simp [Core.sameRegs, Core.issue])

theorem Reaches.scalarFrom (c : CoreRef) (f : ScalarField) (lat : Nat) (v : Core → W64) :
    Reaches c.ctx c.core s (s.scalarFrom c f lat v) :=
  Reaches.onCore _ _ (fun _ => by simp [Core.sameRegs, Core.issue])

theorem Reaches.vecOp (c : CoreRef) (f : VectorField) (ok : Bool) (lat : Nat) (uses : List (Nat × Nat))
    (res : VecArgs → List VecWrite) : Reaches c.ctx c.core s (s.vecOp c f ok lat uses res) := by
  unfold State.vecOp
  exact Reaches.ite (Reaches.present c) (Reaches.onCore _ _ (fun _ => by simp [Core.sameRegs]))

theorem Reaches.vecLanes (c : CoreRef) (f : VectorField) (ok : Bool) (lat : Nat) (uses : List (Nat × Nat))
    (op : Nat → Nat → Nat → Nat) : Reaches c.ctx c.core s (s.vecLanes c f ok lat uses op) :=
  Reaches.vecOp _ _ _ _ _ _

theorem Reaches.vecInt (c : CoreRef) (f : VectorField) (lat : Nat) (op : Nat → Nat → Nat) :
    Reaches c.ctx c.core s (s.vecInt c f lat op) := Reaches.vecLanes _ _ _ _ _ _

theorem Reaches.vecCompare (c : CoreRef) (f : VectorField) (ok : Bool) (uses : List (Nat × Nat))
    (op : Nat → Nat → Bool) : Reaches c.ctx c.core s (s.vecCompare c f ok uses op) := Reaches.vecOp _ _ _ _ _ _

theorem Reaches.vecMask (c : CoreRef) (f : VectorField) (op : Mask → Mask → Mask) :
    Reaches c.ctx c.core s (s.vecMask c f op) := Reaches.vecOp _ _ _ _ _ _

theorem Reaches.vecFloat (c : CoreRef) (f : VectorField) (lat : Nat) (uses : List (Nat × Nat))
    (op : Fmt → Nat → Nat → Nat → Nat) : Reaches c.ctx c.core s (s.vecFloat c f lat uses op) :=
  Reaches.ite (Reaches.vecOp _ _ _ _ _ _) (Reaches.vecOp _ _ _ _ _ _)

theorem Reaches.vecReduce (c : CoreRef) (f : VectorField) (ok : Bool) (uses : List (Nat × Nat))
    (val : VecArgs → List (Bool × Nat) → W64) : Reaches c.ctx c.core s (s.vecReduce c f ok uses val) := by
  unfold State.vecReduce
  exact Reaches.ite (Reaches.present c) (Reaches.onCore _ _ (fun _ => by simp [Core.sameRegs]))

theorem Reaches.issueRow (c : CoreRef) (sd kind : Nat) : Reaches c.ctx c.core s (s.issueRow c sd kind) :=
  Reaches.ite (Reaches.onCore _ _ (fun _ => by simp [Core.sameRegs])) (Reaches.present c)

theorem Reaches.semop (c : CoreRef) (n : Nat) (v : Int) : Reaches c.ctx c.core s (s.semop c n v) :=
  Reaches.ite (Reaches.onCore _ _ (fun _ => by simp [Core.sameRegs])) (Reaches.present c)

theorem Reaches.arrayRow (c : CoreRef) (r : ArrayReq) : Reaches c.ctx c.core s (s.arrayRow c r) :=
  Reaches.ite (Reaches.present c) (Reaches.onCore _ _ (fun _ => by simp [Core.sameRegs]))

theorem Reaches.eccWrite (c : CoreRef) (q : Nat) (e : Ecc) : Reaches c.ctx c.core s (s.eccWrite c q e) :=
  Reaches.ite (Reaches.foldl _ (fun _ _ => Reaches.parity _ _) _)
    (Reaches.ite (Reaches.eccRead _ _ _ _) (Reaches.refl _ _ _))

theorem Reaches.chanEcc (c : CoreRef) (e : Ecc) : Reaches c.ctx c.core s (s.chanEcc c e) :=
  (Reaches.memCe _).trans (Reaches.foldl _ (fun _ _ =>
    ((Reaches.flagCtx _).trans (Reaches.modCoreOf _ (fun _ => by simp [Core.sameRegs]))).trans (Reaches.raise _ _ _ _)) _)

theorem Reaches.freezeBy (f : Freeze → Freeze) : Reaches x p s (s.freezeBy x f) := Reaches.modCtx _ (fun _ => rfl)

theorem Reaches.outsideArm (c : CoreRef) (f : State → State) (h : ∀ t, Reaches c.ctx c.core t (f t)) :
    Reaches c.ctx c.core s (s.outsideArm c f) :=
  Reaches.ite (Reaches.present c)
    (Reaches.ite ((Reaches.present c).trans Reaches.armCutAt) ((Reaches.present c).trans (h _)))

theorem Reaches.branchTo (c : CoreRef) (t : Nat) : Reaches c.ctx c.core s (s.onCore c (fun k => k.branchTo t)) :=
  Reaches.onCore _ _ (fun _ => by simp [Core.sameRegs, Core.branchTo])

/-- A command that answers through `quiet` leaves the memory and the queue of the state it began with. -/
theorem Reaches.quiet (h : Reaches x p s t) : Machine.quiet s t = .next t := by
  have e : { t with pending := s.pending, mem := s.mem } = t := by
    rw [← h.pending, ← h.mem]
  simp [Machine.quiet, e]

end Sys2Proof.Machine
end

