-- ==== Sys2Proof/Laws/Memory.lean ====
section
/-! SUPPORT. Memory: a read after a write, what a write leaves alone, and the canonical form that every memory
operation keeps. -/
namespace Sys2Proof.Machine
open Sys2Proof

@[simp] theorem Memory.byte_writeByte_self (m : Memory) (a : Nat) (b : Byte) :
    Memory.byte (Memory.writeByte m a b) a = b := Tab.get_set_self _ _ _ _

theorem Memory.byte_writeByte_other (m : Memory) {a a' : Nat} (b : Byte) (h : a' ≠ a) :
    Memory.byte (Memory.writeByte m a b) a' = Memory.byte m a' := Tab.get_set_other _ _ _ h

/-- Bytes below or beyond a write stand. -/
theorem Memory.byte_write_other (m : Memory) (a : Nat) (l : List Byte) (a' : Nat)
    (h : a' < a ∨ a + l.length ≤ a') : Memory.byte (Memory.write m a l) a' = Memory.byte m a' := by
  induction l generalizing m a with
  | nil => rfl
  | cons b r ih =>
    simp only [List.length_cons] at h
    simp only [Memory.write]
    rw [ih _ _ (by omega)]
    exact Memory.byte_writeByte_other m b (by omega)

/-- A byte of what a write wrote. -/
theorem Memory.byte_write_self (m : Memory) (a : Nat) (l : List Byte) (i : Nat) (h : i < l.length) :
    Memory.byte (Memory.write m a l) (a + i) = l[i] := by
  induction l generalizing m a i with
  | nil => simp at h
  | cons b r ih =>
    simp only [Memory.write]
    cases i with
    | zero =>
      rw [Memory.byte_write_other _ _ _ _ (by omega)]
      simp
    | succ n =>
      have h2 : n < r.length := by simpa using h
      have h3 : a + (n + 1) = a + 1 + n := by omega
      rw [h3, ih _ _ _ h2]
      simp

@[simp] theorem Memory.wf_nil : Memory.wf [] = true := rfl

theorem Memory.wf_writeByte (m : Memory) (a : Nat) (b : Byte) (h : Memory.wf m = true) :
    Memory.wf (Memory.writeByte m a b) = true := Tab.wf_set _ _ _ _ h

theorem Memory.wf_write (m : Memory) (a : Nat) (l : List Byte) (h : Memory.wf m = true) :
    Memory.wf (Memory.write m a l) = true := by
  induction l generalizing m a with
  | nil => exact h
  | cons b r ih => exact ih _ _ (Memory.wf_writeByte m a b h)

theorem Memory.wf_writeLine (m : Memory) (a : Nat) (l : Line) (h : Memory.wf m = true) :
    Memory.wf (Memory.writeLine m a l) = true := Memory.wf_write _ _ _ h

theorem Memory.wf_clear (m : Memory) (a n : Nat) (h : Memory.wf m = true) :
    Memory.wf (Memory.clear m a n) = true := Tab.wf_filter _ _ _ h

end Sys2Proof.Machine
end

