-- ==== Sys2Proof/Laws/Keep.lean ====
section
/-! SUPPORT. Memory keeps its canonical form (log 6): one lemma per operation that a step can run, each of the form
if the state before has it, the state after has it. An operation that takes a continuation asks it of the
continuation. -/
namespace Sys2Proof.Machine
open Sys2Proof

/-- The state that an outcome answers, if it answers one, has its memory in canonical form. -/
def Out.memOk (o : Out) : Prop := ∀ t, o = .next t → t.memOk

theorem Out.memOk_next {t : State} (h : t.memOk) : Out.memOk (.next t) := by
  intro u e
  cases e
  exact h

theorem State.memOk_of {s t : State} (e : t.mem = s.mem) (h : s.memOk) : t.memOk := by
  unfold State.memOk at *
  rw [e]
  exact h

/-- A state with other fields and the memory of `s`. -/
theorem State.mk_memOk (s : State) (h : s.memOk) (pending time domains calendar events cores ctxs drams base hubs grants
    links mbox fuses anchors ledger flash boot recovery power) :
    State.memOk ⟨pending, time, domains, calendar, events, cores, ctxs, s.mem, drams, base, hubs, grants, links, mbox,
      fuses, anchors, ledger, flash, boot, recovery, power⟩ := h

/-- A state with other fields and a memory that has the canonical form. -/
theorem State.mkMem_memOk (m : Memory) (h : Memory.wf m = true) (pending time domains calendar events cores ctxs drams
    base hubs grants links mbox fuses anchors ledger flash boot recovery power) :
    State.memOk ⟨pending, time, domains, calendar, events, cores, ctxs, m, drams, base, hubs, grants, links, mbox,
      fuses, anchors, ledger, flash, boot, recovery, power⟩ := h

theorem State.wf_mem {s : State} (h : s.memOk) : Memory.wf s.mem = true := h

theorem Memory.foldl_wf {α : Type} (f : Memory → α → Memory) (h : ∀ m a, Memory.wf m = true → Memory.wf (f m a) = true)
    (l : List α) (m : Memory) (hm : Memory.wf m = true) : Memory.wf (l.foldl f m) = true := by
  induction l generalizing m with
  | nil => exact hm
  | cons a r ih => exact ih _ (h m a hm)

theorem State.foldl_memOk {α : Type} (f : State → α → State) (h : ∀ s a, s.memOk → (f s a).memOk) (l : List α)
    (s : State) (hs : s.memOk) : (l.foldl f s).memOk := by
  induction l generalizing s with
  | nil => exact hs
  | cons a r ih => exact ih _ (h s a hs)

theorem State.foldl_fst_memOk {α β : Type} (f : State × α → β → State × α) (h : ∀ a b, a.1.memOk → (f a b).1.memOk)
    (l : List β) (a : State × α) (ha : a.1.memOk) : (l.foldl f a).1.memOk := by
  induction l generalizing a with
  | nil => exact ha
  | cons b r ih => exact ih _ (h a b ha)

theorem State.ite_memOk (c : Prop) [Decidable c] {a b : State} (ha : a.memOk) (hb : b.memOk) :
    (if c then a else b).memOk := by
  split
  · exact ha
  · exact hb

theorem State.ite_fst_memOk {α : Type} (c : Prop) [Decidable c] {a b : State × α} (ha : a.1.memOk) (hb : b.1.memOk) :
    (if c then a else b).1.memOk := by
  split
  · exact ha
  · exact hb

theorem Out.ite_memOk (c : Prop) [Decidable c] {a b : Out} (ha : a.memOk) (hb : b.memOk) :
    Out.memOk (if c then a else b) := by
  split
  · exact ha
  · exact hb

theorem after_memOk (o : Out) (s : State) (ho : o.memOk) (hs : s.memOk) : (after o s).memOk := by
  cases o with
  | next t => exact ho t rfl
  | fault _ => exact hs
  | refused _ => exact hs

theorem quiet_memOk (s t : State) (h : s.memOk) : Out.memOk (quiet s t) := Out.memOk_next h

theorem done_memOk (s t : State) (h : t.memOk) : Out.memOk (done s t) := Out.memOk_next h

theorem State.setCore_memOk : ∀ s l c, s.memOk → State.memOk (@State.setCore s l c) := by
  intros
  assumption

theorem State.modCore_memOk : ∀ s l f, s.memOk → State.memOk (@State.modCore s l f) := by
  intros
  assumption

theorem State.modCoreOf_memOk : ∀ s x p f, s.memOk → State.memOk (@State.modCoreOf s x p f) := by
  intros
  assumption

theorem State.setCtx_memOk : ∀ s x c, s.memOk → State.memOk (@State.setCtx s x c) := by
  intros
  assumption

theorem State.modCtx_memOk : ∀ s x f, s.memOk → State.memOk (@State.modCtx s x f) := by
  intros
  assumption

theorem State.breakConn_memOk : ∀ s connId keep, s.memOk → State.memOk (@State.breakConn s connId keep) := by
  intros
  unfold State.breakConn
  repeat' first
    | (with_reducible first
        | assumption | intro _
        | apply State.ite_memOk | apply State.foldl_memOk | apply State.modCoreOf_memOk
        | apply State.modCtx_memOk)
    | split
    | (with_reducible apply State.mk_memOk)

theorem State.setBundle_memOk : ∀ s b v, s.memOk → State.memOk (@State.setBundle s b v) := by
  intros
  assumption

theorem State.freeTag_memOk : ∀ s b t, s.memOk → State.memOk (@State.freeTag s b t) := by
  intros
  assumption

theorem State.modLinks_memOk : ∀ s f, s.memOk → State.memOk (@State.modLinks s f) := by
  intros
  assumption

theorem State.dropCircuits_memOk : ∀ s p, s.memOk → State.memOk (@State.dropCircuits s p) := by
  intros
  unfold State.dropCircuits
  repeat' first
    | (with_reducible first
        | assumption | intro _
        | apply State.ite_memOk | apply State.foldl_memOk | apply State.freeTag_memOk
        | apply State.modLinks_memOk)
    | split
    | (with_reducible apply State.mk_memOk)

theorem State.freeFlit_memOk : ∀ s b vl, s.memOk → State.memOk (@State.freeFlit s b vl) := by
  intros
  unfold State.freeFlit
  repeat' first
    | (with_reducible first
        | assumption | intro _
        | apply State.ite_memOk | apply State.setBundle_memOk)
    | split
    | (with_reducible apply State.mk_memOk)

theorem State.setPort_memOk : ∀ s p v, s.memOk → State.memOk (@State.setPort s p v) := by
  intros
  assumption

theorem State.modPort_memOk : ∀ s p f, s.memOk → State.memOk (@State.modPort s p f) := by
  intros
  assumption

theorem State.sendGroup_memOk : ∀ s p fseq ftype run, s.memOk → State.memOk (@State.sendGroup s p fseq ftype
    run) := by
  intros
  unfold State.sendGroup
  repeat' first
    | (with_reducible first
        | assumption | intro _
        | apply State.ite_memOk | apply State.modPort_memOk | apply State.setBundle_memOk)
    | split
    | (with_reducible apply State.mk_memOk)

theorem State.sendNext_memOk : ∀ s b p t, s.memOk → State.memOk (@State.sendNext s b p t) := by
  intros
  unfold State.sendNext
  repeat' first
    | (with_reducible first
        | assumption | intro _
        | apply State.ite_memOk | apply State.freeFlit_memOk | apply State.sendGroup_memOk
        | apply State.setBundle_memOk)
    | split
    | (with_reducible apply State.mk_memOk)

theorem State.pumpMany_memOk : ∀ b y2 y3, y3.memOk → State.memOk (@State.pumpMany b y2 y3) := by
  intro b n
  induction n with
  | zero =>
    intro s h
    exact h
  | succ f ih =>
    intro s h
    unfold State.pumpMany
    split
    · exact h
    · exact ih _ (State.sendNext_memOk _ _ _ _ h)

theorem State.pump_memOk : ∀ s b, s.memOk → State.memOk (@State.pump s b) := by
  intros
  unfold State.pump
  repeat' first
    | (with_reducible first
        | assumption | intro _
        | apply State.ite_memOk | apply State.pumpMany_memOk)
    | split

theorem State.queueFlit_memOk : ∀ s b t, s.memOk → State.memOk (@State.queueFlit s b t) := by
  intros
  unfold State.queueFlit
  repeat' first
    | (with_reducible first
        | assumption | intro _
        | apply State.ite_memOk | apply State.pump_memOk | apply State.setBundle_memOk)
    | split
    | (with_reducible apply State.mk_memOk)

theorem State.sendFlit_memOk : ∀ s p vl ctl tag f, s.memOk → State.memOk (@State.sendFlit s p vl ctl tag f) := by
  intros
  unfold State.sendFlit
  repeat' first
    | (with_reducible first
        | assumption | intro _
        | apply State.ite_memOk | apply State.queueFlit_memOk)
    | split

theorem State.sendCtl_memOk : ∀ s p vl l, s.memOk → State.memOk (@State.sendCtl s p vl l) := by
  intros
  unfold State.sendCtl
  repeat' first
    | (with_reducible first
        | assumption | intro _
        | apply State.ite_memOk | apply State.sendFlit_memOk)
    | split

theorem State.tellFar_memOk : ∀ s connId kind cause except, s.memOk → State.memOk (@State.tellFar s connId kind
    cause except) := by
  intros
  unfold State.tellFar
  repeat' first
    | (with_reducible first
        | assumption | intro _
        | apply State.ite_memOk | apply State.foldl_memOk | apply State.sendCtl_memOk)
    | split

theorem State.breakId_memOk : ∀ s connId cause except, s.memOk → State.memOk (@State.breakId s connId cause
    except) := by
  intros
  unfold State.breakId
  repeat' first
    | (with_reducible first
        | assumption | intro _
        | apply State.ite_memOk | apply State.breakConn_memOk | apply State.dropCircuits_memOk
        | apply State.modLinks_memOk | apply State.tellFar_memOk)
    | split
    | (with_reducible apply State.mk_memOk)

theorem State.mapCores_memOk : ∀ s x f, s.memOk → State.memOk (@State.mapCores s x f) := by
  intros
  unfold State.mapCores
  repeat' first
    | (with_reducible first
        | assumption | intro _
        | apply State.ite_memOk | apply State.foldl_memOk | apply State.modCoreOf_memOk)
    | split

theorem State.setStack_memOk : ∀ s d k, s.memOk → State.memOk (@State.setStack s d k) := by
  intros
  assumption

theorem State.modStack_memOk : ∀ s d f, s.memOk → State.memOk (@State.modStack s d f) := by
  intros
  assumption

theorem State.modWeights_memOk : ∀ s x f, s.memOk → State.memOk (@State.modWeights s x f) := by
  intros
  assumption

theorem State.raiseSev_memOk : ∀ s code sev ctx unit data, s.memOk → State.memOk (@State.raiseSev s code sev
    ctx unit data) := by
  intros
  assumption

theorem State.raise_memOk : ∀ s code ctx unit data, s.memOk → State.memOk (@State.raise s code ctx unit data) := by
  intros
  assumption

theorem State.bankSwap_memOk : ∀ s x, s.memOk → State.memOk (@State.bankSwap s x) := by
  intros
  unfold State.bankSwap
  repeat' first
    | (with_reducible first
        | assumption | intro _
        | apply State.ite_memOk | apply State.foldl_memOk | apply State.mapCores_memOk
        | apply State.modCtx_memOk | apply State.modStack_memOk | apply State.modWeights_memOk
        | apply State.raise_memOk | apply State.requota_memOk)
    | split
    | (with_reducible apply State.mk_memOk)

theorem State.setStream_memOk : ∀ s k v, s.memOk → State.memOk (@State.setStream s k v) := by
  intros
  assumption

theorem State.closeBatch_memOk : ∀ s k, s.memOk → State.memOk (@State.closeBatch s k) := by
  intros
  unfold State.closeBatch
  repeat' first
    | (with_reducible first
        | assumption | intro _
        | apply State.ite_memOk | apply State.setStream_memOk)
    | split
    | (with_reducible apply State.mk_memOk)

theorem State.endSelfLost_memOk : ∀ s x, s.memOk → State.memOk (@State.endSelfLost s x) := by
  intros
  assumption

theorem State.setSlot_memOk : ∀ s m v, s.memOk → State.memOk (@State.setSlot s m v) := by
  intros
  assumption

theorem State.modSlot_memOk : ∀ s m f, s.memOk → State.memOk (@State.modSlot s m f) := by
  intros
  assumption

theorem State.finish_memOk : ∀ s ticket status detail, s.memOk → State.memOk (@State.finish s ticket status
    detail) := by
  intros
  unfold State.finish
  repeat' first
    | (with_reducible first
        | assumption | intro _
        | apply State.ite_memOk | apply State.modSlot_memOk | apply State.raise_memOk)
    | split
    | (with_reducible apply State.mk_memOk)

theorem State.finishAll_memOk : ∀ s opcode key status detail, s.memOk → State.memOk (@State.finishAll s opcode
    key status detail) := by
  intros
  unfold State.finishAll
  repeat' first
    | (with_reducible first
        | assumption | intro _
        | apply State.ite_memOk | apply State.foldl_memOk | apply State.finish_memOk)
    | split

theorem State.toIdle_memOk : ∀ s x, s.memOk → State.memOk (@State.toIdle s x) := by
  intros
  unfold State.toIdle
  repeat' first
    | (with_reducible first
        | assumption | intro _
        | apply State.ite_memOk | apply State.closeBatch_memOk | apply State.endSelfLost_memOk
        | apply State.finishAll_memOk | apply State.modCtx_memOk)
    | split
    | (with_reducible apply State.mk_memOk)

theorem State.itemBanks_memOk : ∀ s x, s.memOk → State.memOk (@State.itemBanks s x).1 := by
  intros
  unfold State.itemBanks
  repeat' first
    | (with_reducible first
        | assumption | intro _
        | apply State.ite_fst_memOk | apply State.ite_memOk | apply State.bankSwap_memOk
        | apply State.modCtx_memOk | apply State.toIdle_memOk)
    | split
    | (with_reducible apply State.mk_memOk)

theorem State.mirror_memOk : ∀ s x i, s.memOk → State.memOk (@State.mirror s x i) := by
  intros
  unfold State.mirror
  repeat' first
    | (with_reducible first
        | assumption | intro _
        | apply State.ite_memOk | apply State.modCtx_memOk)
    | split
    | (with_reducible apply State.mk_memOk)

theorem State.addEntry_memOk : ∀ s k tick bytes, s.memOk → State.memOk (@State.addEntry s k tick bytes) := by
  intros
  unfold State.addEntry
  repeat' first
    | (with_reducible first
        | assumption | intro _
        | apply State.ite_memOk | apply State.closeBatch_memOk | apply State.mirror_memOk
        | apply State.setStream_memOk)
    | split
    | (with_reducible apply State.mk_memOk)

theorem State.logEntry_memOk : ∀ s kind k orbit step pcore payload, s.memOk → State.memOk (@State.logEntry s
    kind k orbit step pcore payload) := by
  intros
  unfold State.logEntry
  repeat' first
    | (with_reducible first
        | assumption | intro _
        | apply State.ite_memOk | apply State.addEntry_memOk)
    | split

theorem State.writeRegion_memOk : ∀ s x i r bytes, s.memOk → State.memOk (@State.writeRegion s x i r bytes) := by
  intros
  unfold State.writeRegion
  repeat' first
    | (with_reducible first
        | assumption | intro _
        | apply State.ite_memOk | apply State.foldl_memOk)
    | split
    | (with_reducible first
        | apply State.mkMem_memOk | apply Memory.wf_writeLine | apply Memory.wf_writeByte
        | apply Memory.wf_write | apply Memory.wf_clear | apply State.wf_mem | apply Memory.foldl_wf)

theorem State.writeBuffer_memOk : ∀ s x i b bytes, s.memOk → State.memOk (@State.writeBuffer s x i b bytes) := by
  intros
  unfold State.writeBuffer
  repeat' first
    | (with_reducible first
        | assumption | intro _
        | apply State.ite_memOk | apply State.writeRegion_memOk)
    | split
    | (with_reducible apply State.mk_memOk)

theorem State.takeCheckpoint_memOk : ∀ s x, s.memOk → State.memOk (@State.takeCheckpoint s x) := by
  intros
  unfold State.takeCheckpoint
  repeat' first
    | (with_reducible first
        | assumption | intro _
        | apply State.ite_memOk | apply State.logEntry_memOk | apply State.mirror_memOk
        | apply State.modCtx_memOk | apply State.raise_memOk | apply State.writeBuffer_memOk)
    | split
    | (with_reducible apply State.mk_memOk)

theorem State.itemCheckpoint_memOk : ∀ s x, s.memOk → State.memOk (@State.itemCheckpoint s x).1 := by
  intros
  unfold State.itemCheckpoint
  repeat' first
    | (with_reducible first
        | assumption | intro _
        | apply State.ite_fst_memOk | apply State.ite_memOk | apply State.modCtx_memOk
        | apply State.takeCheckpoint_memOk)
    | split
    | (with_reducible apply State.mk_memOk)

theorem State.itemCount_memOk : ∀ s x, s.memOk → State.memOk (@State.itemCount s x).1 := by
  intros
  unfold State.itemCount
  repeat' first
    | (with_reducible first
        | assumption | intro _
        | apply State.ite_fst_memOk | apply State.ite_memOk | apply State.foldl_memOk
        | apply State.mapCores_memOk | apply State.modCtx_memOk)
    | split
    | (with_reducible apply State.mk_memOk)

theorem State.arriveEntry_memOk : ∀ s x p ep index token lines, s.memOk → State.memOk (@State.arriveEntry s x p
    ep index token lines) := by
  intros
  assumption

theorem State.supply_memOk : ∀ s x p ep i, s.memOk → State.memOk (@State.supply s x p ep i) := by
  intros
  unfold State.supply
  repeat' first
    | (with_reducible first
        | assumption | intro _
        | apply State.ite_memOk | apply State.arriveEntry_memOk | apply State.modCtx_memOk)
    | split
    | (with_reducible apply State.mk_memOk)

theorem State.supplyAll_memOk : ∀ s x, s.memOk → State.memOk (@State.supplyAll s x) := by
  intros
  unfold State.supplyAll
  repeat' first
    | (with_reducible first
        | assumption | intro _
        | apply State.ite_memOk | apply State.foldl_memOk | apply State.supply_memOk)
    | split

theorem State.flagCtx_memOk : ∀ s x b, s.memOk → State.memOk (@State.flagCtx s x b) := by
  intros
  assumption

theorem State.transitCheck_memOk : ∀ s x, s.memOk → State.memOk (@State.transitCheck s x) := by
  intros
  unfold State.transitCheck
  repeat' first
    | (with_reducible first
        | assumption | intro _
        | apply State.ite_memOk | apply State.flagCtx_memOk | apply State.mapCores_memOk)
    | split
    | (with_reducible apply State.mk_memOk)

theorem State.enterOrbit_memOk : ∀ s x, s.memOk → State.memOk (@State.enterOrbit s x) := by
  intros
  unfold State.enterOrbit
  repeat' first
    | (with_reducible first
        | assumption | intro _
        | apply State.ite_memOk | apply State.foldl_memOk | apply State.mapCores_memOk
        | apply State.modCtx_memOk | apply State.modStack_memOk | apply State.supplyAll_memOk
        | apply State.transitCheck_memOk)
    | split
    | (with_reducible apply State.mk_memOk)

theorem State.intervene_memOk : ∀ s x kind pcore payload, s.memOk → State.memOk (@State.intervene s x kind
    pcore payload) := by
  intros
  unfold State.intervene
  repeat' first
    | (with_reducible first
        | assumption | intro _
        | apply State.ite_memOk | apply State.logEntry_memOk | apply State.mirror_memOk
        | apply State.modCtx_memOk)
    | split
    | (with_reducible apply State.mk_memOk)

theorem State.dropPending_memOk : ∀ s a, s.memOk → State.memOk (@State.dropPending s a) := by
  intros
  unfold State.dropPending
  repeat' first
    | (with_reducible first
        | assumption | intro _
        | apply State.ite_memOk | apply State.modCtx_memOk | apply State.setCore_memOk)
    | split
    | (with_reducible apply State.mk_memOk)

theorem State.commitOne_memOk : ∀ s d r, s.memOk → State.memOk (@State.commitOne s d r) := by
  intros
  unfold State.commitOne
  repeat' first
    | (with_reducible first
        | assumption | intro _
        | apply State.ite_memOk | apply State.modStack_memOk)
    | split
    | (with_reducible first
        | apply State.mkMem_memOk | apply Memory.wf_writeLine | apply Memory.wf_writeByte
        | apply Memory.wf_write | apply Memory.wf_clear | apply State.wf_mem | apply Memory.foldl_wf)

theorem State.commitLine_memOk : ∀ s d line, s.memOk → State.memOk (@State.commitLine s d line) := by
  intros
  unfold State.commitLine
  repeat' first
    | (with_reducible first
        | assumption | intro _
        | apply State.ite_memOk | apply State.foldl_memOk | apply State.commitOne_memOk)
    | split

theorem State.landBaseWrites_memOk : ∀ s x n, s.memOk → State.memOk (@State.landBaseWrites s x n) := by
  intros
  unfold State.landBaseWrites
  repeat' first
    | (with_reducible first
        | assumption | intro _
        | apply State.ite_memOk | apply State.foldl_memOk | apply State.modCtx_memOk)
    | split
    | (with_reducible first
        | apply State.mkMem_memOk | apply Memory.wf_writeLine | apply Memory.wf_writeByte
        | apply Memory.wf_write | apply Memory.wf_clear | apply State.wf_mem | apply Memory.foldl_wf)

theorem State.landMem_memOk : ∀ s logical n, s.memOk → State.memOk (@State.landMem s logical n) := by
  intros
  unfold State.landMem
  repeat' first
    | (with_reducible first
        | assumption | intro _
        | apply State.ite_memOk | apply State.foldl_memOk | apply State.setCore_memOk)
    | split
    | (with_reducible first
        | apply State.mkMem_memOk | apply Memory.wf_writeLine | apply Memory.wf_writeByte
        | apply Memory.wf_write | apply Memory.wf_clear | apply State.wf_mem | apply Memory.foldl_wf)

theorem State.settleLine_memOk : ∀ s a, s.memOk → State.memOk (@State.settleLine s a) := by
  intros
  unfold State.settleLine
  repeat' first
    | (with_reducible first
        | assumption | intro _
        | apply State.ite_memOk | apply State.commitLine_memOk | apply State.landBaseWrites_memOk
        | apply State.landMem_memOk)
    | split
    | (with_reducible apply State.mk_memOk)

theorem State.placeLine_memOk : ∀ s a b, s.memOk → State.memOk (@State.placeLine s a b) := by
  intros
  unfold State.placeLine
  repeat' first
    | (with_reducible first
        | assumption | intro _
        | apply State.ite_memOk | apply State.dropPending_memOk | apply State.settleLine_memOk)
    | split
    | (with_reducible first
        | apply State.mkMem_memOk | apply Memory.wf_writeLine | apply Memory.wf_writeByte
        | apply Memory.wf_write | apply Memory.wf_clear | apply State.wf_mem | apply Memory.foldl_wf)

theorem State.applyEntry_memOk : ∀ s x b, s.memOk → State.memOk (@State.applyEntry s x b) := by
  intros
  unfold State.applyEntry
  repeat' first
    | (with_reducible first
        | assumption | intro _
        | apply State.ite_memOk | apply State.intervene_memOk | apply State.modCoreOf_memOk
        | apply State.placeLine_memOk)
    | split
    | (with_reducible first
        | apply State.mkMem_memOk | apply Memory.wf_writeLine | apply Memory.wf_writeByte
        | apply Memory.wf_write | apply Memory.wf_clear | apply State.wf_mem | apply Memory.foldl_wf)

theorem State.replayEntries_memOk : ∀ s x, s.memOk → State.memOk (@State.replayEntries s x) := by
  intros
  unfold State.replayEntries
  repeat' first
    | (with_reducible first
        | assumption | intro _
        | apply State.ite_memOk | apply State.foldl_memOk | apply State.applyEntry_memOk)
    | split
    | (with_reducible apply State.mk_memOk)

theorem State.itemEnter_memOk : ∀ s x, s.memOk → State.memOk (@State.itemEnter s x).1 := by
  intros
  unfold State.itemEnter
  repeat' first
    | (with_reducible first
        | assumption | intro _
        | apply State.ite_fst_memOk | apply State.ite_memOk | apply State.enterOrbit_memOk
        | apply State.replayEntries_memOk)
    | split

theorem State.itemLag_memOk : ∀ s x, s.memOk → State.memOk (@State.itemLag s x).1 := by
  intros
  unfold State.itemLag
  repeat' first
    | (with_reducible first
        | assumption | intro _
        | apply State.ite_fst_memOk | apply State.ite_memOk | apply State.modCtx_memOk)
    | split
    | (with_reducible apply State.mk_memOk)

theorem State.restorePars_memOk : ∀ s x b, s.memOk → State.memOk (@State.restorePars s x b) := by
  intros
  unfold State.restorePars
  repeat' first
    | (with_reducible first
        | assumption | intro _
        | apply State.ite_memOk | apply State.foldl_memOk | apply State.mapCores_memOk)
    | split
    | (with_reducible apply State.mk_memOk)

theorem State.restoreSems_memOk : ∀ s x b, s.memOk → State.memOk (@State.restoreSems s x b) := by
  intros
  unfold State.restoreSems
  repeat' first
    | (with_reducible first
        | assumption | intro _
        | apply State.ite_memOk | apply State.foldl_memOk | apply State.modCoreOf_memOk)
    | split
    | (with_reducible apply State.mk_memOk)

theorem State.replayPars_memOk : ∀ s x, s.memOk → State.memOk (@State.replayPars s x) := by
  intros
  unfold State.replayPars
  repeat' first
    | (with_reducible first
        | assumption | intro _
        | apply State.ite_memOk | apply State.foldl_memOk | apply State.mapCores_memOk
        | apply State.modCtx_memOk | apply State.restorePars_memOk | apply State.restoreSems_memOk)
    | split
    | (with_reducible apply State.mk_memOk)

theorem State.itemPatch_memOk : ∀ s x, s.memOk → State.memOk (@State.itemPatch s x).1 := by
  intros
  unfold State.itemPatch
  repeat' first
    | (with_reducible first
        | assumption | intro _
        | apply State.ite_fst_memOk | apply State.ite_memOk | apply State.foldl_memOk
        | apply State.mapCores_memOk | apply State.mirror_memOk | apply State.modCtx_memOk
        | apply State.replayPars_memOk)
    | split
    | (with_reducible apply State.mk_memOk)

theorem State.itemRecord_memOk : ∀ s x, s.memOk → State.memOk (@State.itemRecord s x).1 := by
  intros
  unfold State.itemRecord
  repeat' first
    | (with_reducible first
        | assumption | intro _
        | apply State.ite_fst_memOk | apply State.ite_memOk | apply State.addEntry_memOk
        | apply State.mirror_memOk | apply State.modCtx_memOk | apply State.raise_memOk)
    | split
    | (with_reducible apply State.mk_memOk)

theorem State.applyBind_memOk : ∀ s x b, s.memOk → State.memOk (@State.applyBind s x b) := by
  intros
  unfold State.applyBind
  repeat' first
    | (with_reducible first
        | assumption | intro _
        | apply State.ite_memOk | apply State.logEntry_memOk | apply State.modCoreOf_memOk)
    | split

theorem State.closeEnd_memOk : ∀ s x b, s.memOk → State.memOk (@State.closeEnd s x b) := by
  intros
  unfold State.closeEnd
  repeat' first
    | (with_reducible first
        | assumption | intro _
        | apply State.ite_memOk | apply State.applyBind_memOk | apply State.breakConn_memOk
        | apply State.dropCircuits_memOk | apply State.tellFar_memOk)
    | split

theorem State.applyBinds_memOk : ∀ s x, s.memOk → State.memOk (@State.applyBinds s x) := by
  intros
  unfold State.applyBinds
  repeat' first
    | (with_reducible first
        | assumption | intro _
        | apply State.ite_memOk | apply State.foldl_memOk | apply State.applyBind_memOk
        | apply State.closeEnd_memOk | apply State.modCtx_memOk)
    | split
    | (with_reducible apply State.mk_memOk)

theorem State.ceThreshold_memOk : ∀ s x p, s.memOk → State.memOk (@State.ceThreshold s x p) := by
  intros
  unfold State.ceThreshold
  repeat' first
    | (with_reducible first
        | assumption | intro _
        | apply State.ite_memOk | apply State.modCoreOf_memOk | apply State.raise_memOk)
    | split
    | (with_reducible apply State.mk_memOk)

theorem State.trainPort_memOk : ∀ s p, s.memOk → State.memOk (@State.trainPort s p) := by
  intros
  unfold State.trainPort
  repeat' first
    | (with_reducible first
        | assumption | intro _
        | apply State.ite_memOk | apply State.modPort_memOk)
    | split
    | (with_reducible apply State.mk_memOk)

theorem State.trainAll_memOk : ∀ s, s.memOk → State.memOk (@State.trainAll s) := by
  intros
  unfold State.trainAll
  repeat' first
    | (with_reducible first
        | assumption | intro _
        | apply State.ite_memOk | apply State.foldl_memOk | apply State.trainPort_memOk)
    | split

theorem State.codeWritten_memOk : ∀ s, s.memOk → State.memOk (@State.codeWritten s) := by
  intros
  unfold State.codeWritten
  repeat' first
    | (with_reducible first
        | assumption | intro _
        | apply State.ite_memOk | apply State.trainAll_memOk)
    | split
    | (with_reducible apply State.mk_memOk)

theorem State.setDomain_memOk : ∀ s d v, s.memOk → State.memOk (@State.setDomain s d v) := by
  intros
  assumption

theorem State.marginWarn_memOk : ∀ s d, s.memOk → State.memOk (@State.marginWarn s d) := by
  intros
  unfold State.marginWarn
  repeat' first
    | (with_reducible first
        | assumption | intro _
        | apply State.ite_memOk | apply State.raise_memOk | apply State.setDomain_memOk)
    | split
    | (with_reducible apply State.mk_memOk)

theorem State.quotaSet_memOk : ∀ s x row, s.memOk → State.memOk (@State.quotaSet s x row) := by
  intros
  unfold State.quotaSet
  repeat' first
    | (with_reducible first
        | assumption | intro _
        | apply State.ite_memOk | apply State.raise_memOk)
    | split

theorem State.realert_memOk : ∀ s, s.memOk → State.memOk (@State.realert s) := by
  intros
  assumption

theorem State.giveOwner_memOk : ∀ s dest, s.memOk → State.memOk (@State.giveOwner s dest) := by
  intros
  assumption

theorem State.rollBack_memOk : ∀ s slot cause, s.memOk → State.memOk (@State.rollBack s slot cause) := by
  intros
  unfold State.rollBack
  repeat' first
    | (with_reducible first
        | assumption | intro _
        | apply State.ite_memOk | apply State.raise_memOk)
    | split
    | (with_reducible apply State.mk_memOk)

theorem State.passOwner_memOk : ∀ s dest, s.memOk → State.memOk (@State.passOwner s dest) := by
  intros
  unfold State.passOwner
  repeat' first
    | (with_reducible first
        | assumption | intro _
        | apply State.ite_memOk | apply State.giveOwner_memOk | apply State.rollBack_memOk)
    | split

theorem State.rebind_memOk : ∀ s m v, s.memOk → State.memOk (@State.rebind s m v) := by
  intros
  unfold State.rebind
  repeat' first
    | (with_reducible first
        | assumption | intro _
        | apply State.ite_memOk | apply State.passOwner_memOk | apply State.setSlot_memOk)
    | split
    | (with_reducible apply State.mk_memOk)

theorem State.setSetting_memOk : ∀ s sid v, s.memOk → State.memOk (@State.setSetting s sid v) := by
  intros
  assumption

theorem State.stallCheck_memOk : ∀ s x, s.memOk → State.memOk (@State.stallCheck s x) := by
  intros
  unfold State.stallCheck
  repeat' first
    | (with_reducible first
        | assumption | intro _
        | apply State.ite_memOk | apply State.modCtx_memOk | apply State.raise_memOk)
    | split
    | (with_reducible apply State.mk_memOk)

theorem State.timeState_memOk : ∀ s st, s.memOk → State.memOk (@State.timeState s st) := by
  intros
  unfold State.timeState
  repeat' first
    | (with_reducible first
        | assumption | intro _
        | apply State.ite_memOk | apply State.raise_memOk)
    | split
    | (with_reducible apply State.mk_memOk)

theorem State.timeRole_memOk : ∀ s v, s.memOk → State.memOk (@State.timeRole s v) := by
  intros
  unfold State.timeRole
  repeat' first
    | (with_reducible first
        | assumption | intro _
        | apply State.ite_memOk | apply State.timeState_memOk)
    | split
    | (with_reducible apply State.mk_memOk)

theorem State.applySetting_memOk : ∀ s sid v, s.memOk → State.memOk (@State.applySetting s sid v) := by
  intros
  unfold State.applySetting
  repeat' first
    | (with_reducible first
        | assumption | intro _
        | apply State.ite_memOk | apply State.foldl_memOk | apply State.ceThreshold_memOk
        | apply State.codeWritten_memOk | apply State.marginWarn_memOk | apply State.quotaSet_memOk
        | apply State.realert_memOk | apply State.rebind_memOk | apply State.setSetting_memOk
        | apply State.stallCheck_memOk | apply State.timeRole_memOk)
    | split
    | (with_reducible apply State.mk_memOk)

theorem State.applyPart_memOk : ∀ s q, s.memOk → State.memOk (@State.applyPart s q) := by
  intros
  unfold State.applyPart
  repeat' first
    | (with_reducible first
        | assumption | intro _
        | apply State.ite_memOk | apply State.applySetting_memOk)
    | split
    | (with_reducible apply State.mk_memOk)

theorem State.txnDone_memOk : ∀ s, s.memOk → State.memOk (@State.txnDone s) := by
  intros
  unfold State.txnDone
  repeat' first
    | (with_reducible first
        | assumption | intro _
        | apply State.ite_memOk | apply State.raise_memOk)
    | split
    | (with_reducible apply State.mk_memOk)

theorem State.applyParts_memOk : ∀ s p, s.memOk → State.memOk (@State.applyParts s p) := by
  intros
  unfold State.applyParts
  repeat' first
    | (with_reducible first
        | assumption | intro _
        | apply State.ite_memOk | apply State.foldl_memOk | apply State.applyPart_memOk
        | apply State.txnDone_memOk)
    | split
    | (with_reducible apply State.mk_memOk)

theorem State.boundarySettings_memOk : ∀ s x, s.memOk → State.memOk (@State.boundarySettings s x) := by
  intros
  unfold State.boundarySettings
  repeat' first
    | (with_reducible first
        | assumption | intro _
        | apply State.ite_memOk | apply State.foldl_memOk | apply State.applyParts_memOk
        | apply State.applySetting_memOk)
    | split
    | (with_reducible apply State.mk_memOk)

theorem State.itemSettings_memOk : ∀ s x, s.memOk → State.memOk (@State.itemSettings s x).1 := by
  intros
  unfold State.itemSettings
  repeat' first
    | (with_reducible first
        | assumption | intro _
        | apply State.ite_fst_memOk | apply State.ite_memOk | apply State.applyBinds_memOk
        | apply State.boundarySettings_memOk | apply State.modCtx_memOk | apply State.requota_memOk)
    | split
    | (with_reducible apply State.mk_memOk)

theorem State.catchUpDiverged_memOk : ∀ s x, s.memOk → State.memOk (@State.catchUpDiverged s x) := by
  intros
  unfold State.catchUpDiverged
  repeat' first
    | (with_reducible first
        | assumption | intro _
        | apply State.ite_memOk | apply State.finish_memOk | apply State.modCtx_memOk | apply State.raise_memOk
        | apply State.toIdle_memOk)
    | split
    | (with_reducible apply State.mk_memOk)

theorem State.catchUpEnd_memOk : ∀ s x, s.memOk → State.memOk (@State.catchUpEnd s x) := by
  intros
  unfold State.catchUpEnd
  repeat' first
    | (with_reducible first
        | assumption | intro _
        | apply State.ite_memOk | apply State.foldl_memOk | apply State.applyBind_memOk
        | apply State.finish_memOk | apply State.modCtx_memOk | apply State.raise_memOk
        | apply State.toIdle_memOk)
    | split
    | (with_reducible apply State.mk_memOk)

theorem State.itemStatus_memOk : ∀ s x, s.memOk → State.memOk (@State.itemStatus s x).1 := by
  intros
  unfold State.itemStatus
  repeat' first
    | (with_reducible first
        | assumption | intro _
        | apply State.ite_fst_memOk | apply State.ite_memOk | apply State.catchUpDiverged_memOk
        | apply State.catchUpEnd_memOk | apply State.modCtx_memOk)
    | split
    | (with_reducible apply State.mk_memOk)

theorem State.payBulk_memOk : ∀ s connId, s.memOk → State.memOk (@State.payBulk s connId) := by
  intros
  unfold State.payBulk
  repeat' first
    | (with_reducible first
        | assumption | intro _
        | apply State.ite_memOk | apply State.foldl_memOk | apply State.modLinks_memOk
        | apply State.sendCtl_memOk)
    | split
    | (with_reducible apply State.mk_memOk)

theorem State.bulkTake_memOk : ∀ s connId n, s.memOk → State.memOk (@State.bulkTake s connId n) := by
  intros
  unfold State.bulkTake
  repeat' first
    | (with_reducible first
        | assumption | intro _
        | apply State.ite_memOk | apply State.modLinks_memOk | apply State.payBulk_memOk)
    | split
    | (with_reducible apply State.mk_memOk)

theorem State.weightBroken_memOk : ∀ s x status leaf, s.memOk → State.memOk (@State.weightBroken s x status
    leaf) := by
  intros
  unfold State.weightBroken
  repeat' first
    | (with_reducible first
        | assumption | intro _
        | apply State.ite_memOk | apply State.bulkTake_memOk | apply State.finish_memOk
        | apply State.modCtx_memOk | apply State.modWeights_memOk | apply State.raise_memOk)
    | split
    | (with_reducible apply State.mk_memOk)

theorem State.weightComplete_memOk : ∀ s x img, s.memOk → State.memOk (@State.weightComplete s x img) := by
  intros
  unfold State.weightComplete
  repeat' first
    | (with_reducible first
        | assumption | intro _
        | apply State.ite_memOk | apply State.bulkTake_memOk | apply State.finish_memOk
        | apply State.logEntry_memOk | apply State.modWeights_memOk | apply State.raise_memOk)
    | split
    | (with_reducible apply State.mk_memOk)

theorem State.writeSeg_memOk : ∀ x i g y4 y5 y6 y7, y7.memOk → State.memOk (@State.writeSeg x i g y4 y5 y6 y7) := by
  intro x i g n
  induction n with
  | zero =>
    intro o l s h
    exact h
  | succ f ih =>
    intro o l s h
    unfold State.writeSeg
    exact State.ite_memOk _ h (ih _ _ _ (Memory.wf_write _ _ _ h))

theorem State.writeChunk_memOk : ∀ s x i g k bytes, s.memOk → State.memOk (@State.writeChunk s x i g k bytes) := by
  intros
  unfold State.writeChunk
  repeat' first
    | (with_reducible first
        | assumption | intro _
        | apply State.ite_memOk | apply State.writeSeg_memOk)
    | split

theorem State.writeBody_memOk : ∀ x y2 y3, y3.memOk → State.memOk (@State.writeBody x y2 y3) := by
  intro x n
  induction n with
  | zero =>
    intro s h
    exact h
  | succ f ih =>
    intro s h
    unfold State.writeBody
    dsimp only
    repeat' first
      | (with_reducible first
          | assumption
          | apply ih | apply State.ite_memOk | apply State.weightComplete_memOk | apply State.weightBroken_memOk
          | apply State.modWeights_memOk | apply State.writeChunk_memOk)
      | split

theorem State.itemWeights_memOk : ∀ s x, s.memOk → State.memOk (@State.itemWeights s x).1 := by
  intros
  unfold State.itemWeights
  repeat' first
    | (with_reducible first
        | assumption | intro _
        | apply State.ite_fst_memOk | apply State.ite_memOk | apply State.modCtx_memOk
        | apply State.modWeights_memOk | apply State.payBulk_memOk | apply State.writeBody_memOk)
    | split
    | (with_reducible apply State.mk_memOk)

theorem State.boundaryItems_memOk : ∀ x y2 y3, y3.memOk → State.memOk (@State.boundaryItems x y2 y3) := by
  intro x n
  induction n with
  | zero =>
    intro s h
    exact h
  | succ f ih =>
    intro s h
    unfold State.boundaryItems
    dsimp only
    split
    all_goals
      with_reducible
        apply State.ite_memOk
        · apply ih
          first
            | assumption
            | (apply State.itemRecord_memOk; assumption)
            | (apply State.itemStatus_memOk; assumption)
            | (apply State.itemSettings_memOk; assumption)
            | (apply State.itemWeights_memOk; assumption)
            | (apply State.itemBanks_memOk; assumption)
            | (apply State.itemPatch_memOk; assumption)
            | (apply State.itemCount_memOk; assumption)
            | (apply State.itemCheckpoint_memOk; assumption)
            | (apply State.itemLag_memOk; assumption)
            | (apply State.itemEnter_memOk; assumption)
        · first
            | assumption
            | (apply State.itemRecord_memOk; assumption)
            | (apply State.itemStatus_memOk; assumption)
            | (apply State.itemSettings_memOk; assumption)
            | (apply State.itemWeights_memOk; assumption)
            | (apply State.itemBanks_memOk; assumption)
            | (apply State.itemPatch_memOk; assumption)
            | (apply State.itemCount_memOk; assumption)
            | (apply State.itemCheckpoint_memOk; assumption)
            | (apply State.itemLag_memOk; assumption)
            | (apply State.itemEnter_memOk; assumption)

theorem State.boundaryGo_memOk : ∀ s x, s.memOk → State.memOk (@State.boundaryGo s x) := by
  intros
  unfold State.boundaryGo
  repeat' first
    | (with_reducible first
        | assumption | intro _
        | apply State.ite_memOk | apply State.boundaryItems_memOk)
    | split

theorem State.restoreRest_memOk : ∀ s x b, s.memOk → State.memOk (@State.restoreRest s x b) := by
  intro s x b h
  unfold State.restoreRest
  dsimp only
  apply State.foldl_fst_memOk
  · intro a r ha
    exact State.writeRegion_memOk _ _ _ _ _ ha
  · apply State.modCtx_memOk
    apply State.foldl_memOk
    · intro s i hs
      exact State.applySetting_memOk _ _ _ hs
    · exact h

theorem State.ckptArrived_memOk : ∀ s d bytes, s.memOk → State.memOk (@State.ckptArrived s d bytes) := by
  intros
  unfold State.ckptArrived
  repeat' first
    | (with_reducible first
        | assumption | intro _
        | apply State.ite_memOk | apply State.finish_memOk | apply State.modCtx_memOk
        | apply State.restoreRest_memOk)
    | split
    | (with_reducible apply State.mk_memOk)

theorem State.modFlash_memOk : ∀ s f, s.memOk → State.memOk (@State.modFlash s f) := by
  intros
  assumption

theorem State.store_memOk : ∀ s w, s.memOk → State.memOk (@State.store s w) := by
  intros
  assumption

theorem State.fwArrived_memOk : ∀ s d bytes, s.memOk → State.memOk (@State.fwArrived s d bytes) := by
  intros
  unfold State.fwArrived
  repeat' first
    | (with_reducible first
        | assumption | intro _
        | apply State.ite_memOk | apply State.bulkTake_memOk | apply State.store_memOk)
    | split
    | (with_reducible apply State.mk_memOk)

theorem State.bulkDeferred_memOk : ∀ s b d, s.memOk → State.memOk (@State.bulkDeferred s b d) := by
  intros
  unfold State.bulkDeferred
  repeat' first
    | (with_reducible first
        | assumption | intro _
        | apply State.ite_memOk | apply State.bulkTake_memOk | apply State.ckptArrived_memOk
        | apply State.finish_memOk | apply State.fwArrived_memOk | apply State.modCtx_memOk)
    | split
    | (with_reducible apply State.mk_memOk)

theorem State.modLedger_memOk : ∀ s f, s.memOk → State.memOk (@State.modLedger s f) := by
  intros
  assumption

theorem State.ledgerHigh_memOk : ∀ s, s.memOk → State.memOk (@State.ledgerHigh s) := by
  intros
  unfold State.ledgerHigh
  repeat' first
    | (with_reducible first
        | assumption | intro _
        | apply State.ite_memOk | apply State.modLedger_memOk | apply State.raise_memOk)
    | split
    | (with_reducible apply State.mk_memOk)

theorem State.sendBulkEntry_memOk : ∀ s c lines, s.memOk → State.memOk (@State.sendBulkEntry s c lines) := by
  intros
  unfold State.sendBulkEntry
  repeat' first
    | (with_reducible first
        | assumption | intro _
        | apply State.ite_memOk | apply State.foldl_memOk | apply State.sendCtl_memOk
        | apply State.sendFlit_memOk)
    | split

theorem State.sendBulk_memOk : ∀ s connId bytes, s.memOk → State.memOk (@State.sendBulk s connId bytes) := by
  intros
  unfold State.sendBulk
  repeat' first
    | (with_reducible first
        | assumption | intro _
        | apply State.ite_memOk | apply State.foldl_memOk | apply State.sendBulkEntry_memOk)
    | split
    | (with_reducible apply State.mk_memOk)

theorem State.serveRead_memOk : ∀ s r, s.memOk → State.memOk (@State.serveRead s r).1 := by
  intro s r h
  unfold State.serveRead
  dsimp only
  apply State.ite_fst_memOk
  all_goals
    apply State.foldl_fst_memOk
    · intro a b ha
      exact State.sendBulk_memOk _ _ _ ha
    · exact h

theorem State.serveReads_memOk : ∀ s, s.memOk → State.memOk (@State.serveReads s) := by
  intro s h
  unfold State.serveReads
  dsimp only
  apply State.ledgerHigh_memOk
  refine State.mk_memOk _ ?_ _ _ _ _ _ _ _ _ _ _ _ _ _ _ _ _ _ _ _ _
  apply State.foldl_fst_memOk
  · intro a r ha
    have g := State.serveRead_memOk a.1 r ha
    split
    · exact State.finish_memOk _ _ _ _ ha
    · split
      · exact State.mk_memOk _ g _ _ _ _ _ _ _ _ _ _ _ _ _ _ _ _ _ _ _ _
      · exact State.finish_memOk _ _ _ _ (State.mk_memOk _ g _ _ _ _ _ _ _ _ _ _ _ _ _ _ _ _ _ _ _ _)
  · exact h

theorem State.weightCut_memOk : ∀ s x, s.memOk → State.memOk (@State.weightCut s x) := by
  intros
  unfold State.weightCut
  repeat' first
    | (with_reducible first
        | assumption | intro _
        | apply State.ite_memOk | apply State.modWeights_memOk | apply State.weightBroken_memOk)
    | split
    | (with_reducible apply State.mk_memOk)

theorem State.weightRefused_memOk : ∀ s x status, s.memOk → State.memOk (@State.weightRefused s x status) := by
  intros
  unfold State.weightRefused
  repeat' first
    | (with_reducible first
        | assumption | intro _
        | apply State.ite_memOk | apply State.bulkTake_memOk | apply State.finish_memOk
        | apply State.modWeights_memOk | apply State.raise_memOk)
    | split
    | (with_reducible apply State.mk_memOk)

theorem State.weightsAdvance_memOk : ∀ s x, s.memOk → State.memOk (@State.weightsAdvance s x) := by
  intros
  unfold State.weightsAdvance
  repeat' first
    | (with_reducible first
        | assumption | intro _
        | apply State.ite_memOk | apply State.modWeights_memOk | apply State.weightCut_memOk
        | apply State.weightRefused_memOk | apply State.writeBody_memOk)
    | split
    | (with_reducible apply State.mk_memOk)

theorem State.bulkEvent_memOk : ∀ s connId, s.memOk → State.memOk (@State.bulkEvent s connId) := by
  intros
  unfold State.bulkEvent
  repeat' first
    | (with_reducible first
        | assumption | intro _
        | apply State.ite_memOk | apply State.foldl_memOk | apply State.boundaryGo_memOk
        | apply State.bulkDeferred_memOk | apply State.serveReads_memOk | apply State.weightsAdvance_memOk)
    | split
    | (with_reducible apply State.mk_memOk)

theorem State.breakWith_memOk : ∀ s connId cause except, s.memOk → State.memOk (@State.breakWith s connId cause
    except) := by
  intros
  unfold State.breakWith
  repeat' first
    | (with_reducible first
        | assumption | intro _
        | apply State.ite_memOk | apply State.breakId_memOk | apply State.bulkEvent_memOk)
    | split

theorem State.dropMirror_memOk : ∀ s x, s.memOk → State.memOk (@State.dropMirror s x) := by
  intros
  unfold State.dropMirror
  repeat' first
    | (with_reducible first
        | assumption | intro _
        | apply State.ite_memOk | apply State.foldl_memOk | apply State.dropCircuits_memOk
        | apply State.finish_memOk | apply State.freeTag_memOk | apply State.modLinks_memOk)
    | split
    | (with_reducible apply State.mk_memOk)

theorem State.mirrorFree_memOk : ∀ s x, s.memOk → State.memOk (@State.mirrorFree s x) := by
  intros
  unfold State.mirrorFree
  repeat' first
    | (with_reducible first
        | assumption | intro _
        | apply State.ite_memOk | apply State.boundaryGo_memOk)
    | split

theorem State.modHalo_memOk : ∀ s x f, s.memOk → State.memOk (@State.modHalo s x f) := by
  intros
  assumption

theorem State.suspendHere_memOk : ∀ s x, s.memOk → State.memOk (@State.suspendHere s x) := by
  intros
  unfold State.suspendHere
  repeat' first
    | (with_reducible first
        | assumption | intro _
        | apply State.ite_memOk | apply State.dropMirror_memOk | apply State.mirrorFree_memOk
        | apply State.modHalo_memOk | apply State.raise_memOk)
    | split
    | (with_reducible apply State.mk_memOk)

theorem State.partnerResets_memOk : ∀ s p, s.memOk → State.memOk (@State.partnerResets s p) := by
  intros
  unfold State.partnerResets
  repeat' first
    | (with_reducible first
        | assumption | intro _
        | apply State.ite_memOk | apply State.foldl_memOk | apply State.suspendHere_memOk)
    | split

theorem State.portOff_memOk : ∀ s p ph, s.memOk → State.memOk (@State.portOff s p ph) := by
  intros
  assumption

theorem State.absenceArrives_memOk : ∀ s p f, s.memOk → State.memOk (@State.absenceArrives s p f) := by
  intros
  unfold State.absenceArrives
  repeat' first
    | (with_reducible first
        | assumption | intro _
        | apply State.ite_memOk | apply State.foldl_memOk | apply State.breakWith_memOk
        | apply State.modPort_memOk | apply State.partnerResets_memOk | apply State.portOff_memOk)
    | split
    | (with_reducible apply State.mk_memOk)

theorem State.modBoot_memOk : ∀ s f, s.memOk → State.memOk (@State.modBoot s f) := by
  intros
  assumption

theorem State.baseFails_memOk : ∀ s q, s.memOk → State.memOk (@State.baseFails s q) := by
  intros
  unfold State.baseFails
  repeat' first
    | (with_reducible first
        | assumption | intro _
        | apply State.ite_memOk | apply State.modBoot_memOk | apply State.raise_memOk)
    | split
    | (with_reducible apply State.mk_memOk)

theorem State.siteFails_memOk : ∀ s site typ, s.memOk → State.memOk (@State.siteFails s site typ) := by
  intros
  unfold State.siteFails
  repeat' first
    | (with_reducible first
        | assumption | intro _
        | apply State.ite_memOk | apply State.raise_memOk)
    | split
    | (with_reducible apply State.mk_memOk)

theorem State.coreDefect_memOk : ∀ s e, s.memOk → State.memOk (@State.coreDefect s e) := by
  intros
  unfold State.coreDefect
  repeat' first
    | (with_reducible first
        | assumption | intro _
        | apply State.ite_memOk | apply State.modBoot_memOk | apply State.siteFails_memOk)
    | split
    | (with_reducible apply State.mk_memOk)

theorem State.stackFails_memOk : ∀ s d typ, s.memOk → State.memOk (@State.stackFails s d typ) := by
  intros
  unfold State.stackFails
  repeat' first
    | (with_reducible first
        | assumption | intro _
        | apply State.ite_memOk | apply State.modBoot_memOk | apply State.raise_memOk)
    | split
    | (with_reducible apply State.mk_memOk)

theorem State.absorbDefect_memOk : ∀ s e, s.memOk → State.memOk (@State.absorbDefect s e) := by
  intros
  unfold State.absorbDefect
  repeat' first
    | (with_reducible first
        | assumption | intro _
        | apply State.ite_memOk | apply State.baseFails_memOk | apply State.coreDefect_memOk
        | apply State.modBoot_memOk | apply State.siteFails_memOk | apply State.stackFails_memOk)
    | split
    | (with_reducible apply State.mk_memOk)

theorem State.newTicket_memOk : ∀ s, s.memOk → State.memOk (@State.newTicket s).1 := by
  intros
  assumption

theorem State.defer_memOk : ∀ s m q op key aux data, s.memOk → State.memOk (@State.defer s m q op key aux
    data).1 := by
  intros
  assumption

theorem refuse_memOk : ∀ s status detail, s.memOk → State.memOk (@refuse s status detail).1 := by
  intros
  assumption

theorem State.accept_memOk : ∀ s m q op key aux data go, s.memOk → (∀ v0 v1, State.memOk v0 → State.memOk (go
    v0 v1)) → State.memOk (@State.accept s m q op key aux data go).1 := by
  intro s m q op key aux data go h g
  unfold State.accept
  dsimp only
  split
  · exact refuse_memOk _ _ _ h
  · exact g _ _ (State.defer_memOk _ _ _ _ _ _ _ h)

theorem State.addRepairs_memOk : ∀ s l, s.memOk → State.memOk (@State.addRepairs s l) := by
  intros
  unfold State.addRepairs
  repeat' first
    | (with_reducible first
        | assumption | intro _
        | apply State.ite_memOk | apply State.store_memOk)
    | split

theorem State.inputGrows_memOk : ∀ s x n, s.memOk → State.memOk (@State.inputGrows s x n) := by
  intros
  unfold State.inputGrows
  repeat' first
    | (with_reducible first
        | assumption | intro _
        | apply State.ite_memOk | apply State.modCtx_memOk)
    | split
    | (with_reducible apply State.mk_memOk)

theorem State.tierCompare_memOk : ∀ s x p ep lines, s.memOk → State.memOk (@State.tierCompare s x p ep lines) := by
  intros
  unfold State.tierCompare
  repeat' first
    | (with_reducible first
        | assumption | intro _
        | apply State.ite_memOk | apply State.flagCtx_memOk | apply State.modCoreOf_memOk
        | apply State.modCtx_memOk | apply State.raise_memOk)
    | split
    | (with_reducible apply State.mk_memOk)

theorem State.admitEntry_memOk : ∀ s x p ep i h', s.memOk → State.memOk (@State.admitEntry s x p ep i h') := by
  intros
  unfold State.admitEntry
  repeat' first
    | (with_reducible first
        | assumption | intro _
        | apply State.ite_memOk | apply State.inputGrows_memOk | apply State.mirror_memOk
        | apply State.modCoreOf_memOk | apply State.modCtx_memOk | apply State.tierCompare_memOk)
    | split
    | (with_reducible apply State.mk_memOk)

theorem State.admitFrom_memOk : ∀ x p ep sem thr y6 y7, y7.memOk → State.memOk (@State.admitFrom x p ep sem thr
    y6 y7) := by
  intro x p ep sem thr n
  induction n with
  | zero =>
    intro s h
    exact h
  | succ f ih =>
    intro s h
    unfold State.admitFrom
    dsimp only
    split
    · exact h
    · apply ih
      apply State.modCoreOf_memOk
      apply State.foldl_memOk
      · intro s q hs
        exact State.admitEntry_memOk _ _ _ _ _ _ hs
      · exact h

theorem State.admission_memOk : ∀ s x c, s.memOk → State.memOk (@State.admission s x c) := by
  intros
  unfold State.admission
  repeat' first
    | (with_reducible first
        | assumption | intro _
        | apply State.ite_memOk | apply State.admitFrom_memOk | apply State.modCoreOf_memOk)
    | split
    | (with_reducible apply State.mk_memOk)

theorem State.advanceFuses_memOk : ∀ s, s.memOk → State.memOk (@State.advanceFuses s) := by
  intros
  unfold State.advanceFuses
  repeat' first
    | (with_reducible first
        | assumption | intro _
        | apply State.ite_memOk)
    | split
    | (with_reducible apply State.mk_memOk)

theorem State.allocRing_memOk : ∀ s x p n landed, s.memOk → State.memOk (@State.allocRing s x p n landed).1 := by
  intros
  assumption

theorem State.retestTicks_memOk : ∀ s, s.memOk → State.memOk (@State.retestTicks s) := by
  intros
  unfold State.retestTicks
  repeat' first
    | (with_reducible first
        | assumption | intro _
        | apply State.ite_memOk | apply State.raise_memOk)
    | split
    | (with_reducible apply State.mk_memOk)

theorem State.announce_memOk : ∀ s kind unit start len, s.memOk → State.memOk (@State.announce s kind unit
    start len) := by
  intros
  unfold State.announce
  repeat' first
    | (with_reducible first
        | assumption | intro _
        | apply State.ite_memOk | apply State.retestTicks_memOk)
    | split
    | (with_reducible apply State.mk_memOk)

theorem State.message_memOk : ∀ s m b, s.memOk → State.memOk (@State.message s m b) := by
  intros
  unfold State.message
  repeat' first
    | (with_reducible first
        | assumption | intro _
        | apply State.ite_memOk)
    | split
    | (with_reducible apply State.mk_memOk)

theorem State.respond_memOk : ∀ s m seq r, s.memOk → State.memOk (@State.respond s m seq r) := by
  intros
  unfold State.respond
  repeat' first
    | (with_reducible first
        | assumption | intro _
        | apply State.ite_memOk | apply State.message_memOk | apply State.modSlot_memOk)
    | split
    | (with_reducible apply State.mk_memOk)

theorem State.respondClaim_memOk : ∀ s m seq r, s.memOk → State.memOk (@State.respondClaim s m seq r) := by
  intros
  unfold State.respondClaim
  repeat' first
    | (with_reducible first
        | assumption | intro _
        | apply State.ite_memOk | apply State.modSlot_memOk | apply State.respond_memOk)
    | split
    | (with_reducible apply State.mk_memOk)

theorem State.electionCheck_memOk : ∀ s, s.memOk → State.memOk (@State.electionCheck s) := by
  intros
  unfold State.electionCheck
  repeat' first
    | (with_reducible first
        | assumption | intro _
        | apply State.ite_memOk | apply State.foldl_memOk | apply State.giveOwner_memOk
        | apply State.respondClaim_memOk)
    | split
    | (with_reducible apply State.mk_memOk)

theorem State.leaseCheck_memOk : ∀ s, s.memOk → State.memOk (@State.leaseCheck s) := by
  intros
  unfold State.leaseCheck
  repeat' first
    | (with_reducible first
        | assumption | intro _
        | apply State.ite_memOk | apply State.raise_memOk | apply State.rollBack_memOk)
    | split
    | (with_reducible apply State.mk_memOk)

theorem State.mboxTimers_memOk : ∀ s, s.memOk → State.memOk (@State.mboxTimers s) := by
  intros
  unfold State.mboxTimers
  repeat' first
    | (with_reducible first
        | assumption | intro _
        | apply State.ite_memOk | apply State.electionCheck_memOk | apply State.leaseCheck_memOk)
    | split

theorem State.renew_memOk : ∀ s m, s.memOk → State.memOk (@State.renew s m) := by
  intros
  unfold State.renew
  repeat' first
    | (with_reducible first
        | assumption | intro _
        | apply State.ite_memOk)
    | split
    | (with_reducible apply State.mk_memOk)

theorem State.answer_memOk : ∀ s m b status, s.memOk → State.memOk (@State.answer s m b status) := by
  intros
  unfold State.answer
  repeat' first
    | (with_reducible first
        | assumption | intro _
        | apply State.ite_memOk | apply State.mboxTimers_memOk | apply State.modSlot_memOk
        | apply State.renew_memOk | apply State.respond_memOk)
    | split
    | (with_reducible apply State.mk_memOk)

theorem State.armCutAt_memOk : ∀ s x p, s.memOk → State.memOk (@State.armCutAt s x p) := by
  intros
  assumption

theorem State.onCore_memOk : ∀ s c f, s.memOk → State.memOk (@State.onCore s c f) := by
  intros
  unfold State.onCore
  repeat' first
    | (with_reducible first
        | assumption | intro _
        | apply State.ite_memOk | apply State.modCoreOf_memOk)
    | split
    | (with_reducible apply State.mk_memOk)

theorem State.present_memOk : ∀ s c, s.memOk → State.memOk (@State.present s c) := by
  intros
  unfold State.present
  repeat' first
    | (with_reducible first
        | assumption | intro _
        | apply State.ite_memOk | apply State.onCore_memOk)
    | split

theorem State.arrayRow_memOk : ∀ s c r, s.memOk → State.memOk (@State.arrayRow s c r) := by
  intros
  unfold State.arrayRow
  repeat' first
    | (with_reducible first
        | assumption | intro _
        | apply State.ite_memOk | apply State.onCore_memOk | apply State.present_memOk)
    | split
    | (with_reducible apply State.mk_memOk)

theorem execEnter_memOk : ∀ c k f e s, s.memOk → Out.memOk (@execEnter c k f e s) := by
  intros
  unfold execEnter
  repeat' first
    | (with_reducible first
        | assumption | intro _
        | apply Out.memOk_next | apply Out.ite_memOk | apply State.ite_memOk | apply State.arrayRow_memOk)
    | split

theorem execShift_memOk : ∀ c k f e s, s.memOk → Out.memOk (@execShift c k f e s) := by
  intros
  unfold execShift
  repeat' first
    | (with_reducible first
        | assumption | intro _
        | apply Out.memOk_next | apply Out.ite_memOk | apply State.ite_memOk | apply State.arrayRow_memOk)
    | split

theorem execSwap_memOk : ∀ c k f s, s.memOk → Out.memOk (@execSwap c k f s) := by
  intros
  unfold execSwap
  repeat' first
    | (with_reducible first
        | assumption | intro _
        | apply Out.memOk_next | apply Out.ite_memOk | apply State.ite_memOk | apply State.arrayRow_memOk)
    | split

theorem State.arrayActions_memOk : ∀ s c f k, s.memOk → State.memOk (@State.arrayActions s c f k) := by
  intros
  unfold State.arrayActions
  repeat' first
    | (with_reducible first
        | assumption | intro _
        | apply State.ite_memOk | apply after_memOk | apply execEnter_memOk | apply execShift_memOk
        | apply execSwap_memOk)
    | split

theorem State.arriveBase_memOk : ∀ s x all f, s.memOk → State.memOk (@State.arriveBase s x all f) := by
  intros
  unfold State.arriveBase
  repeat' first
    | (with_reducible first
        | assumption | intro _
        | apply State.ite_memOk | apply State.modCtx_memOk)
    | split
    | (with_reducible apply State.mk_memOk)

theorem State.arriveChannel_memOk : ∀ s x f, s.memOk → State.memOk (@State.arriveChannel s x f) := by
  intros
  unfold State.arriveChannel
  repeat' first
    | (with_reducible first
        | assumption | intro _
        | apply State.ite_memOk | apply State.modCoreOf_memOk)
    | split
    | (with_reducible apply State.mk_memOk)

theorem State.arriveCredit_memOk : ∀ s x p ep peer k, s.memOk → State.memOk (@State.arriveCredit s x p ep peer
    k) := by
  intros
  assumption

theorem State.enqueueWrite_memOk : ∀ s x p n j k ctxLine line data, s.memOk → State.memOk (@State.enqueueWrite
    s x p n j k ctxLine line data) := by
  intros
  assumption

theorem State.arriveDramLine_memOk : ∀ s x f, s.memOk → State.memOk (@State.arriveDramLine s x f) := by
  intros
  unfold State.arriveDramLine
  repeat' first
    | (with_reducible first
        | assumption | intro _
        | apply State.ite_memOk | apply State.enqueueWrite_memOk)
    | split
    | (with_reducible apply State.mk_memOk)

theorem State.landingFault_memOk : ∀ s x p ovl staging pos step, s.memOk → State.memOk (@State.landingFault s x
    p ovl staging pos step) := by
  intros
  assumption

theorem State.overwriteCheck_memOk : ∀ s x p no, s.memOk → State.memOk (@State.overwriteCheck s x p no) := by
  intros
  unfold State.overwriteCheck
  repeat' first
    | (with_reducible first
        | assumption | intro _
        | apply State.ite_memOk | apply State.landingFault_memOk)
    | split

theorem State.landRing_memOk : ∀ s x p no data, s.memOk → State.memOk (@State.landRing s x p no data) := by
  intros
  unfold State.landRing
  repeat' first
    | (with_reducible first
        | assumption | intro _
        | apply State.ite_memOk | apply State.modCoreOf_memOk | apply State.overwriteCheck_memOk)
    | split
    | (with_reducible apply State.mk_memOk)

theorem State.arriveRing_memOk : ∀ s x f, s.memOk → State.memOk (@State.arriveRing s x f) := by
  intros
  unfold State.arriveRing
  repeat' first
    | (with_reducible first
        | assumption | intro _
        | apply State.ite_memOk | apply State.landRing_memOk)
    | split
    | (with_reducible apply State.mk_memOk)

theorem State.atTick_memOk : ∀ s t, s.memOk → State.memOk (@State.atTick s t) := by
  intros
  assumption

theorem State.attach_memOk : ∀ s q, s.memOk → State.memOk (@State.attach s q) := by
  intros
  assumption

theorem State.sendIdle_memOk : ∀ s p, s.memOk → State.memOk (@State.sendIdle s p) := by
  intros
  unfold State.sendIdle
  repeat' first
    | (with_reducible first
        | assumption | intro _
        | apply State.ite_memOk | apply State.sendGroup_memOk)
    | split

theorem State.badGroup_memOk : ∀ s p, s.memOk → State.memOk (@State.badGroup s p) := by
  intros
  unfold State.badGroup
  repeat' first
    | (with_reducible first
        | assumption | intro _
        | apply State.ite_memOk | apply State.modPort_memOk | apply State.portOff_memOk
        | apply State.sendIdle_memOk | apply State.setBundle_memOk)
    | split
    | (with_reducible apply State.mk_memOk)

theorem State.modBase_memOk : ∀ s q f, s.memOk → State.memOk (@State.modBase s q f) := by
  intros
  assumption

theorem State.baseCe_memOk : ∀ s q n, s.memOk → State.memOk (@State.baseCe s q n) := by
  intros
  unfold State.baseCe
  repeat' first
    | (with_reducible first
        | assumption | intro _
        | apply State.ite_memOk | apply State.modBase_memOk)
    | split
    | (with_reducible apply State.mk_memOk)

theorem State.baseUe_memOk : ∀ s x q line word core step scrub, s.memOk → State.memOk (@State.baseUe s x q line
    word core step scrub) := by
  intros
  assumption

theorem State.baseEcc_memOk : ∀ s x f e, s.memOk → State.memOk (@State.baseEcc s x f e) := by
  intros
  unfold State.baseEcc
  repeat' first
    | (with_reducible first
        | assumption | intro _
        | apply State.ite_memOk | apply State.foldl_memOk | apply State.baseCe_memOk | apply State.baseUe_memOk
        | apply State.flagCtx_memOk)
    | split
    | (with_reducible apply State.mk_memOk)

theorem State.beginStep_memOk : ∀ s x since n, s.memOk → State.memOk (@State.beginStep s x since n) := by
  intros
  assumption

theorem State.routerStep_memOk : ∀ s q, s.memOk → State.memOk (@State.routerStep s q) := by
  intros
  unfold State.routerStep
  repeat' first
    | (with_reducible first
        | assumption | intro _
        | apply State.ite_memOk | apply State.foldl_memOk | apply State.beginStep_memOk)
    | split
    | (with_reducible apply State.mk_memOk)

theorem State.takeFlightsBy_memOk : ∀ s x n kind act, s.memOk → (∀ v0 v1 v2, State.memOk v1 → State.memOk (act
    v0 v1 v2)) → State.memOk (@State.takeFlightsBy s x n kind act) := by
  intro s x n kind act h g
  unfold State.takeFlightsBy
  dsimp only
  apply State.foldl_memOk
  · intro s f hs
    exact g _ _ _ hs
  · exact State.modCtx_memOk _ _ _ h

theorem State.landLocked_memOk : ∀ s x, s.memOk → State.memOk (@State.landLocked s x) := by
  intros
  unfold State.landLocked
  repeat' first
    | (with_reducible first
        | assumption | intro _
        | apply State.ite_memOk | apply State.arriveChannel_memOk | apply State.takeFlightsBy_memOk)
    | split

theorem State.enqueueReads_memOk : ∀ s x p d cur par n dest, s.memOk → State.memOk (@State.enqueueReads s x p d
    cur par n dest) := by
  intros
  assumption

theorem State.issueStream_memOk : ∀ s x p sd lines par, s.memOk → State.memOk (@State.issueStream s x p sd
    lines par) := by
  intro s x p sd lines par h
  unfold State.issueStream
  dsimp only
  repeat' first
    | (with_reducible first
        | assumption
        | apply State.modCoreOf_memOk | apply State.modCtx_memOk | apply State.enqueueReads_memOk
        | apply State.allocRing_memOk | apply State.modStack_memOk | apply State.ite_memOk
        | (apply State.foldl_memOk; intro _ _ _) | (apply State.foldl_fst_memOk; intro _ _ _)
        | apply State.enqueueWrite_memOk)
    | split

theorem State.consume_memOk : ∀ s x p w n, s.memOk → State.memOk (@State.consume s x p w n).1 := by
  intros
  unfold State.consume
  repeat' first
    | (with_reducible first
        | assumption | intro _
        | apply State.ite_fst_memOk | apply State.ite_memOk | apply State.foldl_memOk
        | apply State.flagCtx_memOk | apply State.landingFault_memOk | apply State.modCoreOf_memOk)
    | split
    | (with_reducible apply State.mk_memOk)

theorem State.consumeWork_memOk : ∀ s x p n k, s.memOk → State.memOk (@State.consumeWork s x p n k).1 := by
  intros
  unfold State.consumeWork
  repeat' first
    | (with_reducible first
        | assumption | intro _
        | apply State.ite_fst_memOk | apply State.ite_memOk | apply State.consume_memOk)
    | split
    | (with_reducible apply State.mk_memOk)

theorem State.parity_memOk : ∀ s x p k step, s.memOk → State.memOk (@State.parity s x p k step) := by
  intros
  unfold State.parity
  repeat' first
    | (with_reducible first
        | assumption | intro _
        | apply State.ite_memOk | apply State.flagCtx_memOk | apply State.modCoreOf_memOk
        | apply State.raise_memOk)
    | split
    | (with_reducible apply State.mk_memOk)

theorem State.returnCredit_memOk : ∀ s x p ep i, s.memOk → State.memOk (@State.returnCredit s x p ep i) := by
  intros
  unfold State.returnCredit
  repeat' first
    | (with_reducible first
        | assumption | intro _
        | apply State.ite_memOk | apply State.arriveCredit_memOk | apply State.sendCtl_memOk
        | apply State.supply_memOk)
    | split
    | (with_reducible apply State.mk_memOk)

theorem State.recvStep_memOk : ∀ s x p ep en w, s.memOk → State.memOk (@State.recvStep s x p ep en w).1 := by
  intros
  unfold State.recvStep
  repeat' first
    | (with_reducible first
        | assumption | intro _
        | apply State.ite_fst_memOk | apply State.ite_memOk | apply State.flagCtx_memOk
        | apply State.modCoreOf_memOk | apply State.modCtx_memOk | apply State.returnCredit_memOk)
    | split
    | (with_reducible apply State.mk_memOk)

theorem State.recvWork_memOk : ∀ s x p k, s.memOk → State.memOk (@State.recvWork s x p k).1 := by
  intros
  unfold State.recvWork
  repeat' first
    | (with_reducible first
        | assumption | intro _
        | apply State.ite_fst_memOk | apply State.ite_memOk | apply State.recvStep_memOk)
    | split
    | (with_reducible apply State.mk_memOk)

theorem State.leaveEntry_memOk : ∀ s x p sep token lines, s.memOk → State.memOk (@State.leaveEntry s x p sep
    token lines) := by
  intros
  unfold State.leaveEntry
  repeat' first
    | (with_reducible first
        | assumption | intro _
        | apply State.ite_memOk | apply State.foldl_memOk | apply State.arriveCredit_memOk
        | apply State.arriveEntry_memOk | apply State.sendCtl_memOk | apply State.sendFlit_memOk)
    | split

theorem State.sendStep_memOk : ∀ s x p sep lines token, s.memOk → State.memOk (@State.sendStep s x p sep lines
    token) := by
  intros
  unfold State.sendStep
  repeat' first
    | (with_reducible first
        | assumption | intro _
        | apply State.ite_memOk | apply State.flagCtx_memOk | apply State.leaveEntry_memOk
        | apply State.modCoreOf_memOk | apply State.modCtx_memOk)
    | split
    | (with_reducible apply State.mk_memOk)

theorem State.sendWork_memOk : ∀ s x p k lines, s.memOk → State.memOk (@State.sendWork s x p k lines) := by
  intros
  unfold State.sendWork
  repeat' first
    | (with_reducible first
        | assumption | intro _
        | apply State.ite_memOk | apply State.sendStep_memOk)
    | split
    | (with_reducible apply State.mk_memOk)

theorem State.settleCore_memOk : ∀ s x p, s.memOk → State.memOk (@State.settleCore s x p) := by
  intros
  unfold State.settleCore
  repeat' first
    | (with_reducible first
        | assumption | intro _
        | apply State.ite_memOk | apply State.foldl_memOk | apply State.armCutAt_memOk
        | apply State.consumeWork_memOk | apply State.modCoreOf_memOk | apply State.parity_memOk
        | apply State.recvWork_memOk | apply State.sendWork_memOk)
    | split
    | (with_reducible apply State.mk_memOk)

theorem State.skewCheck_memOk : ∀ s x, s.memOk → State.memOk (@State.skewCheck s x) := by
  intros
  unfold State.skewCheck
  repeat' first
    | (with_reducible first
        | assumption | intro _
        | apply State.ite_memOk | apply State.flagCtx_memOk)
    | split
    | (with_reducible apply State.mk_memOk)

theorem State.settle_memOk : ∀ s x, s.memOk → State.memOk (@State.settle s x) := by
  intros
  unfold State.settle
  repeat' first
    | (with_reducible first
        | assumption | intro _
        | apply State.ite_memOk | apply State.foldl_memOk | apply State.issueStream_memOk
        | apply State.mapCores_memOk | apply State.modCtx_memOk | apply State.settleCore_memOk
        | apply State.skewCheck_memOk)
    | split
    | (with_reducible apply State.mk_memOk)

theorem State.endStep_memOk : ∀ s x, s.memOk → State.memOk (@State.endStep s x) := by
  intros
  unfold State.endStep
  repeat' first
    | (with_reducible first
        | assumption | intro _
        | apply State.ite_memOk | apply State.finishAll_memOk | apply State.landLocked_memOk
        | apply State.mapCores_memOk | apply State.modCtx_memOk | apply State.replayEntries_memOk
        | apply State.settle_memOk)
    | split
    | (with_reducible apply State.mk_memOk)

theorem State.depart_memOk : ∀ s x f, s.memOk → State.memOk (@State.depart s x f) := by
  intros
  unfold State.depart
  repeat' first
    | (with_reducible first
        | assumption | intro _
        | apply State.ite_memOk | apply State.flagCtx_memOk | apply State.landingFault_memOk
        | apply State.modCtx_memOk | apply State.modStack_memOk)
    | split
    | (with_reducible apply State.mk_memOk)

theorem State.modHub_memOk : ∀ s q f, s.memOk → State.memOk (@State.modHub s q f) := by
  intros
  assumption

theorem State.fwDrop_memOk : ∀ s x p cause j step quad, s.memOk → State.memOk (@State.fwDrop s x p cause j step
    quad) := by
  intros
  unfold State.fwDrop
  repeat' first
    | (with_reducible first
        | assumption | intro _
        | apply State.ite_memOk | apply State.flagCtx_memOk | apply State.modCoreOf_memOk
        | apply State.modHub_memOk)
    | split
    | (with_reducible apply State.mk_memOk)

theorem State.dropLost_memOk : ∀ s x, s.memOk → State.memOk (@State.dropLost s x) := by
  intros
  unfold State.dropLost
  repeat' first
    | (with_reducible first
        | assumption | intro _
        | apply State.ite_memOk | apply State.foldl_memOk | apply State.fwDrop_memOk | apply State.modCtx_memOk)
    | split
    | (with_reducible apply State.mk_memOk)

theorem State.takeFlights_memOk : ∀ s x kind act, s.memOk → (∀ v0 v1 v2, State.memOk v1 → State.memOk (act v0
    v1 v2)) → State.memOk (@State.takeFlights s x kind act) := by
  intros
  unfold State.takeFlights
  repeat' first
    | (with_reducible first
        | assumption | intro _
        | apply State.ite_memOk | apply State.takeFlightsBy_memOk)
    | split

theorem State.landAll_memOk : ∀ s x, s.memOk → State.memOk (@State.landAll s x) := by
  intros
  unfold State.landAll
  repeat' first
    | (with_reducible first
        | assumption | intro _
        | apply State.ite_memOk | apply State.foldl_memOk | apply State.arriveBase_memOk
        | apply State.arriveChannel_memOk | apply State.arriveDramLine_memOk | apply State.arriveRing_memOk
        | apply State.depart_memOk | apply State.dropLost_memOk | apply State.landBaseWrites_memOk
        | apply State.landMem_memOk | apply State.mapCores_memOk | apply State.modCtx_memOk
        | apply State.takeFlights_memOk)
    | split

theorem execElast_memOk : ∀ c sep token s, s.memOk → Out.memOk (@execElast c sep token s) := by
  intros
  unfold execElast
  dsimp only
  repeat' first
    | (with_reducible first
        | assumption | intro _
        | apply Out.memOk_next | apply Out.ite_memOk | apply State.ite_memOk | apply State.onCore_memOk)
    | split
    | (with_reducible apply State.mk_memOk)

theorem execRecv_memOk : ∀ c rep e s, s.memOk → Out.memOk (@execRecv c rep e s) := by
  intros
  unfold execRecv
  repeat' first
    | (with_reducible first
        | assumption | intro _
        | apply Out.ite_memOk | apply State.ite_memOk | apply State.onCore_memOk | apply quiet_memOk)
    | split
    | (with_reducible apply State.mk_memOk)

theorem State.semop_memOk : ∀ s c n v, s.memOk → State.memOk (@State.semop s c n v) := by
  intros
  unfold State.semop
  repeat' first
    | (with_reducible first
        | assumption | intro _
        | apply State.ite_memOk | apply State.onCore_memOk | apply State.present_memOk)
    | split
    | (with_reducible apply State.mk_memOk)

theorem execSemopAdd_memOk : ∀ c n v s, s.memOk → Out.memOk (@execSemopAdd c n v s) := by
  intros
  unfold execSemopAdd
  repeat' first
    | (with_reducible first
        | assumption | intro _
        | apply Out.memOk_next | apply Out.ite_memOk | apply State.ite_memOk | apply State.semop_memOk)
    | split

theorem execSemopSub_memOk : ∀ c n v s, s.memOk → Out.memOk (@execSemopSub c n v s) := by
  intros
  unfold execSemopSub
  repeat' first
    | (with_reducible first
        | assumption | intro _
        | apply Out.memOk_next | apply Out.ite_memOk | apply State.ite_memOk | apply State.semop_memOk)
    | split

theorem execSend_memOk : ∀ c sep s, s.memOk → Out.memOk (@execSend c sep s) := by
  intros
  unfold execSend
  dsimp only
  repeat' first
    | (with_reducible first
        | assumption | intro _
        | apply Out.memOk_next | apply Out.ite_memOk | apply State.ite_memOk | apply State.onCore_memOk)
    | split
    | (with_reducible apply State.mk_memOk)

theorem State.chanActions_memOk : ∀ s c w, s.memOk → State.memOk (@State.chanActions s c w) := by
  intros
  unfold State.chanActions
  repeat' first
    | (with_reducible first
        | assumption | intro _
        | apply State.ite_memOk | apply after_memOk | apply execElast_memOk | apply execRecv_memOk
        | apply execSemopAdd_memOk | apply execSemopSub_memOk | apply execSend_memOk)
    | split
    | (with_reducible apply State.mk_memOk)

theorem execReadTap_memOk : ∀ c p t e s, s.memOk → Out.memOk (@execReadTap c p t e s) := by
  intros
  unfold execReadTap
  dsimp only
  repeat' first
    | (with_reducible first
        | assumption | intro _
        | apply Out.memOk_next | apply Out.ite_memOk | apply State.ite_memOk | apply State.onCore_memOk
        | apply State.present_memOk | apply quiet_memOk)
    | split
    | (with_reducible apply State.mk_memOk)

theorem execWriteTap_memOk : ∀ c p t e s, s.memOk → Out.memOk (@execWriteTap c p t e s) := by
  intros
  unfold execWriteTap
  repeat' first
    | (with_reducible first
        | assumption | intro _
        | apply Out.ite_memOk | apply State.ite_memOk | apply State.onCore_memOk | apply quiet_memOk)
    | split
    | (with_reducible apply State.mk_memOk)

theorem State.tapActions_memOk : ∀ s c b p, s.memOk → State.memOk (@State.tapActions s c b p) := by
  intros
  unfold State.tapActions
  repeat' first
    | (with_reducible first
        | assumption | intro _
        | apply State.ite_memOk | apply after_memOk | apply execReadTap_memOk | apply execWriteTap_memOk)
    | split

theorem execArmend_memOk : ∀ c s, s.memOk → Out.memOk (@execArmend c s) := by
  intros
  unfold execArmend
  dsimp only
  repeat' first
    | (with_reducible first
        | assumption | intro _
        | apply Out.memOk_next | apply Out.ite_memOk | apply State.ite_memOk | apply State.onCore_memOk
        | apply State.present_memOk)
    | split
    | (with_reducible apply State.mk_memOk)

theorem State.outsideArm_memOk : ∀ s c f, s.memOk → (∀ v0, State.memOk v0 → State.memOk (f v0)) → State.memOk
    (@State.outsideArm s c f) := by
  intro s c f h g
  unfold State.outsideArm
  dsimp only
  have k := State.present_memOk s c h
  split
  · exact k
  · split
    · exact State.armCutAt_memOk _ _ _ k
    · exact g _ k

theorem execFbr_memOk : ∀ c f s, s.memOk → Out.memOk (@execFbr c f s) := by
  intros
  unfold execFbr
  dsimp only
  repeat' first
    | (with_reducible first
        | assumption | intro _
        | apply Out.memOk_next | apply Out.ite_memOk | apply State.ite_memOk | apply State.onCore_memOk
        | apply State.outsideArm_memOk)
    | split
    | (with_reducible apply State.mk_memOk)

theorem State.freezeBy_memOk : ∀ s x f, s.memOk → State.memOk (@State.freezeBy s x f) := by
  intros
  assumption

theorem execFence_memOk : ∀ c s, s.memOk → Out.memOk (@execFence c s) := by
  intros
  unfold execFence
  repeat' first
    | (with_reducible first
        | assumption | intro _
        | apply Out.memOk_next | apply Out.ite_memOk | apply State.ite_memOk | apply State.freezeBy_memOk
        | apply State.outsideArm_memOk)
    | split
    | (with_reducible apply State.mk_memOk)

theorem execJmp_memOk : ∀ c f s, s.memOk → Out.memOk (@execJmp c f s) := by
  intros
  unfold execJmp
  repeat' first
    | (with_reducible first
        | assumption | intro _
        | apply Out.memOk_next | apply Out.ite_memOk | apply State.ite_memOk | apply State.onCore_memOk
        | apply State.present_memOk)
    | split

theorem execLoop_memOk : ∀ c f s, s.memOk → Out.memOk (@execLoop c f s) := by
  intros
  unfold execLoop
  dsimp only
  repeat' first
    | (with_reducible first
        | assumption | intro _
        | apply Out.memOk_next | apply Out.ite_memOk | apply State.ite_memOk | apply State.onCore_memOk
        | apply State.present_memOk)
    | split
    | (with_reducible apply State.mk_memOk)

theorem execOrbitEnd_memOk : ∀ c s, s.memOk → Out.memOk (@execOrbitEnd c s) := by
  intros
  unfold execOrbitEnd
  repeat' first
    | (with_reducible first
        | assumption | intro _
        | apply Out.memOk_next | apply Out.ite_memOk | apply State.ite_memOk | apply State.freezeBy_memOk
        | apply State.outsideArm_memOk)
    | split
    | (with_reducible apply State.mk_memOk)

theorem State.rendezvous_memOk : ∀ s c f, s.memOk → State.memOk (@State.rendezvous s c f) := by
  intros
  assumption

theorem execRdv_memOk : ∀ c f s, s.memOk → Out.memOk (@execRdv c f s) := by
  intros
  unfold execRdv
  repeat' first
    | (with_reducible first
        | assumption | intro _
        | apply Out.memOk_next | apply Out.ite_memOk | apply State.ite_memOk | apply State.outsideArm_memOk
        | apply State.rendezvous_memOk)
    | split

theorem execRdvFence_memOk : ∀ c f s, s.memOk → Out.memOk (@execRdvFence c f s) := by
  intros
  unfold execRdvFence
  repeat' first
    | (with_reducible first
        | assumption | intro _
        | apply Out.memOk_next | apply Out.ite_memOk | apply State.ite_memOk | apply State.freezeBy_memOk
        | apply State.outsideArm_memOk | apply State.rendezvous_memOk)
    | split
    | (with_reducible apply State.mk_memOk)

theorem execUbr_memOk : ∀ c f s, s.memOk → Out.memOk (@execUbr c f s) := by
  intros
  unfold execUbr
  dsimp only
  repeat' first
    | (with_reducible first
        | assumption | intro _
        | apply Out.memOk_next | apply Out.ite_memOk | apply State.ite_memOk | apply State.onCore_memOk
        | apply State.outsideArm_memOk)
    | split

theorem controlOf_memOk : ∀ c f s, s.memOk → State.memOk (@controlOf c f s) := by
  intros
  unfold controlOf
  repeat' first
    | (with_reducible first
        | assumption | intro _
        | apply State.ite_memOk | apply after_memOk | apply execArmend_memOk | apply execFbr_memOk
        | apply execFence_memOk | apply execJmp_memOk | apply execLoop_memOk | apply execOrbitEnd_memOk
        | apply execRdv_memOk | apply execRdvFence_memOk | apply execUbr_memOk)
    | split
    | (with_reducible apply State.mk_memOk)

theorem execBrk_memOk : ∀ c s, s.memOk → Out.memOk (@execBrk c s) := by
  intros
  unfold execBrk
  dsimp only
  repeat' first
    | (with_reducible first
        | assumption | intro _
        | apply Out.memOk_next | apply Out.ite_memOk | apply State.ite_memOk | apply State.modCtx_memOk
        | apply State.present_memOk)
    | split
    | (with_reducible apply State.mk_memOk)

theorem execIdleBundle_memOk : ∀ f s, s.memOk → Out.memOk (@execIdleBundle f s) := by
  intros
  unfold execIdleBundle
  repeat' first
    | (with_reducible first
        | assumption | intro _
        | apply Out.memOk_next | apply Out.ite_memOk | apply State.ite_memOk | apply State.present_memOk
        | apply quiet_memOk)
    | split

theorem execVectorLoad_memOk : ∀ c r s, s.memOk → Out.memOk (@execVectorLoad c r s) := by
  intros
  unfold execVectorLoad
  dsimp only
  repeat' first
    | (with_reducible first
        | assumption | intro _
        | apply Out.memOk_next | apply Out.ite_memOk | apply State.ite_memOk | apply State.onCore_memOk)
    | split
    | (with_reducible apply State.mk_memOk)

theorem execVectorStore_memOk : ∀ c r s, s.memOk → Out.memOk (@execVectorStore c r s) := by
  intros
  unfold execVectorStore
  dsimp only
  repeat' first
    | (with_reducible first
        | assumption | intro _
        | apply Out.memOk_next | apply Out.ite_memOk | apply State.ite_memOk | apply State.onCore_memOk)
    | split
    | (with_reducible apply State.mk_memOk)

theorem State.scalarOp_memOk : ∀ s c f lat op, s.memOk → State.memOk (@State.scalarOp s c f lat op) := by
  intros
  unfold State.scalarOp
  repeat' first
    | (with_reducible first
        | assumption | intro _
        | apply State.ite_memOk | apply State.onCore_memOk)
    | split

theorem execAdd_memOk : ∀ c f s, s.memOk → Out.memOk (@execAdd c f s) := by
  intros
  unfold execAdd
  repeat' first
    | (with_reducible first
        | assumption | intro _
        | apply Out.memOk_next | apply Out.ite_memOk | apply State.ite_memOk | apply State.scalarOp_memOk)
    | split

theorem execSub_memOk : ∀ c f s, s.memOk → Out.memOk (@execSub c f s) := by
  intros
  unfold execSub
  repeat' first
    | (with_reducible first
        | assumption | intro _
        | apply Out.memOk_next | apply Out.ite_memOk | apply State.ite_memOk | apply State.scalarOp_memOk)
    | split

theorem execMul_memOk : ∀ c f s, s.memOk → Out.memOk (@execMul c f s) := by
  intros
  unfold execMul
  repeat' first
    | (with_reducible first
        | assumption | intro _
        | apply Out.memOk_next | apply Out.ite_memOk | apply State.ite_memOk | apply State.scalarOp_memOk)
    | split

theorem execAnd_memOk : ∀ c f s, s.memOk → Out.memOk (@execAnd c f s) := by
  intros
  unfold execAnd
  repeat' first
    | (with_reducible first
        | assumption | intro _
        | apply Out.memOk_next | apply Out.ite_memOk | apply State.ite_memOk | apply State.scalarOp_memOk)
    | split

theorem execOr_memOk : ∀ c f s, s.memOk → Out.memOk (@execOr c f s) := by
  intros
  unfold execOr
  repeat' first
    | (with_reducible first
        | assumption | intro _
        | apply Out.memOk_next | apply Out.ite_memOk | apply State.ite_memOk | apply State.scalarOp_memOk)
    | split

theorem execXor_memOk : ∀ c f s, s.memOk → Out.memOk (@execXor c f s) := by
  intros
  unfold execXor
  repeat' first
    | (with_reducible first
        | assumption | intro _
        | apply Out.memOk_next | apply Out.ite_memOk | apply State.ite_memOk | apply State.scalarOp_memOk)
    | split

theorem execShl_memOk : ∀ c f s, s.memOk → Out.memOk (@execShl c f s) := by
  intros
  unfold execShl
  repeat' first
    | (with_reducible first
        | assumption | intro _
        | apply Out.memOk_next | apply Out.ite_memOk | apply State.ite_memOk | apply State.scalarOp_memOk)
    | split

theorem execShr_memOk : ∀ c f s, s.memOk → Out.memOk (@execShr c f s) := by
  intros
  unfold execShr
  repeat' first
    | (with_reducible first
        | assumption | intro _
        | apply Out.memOk_next | apply Out.ite_memOk | apply State.ite_memOk | apply State.scalarOp_memOk)
    | split

theorem execSar_memOk : ∀ c f s, s.memOk → Out.memOk (@execSar c f s) := by
  intros
  unfold execSar
  repeat' first
    | (with_reducible first
        | assumption | intro _
        | apply Out.memOk_next | apply Out.ite_memOk | apply State.ite_memOk | apply State.scalarOp_memOk)
    | split

theorem execMin_memOk : ∀ c f s, s.memOk → Out.memOk (@execMin c f s) := by
  intros
  unfold execMin
  repeat' first
    | (with_reducible first
        | assumption | intro _
        | apply Out.memOk_next | apply Out.ite_memOk | apply State.ite_memOk | apply State.scalarOp_memOk)
    | split

theorem execMax_memOk : ∀ c f s, s.memOk → Out.memOk (@execMax c f s) := by
  intros
  unfold execMax
  repeat' first
    | (with_reducible first
        | assumption | intro _
        | apply Out.memOk_next | apply Out.ite_memOk | apply State.ite_memOk | apply State.scalarOp_memOk)
    | split

theorem execMinu_memOk : ∀ c f s, s.memOk → Out.memOk (@execMinu c f s) := by
  intros
  unfold execMinu
  repeat' first
    | (with_reducible first
        | assumption | intro _
        | apply Out.memOk_next | apply Out.ite_memOk | apply State.ite_memOk | apply State.scalarOp_memOk)
    | split

theorem execMaxu_memOk : ∀ c f s, s.memOk → Out.memOk (@execMaxu c f s) := by
  intros
  unfold execMaxu
  repeat' first
    | (with_reducible first
        | assumption | intro _
        | apply Out.memOk_next | apply Out.ite_memOk | apply State.ite_memOk | apply State.scalarOp_memOk)
    | split

theorem execSlt_memOk : ∀ c f s, s.memOk → Out.memOk (@execSlt c f s) := by
  intros
  unfold execSlt
  repeat' first
    | (with_reducible first
        | assumption | intro _
        | apply Out.memOk_next | apply Out.ite_memOk | apply State.ite_memOk | apply State.scalarOp_memOk)
    | split

theorem execSltu_memOk : ∀ c f s, s.memOk → Out.memOk (@execSltu c f s) := by
  intros
  unfold execSltu
  repeat' first
    | (with_reducible first
        | assumption | intro _
        | apply Out.memOk_next | apply Out.ite_memOk | apply State.ite_memOk | apply State.scalarOp_memOk)
    | split

theorem execSeq_memOk : ∀ c f s, s.memOk → Out.memOk (@execSeq c f s) := by
  intros
  unfold execSeq
  repeat' first
    | (with_reducible first
        | assumption | intro _
        | apply Out.memOk_next | apply Out.ite_memOk | apply State.ite_memOk | apply State.scalarOp_memOk)
    | split

theorem State.scalarFrom_memOk : ∀ s c f lat val, s.memOk → State.memOk (@State.scalarFrom s c f lat val) := by
  intros
  unfold State.scalarFrom
  repeat' first
    | (with_reducible first
        | assumption | intro _
        | apply State.ite_memOk | apply State.onCore_memOk)
    | split

theorem execCsel_memOk : ∀ c f s, s.memOk → Out.memOk (@execCsel c f s) := by
  intros
  unfold execCsel
  repeat' first
    | (with_reducible first
        | assumption | intro _
        | apply Out.memOk_next | apply Out.ite_memOk | apply State.ite_memOk | apply State.scalarFrom_memOk)
    | split

theorem execMovi_memOk : ∀ c f s, s.memOk → Out.memOk (@execMovi c f s) := by
  intros
  unfold execMovi
  repeat' first
    | (with_reducible first
        | assumption | intro _
        | apply Out.memOk_next | apply Out.ite_memOk | apply State.ite_memOk | apply State.scalarFrom_memOk)
    | split

theorem execMovhi_memOk : ∀ c f s, s.memOk → Out.memOk (@execMovhi c f s) := by
  intros
  unfold execMovhi
  repeat' first
    | (with_reducible first
        | assumption | intro _
        | apply Out.memOk_next | apply Out.ite_memOk | apply State.ite_memOk | apply State.scalarFrom_memOk)
    | split

theorem execRdpar_memOk : ∀ c f s, s.memOk → Out.memOk (@execRdpar c f s) := by
  intros
  unfold execRdpar
  repeat' first
    | (with_reducible first
        | assumption | intro _
        | apply Out.memOk_next | apply Out.ite_memOk | apply State.ite_memOk | apply State.scalarFrom_memOk)
    | split

theorem execWrpar_memOk : ∀ c f s, s.memOk → Out.memOk (@execWrpar c f s) := by
  intros
  unfold execWrpar
  dsimp only
  repeat' first
    | (with_reducible first
        | assumption | intro _
        | apply Out.memOk_next | apply Out.ite_memOk | apply State.ite_memOk | apply State.onCore_memOk)
    | split

theorem execRdstep_memOk : ∀ c f s, s.memOk → Out.memOk (@execRdstep c f s) := by
  intros
  unfold execRdstep
  dsimp only
  repeat' first
    | (with_reducible first
        | assumption | intro _
        | apply Out.memOk_next | apply Out.ite_memOk | apply State.ite_memOk | apply State.scalarFrom_memOk)
    | split

theorem execRdorbit_memOk : ∀ c f s, s.memOk → Out.memOk (@execRdorbit c f s) := by
  intros
  unfold execRdorbit
  dsimp only
  repeat' first
    | (with_reducible first
        | assumption | intro _
        | apply Out.memOk_next | apply Out.ite_memOk | apply State.ite_memOk | apply State.scalarFrom_memOk)
    | split

theorem execRdpci_memOk : ∀ c f s, s.memOk → Out.memOk (@execRdpci c f s) := by
  intros
  unfold execRdpci
  repeat' first
    | (with_reducible first
        | assumption | intro _
        | apply Out.memOk_next | apply Out.ite_memOk | apply State.ite_memOk | apply State.scalarFrom_memOk)
    | split

theorem execRdncore_memOk : ∀ c f s, s.memOk → Out.memOk (@execRdncore c f s) := by
  intros
  unfold execRdncore
  dsimp only
  repeat' first
    | (with_reducible first
        | assumption | intro _
        | apply Out.memOk_next | apply Out.ite_memOk | apply State.ite_memOk | apply State.scalarFrom_memOk)
    | split

theorem State.brokenSeen_memOk : ∀ s x p index step, s.memOk → State.memOk (@State.brokenSeen s x p index step) := by
  intros
  assumption

theorem State.chanView_memOk : ∀ s x, s.memOk → State.memOk (@State.chanView s x) := by
  intros
  unfold State.chanView
  repeat' first
    | (with_reducible first
        | assumption | intro _
        | apply State.ite_memOk | apply State.arriveChannel_memOk | apply State.mapCores_memOk
        | apply State.takeFlights_memOk)
    | split

theorem execRdsem_memOk : ∀ c f s, s.memOk → Out.memOk (@execRdsem c f s) := by
  intros
  unfold execRdsem
  dsimp only
  repeat' first
    | (with_reducible first
        | assumption | intro _
        | apply Out.memOk_next | apply Out.ite_memOk | apply State.ite_memOk | apply State.brokenSeen_memOk
        | apply State.chanView_memOk | apply State.flagCtx_memOk | apply State.modCoreOf_memOk
        | apply State.scalarFrom_memOk)
    | split

theorem execRdbrk_memOk : ∀ c f s, s.memOk → Out.memOk (@execRdbrk c f s) := by
  intros
  unfold execRdbrk
  dsimp only
  repeat' first
    | (with_reducible first
        | assumption | intro _
        | apply Out.memOk_next | apply Out.ite_memOk | apply State.ite_memOk | apply State.brokenSeen_memOk
        | apply State.scalarFrom_memOk)
    | split

theorem execReduce_memOk : ∀ c f s, s.memOk → Out.memOk (@execReduce c f s) := by
  intros
  unfold execReduce
  dsimp only
  repeat' first
    | (with_reducible first
        | assumption | intro _
        | apply Out.memOk_next | apply Out.ite_memOk | apply State.ite_memOk | apply State.modCtx_memOk
        | apply State.onCore_memOk)
    | split
    | (with_reducible apply State.mk_memOk)

theorem execRdwire_memOk : ∀ c f s, s.memOk → Out.memOk (@execRdwire c f s) := by
  intros
  unfold execRdwire
  dsimp only
  repeat' first
    | (with_reducible first
        | assumption | intro _
        | apply Out.memOk_next | apply Out.ite_memOk | apply State.ite_memOk | apply State.scalarFrom_memOk)
    | split

theorem execLcset_memOk : ∀ c f s, s.memOk → Out.memOk (@execLcset c f s) := by
  intros
  unfold execLcset
  dsimp only
  repeat' first
    | (with_reducible first
        | assumption | intro _
        | apply Out.memOk_next | apply Out.ite_memOk | apply State.ite_memOk | apply State.onCore_memOk)
    | split

theorem execTapset_memOk : ∀ c f s, s.memOk → Out.memOk (@execTapset c f s) := by
  intros
  unfold execTapset
  dsimp only
  repeat' first
    | (with_reducible first
        | assumption | intro _
        | apply Out.memOk_next | apply Out.ite_memOk | apply State.ite_memOk | apply State.onCore_memOk)
    | split
    | (with_reducible apply State.mk_memOk)

theorem execTail_memOk : ∀ c f s, s.memOk → Out.memOk (@execTail c f s) := by
  intros
  unfold execTail
  dsimp only
  repeat' first
    | (with_reducible first
        | assumption | intro _
        | apply Out.memOk_next | apply Out.ite_memOk | apply State.ite_memOk | apply State.scalarFrom_memOk)
    | split

theorem State.vecOp_memOk : ∀ s c f ok lat uses res, s.memOk → State.memOk (@State.vecOp s c f ok lat uses res) := by
  intros
  unfold State.vecOp
  repeat' first
    | (with_reducible first
        | assumption | intro _
        | apply State.ite_memOk | apply State.onCore_memOk)
    | split
    | (with_reducible apply State.mk_memOk)

theorem State.vecLanes_memOk : ∀ s c f ok lat uses op, s.memOk → State.memOk (@State.vecLanes s c f ok lat uses
    op) := by
  intros
  unfold State.vecLanes
  repeat' first
    | (with_reducible first
        | assumption | intro _
        | apply State.ite_memOk | apply State.vecOp_memOk)
    | split

theorem State.vecFloat_memOk : ∀ s c f lat uses op, s.memOk → State.memOk (@State.vecFloat s c f lat uses op) := by
  intros
  unfold State.vecFloat
  repeat' first
    | (with_reducible first
        | assumption | intro _
        | apply State.ite_memOk | apply State.vecLanes_memOk)
    | split

theorem execFadd_memOk : ∀ c f s, s.memOk → Out.memOk (@execFadd c f s) := by
  intros
  unfold execFadd
  repeat' first
    | (with_reducible first
        | assumption | intro _
        | apply Out.memOk_next | apply Out.ite_memOk | apply State.ite_memOk | apply State.vecFloat_memOk)
    | split

theorem execFsub_memOk : ∀ c f s, s.memOk → Out.memOk (@execFsub c f s) := by
  intros
  unfold execFsub
  repeat' first
    | (with_reducible first
        | assumption | intro _
        | apply Out.memOk_next | apply Out.ite_memOk | apply State.ite_memOk | apply State.vecFloat_memOk)
    | split

theorem execFmul_memOk : ∀ c f s, s.memOk → Out.memOk (@execFmul c f s) := by
  intros
  unfold execFmul
  repeat' first
    | (with_reducible first
        | assumption | intro _
        | apply Out.memOk_next | apply Out.ite_memOk | apply State.ite_memOk | apply State.vecFloat_memOk)
    | split

theorem execFma_memOk : ∀ c f s, s.memOk → Out.memOk (@execFma c f s) := by
  intros
  unfold execFma
  repeat' first
    | (with_reducible first
        | assumption | intro _
        | apply Out.memOk_next | apply Out.ite_memOk | apply State.ite_memOk | apply State.vecFloat_memOk)
    | split

theorem execFnma_memOk : ∀ c f s, s.memOk → Out.memOk (@execFnma c f s) := by
  intros
  unfold execFnma
  repeat' first
    | (with_reducible first
        | assumption | intro _
        | apply Out.memOk_next | apply Out.ite_memOk | apply State.ite_memOk | apply State.vecFloat_memOk)
    | split

theorem execFmin_memOk : ∀ c f s, s.memOk → Out.memOk (@execFmin c f s) := by
  intros
  unfold execFmin
  repeat' first
    | (with_reducible first
        | assumption | intro _
        | apply Out.memOk_next | apply Out.ite_memOk | apply State.ite_memOk | apply State.vecFloat_memOk)
    | split

theorem execFmax_memOk : ∀ c f s, s.memOk → Out.memOk (@execFmax c f s) := by
  intros
  unfold execFmax
  repeat' first
    | (with_reducible first
        | assumption | intro _
        | apply Out.memOk_next | apply Out.ite_memOk | apply State.ite_memOk | apply State.vecFloat_memOk)
    | split

theorem execFabs_memOk : ∀ c f s, s.memOk → Out.memOk (@execFabs c f s) := by
  intros
  unfold execFabs
  repeat' first
    | (with_reducible first
        | assumption | intro _
        | apply Out.memOk_next | apply Out.ite_memOk | apply State.ite_memOk | apply State.vecFloat_memOk)
    | split

theorem execFneg_memOk : ∀ c f s, s.memOk → Out.memOk (@execFneg c f s) := by
  intros
  unfold execFneg
  repeat' first
    | (with_reducible first
        | assumption | intro _
        | apply Out.memOk_next | apply Out.ite_memOk | apply State.ite_memOk | apply State.vecFloat_memOk)
    | split

theorem execFcpys_memOk : ∀ c f s, s.memOk → Out.memOk (@execFcpys c f s) := by
  intros
  unfold execFcpys
  repeat' first
    | (with_reducible first
        | assumption | intro _
        | apply Out.memOk_next | apply Out.ite_memOk | apply State.ite_memOk | apply State.vecFloat_memOk)
    | split

theorem execFrint_memOk : ∀ c f s, s.memOk → Out.memOk (@execFrint c f s) := by
  intros
  unfold execFrint
  repeat' first
    | (with_reducible first
        | assumption | intro _
        | apply Out.memOk_next | apply Out.ite_memOk | apply State.ite_memOk | apply State.vecLanes_memOk)
    | split

theorem execFscale_memOk : ∀ c f s, s.memOk → Out.memOk (@execFscale c f s) := by
  intros
  unfold execFscale
  repeat' first
    | (with_reducible first
        | assumption | intro _
        | apply Out.memOk_next | apply Out.ite_memOk | apply State.ite_memOk | apply State.vecLanes_memOk)
    | split

theorem execFexp_memOk : ∀ c f s, s.memOk → Out.memOk (@execFexp c f s) := by
  intros
  unfold execFexp
  repeat' first
    | (with_reducible first
        | assumption | intro _
        | apply Out.memOk_next | apply Out.ite_memOk | apply State.ite_memOk | apply State.vecLanes_memOk)
    | split

theorem execFmant_memOk : ∀ c f s, s.memOk → Out.memOk (@execFmant c f s) := by
  intros
  unfold execFmant
  repeat' first
    | (with_reducible first
        | assumption | intro _
        | apply Out.memOk_next | apply Out.ite_memOk | apply State.ite_memOk | apply State.vecLanes_memOk)
    | split

theorem State.vecCompare_memOk : ∀ s c f ok uses op, s.memOk → State.memOk (@State.vecCompare s c f ok uses op) := by
  intros
  unfold State.vecCompare
  repeat' first
    | (with_reducible first
        | assumption | intro _
        | apply State.ite_memOk | apply State.vecOp_memOk)
    | split

theorem execFceq_memOk : ∀ c f s, s.memOk → Out.memOk (@execFceq c f s) := by
  intros
  unfold execFceq
  repeat' first
    | (with_reducible first
        | assumption | intro _
        | apply Out.memOk_next | apply Out.ite_memOk | apply State.ite_memOk | apply State.vecCompare_memOk)
    | split

theorem execFclt_memOk : ∀ c f s, s.memOk → Out.memOk (@execFclt c f s) := by
  intros
  unfold execFclt
  repeat' first
    | (with_reducible first
        | assumption | intro _
        | apply Out.memOk_next | apply Out.ite_memOk | apply State.ite_memOk | apply State.vecCompare_memOk)
    | split

theorem execFcle_memOk : ∀ c f s, s.memOk → Out.memOk (@execFcle c f s) := by
  intros
  unfold execFcle
  repeat' first
    | (with_reducible first
        | assumption | intro _
        | apply Out.memOk_next | apply Out.ite_memOk | apply State.ite_memOk | apply State.vecCompare_memOk)
    | split

theorem execFcun_memOk : ∀ c f s, s.memOk → Out.memOk (@execFcun c f s) := by
  intros
  unfold execFcun
  repeat' first
    | (with_reducible first
        | assumption | intro _
        | apply Out.memOk_next | apply Out.ite_memOk | apply State.ite_memOk | apply State.vecCompare_memOk)
    | split

theorem execFclass_memOk : ∀ c f s, s.memOk → Out.memOk (@execFclass c f s) := by
  intros
  unfold execFclass
  repeat' first
    | (with_reducible first
        | assumption | intro _
        | apply Out.memOk_next | apply Out.ite_memOk | apply State.ite_memOk | apply State.vecCompare_memOk)
    | split

theorem execIceq_memOk : ∀ c f s, s.memOk → Out.memOk (@execIceq c f s) := by
  intros
  unfold execIceq
  repeat' first
    | (with_reducible first
        | assumption | intro _
        | apply Out.memOk_next | apply Out.ite_memOk | apply State.ite_memOk | apply State.vecCompare_memOk)
    | split

theorem execIclt_memOk : ∀ c f s, s.memOk → Out.memOk (@execIclt c f s) := by
  intros
  unfold execIclt
  repeat' first
    | (with_reducible first
        | assumption | intro _
        | apply Out.memOk_next | apply Out.ite_memOk | apply State.ite_memOk | apply State.vecCompare_memOk)
    | split

theorem execIcltu_memOk : ∀ c f s, s.memOk → Out.memOk (@execIcltu c f s) := by
  intros
  unfold execIcltu
  repeat' first
    | (with_reducible first
        | assumption | intro _
        | apply Out.memOk_next | apply Out.ite_memOk | apply State.ite_memOk | apply State.vecCompare_memOk)
    | split

theorem execSel_memOk : ∀ c f s, s.memOk → Out.memOk (@execSel c f s) := by
  intros
  unfold execSel
  dsimp only
  repeat' first
    | (with_reducible first
        | assumption | intro _
        | apply Out.memOk_next | apply Out.ite_memOk | apply State.ite_memOk | apply State.vecOp_memOk)
    | split

theorem State.vecMask_memOk : ∀ s c f op, s.memOk → State.memOk (@State.vecMask s c f op) := by
  intros
  unfold State.vecMask
  repeat' first
    | (with_reducible first
        | assumption | intro _
        | apply State.ite_memOk | apply State.vecOp_memOk)
    | split

theorem execKand_memOk : ∀ c f s, s.memOk → Out.memOk (@execKand c f s) := by
  intros
  unfold execKand
  repeat' first
    | (with_reducible first
        | assumption | intro _
        | apply Out.memOk_next | apply Out.ite_memOk | apply State.ite_memOk | apply State.vecMask_memOk)
    | split

theorem execKor_memOk : ∀ c f s, s.memOk → Out.memOk (@execKor c f s) := by
  intros
  unfold execKor
  repeat' first
    | (with_reducible first
        | assumption | intro _
        | apply Out.memOk_next | apply Out.ite_memOk | apply State.ite_memOk | apply State.vecMask_memOk)
    | split

theorem execKxor_memOk : ∀ c f s, s.memOk → Out.memOk (@execKxor c f s) := by
  intros
  unfold execKxor
  repeat' first
    | (with_reducible first
        | assumption | intro _
        | apply Out.memOk_next | apply Out.ite_memOk | apply State.ite_memOk | apply State.vecMask_memOk)
    | split

theorem execKnot_memOk : ∀ c f s, s.memOk → Out.memOk (@execKnot c f s) := by
  intros
  unfold execKnot
  repeat' first
    | (with_reducible first
        | assumption | intro _
        | apply Out.memOk_next | apply Out.ite_memOk | apply State.ite_memOk | apply State.vecMask_memOk)
    | split

theorem State.vecInt_memOk : ∀ s c f lat op, s.memOk → State.memOk (@State.vecInt s c f lat op) := by
  intros
  unfold State.vecInt
  repeat' first
    | (with_reducible first
        | assumption | intro _
        | apply State.ite_memOk | apply State.vecLanes_memOk)
    | split

theorem execIadd_memOk : ∀ c f s, s.memOk → Out.memOk (@execIadd c f s) := by
  intros
  unfold execIadd
  repeat' first
    | (with_reducible first
        | assumption | intro _
        | apply Out.memOk_next | apply Out.ite_memOk | apply State.ite_memOk | apply State.vecInt_memOk)
    | split

theorem execIsub_memOk : ∀ c f s, s.memOk → Out.memOk (@execIsub c f s) := by
  intros
  unfold execIsub
  repeat' first
    | (with_reducible first
        | assumption | intro _
        | apply Out.memOk_next | apply Out.ite_memOk | apply State.ite_memOk | apply State.vecInt_memOk)
    | split

theorem execImul_memOk : ∀ c f s, s.memOk → Out.memOk (@execImul c f s) := by
  intros
  unfold execImul
  repeat' first
    | (with_reducible first
        | assumption | intro _
        | apply Out.memOk_next | apply Out.ite_memOk | apply State.ite_memOk | apply State.vecInt_memOk)
    | split

theorem execIand_memOk : ∀ c f s, s.memOk → Out.memOk (@execIand c f s) := by
  intros
  unfold execIand
  repeat' first
    | (with_reducible first
        | assumption | intro _
        | apply Out.memOk_next | apply Out.ite_memOk | apply State.ite_memOk | apply State.vecInt_memOk)
    | split

theorem execIor_memOk : ∀ c f s, s.memOk → Out.memOk (@execIor c f s) := by
  intros
  unfold execIor
  repeat' first
    | (with_reducible first
        | assumption | intro _
        | apply Out.memOk_next | apply Out.ite_memOk | apply State.ite_memOk | apply State.vecInt_memOk)
    | split

theorem execIxor_memOk : ∀ c f s, s.memOk → Out.memOk (@execIxor c f s) := by
  intros
  unfold execIxor
  repeat' first
    | (with_reducible first
        | assumption | intro _
        | apply Out.memOk_next | apply Out.ite_memOk | apply State.ite_memOk | apply State.vecInt_memOk)
    | split

theorem execIshl_memOk : ∀ c f s, s.memOk → Out.memOk (@execIshl c f s) := by
  intros
  unfold execIshl
  repeat' first
    | (with_reducible first
        | assumption | intro _
        | apply Out.memOk_next | apply Out.ite_memOk | apply State.ite_memOk | apply State.vecInt_memOk)
    | split

theorem execIshr_memOk : ∀ c f s, s.memOk → Out.memOk (@execIshr c f s) := by
  intros
  unfold execIshr
  repeat' first
    | (with_reducible first
        | assumption | intro _
        | apply Out.memOk_next | apply Out.ite_memOk | apply State.ite_memOk | apply State.vecInt_memOk)
    | split

theorem execIsar_memOk : ∀ c f s, s.memOk → Out.memOk (@execIsar c f s) := by
  intros
  unfold execIsar
  repeat' first
    | (with_reducible first
        | assumption | intro _
        | apply Out.memOk_next | apply Out.ite_memOk | apply State.ite_memOk | apply State.vecInt_memOk)
    | split

theorem execImin_memOk : ∀ c f s, s.memOk → Out.memOk (@execImin c f s) := by
  intros
  unfold execImin
  repeat' first
    | (with_reducible first
        | assumption | intro _
        | apply Out.memOk_next | apply Out.ite_memOk | apply State.ite_memOk | apply State.vecInt_memOk)
    | split

theorem execImax_memOk : ∀ c f s, s.memOk → Out.memOk (@execImax c f s) := by
  intros
  unfold execImax
  repeat' first
    | (with_reducible first
        | assumption | intro _
        | apply Out.memOk_next | apply Out.ite_memOk | apply State.ite_memOk | apply State.vecInt_memOk)
    | split

theorem execUmin_memOk : ∀ c f s, s.memOk → Out.memOk (@execUmin c f s) := by
  intros
  unfold execUmin
  repeat' first
    | (with_reducible first
        | assumption | intro _
        | apply Out.memOk_next | apply Out.ite_memOk | apply State.ite_memOk | apply State.vecInt_memOk)
    | split

theorem execUmax_memOk : ∀ c f s, s.memOk → Out.memOk (@execUmax c f s) := by
  intros
  unfold execUmax
  repeat' first
    | (with_reducible first
        | assumption | intro _
        | apply Out.memOk_next | apply Out.ite_memOk | apply State.ite_memOk | apply State.vecInt_memOk)
    | split

theorem execMov_memOk : ∀ c f s, s.memOk → Out.memOk (@execMov c f s) := by
  intros
  unfold execMov
  repeat' first
    | (with_reducible first
        | assumption | intro _
        | apply Out.memOk_next | apply Out.ite_memOk | apply State.ite_memOk | apply State.vecLanes_memOk)
    | split

theorem execVecMovi_memOk : ∀ c f s, s.memOk → Out.memOk (@execVecMovi c f s) := by
  intros
  unfold execVecMovi
  repeat' first
    | (with_reducible first
        | assumption | intro _
        | apply Out.memOk_next | apply Out.ite_memOk | apply State.ite_memOk | apply State.vecLanes_memOk)
    | split

theorem execLaneid_memOk : ∀ c f s, s.memOk → Out.memOk (@execLaneid c f s) := by
  intros
  unfold execLaneid
  repeat' first
    | (with_reducible first
        | assumption | intro _
        | apply Out.memOk_next | apply Out.ite_memOk | apply State.ite_memOk | apply State.vecOp_memOk)
    | split

theorem execVrotl_memOk : ∀ c f s, s.memOk → Out.memOk (@execVrotl c f s) := by
  intros
  unfold execVrotl
  repeat' first
    | (with_reducible first
        | assumption | intro _
        | apply Out.memOk_next | apply Out.ite_memOk | apply State.ite_memOk | apply State.vecOp_memOk)
    | split

theorem execVlbc_memOk : ∀ c f s, s.memOk → Out.memOk (@execVlbc c f s) := by
  intros
  unfold execVlbc
  repeat' first
    | (with_reducible first
        | assumption | intro _
        | apply Out.memOk_next | apply Out.ite_memOk | apply State.ite_memOk | apply State.vecOp_memOk)
    | split

theorem execCvtf_memOk : ∀ c f s, s.memOk → Out.memOk (@execCvtf c f s) := by
  intros
  unfold execCvtf
  dsimp only
  repeat' first
    | (with_reducible first
        | assumption | intro _
        | apply Out.memOk_next | apply Out.ite_memOk | apply State.ite_memOk | apply State.vecOp_memOk)
    | split

theorem execCvtw_memOk : ∀ c f s, s.memOk → Out.memOk (@execCvtw c f s) := by
  intros
  unfold execCvtw
  dsimp only
  repeat' first
    | (with_reducible first
        | assumption | intro _
        | apply Out.memOk_next | apply Out.ite_memOk | apply State.ite_memOk | apply State.vecOp_memOk)
    | split

theorem execCvtmx_memOk : ∀ c f s, s.memOk → Out.memOk (@execCvtmx c f s) := by
  intros
  unfold execCvtmx
  dsimp only
  repeat' first
    | (with_reducible first
        | assumption | intro _
        | apply Out.memOk_next | apply Out.ite_memOk | apply State.ite_memOk | apply State.vecOp_memOk)
    | split

theorem execCvtwmx_memOk : ∀ c f s, s.memOk → Out.memOk (@execCvtwmx c f s) := by
  intros
  unfold execCvtwmx
  dsimp only
  repeat' first
    | (with_reducible first
        | assumption | intro _
        | apply Out.memOk_next | apply Out.ite_memOk | apply State.ite_memOk | apply State.vecOp_memOk)
    | split
    | (with_reducible apply State.mk_memOk)

theorem execFtoi_memOk : ∀ c f s, s.memOk → Out.memOk (@execFtoi c f s) := by
  intros
  unfold execFtoi
  repeat' first
    | (with_reducible first
        | assumption | intro _
        | apply Out.memOk_next | apply Out.ite_memOk | apply State.ite_memOk | apply State.vecLanes_memOk)
    | split

theorem execItof_memOk : ∀ c f s, s.memOk → Out.memOk (@execItof c f s) := by
  intros
  unfold execItof
  repeat' first
    | (with_reducible first
        | assumption | intro _
        | apply Out.memOk_next | apply Out.ite_memOk | apply State.ite_memOk | apply State.vecLanes_memOk)
    | split

theorem execVtail_memOk : ∀ c f s, s.memOk → Out.memOk (@execVtail c f s) := by
  intros
  unfold execVtail
  dsimp only
  repeat' first
    | (with_reducible first
        | assumption | intro _
        | apply Out.memOk_next | apply Out.ite_memOk | apply State.ite_memOk | apply State.vecOp_memOk)
    | split

theorem execVtailu_memOk : ∀ c f s, s.memOk → Out.memOk (@execVtailu c f s) := by
  intros
  unfold execVtailu
  dsimp only
  repeat' first
    | (with_reducible first
        | assumption | intro _
        | apply Out.memOk_next | apply Out.ite_memOk | apply State.ite_memOk | apply State.vecOp_memOk)
    | split

theorem State.vecReduce_memOk : ∀ s c f ok uses val, s.memOk → State.memOk (@State.vecReduce s c f ok uses val) := by
  intros
  unfold State.vecReduce
  repeat' first
    | (with_reducible first
        | assumption | intro _
        | apply State.ite_memOk | apply State.onCore_memOk)
    | split
    | (with_reducible apply State.mk_memOk)

theorem execRfsum_memOk : ∀ c f s, s.memOk → Out.memOk (@execRfsum c f s) := by
  intros
  unfold execRfsum
  repeat' first
    | (with_reducible first
        | assumption | intro _
        | apply Out.memOk_next | apply Out.ite_memOk | apply State.ite_memOk | apply State.vecReduce_memOk)
    | split

theorem execRfmax_memOk : ∀ c f s, s.memOk → Out.memOk (@execRfmax c f s) := by
  intros
  unfold execRfmax
  repeat' first
    | (with_reducible first
        | assumption | intro _
        | apply Out.memOk_next | apply Out.ite_memOk | apply State.ite_memOk | apply State.foldl_memOk
        | apply State.vecReduce_memOk)
    | split

theorem execRfmin_memOk : ∀ c f s, s.memOk → Out.memOk (@execRfmin c f s) := by
  intros
  unfold execRfmin
  repeat' first
    | (with_reducible first
        | assumption | intro _
        | apply Out.memOk_next | apply Out.ite_memOk | apply State.ite_memOk | apply State.foldl_memOk
        | apply State.vecReduce_memOk)
    | split

theorem execRisum_memOk : ∀ c f s, s.memOk → Out.memOk (@execRisum c f s) := by
  intros
  unfold execRisum
  repeat' first
    | (with_reducible first
        | assumption | intro _
        | apply Out.memOk_next | apply Out.ite_memOk | apply State.ite_memOk | apply State.foldl_memOk
        | apply State.vecReduce_memOk)
    | split

theorem execRusum_memOk : ∀ c f s, s.memOk → Out.memOk (@execRusum c f s) := by
  intros
  unfold execRusum
  repeat' first
    | (with_reducible first
        | assumption | intro _
        | apply Out.memOk_next | apply Out.ite_memOk | apply State.ite_memOk | apply State.vecReduce_memOk)
    | split

theorem execRimax_memOk : ∀ c f s, s.memOk → Out.memOk (@execRimax c f s) := by
  intros
  unfold execRimax
  repeat' first
    | (with_reducible first
        | assumption | intro _
        | apply Out.memOk_next | apply Out.ite_memOk | apply State.ite_memOk | apply State.foldl_memOk
        | apply State.vecReduce_memOk)
    | split

theorem execRimin_memOk : ∀ c f s, s.memOk → Out.memOk (@execRimin c f s) := by
  intros
  unfold execRimin
  repeat' first
    | (with_reducible first
        | assumption | intro _
        | apply Out.memOk_next | apply Out.ite_memOk | apply State.ite_memOk | apply State.foldl_memOk
        | apply State.vecReduce_memOk)
    | split

theorem execRand_memOk : ∀ c f s, s.memOk → Out.memOk (@execRand c f s) := by
  intros
  unfold execRand
  repeat' first
    | (with_reducible first
        | assumption | intro _
        | apply Out.memOk_next | apply Out.ite_memOk | apply State.ite_memOk | apply State.foldl_memOk
        | apply State.vecReduce_memOk)
    | split

theorem execRor_memOk : ∀ c f s, s.memOk → Out.memOk (@execRor c f s) := by
  intros
  unfold execRor
  repeat' first
    | (with_reducible first
        | assumption | intro _
        | apply Out.memOk_next | apply Out.ite_memOk | apply State.ite_memOk | apply State.foldl_memOk
        | apply State.vecReduce_memOk)
    | split

theorem execRargmax_memOk : ∀ c f s, s.memOk → Out.memOk (@execRargmax c f s) := by
  intros
  unfold execRargmax
  repeat' first
    | (with_reducible first
        | assumption | intro _
        | apply Out.memOk_next | apply Out.ite_memOk | apply State.ite_memOk | apply State.vecReduce_memOk)
    | split

theorem execRkcnt_memOk : ∀ c f s, s.memOk → Out.memOk (@execRkcnt c f s) := by
  intros
  unfold execRkcnt
  repeat' first
    | (with_reducible first
        | assumption | intro _
        | apply Out.memOk_next | apply Out.ite_memOk | apply State.ite_memOk | apply State.vecReduce_memOk)
    | split

theorem scalarByCode_memOk (n : Nat) (f) (e : scalarByCode n = some f) (c v s) (h : s.memOk) :
    Out.memOk (f c v s) := by
  unfold scalarByCode at e
  split at e
  all_goals cases e
  · exact execAdd_memOk _ _ _ h
  · exact execSub_memOk _ _ _ h
  · exact execMul_memOk _ _ _ h
  · exact execAnd_memOk _ _ _ h
  · exact execOr_memOk _ _ _ h
  · exact execXor_memOk _ _ _ h
  · exact execShl_memOk _ _ _ h
  · exact execShr_memOk _ _ _ h
  · exact execSar_memOk _ _ _ h
  · exact execMin_memOk _ _ _ h
  · exact execMax_memOk _ _ _ h
  · exact execMinu_memOk _ _ _ h
  · exact execMaxu_memOk _ _ _ h
  · exact execSlt_memOk _ _ _ h
  · exact execSltu_memOk _ _ _ h
  · exact execSeq_memOk _ _ _ h
  · exact execCsel_memOk _ _ _ h
  · exact execMovi_memOk _ _ _ h
  · exact execMovhi_memOk _ _ _ h
  · exact execRdpar_memOk _ _ _ h
  · exact execWrpar_memOk _ _ _ h
  · exact execRdstep_memOk _ _ _ h
  · exact execRdorbit_memOk _ _ _ h
  · exact execRdpci_memOk _ _ _ h
  · exact execRdncore_memOk _ _ _ h
  · exact execRdsem_memOk _ _ _ h
  · exact execRdbrk_memOk _ _ _ h
  · exact execReduce_memOk _ _ _ h
  · exact execRdwire_memOk _ _ _ h
  · exact execLcset_memOk _ _ _ h
  · exact execTapset_memOk _ _ _ h
  · exact execTail_memOk _ _ _ h

theorem vectorByCode_memOk (n : Nat) (f) (e : vectorByCode n = some f) (c v s) (h : s.memOk) :
    Out.memOk (f c v s) := by
  unfold vectorByCode at e
  split at e
  all_goals cases e
  · exact execFadd_memOk _ _ _ h
  · exact execFsub_memOk _ _ _ h
  · exact execFmul_memOk _ _ _ h
  · exact execFma_memOk _ _ _ h
  · exact execFnma_memOk _ _ _ h
  · exact execFmin_memOk _ _ _ h
  · exact execFmax_memOk _ _ _ h
  · exact execFabs_memOk _ _ _ h
  · exact execFneg_memOk _ _ _ h
  · exact execFcpys_memOk _ _ _ h
  · exact execFrint_memOk _ _ _ h
  · exact execFscale_memOk _ _ _ h
  · exact execFexp_memOk _ _ _ h
  · exact execFmant_memOk _ _ _ h
  · exact execFceq_memOk _ _ _ h
  · exact execFclt_memOk _ _ _ h
  · exact execFcle_memOk _ _ _ h
  · exact execFcun_memOk _ _ _ h
  · exact execFclass_memOk _ _ _ h
  · exact execIceq_memOk _ _ _ h
  · exact execIclt_memOk _ _ _ h
  · exact execIcltu_memOk _ _ _ h
  · exact execSel_memOk _ _ _ h
  · exact execKand_memOk _ _ _ h
  · exact execKor_memOk _ _ _ h
  · exact execKxor_memOk _ _ _ h
  · exact execKnot_memOk _ _ _ h
  · exact execIadd_memOk _ _ _ h
  · exact execIsub_memOk _ _ _ h
  · exact execImul_memOk _ _ _ h
  · exact execIand_memOk _ _ _ h
  · exact execIor_memOk _ _ _ h
  · exact execIxor_memOk _ _ _ h
  · exact execIshl_memOk _ _ _ h
  · exact execIshr_memOk _ _ _ h
  · exact execIsar_memOk _ _ _ h
  · exact execImin_memOk _ _ _ h
  · exact execImax_memOk _ _ _ h
  · exact execUmin_memOk _ _ _ h
  · exact execUmax_memOk _ _ _ h
  · exact execMov_memOk _ _ _ h
  · exact execVecMovi_memOk _ _ _ h
  · exact execLaneid_memOk _ _ _ h
  · exact execVrotl_memOk _ _ _ h
  · exact execVlbc_memOk _ _ _ h
  · exact execCvtf_memOk _ _ _ h
  · exact execCvtw_memOk _ _ _ h
  · exact execCvtmx_memOk _ _ _ h
  · exact execCvtwmx_memOk _ _ _ h
  · exact execFtoi_memOk _ _ _ h
  · exact execItof_memOk _ _ _ h
  · exact execVtail_memOk _ _ _ h
  · exact execVtailu_memOk _ _ _ h
  · exact execRfsum_memOk _ _ _ h
  · exact execRfmax_memOk _ _ _ h
  · exact execRfmin_memOk _ _ _ h
  · exact execRisum_memOk _ _ _ h
  · exact execRusum_memOk _ _ _ h
  · exact execRimax_memOk _ _ _ h
  · exact execRimin_memOk _ _ _ h
  · exact execRand_memOk _ _ _ h
  · exact execRor_memOk _ _ _ h
  · exact execRargmax_memOk _ _ _ h
  · exact execRkcnt_memOk _ _ _ h

theorem State.runFields_memOk : ∀ s c b, s.memOk → State.memOk (@State.runFields s c b) := by
  intro s c b h
  unfold State.runFields
  apply State.ite_memOk
  · exact after_memOk _ _ (execIdleBundle_memOk _ _ h) h
  · extract_lets s1 s2 s3 s4 s5 s6 s7 s8 s9 s10
    have h1 : s1.memOk := State.onCore_memOk _ _ _ h
    have h2 : s2.memOk := State.ite_memOk _ (after_memOk _ _ (execBrk_memOk _ _ h1) h1) h1
    have h3 : s3.memOk := by
      show State.memOk (match scalarByCode b.sop with | some f => after (f c b.scalar s2) s2 | none => s2)
      split
      · exact after_memOk _ _ (scalarByCode_memOk _ _ ‹_› _ _ _ h2) h2
      · exact h2
    have h4 : s4.memOk := by
      show State.memOk (match vectorByCode b.vop with | some f => after (f c b.vector s3) s3 | none => s3)
      split
      · exact after_memOk _ _ (vectorByCode_memOk _ _ ‹_› _ _ _ h3) h3
      · exact h3
    have h5 : s5.memOk := State.ite_memOk _ (after_memOk _ _ (execVectorLoad_memOk _ _ _ h4) h4) h4
    have h6 : s6.memOk := State.ite_memOk _ (after_memOk _ _ (execVectorStore_memOk _ _ _ h5) h5) h5
    have h7 : s7.memOk := State.foldl_memOk _ (fun _ _ g => State.arrayActions_memOk _ _ _ _ g) _ _ h6
    have h8 : s8.memOk := State.foldl_memOk _ (fun _ _ g => State.tapActions_memOk _ _ _ _ g) _ _ h7
    have h9 : s9.memOk := State.ite_memOk _ (State.onCore_memOk _ _ _ h8) h8
    exact controlOf_memOk _ _ _ (State.chanActions_memOk _ _ _ h9)

theorem State.runCore_memOk : ∀ s c, s.memOk → State.memOk (@State.runCore s c) := by
  intros
  unfold State.runCore
  repeat' first
    | (with_reducible first
        | assumption | intro _
        | apply State.ite_memOk | apply State.runFields_memOk)
    | split

theorem State.stepCtx_memOk : ∀ s x, s.memOk → State.memOk (@State.stepCtx s x) := by
  intros
  unfold State.stepCtx
  repeat' first
    | (with_reducible first
        | assumption | intro _
        | apply State.ite_memOk | apply State.foldl_memOk | apply State.endStep_memOk
        | apply State.landAll_memOk | apply State.runCore_memOk)
    | split

theorem State.siteBeat_memOk : ∀ s d, s.memOk → State.memOk (@State.siteBeat s d) := by
  intros
  unfold State.siteBeat
  repeat' first
    | (with_reducible first
        | assumption | intro _
        | apply State.ite_memOk | apply State.foldl_memOk | apply State.modCtx_memOk | apply State.stepCtx_memOk)
    | split
    | (with_reducible apply State.mk_memOk)

theorem State.beat_memOk : ∀ s d replica, s.memOk → State.memOk (@State.beat s d replica) := by
  intros
  unfold State.beat
  repeat' first
    | (with_reducible first
        | assumption | intro _
        | apply State.ite_memOk | apply State.marginWarn_memOk | apply State.routerStep_memOk
        | apply State.setDomain_memOk | apply State.siteBeat_memOk)
    | split

theorem State.eclipse_memOk : ∀ s u, s.memOk → State.memOk (@State.eclipse s u) := by
  intros
  unfold State.eclipse
  repeat' first
    | (with_reducible first
        | assumption | intro _
        | apply State.ite_memOk | apply State.foldl_memOk | apply State.modCtx_memOk
        | apply State.removeForeign_memOk | apply State.suspend_memOk)
    | split
    | (with_reducible apply State.mk_memOk)

theorem State.setRunning_memOk : ∀ s r, s.memOk → State.memOk (@State.setRunning s r) := by
  intros
  assumption

theorem State.beginRecovery_memOk : ∀ s r, s.memOk → State.memOk (@State.beginRecovery s r) := by
  intros
  unfold State.beginRecovery
  repeat' first
    | (with_reducible first
        | assumption | intro _
        | apply State.ite_memOk | apply State.eclipse_memOk | apply State.raise_memOk
        | apply State.setRunning_memOk)
    | split
    | (with_reducible apply State.mk_memOk)

theorem State.beginReplay_memOk : ∀ s x orbit, s.memOk → State.memOk (@State.beginReplay s x orbit) := by
  intros
  unfold State.beginReplay
  repeat' first
    | (with_reducible first
        | assumption | intro _
        | apply State.ite_memOk | apply State.logEntry_memOk | apply State.modCtx_memOk)
    | split
    | (with_reducible apply State.mk_memOk)

theorem State.bindReplay_memOk : ∀ s x b, s.memOk → State.memOk (@State.bindReplay s x b) := by
  intros
  unfold State.bindReplay
  repeat' first
    | (with_reducible first
        | assumption | intro _
        | apply State.ite_memOk | apply State.applyBind_memOk)
    | split
    | (with_reducible apply State.mk_memOk)

theorem State.bootKeys_memOk : ∀ s, s.memOk → State.memOk (@State.bootKeys s) := by
  intros
  unfold State.bootKeys
  repeat' first
    | (with_reducible first
        | assumption | intro _
        | apply State.ite_memOk | apply State.modFlash_memOk | apply State.raise_memOk | apply State.store_memOk)
    | split
    | (with_reducible apply State.mk_memOk)

theorem State.breakAll_memOk : ∀ s ids cause, s.memOk → State.memOk (@State.breakAll s ids cause) := by
  intros
  unfold State.breakAll
  repeat' first
    | (with_reducible first
        | assumption | intro _
        | apply State.ite_memOk | apply State.foldl_memOk | apply State.breakWith_memOk)
    | split

theorem State.breakFrom_memOk : ∀ s x cores cause, s.memOk → State.memOk (@State.breakFrom s x cores cause) := by
  intros
  unfold State.breakFrom
  repeat' first
    | (with_reducible first
        | assumption | intro _
        | apply State.ite_memOk | apply State.foldl_memOk | apply State.breakId_memOk)
    | split

theorem State.bringupFails_memOk : ∀ s, s.memOk → State.memOk (@State.bringupFails s) := by
  intros
  assumption

theorem State.brokenRelease_memOk : ∀ s x c, s.memOk → State.memOk (@State.brokenRelease s x c) := by
  intros
  unfold State.brokenRelease
  repeat' first
    | (with_reducible first
        | assumption | intro _
        | apply State.ite_memOk | apply State.foldl_memOk | apply State.admitEntry_memOk
        | apply State.brokenSeen_memOk | apply State.modCoreOf_memOk)
    | split
    | (with_reducible apply State.mk_memOk)

theorem State.cutCtx_memOk : ∀ s x, s.memOk → State.memOk (@State.cutCtx s x) := by
  intros
  unfold State.cutCtx
  repeat' first
    | (with_reducible first
        | assumption | intro _
        | apply State.ite_memOk | apply State.mapCores_memOk | apply State.modCtx_memOk)
    | split
    | (with_reducible apply State.mk_memOk)

theorem State.endResets_memOk : ∀ s ticket status, s.memOk → State.memOk (@State.endResets s ticket status) := by
  intros
  unfold State.endResets
  repeat' first
    | (with_reducible first
        | assumption | intro _
        | apply State.ite_memOk | apply State.foldl_memOk | apply State.finish_memOk)
    | split

theorem State.liftEclipse_memOk : ∀ s, s.memOk → State.memOk (@State.liftEclipse s) := by
  intros
  unfold State.liftEclipse
  repeat' first
    | (with_reducible first
        | assumption | intro _
        | apply State.ite_memOk | apply State.foldl_memOk | apply State.boundaryGo_memOk
        | apply State.modCtx_memOk)
    | split
    | (with_reducible apply State.mk_memOk)

theorem State.modRunning_memOk : ∀ s f, s.memOk → State.memOk (@State.modRunning s f) := by
  intros
  assumption

theorem State.settleFreeze_memOk : ∀ s x, s.memOk → State.memOk (@State.settleFreeze s x) := by
  intros
  unfold State.settleFreeze
  repeat' first
    | (with_reducible first
        | assumption | intro _
        | apply State.ite_memOk | apply State.stepCtx_memOk)
    | split
    | (with_reducible apply State.mk_memOk)

theorem State.settleAll_memOk : ∀ s l, s.memOk → State.memOk (@State.settleAll s l) := by
  intros
  unfold State.settleAll
  repeat' first
    | (with_reducible first
        | assumption | intro _
        | apply State.ite_memOk | apply State.foldl_memOk | apply State.settleFreeze_memOk)
    | split

theorem State.startNext_memOk : ∀ s, s.memOk → State.memOk (@State.startNext s) := by
  intros
  unfold State.startNext
  repeat' first
    | (with_reducible first
        | assumption | intro _
        | apply State.ite_memOk | apply State.beginRecovery_memOk)
    | split
    | (with_reducible apply State.mk_memOk)

theorem State.budgetOut_memOk : ∀ s r, s.memOk → State.memOk (@State.budgetOut s r) := by
  intros
  unfold State.budgetOut
  repeat' first
    | (with_reducible first
        | assumption | intro _
        | apply State.ite_memOk | apply State.foldl_memOk | apply State.cutCtx_memOk
        | apply State.endResets_memOk | apply State.liftEclipse_memOk | apply State.modRunning_memOk
        | apply State.setRunning_memOk | apply State.settleAll_memOk | apply State.startNext_memOk)
    | split
    | (with_reducible apply State.mk_memOk)

theorem State.restoreAll_memOk : ∀ s x b, s.memOk → State.memOk (@State.restoreAll s x b) := by
  intros
  unfold State.restoreAll
  repeat' first
    | (with_reducible first
        | assumption | intro _
        | apply State.ite_memOk | apply State.foldl_memOk | apply State.bankSwap_memOk
        | apply State.bindReplay_memOk | apply State.restorePars_memOk | apply State.restoreRest_memOk
        | apply State.restoreSems_memOk)
    | split

theorem State.catchUpStart_memOk : ∀ s x b, s.memOk → State.memOk (@State.catchUpStart s x b) := by
  intros
  unfold State.catchUpStart
  repeat' first
    | (with_reducible first
        | assumption | intro _
        | apply State.ite_memOk | apply State.boundaryGo_memOk | apply State.catchUpEnd_memOk
        | apply State.modCtx_memOk | apply State.modHalo_memOk | apply State.restoreAll_memOk)
    | split
    | (with_reducible apply State.mk_memOk)

theorem State.clearCoreMem_memOk : ∀ s l, s.memOk → State.memOk (@State.clearCoreMem s l) := by
  intros
  unfold State.clearCoreMem
  repeat' first
    | (with_reducible first
        | assumption | intro _
        | apply State.ite_memOk)
    | split
    | (with_reducible first
        | apply State.mkMem_memOk | apply Memory.wf_writeLine | apply Memory.wf_writeByte
        | apply Memory.wf_write | apply Memory.wf_clear | apply State.wf_mem | apply Memory.foldl_wf)

theorem State.closeAll_memOk : ∀ s, s.memOk → State.memOk (@State.closeAll s) := by
  intros
  unfold State.closeAll
  repeat' first
    | (with_reducible first
        | assumption | intro _
        | apply State.ite_memOk | apply State.foldl_memOk | apply State.closeBatch_memOk)
    | split

theorem State.closeEntries_memOk : ∀ s x, s.memOk → State.memOk (@State.closeEntries s x) := by
  intros
  unfold State.closeEntries
  repeat' first
    | (with_reducible first
        | assumption | intro _
        | apply State.ite_memOk | apply State.foldl_memOk | apply State.leaveEntry_memOk
        | apply State.modCoreOf_memOk | apply State.modCtx_memOk)
    | split
    | (with_reducible apply State.mk_memOk)

theorem State.mirrorFails_memOk : ∀ s x ticket, s.memOk → State.memOk (@State.mirrorFails s x ticket) := by
  intros
  unfold State.mirrorFails
  repeat' first
    | (with_reducible first
        | assumption | intro _
        | apply State.ite_memOk | apply State.finish_memOk | apply State.mirrorFree_memOk
        | apply State.modHalo_memOk)
    | split
    | (with_reducible apply State.mk_memOk)

theorem State.openFails_memOk : ∀ s o status, s.memOk → State.memOk (@State.openFails s o status) := by
  intros
  unfold State.openFails
  repeat' first
    | (with_reducible first
        | assumption | intro _
        | apply State.ite_memOk | apply State.foldl_memOk | apply State.dropCircuits_memOk
        | apply State.finish_memOk | apply State.freeTag_memOk | apply State.mirrorFails_memOk
        | apply State.modLinks_memOk)
    | split
    | (with_reducible apply State.mk_memOk)

theorem State.linksOff_memOk : ∀ s, s.memOk → State.memOk (@State.linksOff s) := by
  intros
  unfold State.linksOff
  repeat' first
    | (with_reducible first
        | assumption | intro _
        | apply State.ite_memOk | apply State.foldl_memOk | apply State.breakWith_memOk
        | apply State.modLinks_memOk | apply State.openFails_memOk | apply State.portOff_memOk)
    | split
    | (with_reducible apply State.mk_memOk)

theorem State.computeOff_memOk : ∀ s, s.memOk → State.memOk (@State.computeOff s) := by
  intro s _
  exact Memory.wf_nil

theorem execAbsence_memOk : ∀ p f s, s.memOk → Out.memOk (@execAbsence p f s) := by
  intros
  unfold execAbsence
  repeat' first
    | (with_reducible first
        | assumption | intro _
        | apply Out.ite_memOk | apply State.ite_memOk | apply State.absenceArrives_memOk | apply done_memOk)
    | split

theorem State.unpair_memOk : ∀ s x, s.memOk → State.memOk (@State.unpair s x) := by
  intros
  unfold State.unpair
  repeat' first
    | (with_reducible first
        | assumption | intro _
        | apply State.ite_memOk | apply State.dropMirror_memOk | apply State.finish_memOk
        | apply State.mirrorFree_memOk | apply State.modHalo_memOk)
    | split

theorem State.mirrorCut_memOk : ∀ s p id close, s.memOk → State.memOk (@State.mirrorCut s p id close) := by
  intros
  unfold State.mirrorCut
  repeat' first
    | (with_reducible first
        | assumption | intro _
        | apply State.ite_memOk | apply State.foldl_memOk | apply State.suspendHere_memOk
        | apply State.unpair_memOk)
    | split
    | (with_reducible apply State.mk_memOk)

theorem execBreakFlit_memOk : ∀ p f s, s.memOk → Out.memOk (@execBreakFlit p f s) := by
  intros
  unfold execBreakFlit
  repeat' first
    | (with_reducible first
        | assumption | intro _
        | apply Out.memOk_next | apply Out.ite_memOk | apply State.ite_memOk | apply State.breakWith_memOk
        | apply State.mirrorCut_memOk | apply done_memOk)
    | split

theorem execCalFlit_memOk : ∀ p f s, s.memOk → Out.memOk (@execCalFlit p f s) := by
  intros
  unfold execCalFlit
  dsimp only
  repeat' first
    | (with_reducible first
        | assumption | intro _
        | apply Out.memOk_next | apply Out.ite_memOk | apply State.ite_memOk)
    | split

theorem execCloseFlit_memOk : ∀ p f s, s.memOk → Out.memOk (@execCloseFlit p f s) := by
  intros
  unfold execCloseFlit
  repeat' first
    | (with_reducible first
        | assumption | intro _
        | apply Out.memOk_next | apply Out.ite_memOk | apply State.ite_memOk | apply State.breakWith_memOk
        | apply State.mirrorCut_memOk | apply done_memOk)
    | split

theorem execEntryCredit_memOk : ∀ p f s, s.memOk → Out.memOk (@execEntryCredit p f s) := by
  intros
  unfold execEntryCredit
  repeat' first
    | (with_reducible first
        | assumption | intro _
        | apply Out.ite_memOk | apply State.ite_memOk | apply quiet_memOk)
    | split

theorem State.modCircuit_memOk : ∀ s b tag f, s.memOk → State.memOk (@State.modCircuit s b tag f) := by
  intros
  assumption

theorem State.entryEndOn_memOk : ∀ s b f, s.memOk → State.memOk (@State.entryEndOn s b f) := by
  intros
  unfold State.entryEndOn
  repeat' first
    | (with_reducible first
        | assumption | intro _
        | apply State.ite_memOk | apply State.arriveEntry_memOk | apply State.bulkEvent_memOk
        | apply State.modCircuit_memOk | apply State.modLinks_memOk | apply State.sendCtl_memOk
        | apply State.sendFlit_memOk)
    | split
    | (with_reducible apply State.mk_memOk)

theorem execEntryEnd_memOk : ∀ p f s, s.memOk → Out.memOk (@execEntryEnd p f s) := by
  intros
  unfold execEntryEnd
  repeat' first
    | (with_reducible first
        | assumption | intro _
        | apply Out.ite_memOk | apply State.ite_memOk | apply State.entryEndOn_memOk | apply done_memOk)
    | split

theorem State.frontSelf_memOk : ∀ s x, s.memOk → State.memOk (@State.frontSelf s x) := by
  intros
  unfold State.frontSelf
  repeat' first
    | (with_reducible first
        | assumption | intro _
        | apply State.ite_memOk | apply State.endSelfLost_memOk | apply State.modCtx_memOk)
    | split
    | (with_reducible apply State.mk_memOk)

theorem State.silence_memOk : ∀ s ids, s.memOk → State.memOk (@State.silence s ids) := by
  intros
  unfold State.silence
  repeat' first
    | (with_reducible first
        | assumption | intro _
        | apply State.ite_memOk | apply State.foldl_memOk | apply State.setBundle_memOk)
    | split
    | (with_reducible apply State.mk_memOk)

theorem State.frontMine_memOk : ∀ s p job, s.memOk → State.memOk (@State.frontMine s p job) := by
  intros
  unfold State.frontMine
  repeat' first
    | (with_reducible first
        | assumption | intro _
        | apply State.ite_memOk | apply State.foldl_memOk | apply State.breakConn_memOk
        | apply State.bulkEvent_memOk | apply State.dropCircuits_memOk | apply State.frontSelf_memOk
        | apply State.modLinks_memOk | apply State.raise_memOk | apply State.silence_memOk)
    | split
    | (with_reducible apply State.mk_memOk)

theorem State.endMirror_memOk : ∀ s x kind, s.memOk → State.memOk (@State.endMirror s x kind) := by
  intros
  unfold State.endMirror
  repeat' first
    | (with_reducible first
        | assumption | intro _
        | apply State.ite_memOk | apply State.dropMirror_memOk | apply State.tellFar_memOk)
    | split

theorem State.takeoverSeal_memOk : ∀ s x, s.memOk → State.memOk (@State.takeoverSeal s x) := by
  intros
  unfold State.takeoverSeal
  repeat' first
    | (with_reducible first
        | assumption | intro _
        | apply State.ite_memOk | apply State.closeBatch_memOk | apply State.logEntry_memOk
        | apply State.modLedger_memOk)
    | split
    | (with_reducible apply State.mk_memOk)

theorem State.takeOver_memOk : ∀ s x ticket, s.memOk → State.memOk (@State.takeOver s x ticket) := by
  intros
  unfold State.takeOver
  repeat' first
    | (with_reducible first
        | assumption | intro _
        | apply State.ite_memOk | apply State.catchUpStart_memOk | apply State.endMirror_memOk
        | apply State.finish_memOk | apply State.modHalo_memOk | apply State.raise_memOk
        | apply State.takeoverSeal_memOk)
    | split
    | (with_reducible apply State.mk_memOk)

theorem State.takeOverFor_memOk : ∀ s lost job, s.memOk → State.memOk (@State.takeOverFor s lost job) := by
  intros
  unfold State.takeOverFor
  repeat' first
    | (with_reducible first
        | assumption | intro _
        | apply State.ite_memOk | apply State.foldl_memOk | apply State.takeOver_memOk)
    | split
    | (with_reducible apply State.mk_memOk)

theorem State.frontOther_memOk : ∀ s lost job, s.memOk → State.memOk (@State.frontOther s lost job) := by
  intros
  unfold State.frontOther
  repeat' first
    | (with_reducible first
        | assumption | intro _
        | apply State.ite_memOk | apply State.foldl_memOk | apply State.breakWith_memOk
        | apply State.takeOverFor_memOk)
    | split

theorem State.sendFront_memOk : ∀ s b lost detector tick job hops, s.memOk → State.memOk (@State.sendFront s b
    lost detector tick job hops) := by
  intros
  unfold State.sendFront
  repeat' first
    | (with_reducible first
        | assumption | intro _
        | apply State.ite_memOk | apply State.sendCtl_memOk)
    | split

theorem State.frontArrives_memOk : ∀ s p f, s.memOk → State.memOk (@State.frontArrives s p f) := by
  intros
  unfold State.frontArrives
  repeat' first
    | (with_reducible first
        | assumption | intro _
        | apply State.ite_memOk | apply State.foldl_memOk | apply State.frontMine_memOk
        | apply State.frontOther_memOk | apply State.modLinks_memOk | apply State.raise_memOk
        | apply State.sendFront_memOk)
    | split
    | (with_reducible apply State.mk_memOk)

theorem execFaultFront_memOk : ∀ p f s, s.memOk → Out.memOk (@execFaultFront p f s) := by
  intros
  unfold execFaultFront
  repeat' first
    | (with_reducible first
        | assumption | intro _
        | apply Out.ite_memOk | apply State.ite_memOk | apply State.frontArrives_memOk | apply done_memOk)
    | split

theorem execMgmt_memOk : ∀ p f s, s.memOk → Out.memOk (@execMgmt p f s) := by
  intros
  unfold execMgmt
  repeat' first
    | (with_reducible first
        | assumption | intro _
        | apply Out.ite_memOk | apply State.ite_memOk | apply quiet_memOk)
    | split

theorem execOpenAck_memOk : ∀ p f s, s.memOk → Out.memOk (@execOpenAck p f s) := by
  intros
  unfold execOpenAck
  repeat' first
    | (with_reducible first
        | assumption | intro _
        | apply Out.ite_memOk | apply State.ite_memOk | apply quiet_memOk)
    | split

theorem execOpenFlit_memOk : ∀ p f s, s.memOk → Out.memOk (@execOpenFlit p f s) := by
  intros
  unfold execOpenFlit
  repeat' first
    | (with_reducible first
        | assumption | intro _
        | apply Out.ite_memOk | apply State.ite_memOk | apply quiet_memOk)
    | split

theorem execRemoteRd_memOk : ∀ p f s, s.memOk → Out.memOk (@execRemoteRd p f s) := by
  intros
  unfold execRemoteRd
  repeat' first
    | (with_reducible first
        | assumption | intro _
        | apply Out.ite_memOk | apply State.ite_memOk | apply State.modStack_memOk | apply quiet_memOk)
    | split
    | (with_reducible apply State.mk_memOk)

theorem execTimeReq_memOk : ∀ p f t ps s, s.memOk → Out.memOk (@execTimeReq p f t ps s) := by
  intros
  unfold execTimeReq
  repeat' first
    | (with_reducible first
        | assumption | intro _
        | apply Out.ite_memOk | apply State.ite_memOk | apply State.atTick_memOk | apply State.modPort_memOk
        | apply State.sendCtl_memOk | apply quiet_memOk)
    | split
    | (with_reducible apply State.mk_memOk)

theorem execTimeResp_memOk : ∀ p f t ps s, s.memOk → Out.memOk (@execTimeResp p f t ps s) := by
  intros
  unfold execTimeResp
  repeat' first
    | (with_reducible first
        | assumption | intro _
        | apply Out.ite_memOk | apply State.ite_memOk | apply State.atTick_memOk | apply quiet_memOk)
    | split
    | (with_reducible apply State.mk_memOk)

theorem State.control_memOk : ∀ s p t tag f, s.memOk → State.memOk (@State.control s p t tag f) := by
  intros
  unfold State.control
  repeat' first
    | (with_reducible first
        | assumption | intro _
        | apply State.ite_memOk | apply after_memOk | apply execAbsence_memOk | apply execBreakFlit_memOk
        | apply execCalFlit_memOk | apply execCloseFlit_memOk | apply execEntryCredit_memOk
        | apply execEntryEnd_memOk | apply execFaultFront_memOk | apply execMgmt_memOk | apply execOpenAck_memOk
        | apply execOpenFlit_memOk | apply execRemoteRd_memOk | apply execTimeReq_memOk
        | apply execTimeResp_memOk)
    | split
    | (with_reducible apply State.mk_memOk)

theorem State.cutOrbit_memOk : ∀ s x, s.memOk → State.memOk (@State.cutOrbit s x) := by
  intros
  unfold State.cutOrbit
  repeat' first
    | (with_reducible first
        | assumption | intro _
        | apply State.ite_memOk | apply State.addEntry_memOk | apply State.flagCtx_memOk
        | apply State.itemStatus_memOk | apply State.modCtx_memOk)
    | split
    | (with_reducible apply State.mk_memOk)

theorem State.dataFlit_memOk : ∀ s b tag line, s.memOk → State.memOk (@State.dataFlit s b tag line) := by
  intros
  unfold State.dataFlit
  repeat' first
    | (with_reducible first
        | assumption | intro _
        | apply State.ite_memOk | apply State.modCircuit_memOk | apply State.sendFlit_memOk)
    | split
    | (with_reducible apply State.mk_memOk)

theorem State.defaultSettings_memOk : ∀ s x, s.memOk → State.memOk (@State.defaultSettings s x) := by
  intros
  assumption

theorem State.takeFlit_memOk : ∀ s p t q, s.memOk → State.memOk (@State.takeFlit s p t q) := by
  intros
  unfold State.takeFlit
  repeat' first
    | (with_reducible first
        | assumption | intro _
        | apply State.ite_memOk | apply State.control_memOk | apply State.dataFlit_memOk
        | apply State.freeFlit_memOk | apply State.queueFlit_memOk)
    | split
    | (with_reducible apply State.mk_memOk)

theorem State.deliver_memOk : ∀ p t y3 y4, y4.memOk → State.memOk (@State.deliver p t y3 y4) := by
  intro p t n
  induction n with
  | zero =>
    intro s h
    exact h
  | succ f ih =>
    intro s h
    unfold State.deliver
    dsimp only
    split
    · exact h
    · apply ih
      apply State.foldl_memOk
      · intro s q hs
        exact State.takeFlit_memOk _ _ _ _ hs
      · exact State.setBundle_memOk _ _ _ h

theorem State.detectFronts_memOk : ∀ s lost, s.memOk → State.memOk (@State.detectFronts s lost) := by
  intros
  unfold State.detectFronts
  repeat' first
    | (with_reducible first
        | assumption | intro _
        | apply State.ite_memOk | apply State.foldl_memOk | apply State.sendFront_memOk)
    | split

theorem State.dramCommits_memOk : ∀ s d i, s.memOk → State.memOk (@State.dramCommits s d i) := by
  intros
  unfold State.dramCommits
  repeat' first
    | (with_reducible first
        | assumption | intro _
        | apply State.ite_memOk | apply State.foldl_memOk | apply State.commitOne_memOk)
    | split
    | (with_reducible apply State.mk_memOk)

theorem State.idleBanks_memOk : ∀ s l, s.memOk → State.memOk (@State.idleBanks s l) := by
  intros
  unfold State.idleBanks
  repeat' first
    | (with_reducible first
        | assumption | intro _
        | apply State.ite_memOk)
    | split
    | (with_reducible first
        | apply State.mkMem_memOk | apply Memory.wf_writeLine | apply Memory.wf_writeByte
        | apply Memory.wf_write | apply Memory.wf_clear | apply State.wf_mem | apply Memory.foldl_wf)

theorem State.dropImages_memOk : ∀ s x, s.memOk → State.memOk (@State.dropImages s x) := by
  intros
  unfold State.dropImages
  repeat' first
    | (with_reducible first
        | assumption | intro _
        | apply State.ite_memOk | apply State.foldl_memOk | apply State.idleBanks_memOk
        | apply State.mapCores_memOk | apply State.modCtx_memOk)
    | split
    | (with_reducible apply State.mk_memOk)

theorem State.dropQueued_memOk : ∀ s u, s.memOk → State.memOk (@State.dropQueued s u) := by
  intros
  assumption

theorem State.dropReads_memOk : ∀ s x, s.memOk → State.memOk (@State.dropReads s x) := by
  intros
  unfold State.dropReads
  repeat' first
    | (with_reducible first
        | assumption | intro _
        | apply State.ite_memOk | apply State.foldl_memOk | apply State.modStack_memOk)
    | split
    | (with_reducible apply State.mk_memOk)

theorem State.nextStage_memOk : ∀ s ms, s.memOk → State.memOk (@State.nextStage s ms) := by
  intros
  assumption

theorem State.runCopy_memOk : ∀ s n, s.memOk → State.memOk (@State.runCopy s n) := by
  intros
  assumption

theorem State.endStage1_memOk : ∀ s r, s.memOk → State.memOk (@State.endStage1 s r) := by
  intros
  unfold State.endStage1
  repeat' first
    | (with_reducible first
        | assumption | intro _
        | apply State.ite_memOk | apply State.bootKeys_memOk | apply State.modBoot_memOk
        | apply State.nextStage_memOk | apply State.realert_memOk | apply State.runCopy_memOk
        | apply State.store_memOk)
    | split
    | (with_reducible apply State.mk_memOk)

theorem State.endStage2_memOk : ∀ s r, s.memOk → State.memOk (@State.endStage2 s r) := by
  intros
  unfold State.endStage2
  repeat' first
    | (with_reducible first
        | assumption | intro _
        | apply State.ite_memOk | apply State.bringupFails_memOk | apply State.nextStage_memOk)
    | split
    | (with_reducible apply State.mk_memOk)

theorem State.foundDefects_memOk : ∀ s l cause, s.memOk → State.memOk (@State.foundDefects s l cause) := by
  intros
  unfold State.foundDefects
  repeat' first
    | (with_reducible first
        | assumption | intro _
        | apply State.ite_memOk | apply State.foldl_memOk | apply State.absorbDefect_memOk
        | apply State.addRepairs_memOk | apply State.modBoot_memOk)
    | split
    | (with_reducible apply State.mk_memOk)

theorem State.withdrawListed_memOk : ∀ s, s.memOk → State.memOk (@State.withdrawListed s) := by
  intros
  unfold State.withdrawListed
  repeat' first
    | (with_reducible first
        | assumption | intro _
        | apply State.ite_memOk | apply State.foldl_memOk | apply State.baseFails_memOk
        | apply State.raise_memOk | apply State.stackFails_memOk)
    | split

theorem State.endStage3_memOk : ∀ s r, s.memOk → State.memOk (@State.endStage3 s r) := by
  intro s r _
  unfold State.endStage3
  dsimp only
  have k := State.nextStage_memOk _ r.ms (State.foundDefects_memOk _ r.defects 3
    (State.withdrawListed_memOk { s with mem := [] } Memory.wf_nil))
  split
  · exact k
  · exact State.trainAll_memOk _ k

theorem State.idleImage_memOk : ∀ s, s.memOk → State.memOk (@State.idleImage s) := by
  intros
  unfold State.idleImage
  repeat' first
    | (with_reducible first
        | assumption | intro _
        | apply State.ite_memOk | apply State.foldl_memOk)
    | split
    | (with_reducible first
        | apply State.mkMem_memOk | apply Memory.wf_writeLine | apply Memory.wf_writeByte
        | apply Memory.wf_write | apply Memory.wf_clear | apply State.wf_mem | apply Memory.foldl_wf)

theorem State.nextWindow_memOk : ∀ s kind n start, s.memOk → State.memOk (@State.nextWindow s kind n start) := by
  intros
  unfold State.nextWindow
  repeat' first
    | (with_reducible first
        | assumption | intro _
        | apply State.ite_memOk | apply State.announce_memOk)
    | split
    | (with_reducible apply State.mk_memOk)

theorem State.openCalendar_memOk : ∀ s, s.memOk → State.memOk (@State.openCalendar s) := by
  intros
  unfold State.openCalendar
  repeat' first
    | (with_reducible first
        | assumption | intro _
        | apply State.ite_memOk | apply State.foldl_memOk | apply State.nextWindow_memOk)
    | split

theorem State.selfTestFail_memOk : ∀ s n, s.memOk → State.memOk (@State.selfTestFail s n) := by
  intros
  unfold State.selfTestFail
  repeat' first
    | (with_reducible first
        | assumption | intro _
        | apply State.ite_memOk | apply State.foundDefects_memOk | apply State.modBoot_memOk
        | apply State.raise_memOk)
    | split
    | (with_reducible apply State.mk_memOk)

theorem State.endStage5_memOk : ∀ s r, s.memOk → State.memOk (@State.endStage5 s r) := by
  intros
  unfold State.endStage5
  repeat' first
    | (with_reducible first
        | assumption | intro _
        | apply State.ite_memOk | apply State.foldl_memOk | apply State.advanceFuses_memOk
        | apply State.foundDefects_memOk | apply State.idleImage_memOk | apply State.modBoot_memOk
        | apply State.openCalendar_memOk | apply State.raise_memOk | apply State.selfTestFail_memOk)
    | split
    | (with_reducible apply State.mk_memOk)

theorem State.endStage_memOk : ∀ s r, s.memOk → State.memOk (@State.endStage s r) := by
  intros
  unfold State.endStage
  repeat' first
    | (with_reducible first
        | assumption | intro _
        | apply State.ite_memOk | apply State.endStage1_memOk | apply State.endStage2_memOk
        | apply State.endStage3_memOk | apply State.endStage5_memOk | apply State.nextStage_memOk)
    | split
    | (with_reducible apply State.mk_memOk)

theorem State.widen_memOk : ∀ s u, s.memOk → State.memOk (@State.widen s u) := by
  intros
  unfold State.widen
  repeat' first
    | (with_reducible first
        | assumption | intro _
        | apply State.ite_memOk | apply State.eclipse_memOk | apply State.modRunning_memOk)
    | split
    | (with_reducible apply State.mk_memOk)

theorem State.escalate_memOk : ∀ s kind, s.memOk → State.memOk (@State.escalate s kind) := by
  intros
  unfold State.escalate
  repeat' first
    | (with_reducible first
        | assumption | intro _
        | apply State.ite_memOk | apply State.raise_memOk | apply State.widen_memOk)
    | split

theorem State.mergeRunning_memOk : ∀ s u, s.memOk → State.memOk (@State.mergeRunning s u) := by
  intros
  unfold State.mergeRunning
  repeat' first
    | (with_reducible first
        | assumption | intro _
        | apply State.ite_memOk | apply State.raise_memOk | apply State.widen_memOk)
    | split
    | (with_reducible apply State.mk_memOk)

theorem State.queueUp_memOk : ∀ s r, s.memOk → State.memOk (@State.queueUp s r) := by
  intros
  unfold State.queueUp
  repeat' first
    | (with_reducible first
        | assumption | intro _
        | apply State.ite_memOk | apply State.raise_memOk)
    | split
    | (with_reducible apply State.mk_memOk)

theorem State.orderFault_memOk : ∀ s r, s.memOk → State.memOk (@State.orderFault s r) := by
  intros
  unfold State.orderFault
  repeat' first
    | (with_reducible first
        | assumption | intro _
        | apply State.ite_memOk | apply State.beginRecovery_memOk | apply State.escalate_memOk
        | apply State.mergeRunning_memOk | apply State.modRunning_memOk | apply State.queueUp_memOk)
    | split
    | (with_reducible apply State.mk_memOk)

theorem State.fault_memOk : ∀ s kind scope target cores, s.memOk → State.memOk (@State.fault s kind scope
    target cores) := by
  intros
  unfold State.fault
  repeat' first
    | (with_reducible first
        | assumption | intro _
        | apply State.ite_memOk | apply State.orderFault_memOk | apply State.raise_memOk)
    | split

theorem State.faultIf_memOk : ∀ s ok kind scope target, s.memOk → State.memOk (@State.faultIf s ok kind scope
    target) := by
  intros
  unfold State.faultIf
  repeat' first
    | (with_reducible first
        | assumption | intro _
        | apply State.ite_memOk | apply State.fault_memOk)
    | split

theorem State.removeForeign_memOk : ∀ s q, s.memOk → State.memOk (@State.removeForeign s q) := by
  intros
  unfold State.removeForeign
  repeat' first
    | (with_reducible first
        | assumption | intro _
        | apply State.ite_memOk | apply State.foldl_memOk | apply State.breakAll_memOk
        | apply State.modCtx_memOk | apply State.modHub_memOk)
    | split
    | (with_reducible apply State.mk_memOk)

theorem State.suspend_memOk : ∀ s x, s.memOk → State.memOk (@State.suspend s x) := by
  intros
  unfold State.suspend
  repeat' first
    | (with_reducible first
        | assumption | intro _
        | apply State.ite_memOk | apply State.endMirror_memOk | apply State.suspendHere_memOk)
    | split

theorem State.forceQuad_memOk : ∀ s r, s.memOk → State.memOk (@State.forceQuad s r) := by
  intros
  unfold State.forceQuad
  repeat' first
    | (with_reducible first
        | assumption | intro _
        | apply State.ite_memOk | apply State.foldl_memOk | apply State.breakAll_memOk
        | apply State.modHub_memOk | apply State.removeForeign_memOk | apply State.suspend_memOk)
    | split
    | (with_reducible apply State.mk_memOk)

theorem State.idleCore_memOk : ∀ s l, s.memOk → State.memOk (@State.idleCore s l) := by
  intros
  unfold State.idleCore
  repeat' first
    | (with_reducible first
        | assumption | intro _
        | apply State.ite_memOk | apply State.idleBanks_memOk | apply State.setCore_memOk)
    | split

theorem State.freeCtx_memOk : ∀ s x, s.memOk → State.memOk (@State.freeCtx s x) := by
  intros
  unfold State.freeCtx
  repeat' first
    | (with_reducible first
        | assumption | intro _
        | apply State.ite_memOk | apply State.foldl_memOk | apply State.defaultSettings_memOk
        | apply State.idleCore_memOk | apply State.modLinks_memOk | apply State.modStack_memOk
        | apply State.setCtx_memOk)
    | split
    | (with_reducible apply State.mk_memOk)

theorem State.modPower_memOk : ∀ s f, s.memOk → State.memOk (@State.modPower s f) := by
  intros
  assumption

theorem State.halt_memOk : ∀ s, s.memOk → State.memOk (@State.halt s) := by
  intros
  assumption

theorem State.moduleReset_memOk : ∀ s keep, s.memOk → State.memOk (@State.moduleReset s keep) := by
  intro s keep _
  exact Memory.wf_nil

theorem State.hardReset_memOk : ∀ s, s.memOk → State.memOk (@State.hardReset s) := by
  intros
  unfold State.hardReset
  repeat' first
    | (with_reducible first
        | assumption | intro _
        | apply State.ite_memOk | apply State.moduleReset_memOk | apply State.setRunning_memOk)
    | split

theorem State.modTime_memOk : ∀ s f, s.memOk → State.memOk (@State.modTime s f) := by
  intros
  assumption

theorem State.holdover_memOk : ∀ s, s.memOk → State.memOk (@State.holdover s) := by
  intros
  unfold State.holdover
  repeat' first
    | (with_reducible first
        | assumption | intro _
        | apply State.ite_memOk | apply State.modTime_memOk | apply State.timeState_memOk)
    | split
    | (with_reducible apply State.mk_memOk)

theorem State.sendMgmt_memOk : ∀ s v, s.memOk → State.memOk (@State.sendMgmt s v) := by
  intros
  unfold State.sendMgmt
  repeat' first
    | (with_reducible first
        | assumption | intro _
        | apply State.ite_memOk | apply State.foldl_memOk | apply State.queueFlit_memOk)
    | split

theorem State.sendMessages_memOk : ∀ s, s.memOk → State.memOk (@State.sendMessages s) := by
  intros
  unfold State.sendMessages
  repeat' first
    | (with_reducible first
        | assumption | intro _
        | apply State.ite_memOk | apply State.foldl_memOk | apply State.sendMgmt_memOk)
    | split
    | (with_reducible apply State.mk_memOk)

theorem execNopCmd_memOk : ∀ m q s, s.memOk → Out.memOk (@execNopCmd m q s) := by
  intros
  unfold execNopCmd
  repeat' first
    | (with_reducible first
        | assumption | intro _
        | apply Out.ite_memOk | apply State.ite_memOk | apply State.serve_memOk | apply okay_memOk
        | apply quiet_memOk)
    | split

theorem execClaim_memOk : ∀ m q s, s.memOk → Out.memOk (@execClaim m q s) := by
  intros
  unfold execClaim
  repeat' first
    | (with_reducible first
        | assumption | intro _
        | apply Out.ite_memOk | apply State.ite_memOk | apply State.mboxTimers_memOk | apply State.modSlot_memOk
        | apply State.post_memOk | apply State.renew_memOk | apply State.slotBusy_memOk | apply quiet_memOk)
    | split
    | (with_reducible apply State.mk_memOk)

theorem execRenew_memOk : ∀ m q s, s.memOk → Out.memOk (@execRenew m q s) := by
  intros
  unfold execRenew
  repeat' first
    | (with_reducible first
        | assumption | intro _
        | apply Out.ite_memOk | apply State.ite_memOk | apply State.serve_memOk | apply okay_memOk
        | apply quiet_memOk)
    | split

theorem execHandover_memOk : ∀ m q s, s.memOk → Out.memOk (@execHandover m q s) := by
  intros
  unfold execHandover
  repeat' first
    | (with_reducible first
        | assumption | intro _
        | apply Out.ite_memOk | apply State.ite_memOk | apply State.passOwner_memOk | apply State.serve_memOk
        | apply okay_memOk | apply quiet_memOk | apply refuse_memOk)
    | split

theorem execReleaseOwner_memOk : ∀ m q s, s.memOk → Out.memOk (@execReleaseOwner m q s) := by
  intros
  unfold execReleaseOwner
  repeat' first
    | (with_reducible first
        | assumption | intro _
        | apply Out.ite_memOk | apply State.ite_memOk | apply State.passOwner_memOk | apply State.serve_memOk
        | apply okay_memOk | apply quiet_memOk)
    | split

theorem execOwnerRead_memOk : ∀ m q s, s.memOk → Out.memOk (@execOwnerRead m q s) := by
  intros
  unfold execOwnerRead
  repeat' first
    | (with_reducible first
        | assumption | intro _
        | apply Out.ite_memOk | apply State.ite_memOk | apply State.serve_memOk | apply quiet_memOk)
    | split

theorem execSettingRead_memOk : ∀ m q s, s.memOk → Out.memOk (@execSettingRead m q s) := by
  intros
  unfold execSettingRead
  repeat' first
    | (with_reducible first
        | assumption | intro _
        | apply Out.ite_memOk | apply State.ite_memOk | apply State.serve_memOk | apply quiet_memOk
        | apply refuse_memOk)
    | split
    | (with_reducible apply State.mk_memOk)

theorem execSettingWrite_memOk : ∀ m q s, s.memOk → Out.memOk (@execSettingWrite m q s) := by
  intros
  unfold execSettingWrite
  repeat' first
    | (with_reducible first
        | assumption | intro _
        | apply Out.ite_memOk | apply State.ite_memOk | apply State.serve_memOk | apply quiet_memOk)
    | split

theorem execBeginTxn_memOk : ∀ m q s, s.memOk → Out.memOk (@execBeginTxn m q s) := by
  intros
  unfold execBeginTxn
  repeat' first
    | (with_reducible first
        | assumption | intro _
        | apply Out.ite_memOk | apply State.ite_memOk | apply State.serve_memOk | apply okay_memOk
        | apply quiet_memOk | apply refuse_memOk)
    | split
    | (with_reducible apply State.mk_memOk)

theorem execSetStage_memOk : ∀ m q s, s.memOk → Out.memOk (@execSetStage m q s) := by
  intros
  unfold execSetStage
  repeat' first
    | (with_reducible first
        | assumption | intro _
        | apply Out.ite_memOk | apply State.ite_memOk | apply State.serve_memOk | apply okay_memOk
        | apply quiet_memOk | apply refuse_memOk)
    | split
    | (with_reducible apply State.mk_memOk)

theorem execCommitTick_memOk : ∀ m q s, s.memOk → Out.memOk (@execCommitTick m q s) := by
  intros
  unfold execCommitTick
  repeat' first
    | (with_reducible first
        | assumption | intro _
        | apply Out.ite_memOk | apply State.ite_memOk | apply State.serve_memOk | apply quiet_memOk)
    | split
    | (with_reducible apply State.mk_memOk)

theorem execCommitBoundary_memOk : ∀ m q s, s.memOk → Out.memOk (@execCommitBoundary m q s) := by
  intros
  unfold execCommitBoundary
  repeat' first
    | (with_reducible first
        | assumption | intro _
        | apply Out.ite_memOk | apply State.ite_memOk | apply State.serve_memOk | apply quiet_memOk)
    | split
    | (with_reducible apply State.mk_memOk)

theorem execRollback_memOk : ∀ m q s, s.memOk → Out.memOk (@execRollback m q s) := by
  intros
  unfold execRollback
  repeat' first
    | (with_reducible first
        | assumption | intro _
        | apply Out.ite_memOk | apply State.ite_memOk | apply State.rollBack_memOk | apply State.serve_memOk
        | apply okay_memOk | apply quiet_memOk | apply refuse_memOk)
    | split

theorem execTxnRead_memOk : ∀ m q s, s.memOk → Out.memOk (@execTxnRead m q s) := by
  intros
  unfold execTxnRead
  repeat' first
    | (with_reducible first
        | assumption | intro _
        | apply Out.ite_memOk | apply State.ite_memOk | apply State.serve_memOk | apply quiet_memOk
        | apply refuse_memOk)
    | split
    | (with_reducible apply State.mk_memOk)

theorem execContextCreate_memOk : ∀ m q s, s.memOk → Out.memOk (@execContextCreate m q s) := by
  intros
  unfold execContextCreate
  repeat' first
    | (with_reducible first
        | assumption | intro _
        | apply Out.ite_memOk | apply State.ite_memOk | apply State.accept_memOk | apply State.serve_memOk
        | apply quiet_memOk | apply refuse_memOk)
    | split

theorem execContextDestroy_memOk : ∀ m q s, s.memOk → Out.memOk (@execContextDestroy m q s) := by
  intros
  unfold execContextDestroy
  repeat' first
    | (with_reducible first
        | assumption | intro _
        | apply Out.ite_memOk | apply State.ite_memOk | apply State.accept_memOk | apply State.needCtx_memOk
        | apply State.serve_memOk | apply quiet_memOk | apply refuse_memOk)
    | split

theorem State.needCtx_memOk : ∀ s x go, s.memOk → go.1.memOk → State.memOk (@State.needCtx s x go).1 := by
  intros
  unfold State.needCtx
  repeat' first
    | (with_reducible first
        | assumption | intro _
        | apply State.ite_fst_memOk | apply State.ite_memOk | apply refuse_memOk)
    | split

theorem State.post_memOk : ∀ s m b, s.memOk → State.memOk (@State.post s m b) := by
  intros
  assumption

theorem State.slotBusy_memOk : ∀ s m seq, s.memOk → State.memOk (@State.slotBusy s m seq) := by
  intros
  unfold State.slotBusy
  repeat' first
    | (with_reducible first
        | assumption | intro _
        | apply State.ite_memOk | apply State.message_memOk | apply State.modSlot_memOk)
    | split
    | (with_reducible apply State.mk_memOk)

theorem State.serve_memOk : ∀ s m q k body, s.memOk → (∀ v0, State.memOk v0 → State.memOk (body v0).1) →
    State.memOk (@State.serve s m q k body) := by
  intro s m q k body h g
  unfold State.serve
  dsimp only
  split
  · exact h
  · split
    · exact State.slotBusy_memOk _ _ _ h
    · split
      · exact State.post_memOk _ _ _ h
      · have e := State.renew_memOk _ m (State.mboxTimers_memOk _ (State.modSlot_memOk _ m
          (fun v => { v with posted := false }) (State.post_memOk _ m (cmdBytes q k.op) h)))
        split
        · split
          · exact g _ e
          · exact State.respond_memOk _ _ _ _ (g _ e)
        · split
          · exact e
          · exact State.respond_memOk _ _ _ _ e

theorem State.startCtx_memOk : ∀ s x orbit, s.memOk → State.memOk (@State.startCtx s x orbit) := by
  intros
  unfold State.startCtx
  repeat' first
    | (with_reducible first
        | assumption | intro _
        | apply State.ite_memOk | apply State.boundaryGo_memOk | apply State.modCtx_memOk)
    | split
    | (with_reducible apply State.mk_memOk)

theorem okay_memOk : ∀ s, s.memOk → State.memOk (@okay s).1 := by
  intros
  assumption

theorem execContextStart_memOk : ∀ m q s, s.memOk → Out.memOk (@execContextStart m q s) := by
  intros
  unfold execContextStart
  dsimp only
  repeat' first
    | (with_reducible first
        | assumption | intro _
        | apply Out.ite_memOk | apply State.ite_memOk | apply State.beginReplay_memOk | apply State.modCtx_memOk
        | apply State.needCtx_memOk | apply State.serve_memOk | apply State.startCtx_memOk | apply done_memOk
        | apply okay_memOk | apply refuse_memOk)
    | split
    | (with_reducible apply State.mk_memOk)

theorem execContextStop_memOk : ∀ m q s, s.memOk → Out.memOk (@execContextStop m q s) := by
  intros
  unfold execContextStop
  repeat' first
    | (with_reducible first
        | assumption | intro _
        | apply Out.ite_memOk | apply State.ite_memOk | apply State.accept_memOk | apply State.boundaryGo_memOk
        | apply State.modCtx_memOk | apply State.needCtx_memOk | apply State.serve_memOk | apply done_memOk
        | apply refuse_memOk)
    | split
    | (with_reducible apply State.mk_memOk)

theorem execEvict_memOk : ∀ m q s, s.memOk → Out.memOk (@execEvict m q s) := by
  intros
  unfold execEvict
  repeat' first
    | (with_reducible first
        | assumption | intro _
        | apply Out.ite_memOk | apply State.ite_memOk | apply State.accept_memOk | apply State.finish_memOk
        | apply State.needCtx_memOk | apply State.serve_memOk | apply quiet_memOk | apply refuse_memOk)
    | split

theorem execPatchStage_memOk : ∀ m q s, s.memOk → Out.memOk (@execPatchStage m q s) := by
  intros
  unfold execPatchStage
  repeat' first
    | (with_reducible first
        | assumption | intro _
        | apply Out.ite_memOk | apply State.ite_memOk | apply State.modCtx_memOk | apply State.needCtx_memOk
        | apply State.serve_memOk | apply okay_memOk | apply quiet_memOk)
    | split
    | (with_reducible apply State.mk_memOk)

theorem execJobOpen_memOk : ∀ m q s, s.memOk → Out.memOk (@execJobOpen m q s) := by
  intros
  unfold execJobOpen
  repeat' first
    | (with_reducible first
        | assumption | intro _
        | apply Out.ite_memOk | apply State.ite_memOk | apply State.modCtx_memOk | apply State.needCtx_memOk
        | apply State.serve_memOk | apply okay_memOk | apply quiet_memOk | apply refuse_memOk)
    | split
    | (with_reducible apply State.mk_memOk)

theorem execJobClose_memOk : ∀ m q s, s.memOk → Out.memOk (@execJobClose m q s) := by
  intros
  unfold execJobClose
  repeat' first
    | (with_reducible first
        | assumption | intro _
        | apply Out.ite_memOk | apply State.ite_memOk | apply State.modCtx_memOk | apply State.needCtx_memOk
        | apply State.serve_memOk | apply okay_memOk | apply quiet_memOk)
    | split
    | (with_reducible apply State.mk_memOk)

theorem State.needBulk_memOk : ∀ s m q go, s.memOk → (∀ v0, State.memOk (go v0).1) → State.memOk
    (@State.needBulk s m q go).1 := by
  intro s m q go h g
  unfold State.needBulk
  dsimp only
  split
  · exact refuse_memOk _ _ _ h
  · refine State.needCtx_memOk _ _ _ h ?_
    split
    · split
      · exact g _
      · exact refuse_memOk _ _ _ h
    · exact refuse_memOk _ _ _ h

theorem execImageLoad_memOk : ∀ m q s, s.memOk → Out.memOk (@execImageLoad m q s) := by
  intros
  unfold execImageLoad
  dsimp only
  repeat' first
    | (with_reducible first
        | assumption | intro _
        | apply Out.ite_memOk | apply State.ite_memOk | apply State.accept_memOk | apply State.bulkEvent_memOk
        | apply State.modCtx_memOk | apply State.needBulk_memOk | apply State.serve_memOk | apply done_memOk
        | apply refuse_memOk)
    | split
    | (with_reducible apply State.mk_memOk)

theorem State.weightBegin_memOk : ∀ s m q op swap id, s.memOk → State.memOk (@State.weightBegin s m q op swap
    id).1 := by
  intros
  unfold State.weightBegin
  repeat' first
    | (with_reducible first
        | assumption | intro _
        | apply State.ite_fst_memOk | apply State.ite_memOk | apply State.accept_memOk
        | apply State.bulkEvent_memOk | apply State.modWeights_memOk)
    | split
    | (with_reducible apply State.mk_memOk)

theorem execWeightLoad_memOk : ∀ m q s, s.memOk → Out.memOk (@execWeightLoad m q s) := by
  intros
  unfold execWeightLoad
  dsimp only
  repeat' first
    | (with_reducible first
        | assumption | intro _
        | apply Out.ite_memOk | apply State.ite_memOk | apply State.needBulk_memOk | apply State.serve_memOk
        | apply State.weightBegin_memOk | apply done_memOk | apply refuse_memOk)
    | split

theorem execWeightSwap_memOk : ∀ m q s, s.memOk → Out.memOk (@execWeightSwap m q s) := by
  intros
  unfold execWeightSwap
  dsimp only
  repeat' first
    | (with_reducible first
        | assumption | intro _
        | apply Out.ite_memOk | apply State.ite_memOk | apply State.needBulk_memOk | apply State.serve_memOk
        | apply State.weightBegin_memOk | apply done_memOk | apply refuse_memOk)
    | split

theorem execAnchorInstall_memOk : ∀ m q s, s.memOk → Out.memOk (@execAnchorInstall m q s) := by
  intros
  unfold execAnchorInstall
  repeat' first
    | (with_reducible first
        | assumption | intro _
        | apply Out.ite_memOk | apply State.ite_memOk | apply State.serve_memOk | apply okay_memOk
        | apply quiet_memOk | apply refuse_memOk)
    | split
    | (with_reducible apply State.mk_memOk)

theorem execAnchorRemove_memOk : ∀ m q s, s.memOk → Out.memOk (@execAnchorRemove m q s) := by
  intros
  unfold execAnchorRemove
  repeat' first
    | (with_reducible first
        | assumption | intro _
        | apply Out.ite_memOk | apply State.ite_memOk | apply State.serve_memOk | apply okay_memOk
        | apply quiet_memOk | apply refuse_memOk)
    | split
    | (with_reducible apply State.mk_memOk)

theorem State.report_memOk : ∀ s m q op arg early payload, s.memOk → Out.memOk (@State.report s m q op arg
    early payload) := by
  intros
  unfold State.report
  repeat' first
    | (with_reducible first
        | assumption | intro _
        | apply Out.ite_memOk | apply State.ite_memOk | apply State.serve_memOk | apply quiet_memOk)
    | split

theorem execAnchorTableRead_memOk : ∀ m q s, s.memOk → Out.memOk (@execAnchorTableRead m q s) := by
  intros
  unfold execAnchorTableRead
  repeat' first
    | (with_reducible first
        | assumption | intro _
        | apply Out.ite_memOk | apply State.ite_memOk | apply State.report_memOk)
    | split
    | (with_reducible apply State.mk_memOk)

theorem execLedgerRead_memOk : ∀ m q s, s.memOk → Out.memOk (@execLedgerRead m q s) := by
  intros
  unfold execLedgerRead
  repeat' first
    | (with_reducible first
        | assumption | intro _
        | apply Out.ite_memOk | apply State.ite_memOk | apply State.accept_memOk | apply State.modLedger_memOk
        | apply State.serve_memOk | apply State.serveReads_memOk | apply quiet_memOk | apply refuse_memOk)
    | split
    | (with_reducible apply State.mk_memOk)

theorem execAttest_memOk : ∀ m q s, s.memOk → Out.memOk (@execAttest m q s) := by
  intros
  unfold execAttest
  repeat' first
    | (with_reducible first
        | assumption | intro _
        | apply Out.ite_memOk | apply State.ite_memOk | apply State.accept_memOk | apply State.serve_memOk
        | apply quiet_memOk | apply refuse_memOk)
    | split

theorem execReplayArmAppend_memOk : ∀ m q s, s.memOk → Out.memOk (@execReplayArmAppend m q s) := by
  intros
  unfold execReplayArmAppend
  repeat' first
    | (with_reducible first
        | assumption | intro _
        | apply Out.ite_memOk | apply State.ite_memOk | apply State.needCtx_memOk | apply State.serve_memOk
        | apply okay_memOk | apply quiet_memOk | apply refuse_memOk)
    | split
    | (with_reducible apply State.mk_memOk)

theorem execReplayArmSet_memOk : ∀ m q s, s.memOk → Out.memOk (@execReplayArmSet m q s) := by
  intros
  unfold execReplayArmSet
  repeat' first
    | (with_reducible first
        | assumption | intro _
        | apply Out.ite_memOk | apply State.ite_memOk | apply State.needCtx_memOk | apply State.serve_memOk
        | apply okay_memOk | apply quiet_memOk | apply refuse_memOk)
    | split
    | (with_reducible apply State.mk_memOk)

theorem execMemRead_memOk : ∀ m q s, s.memOk → Out.memOk (@execMemRead m q s) := by
  intros
  unfold execMemRead
  repeat' first
    | (with_reducible first
        | assumption | intro _
        | apply Out.ite_memOk | apply State.ite_memOk | apply State.mboxTimers_memOk | apply State.modSlot_memOk
        | apply State.post_memOk | apply State.renew_memOk | apply State.slotBusy_memOk | apply quiet_memOk)
    | split
    | (with_reducible apply State.mk_memOk)

theorem State.writeLine_memOk : ∀ s a b, s.memOk → State.memOk (@State.writeLine s a b) := by
  intros
  unfold State.writeLine
  repeat' first
    | (with_reducible first
        | assumption | intro _
        | apply State.ite_memOk | apply State.intervene_memOk | apply State.placeLine_memOk)
    | split
    | (with_reducible apply State.mk_memOk)

theorem execMemWrite_memOk : ∀ m q s, s.memOk → Out.memOk (@execMemWrite m q s) := by
  intros
  unfold execMemWrite
  dsimp only
  repeat' first
    | (with_reducible first
        | assumption | intro _
        | apply Out.ite_memOk | apply State.ite_memOk | apply State.foldl_memOk | apply State.serve_memOk
        | apply State.writeLine_memOk | apply done_memOk | apply okay_memOk | apply refuse_memOk)
    | split

theorem execDebugHold_memOk : ∀ m q s, s.memOk → Out.memOk (@execDebugHold m q s) := by
  intros
  unfold execDebugHold
  repeat' first
    | (with_reducible first
        | assumption | intro _
        | apply Out.ite_memOk | apply State.ite_memOk | apply State.accept_memOk | apply State.finish_memOk
        | apply State.modCtx_memOk | apply State.needCtx_memOk | apply State.serve_memOk | apply quiet_memOk)
    | split
    | (with_reducible apply State.mk_memOk)

theorem execDebugRelease_memOk : ∀ m q s, s.memOk → Out.memOk (@execDebugRelease m q s) := by
  intros
  unfold execDebugRelease
  repeat' first
    | (with_reducible first
        | assumption | intro _
        | apply Out.ite_memOk | apply State.ite_memOk | apply State.boundaryGo_memOk
        | apply State.finishAll_memOk | apply State.modCtx_memOk | apply State.needCtx_memOk
        | apply State.serve_memOk | apply done_memOk | apply okay_memOk)
    | split
    | (with_reducible apply State.mk_memOk)

theorem execBrkArm_memOk : ∀ m q s, s.memOk → Out.memOk (@execBrkArm m q s) := by
  intros
  unfold execBrkArm
  repeat' first
    | (with_reducible first
        | assumption | intro _
        | apply Out.ite_memOk | apply State.ite_memOk | apply State.serve_memOk | apply quiet_memOk)
    | split
    | (with_reducible apply State.mk_memOk)

theorem execBrkDisarm_memOk : ∀ m q s, s.memOk → Out.memOk (@execBrkDisarm m q s) := by
  intros
  unfold execBrkDisarm
  repeat' first
    | (with_reducible first
        | assumption | intro _
        | apply Out.ite_memOk | apply State.ite_memOk | apply State.serve_memOk | apply quiet_memOk)
    | split
    | (with_reducible apply State.mk_memOk)

theorem execSemSet_memOk : ∀ m q s, s.memOk → Out.memOk (@execSemSet m q s) := by
  intros
  unfold execSemSet
  repeat' first
    | (with_reducible first
        | assumption | intro _
        | apply Out.ite_memOk | apply State.ite_memOk | apply State.intervene_memOk
        | apply State.modCoreOf_memOk | apply State.needCtx_memOk | apply State.serve_memOk | apply okay_memOk
        | apply quiet_memOk | apply refuse_memOk)
    | split
    | (with_reducible apply State.mk_memOk)

theorem execVregRead_memOk : ∀ m q s, s.memOk → Out.memOk (@execVregRead m q s) := by
  intros
  unfold execVregRead
  repeat' first
    | (with_reducible first
        | assumption | intro _
        | apply Out.ite_memOk | apply State.ite_memOk | apply State.needCtx_memOk | apply State.serve_memOk
        | apply quiet_memOk | apply refuse_memOk)
    | split

theorem execQueueRead_memOk : ∀ m q s, s.memOk → Out.memOk (@execQueueRead m q s) := by
  intros
  unfold execQueueRead
  repeat' first
    | (with_reducible first
        | assumption | intro _
        | apply Out.ite_memOk | apply State.ite_memOk | apply State.needCtx_memOk | apply State.serve_memOk
        | apply quiet_memOk | apply refuse_memOk)
    | split
    | (with_reducible apply State.mk_memOk)

theorem execImemOverride_memOk : ∀ m q s, s.memOk → Out.memOk (@execImemOverride m q s) := by
  intros
  unfold execImemOverride
  repeat' first
    | (with_reducible first
        | assumption | intro _
        | apply Out.memOk_next | apply Out.ite_memOk | apply State.ite_memOk | apply State.intervene_memOk
        | apply State.needCtx_memOk | apply State.serve_memOk | apply done_memOk | apply okay_memOk
        | apply refuse_memOk)
    | split
    | (with_reducible first
        | apply State.mkMem_memOk | apply Memory.wf_writeLine | apply Memory.wf_writeByte
        | apply Memory.wf_write | apply Memory.wf_clear | apply State.wf_mem | apply Memory.foldl_wf)

theorem execBaseMemStatus_memOk : ∀ m q s, s.memOk → Out.memOk (@execBaseMemStatus m q s) := by
  intros
  unfold execBaseMemStatus
  repeat' first
    | (with_reducible first
        | assumption | intro _
        | apply Out.ite_memOk | apply State.ite_memOk | apply State.report_memOk)
    | split

theorem execStackStatus_memOk : ∀ m q s, s.memOk → Out.memOk (@execStackStatus m q s) := by
  intros
  unfold execStackStatus
  repeat' first
    | (with_reducible first
        | assumption | intro _
        | apply Out.ite_memOk | apply State.ite_memOk | apply State.report_memOk)
    | split

theorem execHubStatus_memOk : ∀ m q s, s.memOk → Out.memOk (@execHubStatus m q s) := by
  intros
  unfold execHubStatus
  repeat' first
    | (with_reducible first
        | assumption | intro _
        | apply Out.ite_memOk | apply State.ite_memOk | apply State.report_memOk)
    | split

theorem execPaceStatus_memOk : ∀ m q s, s.memOk → Out.memOk (@execPaceStatus m q s) := by
  intros
  unfold execPaceStatus
  repeat' first
    | (with_reducible first
        | assumption | intro _
        | apply Out.ite_memOk | apply State.ite_memOk | apply State.serve_memOk | apply quiet_memOk)
    | split

theorem execPortMap_memOk : ∀ m q s, s.memOk → Out.memOk (@execPortMap m q s) := by
  intros
  unfold execPortMap
  repeat' first
    | (with_reducible first
        | assumption | intro _
        | apply Out.ite_memOk | apply State.ite_memOk | apply State.report_memOk)
    | split

theorem execSlotTableRead_memOk : ∀ m q s, s.memOk → Out.memOk (@execSlotTableRead m q s) := by
  intros
  unfold execSlotTableRead
  repeat' first
    | (with_reducible first
        | assumption | intro _
        | apply Out.ite_memOk | apply State.ite_memOk | apply State.needCtx_memOk | apply State.serve_memOk
        | apply quiet_memOk | apply refuse_memOk)
    | split
    | (with_reducible apply State.mk_memOk)

theorem execCalendarRead_memOk : ∀ m q s, s.memOk → Out.memOk (@execCalendarRead m q s) := by
  intros
  unfold execCalendarRead
  repeat' first
    | (with_reducible first
        | assumption | intro _
        | apply Out.ite_memOk | apply State.ite_memOk | apply State.report_memOk)
    | split

theorem execGrantTableRead_memOk : ∀ m q s, s.memOk → Out.memOk (@execGrantTableRead m q s) := by
  intros
  unfold execGrantTableRead
  repeat' first
    | (with_reducible first
        | assumption | intro _
        | apply Out.ite_memOk | apply State.ite_memOk | apply State.report_memOk)
    | split

theorem execGrantIssue_memOk : ∀ m q s, s.memOk → Out.memOk (@execGrantIssue m q s) := by
  intros
  unfold execGrantIssue
  repeat' first
    | (with_reducible first
        | assumption | intro _
        | apply Out.ite_memOk | apply State.ite_memOk | apply State.serve_memOk | apply quiet_memOk
        | apply refuse_memOk)
    | split
    | (with_reducible apply State.mk_memOk)

theorem execGrantRevoke_memOk : ∀ m q s, s.memOk → Out.memOk (@execGrantRevoke m q s) := by
  intros
  unfold execGrantRevoke
  repeat' first
    | (with_reducible first
        | assumption | intro _
        | apply Out.ite_memOk | apply State.ite_memOk | apply State.serve_memOk | apply okay_memOk
        | apply quiet_memOk | apply refuse_memOk)
    | split
    | (with_reducible apply State.mk_memOk)

theorem execConnOpen_memOk : ∀ m q s, s.memOk → Out.memOk (@execConnOpen m q s) := by
  intros
  unfold execConnOpen
  repeat' first
    | (with_reducible first
        | assumption | intro _
        | apply Out.ite_memOk | apply State.ite_memOk | apply State.accept_memOk | apply State.needCtx_memOk
        | apply State.requota_memOk | apply State.serve_memOk | apply quiet_memOk | apply refuse_memOk)
    | split
    | (with_reducible apply State.mk_memOk)

theorem execConnClose_memOk : ∀ m q s, s.memOk → Out.memOk (@execConnClose m q s) := by
  intros
  unfold execConnClose
  repeat' first
    | (with_reducible first
        | assumption | intro _
        | apply Out.ite_memOk | apply State.ite_memOk | apply State.modCtx_memOk | apply State.needCtx_memOk
        | apply State.serve_memOk | apply okay_memOk | apply quiet_memOk | apply refuse_memOk)
    | split
    | (with_reducible apply State.mk_memOk)

theorem execPortRetrain_memOk : ∀ m q s, s.memOk → Out.memOk (@execPortRetrain m q s) := by
  intros
  unfold execPortRetrain
  repeat' first
    | (with_reducible first
        | assumption | intro _
        | apply Out.ite_memOk | apply State.ite_memOk | apply State.accept_memOk | apply State.serve_memOk
        | apply quiet_memOk | apply refuse_memOk)
    | split

theorem execTimeSet_memOk : ∀ m q s, s.memOk → Out.memOk (@execTimeSet m q s) := by
  intros
  unfold execTimeSet
  repeat' first
    | (with_reducible first
        | assumption | intro _
        | apply Out.ite_memOk | apply State.ite_memOk | apply State.serve_memOk | apply okay_memOk
        | apply quiet_memOk | apply refuse_memOk)
    | split

theorem execEventRead_memOk : ∀ m q s, s.memOk → Out.memOk (@execEventRead m q s) := by
  intros
  unfold execEventRead
  repeat' first
    | (with_reducible first
        | assumption | intro _
        | apply Out.ite_memOk | apply State.ite_memOk | apply State.serve_memOk | apply quiet_memOk)
    | split

theorem execEventAck_memOk : ∀ m q s, s.memOk → Out.memOk (@execEventAck m q s) := by
  intros
  unfold execEventAck
  repeat' first
    | (with_reducible first
        | assumption | intro _
        | apply Out.ite_memOk | apply State.ite_memOk | apply State.realert_memOk | apply State.serve_memOk
        | apply okay_memOk | apply quiet_memOk)
    | split
    | (with_reducible apply State.mk_memOk)

theorem State.landWrites_memOk : ∀ s x, s.memOk → State.memOk (@State.landWrites s x) := by
  intros
  unfold State.landWrites
  repeat' first
    | (with_reducible first
        | assumption | intro _
        | apply State.ite_memOk | apply State.foldl_memOk | apply State.landBaseWrites_memOk
        | apply State.landMem_memOk)
    | split

theorem State.landOutside_memOk : ∀ s x u, s.memOk → State.memOk (@State.landOutside s x u) := by
  intros
  unfold State.landOutside
  repeat' first
    | (with_reducible first
        | assumption | intro _
        | apply State.ite_memOk | apply State.arriveBase_memOk | apply State.arriveDramLine_memOk
        | apply State.dropReads_memOk | apply State.landWrites_memOk | apply State.modCtx_memOk
        | apply State.takeFlightsBy_memOk)
    | split
    | (with_reducible apply State.mk_memOk)

theorem State.resetEnds_memOk : ∀ s x u, s.memOk → State.memOk (@State.resetEnds s x u) := by
  intros
  unfold State.resetEnds
  repeat' first
    | (with_reducible first
        | assumption | intro _
        | apply State.ite_memOk | apply State.foldl_memOk | apply State.breakFrom_memOk
        | apply State.modCtx_memOk | apply State.openFails_memOk | apply State.tellFar_memOk)
    | split
    | (with_reducible apply State.mk_memOk)

theorem State.resetQuad_memOk : ∀ s q, s.memOk → State.memOk (@State.resetQuad s q) := by
  intros
  unfold State.resetQuad
  repeat' first
    | (with_reducible first
        | assumption | intro _
        | apply State.ite_memOk | apply State.foldl_memOk | apply State.breakAll_memOk
        | apply State.modStack_memOk | apply State.portOff_memOk | apply State.setDomain_memOk
        | apply State.trainPort_memOk)
    | split
    | (with_reducible first
        | apply State.mkMem_memOk | apply Memory.wf_writeLine | apply Memory.wf_writeByte
        | apply Memory.wf_write | apply Memory.wf_clear | apply State.wf_mem | apply Memory.foldl_wf)

theorem State.resetWeights_memOk : ∀ s x u, s.memOk → State.memOk (@State.resetWeights s x u) := by
  intros
  unfold State.resetWeights
  repeat' first
    | (with_reducible first
        | assumption | intro _
        | apply State.ite_memOk | apply State.modCtx_memOk | apply State.modWeights_memOk
        | apply State.weightBroken_memOk | apply State.weightRefused_memOk)
    | split
    | (with_reducible apply State.mk_memOk)

theorem State.resetPoint_memOk : ∀ s r, s.memOk → State.memOk (@State.resetPoint s r) := by
  intros
  unfold State.resetPoint
  repeat' first
    | (with_reducible first
        | assumption | intro _
        | apply State.ite_memOk | apply State.foldl_memOk | apply State.clearCoreMem_memOk
        | apply State.dropQueued_memOk | apply State.forceQuad_memOk | apply State.idleCore_memOk
        | apply State.landOutside_memOk | apply State.modRunning_memOk | apply State.moduleReset_memOk
        | apply State.resetEnds_memOk | apply State.resetQuad_memOk | apply State.resetWeights_memOk
        | apply State.setRunning_memOk)
    | split
    | (with_reducible apply State.mk_memOk)

theorem State.resetGo_memOk : ∀ s r, s.memOk → State.memOk (@State.resetGo s r) := by
  intros
  unfold State.resetGo
  repeat' first
    | (with_reducible first
        | assumption | intro _
        | apply State.ite_memOk | apply State.beginRecovery_memOk | apply State.queueUp_memOk
        | apply State.resetPoint_memOk | apply State.setRunning_memOk)
    | split
    | (with_reducible apply State.mk_memOk)

theorem execResetCmd_memOk : ∀ m q s, s.memOk → Out.memOk (@execResetCmd m q s) := by
  intros
  unfold execResetCmd
  dsimp only
  repeat' first
    | (with_reducible first
        | assumption | intro _
        | apply Out.ite_memOk | apply State.ite_memOk | apply State.accept_memOk | apply State.resetGo_memOk
        | apply State.serve_memOk | apply done_memOk | apply refuse_memOk)
    | split

theorem execRecoveryRead_memOk : ∀ m q s, s.memOk → Out.memOk (@execRecoveryRead m q s) := by
  intros
  unfold execRecoveryRead
  repeat' first
    | (with_reducible first
        | assumption | intro _
        | apply Out.ite_memOk | apply State.ite_memOk | apply State.report_memOk)
    | split

theorem execReadyReport_memOk : ∀ m q s, s.memOk → Out.memOk (@execReadyReport m q s) := by
  intros
  unfold execReadyReport
  repeat' first
    | (with_reducible first
        | assumption | intro _
        | apply Out.ite_memOk | apply State.ite_memOk | apply State.report_memOk)
    | split

theorem execFuseMapRead_memOk : ∀ m q s, s.memOk → Out.memOk (@execFuseMapRead m q s) := by
  intros
  unfold execFuseMapRead
  repeat' first
    | (with_reducible first
        | assumption | intro _
        | apply Out.ite_memOk | apply State.ite_memOk | apply State.serve_memOk | apply quiet_memOk)
    | split

theorem execFieldRepairAdd_memOk : ∀ m q s, s.memOk → Out.memOk (@execFieldRepairAdd m q s) := by
  intros
  unfold execFieldRepairAdd
  repeat' first
    | (with_reducible first
        | assumption | intro _
        | apply Out.ite_memOk | apply State.ite_memOk | apply State.serve_memOk | apply State.store_memOk
        | apply okay_memOk | apply quiet_memOk | apply refuse_memOk)
    | split
    | (with_reducible apply State.mk_memOk)

theorem execFieldRepairRemove_memOk : ∀ m q s, s.memOk → Out.memOk (@execFieldRepairRemove m q s) := by
  intros
  unfold execFieldRepairRemove
  repeat' first
    | (with_reducible first
        | assumption | intro _
        | apply Out.ite_memOk | apply State.ite_memOk | apply State.serve_memOk | apply State.store_memOk
        | apply okay_memOk | apply quiet_memOk | apply refuse_memOk)
    | split
    | (with_reducible apply State.mk_memOk)

theorem execHaloPair_memOk : ∀ m q s, s.memOk → Out.memOk (@execHaloPair m q s) := by
  intros
  unfold execHaloPair
  repeat' first
    | (with_reducible first
        | assumption | intro _
        | apply Out.ite_memOk | apply State.ite_memOk | apply State.accept_memOk | apply State.finish_memOk
        | apply State.needCtx_memOk | apply State.serve_memOk | apply quiet_memOk | apply refuse_memOk)
    | split

theorem execHaloStandby_memOk : ∀ m q s, s.memOk → Out.memOk (@execHaloStandby m q s) := by
  intros
  unfold execHaloStandby
  repeat' first
    | (with_reducible first
        | assumption | intro _
        | apply Out.ite_memOk | apply State.ite_memOk | apply State.modHalo_memOk | apply State.needCtx_memOk
        | apply State.serve_memOk | apply okay_memOk | apply quiet_memOk | apply refuse_memOk)
    | split

theorem execHaloUnpair_memOk : ∀ m q s, s.memOk → Out.memOk (@execHaloUnpair m q s) := by
  intros
  unfold execHaloUnpair
  dsimp only
  repeat' first
    | (with_reducible first
        | assumption | intro _
        | apply Out.memOk_next | apply Out.ite_memOk | apply State.ite_memOk | apply State.endMirror_memOk
        | apply State.needCtx_memOk | apply State.serve_memOk | apply State.unpair_memOk | apply done_memOk
        | apply okay_memOk | apply refuse_memOk)
    | split

theorem execTakeover_memOk : ∀ m q s, s.memOk → Out.memOk (@execTakeover m q s) := by
  intros
  unfold execTakeover
  dsimp only
  repeat' first
    | (with_reducible first
        | assumption | intro _
        | apply Out.ite_memOk | apply State.ite_memOk | apply State.accept_memOk | apply State.needCtx_memOk
        | apply State.serve_memOk | apply State.takeOver_memOk | apply done_memOk | apply refuse_memOk)
    | split

theorem execHaloResume_memOk : ∀ m q s, s.memOk → Out.memOk (@execHaloResume m q s) := by
  intros
  unfold execHaloResume
  repeat' first
    | (with_reducible first
        | assumption | intro _
        | apply Out.ite_memOk | apply State.ite_memOk | apply State.accept_memOk | apply State.finish_memOk
        | apply State.modHalo_memOk | apply State.needCtx_memOk | apply State.serve_memOk | apply quiet_memOk
        | apply refuse_memOk)
    | split
    | (with_reducible apply State.mk_memOk)

theorem execCheckpointRestore_memOk : ∀ m q s, s.memOk → Out.memOk (@execCheckpointRestore m q s) := by
  intros
  unfold execCheckpointRestore
  dsimp only
  repeat' first
    | (with_reducible first
        | assumption | intro _
        | apply Out.ite_memOk | apply State.ite_memOk | apply State.accept_memOk | apply State.bulkEvent_memOk
        | apply State.needBulk_memOk | apply State.serve_memOk | apply done_memOk | apply refuse_memOk)
    | split

theorem execCheckpointRead_memOk : ∀ m q s, s.memOk → Out.memOk (@execCheckpointRead m q s) := by
  intros
  unfold execCheckpointRead
  repeat' first
    | (with_reducible first
        | assumption | intro _
        | apply Out.ite_memOk | apply State.ite_memOk | apply State.accept_memOk | apply State.finish_memOk
        | apply State.needCtx_memOk | apply State.sendBulk_memOk | apply State.serve_memOk | apply quiet_memOk
        | apply refuse_memOk)
    | split
    | (with_reducible apply State.mk_memOk)

theorem execHaloStatus_memOk : ∀ m q s, s.memOk → Out.memOk (@execHaloStatus m q s) := by
  intros
  unfold execHaloStatus
  repeat' first
    | (with_reducible first
        | assumption | intro _
        | apply Out.ite_memOk | apply State.ite_memOk | apply State.needCtx_memOk | apply State.serve_memOk
        | apply quiet_memOk)
    | split

theorem execFwStageChunk_memOk : ∀ m q s, s.memOk → Out.memOk (@execFwStageChunk m q s) := by
  intros
  unfold execFwStageChunk
  repeat' first
    | (with_reducible first
        | assumption | intro _
        | apply Out.ite_memOk | apply State.ite_memOk | apply State.accept_memOk | apply State.finish_memOk
        | apply State.serve_memOk | apply State.store_memOk | apply quiet_memOk | apply refuse_memOk)
    | split
    | (with_reducible apply State.mk_memOk)

theorem execFwStageBulk_memOk : ∀ m q s, s.memOk → Out.memOk (@execFwStageBulk m q s) := by
  intros
  unfold execFwStageBulk
  repeat' first
    | (with_reducible first
        | assumption | intro _
        | apply Out.ite_memOk | apply State.ite_memOk | apply State.accept_memOk
        | apply State.bulkDeferred_memOk | apply State.finish_memOk | apply State.serve_memOk
        | apply quiet_memOk | apply refuse_memOk)
    | split
    | (with_reducible apply State.mk_memOk)

theorem rowOf_memOk (m op : Nat) (q : Cmd) (f) (e : rowOf m op q = some f) (s) (h : s.memOk) :
    Out.memOk (f s) := by
  unfold rowOf at e
  split at e
  all_goals cases e
  · exact execNopCmd_memOk _ _ _ h
  · exact execClaim_memOk _ _ _ h
  · exact execRenew_memOk _ _ _ h
  · exact execHandover_memOk _ _ _ h
  · exact execReleaseOwner_memOk _ _ _ h
  · exact execOwnerRead_memOk _ _ _ h
  · exact execSettingRead_memOk _ _ _ h
  · exact execSettingWrite_memOk _ _ _ h
  · exact execBeginTxn_memOk _ _ _ h
  · exact execSetStage_memOk _ _ _ h
  · split
    · exact execCommitTick_memOk _ _ _ h
    · exact execCommitBoundary_memOk _ _ _ h
  · exact execRollback_memOk _ _ _ h
  · exact execTxnRead_memOk _ _ _ h
  · exact execContextCreate_memOk _ _ _ h
  · exact execContextDestroy_memOk _ _ _ h
  · exact execContextStart_memOk _ _ _ h
  · exact execContextStop_memOk _ _ _ h
  · exact execEvict_memOk _ _ _ h
  · exact execPatchStage_memOk _ _ _ h
  · exact execJobOpen_memOk _ _ _ h
  · exact execJobClose_memOk _ _ _ h
  · exact execImageLoad_memOk _ _ _ h
  · exact execWeightLoad_memOk _ _ _ h
  · exact execWeightSwap_memOk _ _ _ h
  · exact execAnchorInstall_memOk _ _ _ h
  · split
    · exact execAnchorRemove_memOk _ _ _ h
    · exact execAnchorTableRead_memOk _ _ _ h
  · exact execLedgerRead_memOk _ _ _ h
  · exact execAttest_memOk _ _ _ h
  · split
    · exact execReplayArmAppend_memOk _ _ _ h
    · exact execReplayArmSet_memOk _ _ _ h
  · exact execMemRead_memOk _ _ _ h
  · exact execMemWrite_memOk _ _ _ h
  · exact execDebugHold_memOk _ _ _ h
  · exact execDebugRelease_memOk _ _ _ h
  · split
    · exact execBrkArm_memOk _ _ _ h
    · exact execBrkDisarm_memOk _ _ _ h
  · exact execSemSet_memOk _ _ _ h
  · exact execVregRead_memOk _ _ _ h
  · exact execQueueRead_memOk _ _ _ h
  · exact execImemOverride_memOk _ _ _ h
  · exact execBaseMemStatus_memOk _ _ _ h
  · exact execStackStatus_memOk _ _ _ h
  · exact execHubStatus_memOk _ _ _ h
  · exact execPaceStatus_memOk _ _ _ h
  · exact execPortMap_memOk _ _ _ h
  · exact execSlotTableRead_memOk _ _ _ h
  · exact execCalendarRead_memOk _ _ _ h
  · exact execGrantTableRead_memOk _ _ _ h
  · exact execGrantIssue_memOk _ _ _ h
  · exact execGrantRevoke_memOk _ _ _ h
  · exact execConnOpen_memOk _ _ _ h
  · exact execConnClose_memOk _ _ _ h
  · exact execPortRetrain_memOk _ _ _ h
  · exact execTimeSet_memOk _ _ _ h
  · exact execEventRead_memOk _ _ _ h
  · exact execEventAck_memOk _ _ _ h
  · exact execResetCmd_memOk _ _ _ h
  · exact execRecoveryRead_memOk _ _ _ h
  · exact execReadyReport_memOk _ _ _ h
  · exact execFuseMapRead_memOk _ _ _ h
  · split
    · exact execFieldRepairAdd_memOk _ _ _ h
    · exact execFieldRepairRemove_memOk _ _ _ h
  · exact execHaloPair_memOk _ _ _ h
  · exact execHaloStandby_memOk _ _ _ h
  · exact execHaloUnpair_memOk _ _ _ h
  · exact execTakeover_memOk _ _ _ h
  · exact execHaloResume_memOk _ _ _ h
  · exact execCheckpointRestore_memOk _ _ _ h
  · exact execCheckpointRead_memOk _ _ _ h
  · exact execHaloStatus_memOk _ _ _ h
  · split
    · exact execFwStageChunk_memOk _ _ _ h
    · exact execFwStageBulk_memOk _ _ _ h

theorem rowOrStatus_memOk (m : Nat) (b) (f) (e : rowOrStatus m b = .inl f) (s : State) (h : s.memOk) :
    Out.memOk (f s) := by
  unfold rowOrStatus at e
  dsimp only at e
  split at e
  · cases e
  · split at e
    · cases e
    · split at e
      · cases e
      · cases e
        exact rowOf_memOk _ _ _ _ ‹_› s h

theorem State.serveNext_memOk : ∀ s, s.memOk → State.memOk (@State.serveNext s) := by
  intro s h
  unfold State.serveNext
  split
  · exact h
  · dsimp only
    split
    · exact after_memOk _ _ (rowOrStatus_memOk _ _ _ ‹_› _ (State.modSlot_memOk _ _ _ h)) (State.modSlot_memOk _ _ _ h)
    · exact State.answer_memOk _ _ _ _ h

theorem State.idle_memOk : ∀ s, s.memOk → State.memOk (@State.idle s) := by
  intros
  unfold State.idle
  repeat' first
    | (with_reducible first
        | assumption | intro _
        | apply State.ite_memOk | apply State.sendMessages_memOk | apply State.serveNext_memOk)
    | split
    | (with_reducible apply State.mk_memOk)

theorem State.writeBank_memOk : ∀ s x p i, s.memOk → State.memOk (@State.writeBank s x p i) := by
  intros
  unfold State.writeBank
  repeat' first
    | (with_reducible first
        | assumption | intro _
        | apply State.ite_memOk)
    | split
    | (with_reducible first
        | apply State.mkMem_memOk | apply Memory.wf_writeLine | apply Memory.wf_writeByte
        | apply Memory.wf_write | apply Memory.wf_clear | apply State.wf_mem | apply Memory.foldl_wf)

theorem clearNew_wf (m : Memory) (old new addr size) (h : Memory.wf m = true) :
    Memory.wf (clearNew m old new addr size) = true := by
  unfold clearNew
  apply Memory.foldl_wf
  · intro m k hm
    apply Memory.foldl_wf
    · intro m g hg
      exact Memory.wf_clear _ _ _ hg
    · exact hm
  · exact h

theorem State.stageImage_memOk : ∀ s x d b i, s.memOk → State.memOk (@State.stageImage s x d b i) := by
  intro s x d b i h
  unfold State.stageImage
  dsimp only
  apply State.mapCores_memOk
  apply State.foldl_memOk
  · intro s p hs
    exact State.writeBank_memOk _ _ _ _ hs
  · apply State.modCtx_memOk
    exact State.mkMem_memOk _ (clearNew_wf _ _ _ _ _ (clearNew_wf _ _ _ _ _ (State.wf_mem h))) _ _ _ _ _ _ _ _ _ _ _ _ _
      _ _ _ _ _ _ _

theorem State.imageArrived_memOk : ∀ s x d bytes, s.memOk → State.memOk (@State.imageArrived s x d bytes) := by
  intros
  unfold State.imageArrived
  repeat' first
    | (with_reducible first
        | assumption | intro _
        | apply State.ite_memOk | apply State.bulkTake_memOk | apply State.finish_memOk
        | apply State.modCtx_memOk | apply State.stageImage_memOk)
    | split
    | (with_reducible apply State.mk_memOk)

theorem State.imageGo_memOk : ∀ s x, s.memOk → State.memOk (@State.imageGo s x) := by
  intros
  unfold State.imageGo
  repeat' first
    | (with_reducible first
        | assumption | intro _
        | apply State.ite_memOk | apply State.imageArrived_memOk)
    | split
    | (with_reducible apply State.mk_memOk)

theorem State.sealOrHalt_memOk : ∀ s, s.memOk → State.memOk (@State.sealOrHalt s) := by
  intros
  unfold State.sealOrHalt
  repeat' first
    | (with_reducible first
        | assumption | intro _
        | apply State.ite_memOk | apply State.halt_memOk | apply State.modPower_memOk | apply State.raise_memOk)
    | split
    | (with_reducible apply State.mk_memOk)

theorem State.setEnergy_memOk : ∀ s energy, s.memOk → State.memOk (@State.setEnergy s energy) := by
  intros
  unfold State.setEnergy
  repeat' first
    | (with_reducible first
        | assumption | intro _
        | apply State.ite_memOk | apply State.modPower_memOk | apply State.raise_memOk)
    | split
    | (with_reducible apply State.mk_memOk)

theorem State.inputFails_memOk : ∀ s cause energy, s.memOk → State.memOk (@State.inputFails s cause energy) := by
  intros
  unfold State.inputFails
  repeat' first
    | (with_reducible first
        | assumption | intro _
        | apply State.ite_memOk | apply State.closeAll_memOk | apply State.computeOff_memOk
        | apply State.raise_memOk | apply State.sealOrHalt_memOk | apply State.setEnergy_memOk)
    | split

theorem State.issueRow_memOk : ∀ s c sd kind, s.memOk → State.memOk (@State.issueRow s c sd kind) := by
  intros
  unfold State.issueRow
  repeat' first
    | (with_reducible first
        | assumption | intro _
        | apply State.ite_memOk | apply State.onCore_memOk | apply State.present_memOk)
    | split
    | (with_reducible apply State.mk_memOk)

theorem State.landOn_memOk : ∀ s c f, s.memOk → State.memOk (@State.landOn s c f) := by
  intros
  unfold State.landOn
  repeat' first
    | (with_reducible first
        | assumption | intro _
        | apply State.ite_memOk | apply State.modCoreOf_memOk)
    | split

theorem State.ledgerRoom_memOk : ∀ s, s.memOk → State.memOk (@State.ledgerRoom s) := by
  intros
  unfold State.ledgerRoom
  repeat' first
    | (with_reducible first
        | assumption | intro _
        | apply State.ite_memOk | apply State.foldl_memOk | apply State.boundaryGo_memOk
        | apply State.modLedger_memOk)
    | split
    | (with_reducible apply State.mk_memOk)

theorem State.liftIdle_memOk : ∀ s, s.memOk → State.memOk (@State.liftIdle s) := by
  intros
  unfold State.liftIdle
  repeat' first
    | (with_reducible first
        | assumption | intro _
        | apply State.ite_memOk | apply State.liftEclipse_memOk)
    | split

theorem State.markMirrored_memOk : ∀ s x was left, s.memOk → State.memOk (@State.markMirrored s x was left) := by
  intros
  unfold State.markMirrored
  repeat' first
    | (with_reducible first
        | assumption | intro _
        | apply State.ite_memOk | apply State.modLedger_memOk | apply State.serveReads_memOk)
    | split
    | (with_reducible apply State.mk_memOk)

theorem State.sendAbsence_memOk : ∀ s p scope returnBy, s.memOk → State.memOk (@State.sendAbsence s p scope
    returnBy) := by
  intros
  unfold State.sendAbsence
  repeat' first
    | (with_reducible first
        | assumption | intro _
        | apply State.ite_memOk | apply State.modPort_memOk | apply State.queueFlit_memOk)
    | split
    | (with_reducible apply State.mk_memOk)

theorem State.notice_memOk : ∀ s ports scope ahead, s.memOk → State.memOk (@State.notice s ports scope ahead) := by
  intros
  unfold State.notice
  repeat' first
    | (with_reducible first
        | assumption | intro _
        | apply State.ite_memOk | apply State.foldl_memOk | apply State.sendAbsence_memOk)
    | split

theorem State.subtraction_memOk : ∀ s x c, s.memOk → State.memOk (@State.subtraction s x c) := by
  intros
  unfold State.subtraction
  repeat' first
    | (with_reducible first
        | assumption | intro _
        | apply State.ite_memOk | apply State.modCoreOf_memOk)
    | split

theorem State.releaseConds_memOk : ∀ s x z, s.memOk → State.memOk (@State.releaseConds s x z) := by
  intros
  unfold State.releaseConds
  repeat' first
    | (with_reducible first
        | assumption | intro _
        | apply State.ite_memOk | apply State.foldl_memOk | apply State.admission_memOk
        | apply State.brokenRelease_memOk | apply State.modCtx_memOk | apply State.subtraction_memOk)
    | split
    | (with_reducible apply State.mk_memOk)

theorem State.orbitEnds_memOk : ∀ s x z, s.memOk → State.memOk (@State.orbitEnds s x z) := by
  intros
  unfold State.orbitEnds
  repeat' first
    | (with_reducible first
        | assumption | intro _
        | apply State.ite_memOk | apply State.closeEntries_memOk | apply State.flagCtx_memOk
        | apply State.landWrites_memOk | apply State.modCtx_memOk | apply State.releaseConds_memOk
        | apply State.transitCheck_memOk)
    | split
    | (with_reducible apply State.mk_memOk)

theorem State.partnerLost_memOk : ∀ s p, s.memOk → State.memOk (@State.partnerLost s p) := by
  intros
  unfold State.partnerLost
  repeat' first
    | (with_reducible first
        | assumption | intro _
        | apply State.ite_memOk | apply State.foldl_memOk | apply State.breakWith_memOk
        | apply State.detectFronts_memOk | apply State.holdover_memOk | apply State.modPort_memOk
        | apply State.raise_memOk | apply State.takeOverFor_memOk)
    | split
    | (with_reducible apply State.mk_memOk)

theorem State.portSilent_memOk : ∀ s p, s.memOk → State.memOk (@State.portSilent s p) := by
  intros
  unfold State.portSilent
  repeat' first
    | (with_reducible first
        | assumption | intro _
        | apply State.ite_memOk | apply State.modPort_memOk | apply State.partnerLost_memOk
        | apply State.portOff_memOk | apply State.raise_memOk)
    | split
    | (with_reducible apply State.mk_memOk)

theorem State.powerUp_memOk : ∀ s energy, s.memOk → State.memOk (@State.powerUp s energy) := by
  intro s energy _
  exact Memory.wf_nil

theorem State.release_memOk : ∀ s x z, s.memOk → State.memOk (@State.release s x z) := by
  intros
  unfold State.release
  repeat' first
    | (with_reducible first
        | assumption | intro _
        | apply State.ite_memOk | apply State.modCtx_memOk | apply State.releaseConds_memOk
        | apply State.transitCheck_memOk)
    | split
    | (with_reducible apply State.mk_memOk)

theorem State.useLedgerIndex_memOk : ∀ s, s.memOk → State.memOk (@State.useLedgerIndex s) := by
  intros
  unfold State.useLedgerIndex
  repeat' first
    | (with_reducible first
        | assumption | intro _
        | apply State.ite_memOk | apply State.modFlash_memOk | apply State.store_memOk)
    | split
    | (with_reducible apply State.mk_memOk)

theorem State.signBatch_memOk : ∀ s b, s.memOk → State.memOk (@State.signBatch s b).1 := by
  intros
  unfold State.signBatch
  repeat' first
    | (with_reducible first
        | assumption | intro _
        | apply State.ite_fst_memOk | apply State.ite_memOk | apply State.mirror_memOk
        | apply State.modCtx_memOk | apply State.setStream_memOk | apply State.useLedgerIndex_memOk)
    | split
    | (with_reducible apply State.mk_memOk)

theorem State.sealNext_memOk : ∀ s, s.memOk → State.memOk (@State.sealNext s) := by
  intros
  unfold State.sealNext
  repeat' first
    | (with_reducible first
        | assumption | intro _
        | apply State.ite_memOk | apply State.ledgerHigh_memOk | apply State.ledgerRoom_memOk
        | apply State.modLedger_memOk | apply State.serveReads_memOk | apply State.signBatch_memOk)
    | split
    | (with_reducible apply State.mk_memOk)

theorem State.sealMany_memOk : ∀ y1 y2, y2.memOk → State.memOk (@State.sealMany y1 y2) := by
  intro n
  induction n with
  | zero =>
    intro s h
    exact h
  | succ f ih =>
    intro s h
    exact ih _ (State.sealNext_memOk _ h)

theorem State.sealAll_memOk : ∀ s, s.memOk → State.memOk (@State.sealAll s) := by
  intros
  unfold State.sealAll
  repeat' first
    | (with_reducible first
        | assumption | intro _
        | apply State.ite_memOk | apply State.sealMany_memOk)
    | split

theorem State.resetNotice_memOk : ∀ s r, s.memOk → State.memOk (@State.resetNotice s r) := by
  intros
  unfold State.resetNotice
  repeat' first
    | (with_reducible first
        | assumption | intro _
        | apply State.ite_memOk | apply State.foldl_memOk | apply State.closeAll_memOk
        | apply State.cutOrbit_memOk | apply State.notice_memOk | apply State.sealAll_memOk)
    | split

theorem State.resetOutcome_memOk : ∀ s x, s.memOk → State.memOk (@State.resetOutcome s x) := by
  intros
  unfold State.resetOutcome
  repeat' first
    | (with_reducible first
        | assumption | intro _
        | apply State.ite_memOk | apply State.boundarySettings_memOk | apply State.cutOrbit_memOk
        | apply State.dropImages_memOk | apply State.finish_memOk | apply State.finishAll_memOk
        | apply State.modCtx_memOk | apply State.raise_memOk | apply State.requota_memOk
        | apply State.suspend_memOk | apply State.toIdle_memOk)
    | split
    | (with_reducible apply State.mk_memOk)

theorem State.restoreDone_memOk : ∀ s r, s.memOk → State.memOk (@State.restoreDone s r) := by
  intros
  unfold State.restoreDone
  repeat' first
    | (with_reducible first
        | assumption | intro _
        | apply State.ite_memOk | apply State.foldl_memOk | apply State.attach_memOk | apply State.modHub_memOk
        | apply State.resetOutcome_memOk)
    | split
    | (with_reducible apply State.mk_memOk)

theorem State.restoreFound_memOk : ∀ s u r, s.memOk → State.memOk (@State.restoreFound s u r) := by
  intros
  unfold State.restoreFound
  repeat' first
    | (with_reducible first
        | assumption | intro _
        | apply State.ite_memOk | apply State.foldl_memOk | apply State.foundDefects_memOk
        | apply State.selfTestFail_memOk)
    | split

theorem State.stampCores_memOk : ∀ s r, s.memOk → State.memOk (@State.stampCores s r) := by
  intros
  unfold State.stampCores
  repeat' first
    | (with_reducible first
        | assumption | intro _
        | apply State.ite_memOk | apply State.foldl_memOk)
    | split
    | (with_reducible apply State.mk_memOk)

theorem State.standbyCheckpoint_memOk : ∀ s x no bytes, s.memOk → State.memOk (@State.standbyCheckpoint s x no
    bytes) := by
  intros
  unfold State.standbyCheckpoint
  repeat' first
    | (with_reducible first
        | assumption | intro _
        | apply State.ite_memOk | apply State.modHalo_memOk | apply State.writeBuffer_memOk)
    | split
    | (with_reducible apply State.mk_memOk)

theorem State.takeMap_memOk : ∀ s p m, s.memOk → State.memOk (@State.takeMap s p m) := by
  intros
  unfold State.takeMap
  repeat' first
    | (with_reducible first
        | assumption | intro _
        | apply State.ite_memOk | apply State.modPort_memOk | apply State.pump_memOk
        | apply State.setBundle_memOk)
    | split
    | (with_reducible apply State.mk_memOk)

theorem State.takeGroup_memOk : ∀ s p t frames, s.memOk → State.memOk (@State.takeGroup s p t frames) := by
  intros
  unfold State.takeGroup
  repeat' first
    | (with_reducible first
        | assumption | intro _
        | apply State.ite_memOk | apply State.foldl_memOk | apply State.deliver_memOk
        | apply State.modPort_memOk | apply State.sendIdle_memOk | apply State.setBundle_memOk
        | apply State.takeMap_memOk)
    | split
    | (with_reducible apply State.mk_memOk)

theorem State.takeItem_memOk : ∀ s x i, s.memOk → State.memOk (@State.takeItem s x i) := by
  intros
  unfold State.takeItem
  repeat' first
    | (with_reducible first
        | assumption | intro _
        | apply State.ite_memOk | apply State.modHalo_memOk | apply State.standbyCheckpoint_memOk)
    | split
    | (with_reducible apply State.mk_memOk)

theorem State.trip_memOk : ∀ s i temp, s.memOk → State.memOk (@State.trip s i temp) := by
  intros
  unfold State.trip
  repeat' first
    | (with_reducible first
        | assumption | intro _
        | apply State.ite_memOk | apply State.closeAll_memOk | apply State.computeOff_memOk
        | apply State.modPower_memOk | apply State.raise_memOk)
    | split
    | (with_reducible apply State.mk_memOk)

theorem State.tryBoundary_memOk : ∀ s x, s.memOk → State.memOk (@State.tryBoundary s x) := by
  intros
  unfold State.tryBoundary
  repeat' first
    | (with_reducible first
        | assumption | intro _
        | apply State.ite_memOk | apply State.boundaryGo_memOk | apply State.orbitEnds_memOk
        | apply State.settleFreeze_memOk)
    | split
    | (with_reducible apply State.mk_memOk)

theorem State.tryRelease_memOk : ∀ s x p, s.memOk → State.memOk (@State.tryRelease s x p) := by
  intros
  unfold State.tryRelease
  repeat' first
    | (with_reducible first
        | assumption | intro _
        | apply State.ite_memOk | apply State.release_memOk | apply State.settleFreeze_memOk)
    | split
    | (with_reducible apply State.mk_memOk)

theorem State.whileMoving_memOk : ∀ s x f, s.memOk → (∀ v0, State.memOk v0 → State.memOk (f v0)) → State.memOk
    (@State.whileMoving s x f) := by
  intro s x f h g
  unfold State.whileMoving
  split
  · exact g _ h
  · exact h

theorem execAbsenceReturnBy_memOk : ∀ p t s, s.memOk → Out.memOk (@execAbsenceReturnBy p t s) := by
  intros
  unfold execAbsenceReturnBy
  repeat' first
    | (with_reducible first
        | assumption | intro _
        | apply Out.ite_memOk | apply State.ite_memOk | apply State.atTick_memOk | apply State.modPort_memOk
        | apply quiet_memOk)
    | split
    | (with_reducible apply State.mk_memOk)

theorem execAbsentPartnerReturns_memOk : ∀ p s, s.memOk → Out.memOk (@execAbsentPartnerReturns p s) := by
  intros
  unfold execAbsentPartnerReturns
  repeat' first
    | (with_reducible first
        | assumption | intro _
        | apply Out.ite_memOk | apply State.ite_memOk | apply State.trainPort_memOk | apply quiet_memOk)
    | split

theorem execArmCut_memOk : ∀ c s, s.memOk → Out.memOk (@execArmCut c s) := by
  intros
  unfold execArmCut
  dsimp only
  repeat' first
    | (with_reducible first
        | assumption | intro _
        | apply Out.memOk_next | apply Out.ite_memOk | apply State.ite_memOk | apply State.armCutAt_memOk
        | apply State.modCoreOf_memOk)
    | split
    | (with_reducible apply State.mk_memOk)

theorem execArrayOutput_memOk : ∀ c s, s.memOk → Out.memOk (@execArrayOutput c s) := by
  intros
  unfold execArrayOutput
  repeat' first
    | (with_reducible first
        | assumption | intro _
        | apply Out.memOk_next | apply Out.ite_memOk | apply State.ite_memOk | apply State.landOn_memOk)
    | split

theorem execBaseBankAccess_memOk : ∀ x e s, s.memOk → Out.memOk (@execBaseBankAccess x e s) := by
  intros
  unfold execBaseBankAccess
  repeat' first
    | (with_reducible first
        | assumption | intro _
        | apply Out.memOk_next | apply Out.ite_memOk | apply State.ite_memOk | apply State.foldl_memOk
        | apply State.arriveBase_memOk | apply State.baseEcc_memOk | apply State.landBaseWrites_memOk
        | apply State.takeFlights_memOk | apply State.whileMoving_memOk | apply done_memOk)
    | split

theorem execBaseFault_memOk : ∀ u t s, s.memOk → Out.memOk (@execBaseFault u t s) := by
  intros
  unfold execBaseFault
  repeat' first
    | (with_reducible first
        | assumption | intro _
        | apply Out.ite_memOk | apply State.ite_memOk | apply State.atTick_memOk | apply State.faultIf_memOk
        | apply done_memOk)
    | split

theorem execBaseLineLands_memOk : ∀ x s, s.memOk → Out.memOk (@execBaseLineLands x s) := by
  intros
  unfold execBaseLineLands
  repeat' first
    | (with_reducible first
        | assumption | intro _
        | apply Out.ite_memOk | apply State.ite_memOk | apply State.arriveDramLine_memOk
        | apply State.landRing_memOk | apply State.takeFlights_memOk | apply State.whileMoving_memOk
        | apply quiet_memOk)
    | split
    | (with_reducible apply State.mk_memOk)

theorem execBaseScrubSlot_memOk : ∀ q bank e s, s.memOk → Out.memOk (@execBaseScrubSlot q bank e s) := by
  intros
  unfold execBaseScrubSlot
  repeat' first
    | (with_reducible first
        | assumption | intro _
        | apply Out.ite_memOk | apply State.ite_memOk | apply quiet_memOk)
    | split

theorem execBaseToCore_memOk : ∀ c sd s, s.memOk → Out.memOk (@execBaseToCore c sd s) := by
  intros
  unfold execBaseToCore
  repeat' first
    | (with_reducible first
        | assumption | intro _
        | apply Out.memOk_next | apply Out.ite_memOk | apply State.ite_memOk | apply State.issueRow_memOk)
    | split

theorem execBaseToDram_memOk : ∀ c sd s, s.memOk → Out.memOk (@execBaseToDram c sd s) := by
  intros
  unfold execBaseToDram
  repeat' first
    | (with_reducible first
        | assumption | intro _
        | apply Out.memOk_next | apply Out.ite_memOk | apply State.ite_memOk | apply State.issueRow_memOk)
    | split

theorem execBatchCloseTimer_memOk : ∀ stream t s, s.memOk → Out.memOk (@execBatchCloseTimer stream t s) := by
  intros
  unfold execBatchCloseTimer
  repeat' first
    | (with_reducible first
        | assumption | intro _
        | apply Out.ite_memOk | apply State.ite_memOk | apply State.atTick_memOk | apply State.closeBatch_memOk
        | apply quiet_memOk)
    | split
    | (with_reducible apply State.mk_memOk)

theorem execBeat_memOk : ∀ d replicaPs s, s.memOk → Out.memOk (@execBeat d replicaPs s) := by
  intros
  unfold execBeat
  repeat' first
    | (with_reducible first
        | assumption | intro _
        | apply Out.ite_memOk | apply State.ite_memOk | apply State.beat_memOk | apply done_memOk)
    | split

theorem execBringupStageEnd_memOk : ∀ r s, s.memOk → Out.memOk (@execBringupStageEnd r s) := by
  intros
  unfold execBringupStageEnd
  repeat' first
    | (with_reducible first
        | assumption | intro _
        | apply Out.memOk_next | apply Out.ite_memOk | apply State.ite_memOk | apply State.endStage_memOk
        | apply State.restoreFound_memOk | apply done_memOk)
    | split
    | (with_reducible apply State.mk_memOk)

theorem execCalibrationGroup_memOk : ∀ p s, s.memOk → Out.memOk (@execCalibrationGroup p s) := by
  intros
  unfold execCalibrationGroup
  repeat' first
    | (with_reducible first
        | assumption | intro _
        | apply Out.ite_memOk | apply State.ite_memOk | apply State.modPort_memOk | apply quiet_memOk)
    | split
    | (with_reducible apply State.mk_memOk)

theorem execChanLinesArrive_memOk : ∀ x s, s.memOk → Out.memOk (@execChanLinesArrive x s) := by
  intros
  unfold execChanLinesArrive
  repeat' first
    | (with_reducible first
        | assumption | intro _
        | apply Out.ite_memOk | apply State.ite_memOk | apply State.arriveChannel_memOk
        | apply State.takeFlights_memOk | apply State.whileMoving_memOk | apply quiet_memOk)
    | split

theorem execClusterFault_memOk : ∀ site cluster t s, s.memOk → Out.memOk (@execClusterFault site cluster t s) := by
  intros
  unfold execClusterFault
  repeat' first
    | (with_reducible first
        | assumption | intro _
        | apply Out.ite_memOk | apply State.ite_memOk | apply State.atTick_memOk | apply State.faultIf_memOk
        | apply done_memOk)
    | split

theorem execComet_memOk : ∀ c sd s, s.memOk → Out.memOk (@execComet c sd s) := by
  intros
  unfold execComet
  repeat' first
    | (with_reducible first
        | assumption | intro _
        | apply Out.memOk_next | apply Out.ite_memOk | apply State.ite_memOk | apply State.issueRow_memOk)
    | split

theorem execConnOpenTimeout_memOk : ∀ connId t s, s.memOk → Out.memOk (@execConnOpenTimeout connId t s) := by
  intros
  unfold execConnOpenTimeout
  repeat' first
    | (with_reducible first
        | assumption | intro _
        | apply Out.ite_memOk | apply State.ite_memOk | apply State.atTick_memOk | apply State.openFails_memOk
        | apply quiet_memOk)
    | split
    | (with_reducible apply State.mk_memOk)

theorem execContextZeroed_memOk : ∀ x s, s.memOk → Out.memOk (@execContextZeroed x s) := by
  intros
  unfold execContextZeroed
  repeat' first
    | (with_reducible first
        | assumption | intro _
        | apply Out.ite_memOk | apply State.ite_memOk | apply State.foldl_memOk | apply State.clearCoreMem_memOk
        | apply State.finishAll_memOk | apply State.imageGo_memOk | apply State.modCtx_memOk | apply done_memOk)
    | split
    | (with_reducible apply State.mk_memOk)

theorem execCoreFault_memOk : ∀ core t s, s.memOk → Out.memOk (@execCoreFault core t s) := by
  intros
  unfold execCoreFault
  repeat' first
    | (with_reducible first
        | assumption | intro _
        | apply Out.ite_memOk | apply State.ite_memOk | apply State.addRepairs_memOk | apply State.atTick_memOk
        | apply State.fault_memOk | apply State.raise_memOk | apply State.siteFails_memOk | apply done_memOk)
    | split

theorem execCoreMemWriteVisible_memOk : ∀ c s, s.memOk → Out.memOk (@execCoreMemWriteVisible c s) := by
  intros
  unfold execCoreMemWriteVisible
  repeat' first
    | (with_reducible first
        | assumption | intro _
        | apply Out.ite_memOk | apply State.ite_memOk | apply State.landMem_memOk | apply done_memOk)
    | split

theorem execCoreToBase_memOk : ∀ c sd s, s.memOk → Out.memOk (@execCoreToBase c sd s) := by
  intros
  unfold execCoreToBase
  repeat' first
    | (with_reducible first
        | assumption | intro _
        | apply Out.memOk_next | apply Out.ite_memOk | apply State.ite_memOk | apply State.issueRow_memOk)
    | split

theorem execCoreToDram_memOk : ∀ c sd s, s.memOk → Out.memOk (@execCoreToDram c sd s) := by
  intros
  unfold execCoreToDram
  repeat' first
    | (with_reducible first
        | assumption | intro _
        | apply Out.memOk_next | apply Out.ite_memOk | apply State.ite_memOk | apply State.issueRow_memOk)
    | split

theorem execDataFrameGroup_memOk : ∀ p ok heads payloads t s, s.memOk → Out.memOk (@execDataFrameGroup p ok
    heads payloads t s) := by
  intros
  unfold execDataFrameGroup
  repeat' first
    | (with_reducible first
        | assumption | intro _
        | apply Out.ite_memOk | apply State.ite_memOk | apply State.atTick_memOk | apply State.badGroup_memOk
        | apply State.takeGroup_memOk | apply State.takeMap_memOk | apply done_memOk)
    | split

theorem execDeadlineMiss_memOk : ∀ x t s, s.memOk → Out.memOk (@execDeadlineMiss x t s) := by
  intros
  unfold execDeadlineMiss
  repeat' first
    | (with_reducible first
        | assumption | intro _
        | apply Out.ite_memOk | apply State.ite_memOk | apply State.atTick_memOk | apply quiet_memOk)
    | split

theorem execDramLineLands_memOk : ∀ d i t s, s.memOk → Out.memOk (@execDramLineLands d i t s) := by
  intros
  unfold execDramLineLands
  repeat' first
    | (with_reducible first
        | assumption | intro _
        | apply Out.ite_memOk | apply State.ite_memOk | apply State.atTick_memOk | apply quiet_memOk)
    | split

theorem execDramRetrain_memOk : ∀ d t s, s.memOk → Out.memOk (@execDramRetrain d t s) := by
  intros
  unfold execDramRetrain
  repeat' first
    | (with_reducible first
        | assumption | intro _
        | apply Out.ite_memOk | apply State.ite_memOk | apply State.atTick_memOk | apply quiet_memOk)
    | split

theorem execDramSlot_memOk : ∀ d ch e s, s.memOk → Out.memOk (@execDramSlot d ch e s) := by
  intros
  unfold execDramSlot
  repeat' first
    | (with_reducible first
        | assumption | intro _
        | apply Out.ite_memOk | apply State.ite_memOk | apply quiet_memOk)
    | split

theorem execDramToBase_memOk : ∀ c sd s, s.memOk → Out.memOk (@execDramToBase c sd s) := by
  intros
  unfold execDramToBase
  repeat' first
    | (with_reducible first
        | assumption | intro _
        | apply Out.memOk_next | apply Out.ite_memOk | apply State.ite_memOk | apply State.issueRow_memOk)
    | split

theorem execDramToCore_memOk : ∀ c sd s, s.memOk → Out.memOk (@execDramToCore c sd s) := by
  intros
  unfold execDramToCore
  repeat' first
    | (with_reducible first
        | assumption | intro _
        | apply Out.memOk_next | apply Out.ite_memOk | apply State.ite_memOk | apply State.issueRow_memOk)
    | split

theorem execDramWriteCommit_memOk : ∀ d i s, s.memOk → Out.memOk (@execDramWriteCommit d i s) := by
  intros
  unfold execDramWriteCommit
  repeat' first
    | (with_reducible first
        | assumption | intro _
        | apply Out.ite_memOk | apply State.ite_memOk | apply State.dramCommits_memOk | apply done_memOk)
    | split

theorem execDwellEnd_memOk : ∀ p own partner t s, s.memOk → Out.memOk (@execDwellEnd p own partner t s) := by
  intros
  unfold execDwellEnd
  repeat' first
    | (with_reducible first
        | assumption | intro _
        | apply Out.ite_memOk | apply State.ite_memOk | apply State.atTick_memOk | apply State.finishAll_memOk
        | apply State.modPort_memOk | apply State.portOff_memOk | apply quiet_memOk)
    | split
    | (with_reducible apply State.mk_memOk)

theorem execEclipseBudgetExpiry_memOk : ∀ t s, s.memOk → Out.memOk (@execEclipseBudgetExpiry t s) := by
  intros
  unfold execEclipseBudgetExpiry
  repeat' first
    | (with_reducible first
        | assumption | intro _
        | apply Out.ite_memOk | apply State.ite_memOk | apply State.atTick_memOk | apply State.budgetOut_memOk
        | apply done_memOk)
    | split
    | (with_reducible apply State.mk_memOk)

theorem execEclipseFrozen_memOk : ∀ s, s.memOk → Out.memOk (@execEclipseFrozen s) := by
  intros
  unfold execEclipseFrozen
  repeat' first
    | (with_reducible first
        | assumption | intro _
        | apply Out.memOk_next | apply Out.ite_memOk | apply State.ite_memOk | apply State.modRunning_memOk
        | apply State.raise_memOk | apply State.resetNotice_memOk | apply State.resetPoint_memOk
        | apply State.settleAll_memOk | apply done_memOk)
    | split
    | (with_reducible apply State.mk_memOk)

theorem execElectionClose_memOk : ∀ t s, s.memOk → Out.memOk (@execElectionClose t s) := by
  intros
  unfold execElectionClose
  repeat' first
    | (with_reducible first
        | assumption | intro _
        | apply Out.ite_memOk | apply State.ite_memOk | apply State.atTick_memOk
        | apply State.electionCheck_memOk | apply quiet_memOk)
    | split

theorem execEmergencySealDone_memOk : ∀ energy s, s.memOk → Out.memOk (@execEmergencySealDone energy s) := by
  intros
  unfold execEmergencySealDone
  repeat' first
    | (with_reducible first
        | assumption | intro _
        | apply Out.ite_memOk | apply State.ite_memOk | apply State.modFlash_memOk | apply State.modLedger_memOk
        | apply State.modPower_memOk | apply State.sealOrHalt_memOk | apply State.setEnergy_memOk
        | apply State.signBatch_memOk | apply done_memOk)
    | split
    | (with_reducible apply State.mk_memOk)

theorem execEntryHeaderArrive_memOk : ∀ x s, s.memOk → Out.memOk (@execEntryHeaderArrive x s) := by
  intros
  unfold execEntryHeaderArrive
  repeat' first
    | (with_reducible first
        | assumption | intro _
        | apply Out.ite_memOk | apply State.ite_memOk | apply State.arriveChannel_memOk
        | apply State.takeFlights_memOk | apply State.whileMoving_memOk | apply quiet_memOk)
    | split

theorem execEqualisationDone_memOk : ∀ p lanes s, s.memOk → Out.memOk (@execEqualisationDone p lanes s) := by
  intros
  unfold execEqualisationDone
  repeat' first
    | (with_reducible first
        | assumption | intro _
        | apply Out.ite_memOk | apply State.ite_memOk | apply State.modPort_memOk | apply quiet_memOk)
    | split
    | (with_reducible apply State.mk_memOk)

theorem execFenceRelease_memOk : ∀ x s, s.memOk → Out.memOk (@execFenceRelease x s) := by
  intros
  unfold execFenceRelease
  repeat' first
    | (with_reducible first
        | assumption | intro _
        | apply Out.ite_memOk | apply State.ite_memOk | apply State.tryRelease_memOk | apply done_memOk)
    | split

theorem execFlashStoreDone_memOk : ∀ s, s.memOk → Out.memOk (@execFlashStoreDone s) := by
  intros
  unfold execFlashStoreDone
  repeat' first
    | (with_reducible first
        | assumption | intro _
        | apply Out.ite_memOk | apply State.ite_memOk | apply State.modFlash_memOk | apply quiet_memOk)
    | split
    | (with_reducible apply State.mk_memOk)

theorem execFrameLock_memOk : ∀ p code port lanes s, s.memOk → Out.memOk (@execFrameLock p code port lanes s) := by
  intros
  unfold execFrameLock
  repeat' first
    | (with_reducible first
        | assumption | intro _
        | apply Out.ite_memOk | apply State.ite_memOk | apply State.modPort_memOk | apply quiet_memOk)
    | split
    | (with_reducible apply State.mk_memOk)

theorem execFseqGapTimeout_memOk : ∀ p s, s.memOk → Out.memOk (@execFseqGapTimeout p s) := by
  intros
  unfold execFseqGapTimeout
  repeat' first
    | (with_reducible first
        | assumption | intro _
        | apply Out.ite_memOk | apply State.ite_memOk | apply State.setBundle_memOk | apply quiet_memOk)
    | split
    | (with_reducible apply State.mk_memOk)

theorem execHeartbeatSend_memOk : ∀ p t s, s.memOk → Out.memOk (@execHeartbeatSend p t s) := by
  intros
  unfold execHeartbeatSend
  repeat' first
    | (with_reducible first
        | assumption | intro _
        | apply Out.ite_memOk | apply State.ite_memOk | apply State.atTick_memOk | apply State.modPort_memOk
        | apply State.setBundle_memOk | apply quiet_memOk)
    | split
    | (with_reducible apply State.mk_memOk)

theorem execHoldupBankCharged_memOk : ∀ energy s, s.memOk → Out.memOk (@execHoldupBankCharged energy s) := by
  intros
  unfold execHoldupBankCharged
  repeat' first
    | (with_reducible first
        | assumption | intro _
        | apply Out.ite_memOk | apply State.ite_memOk | apply State.setEnergy_memOk | apply quiet_memOk)
    | split

theorem execHoldupGuardConfirm_memOk : ∀ energy s, s.memOk → Out.memOk (@execHoldupGuardConfirm energy s) := by
  intros
  unfold execHoldupGuardConfirm
  repeat' first
    | (with_reducible first
        | assumption | intro _
        | apply Out.ite_memOk | apply State.ite_memOk | apply State.setEnergy_memOk | apply quiet_memOk)
    | split

theorem execIdleFrameGroup_memOk : ∀ p g t s, s.memOk → Out.memOk (@execIdleFrameGroup p g t s) := by
  intros
  unfold execIdleFrameGroup
  repeat' first
    | (with_reducible first
        | assumption | intro _
        | apply Out.ite_memOk | apply State.ite_memOk | apply State.atTick_memOk | apply State.takeMap_memOk
        | apply quiet_memOk)
    | split

theorem execImageReceived_memOk : ∀ x s, s.memOk → Out.memOk (@execImageReceived x s) := by
  intros
  unfold execImageReceived
  repeat' first
    | (with_reducible first
        | assumption | intro _
        | apply Out.ite_memOk | apply State.ite_memOk | apply State.imageGo_memOk | apply done_memOk)
    | split

theorem execInputPowerFail_memOk : ∀ cause energy t s, s.memOk → Out.memOk (@execInputPowerFail cause energy t
    s) := by
  intros
  unfold execInputPowerFail
  repeat' first
    | (with_reducible first
        | assumption | intro _
        | apply Out.ite_memOk | apply State.ite_memOk | apply State.atTick_memOk | apply State.inputFails_memOk
        | apply State.modPower_memOk | apply done_memOk)
    | split
    | (with_reducible apply State.mk_memOk)

theorem execLaneBerCheck_memOk : ∀ p errors t s, s.memOk → Out.memOk (@execLaneBerCheck p errors t s) := by
  intros
  unfold execLaneBerCheck
  repeat' first
    | (with_reducible first
        | assumption | intro _
        | apply Out.ite_memOk | apply State.ite_memOk | apply State.foldl_memOk | apply State.atTick_memOk
        | apply State.modPort_memOk | apply quiet_memOk)
    | split
    | (with_reducible apply State.mk_memOk)

theorem execLeaseExpiry_memOk : ∀ t s, s.memOk → Out.memOk (@execLeaseExpiry t s) := by
  intros
  unfold execLeaseExpiry
  repeat' first
    | (with_reducible first
        | assumption | intro _
        | apply Out.ite_memOk | apply State.ite_memOk | apply State.atTick_memOk | apply State.leaseCheck_memOk
        | apply quiet_memOk)
    | split

theorem execLinkAdaptation_memOk : ∀ p t s, s.memOk → Out.memOk (@execLinkAdaptation p t s) := by
  intros
  unfold execLinkAdaptation
  repeat' first
    | (with_reducible first
        | assumption | intro _
        | apply Out.ite_memOk | apply State.ite_memOk | apply State.atTick_memOk | apply quiet_memOk)
    | split
    | (with_reducible apply State.mk_memOk)

theorem execLinksUnconfigured_memOk : ∀ s, s.memOk → Out.memOk (@execLinksUnconfigured s) := by
  intros
  unfold execLinksUnconfigured
  repeat' first
    | (with_reducible first
        | assumption | intro _
        | apply Out.ite_memOk | apply State.ite_memOk | apply State.atTick_memOk | apply State.modBoot_memOk
        | apply State.nextStage_memOk | apply State.raise_memOk | apply quiet_memOk)
    | split
    | (with_reducible apply State.mk_memOk)

theorem execLockedCreditReturn_memOk : ∀ x s, s.memOk → Out.memOk (@execLockedCreditReturn x s) := by
  intros
  unfold execLockedCreditReturn
  repeat' first
    | (with_reducible first
        | assumption | intro _
        | apply Out.ite_memOk | apply State.ite_memOk | apply State.arriveChannel_memOk
        | apply State.takeFlights_memOk | apply State.whileMoving_memOk | apply quiet_memOk)
    | split

theorem execMaintenanceFrame_memOk : ∀ d ch w s, s.memOk → Out.memOk (@execMaintenanceFrame d ch w s) := by
  intros
  unfold execMaintenanceFrame
  repeat' first
    | (with_reducible first
        | assumption | intro _
        | apply Out.ite_memOk | apply State.ite_memOk | apply State.modStack_memOk | apply quiet_memOk)
    | split
    | (with_reducible apply State.mk_memOk)

theorem execMcWatchdog_memOk : ∀ t s, s.memOk → Out.memOk (@execMcWatchdog t s) := by
  intros
  unfold execMcWatchdog
  repeat' first
    | (with_reducible first
        | assumption | intro _
        | apply Out.ite_memOk | apply State.ite_memOk | apply State.atTick_memOk | apply State.hardReset_memOk
        | apply State.raise_memOk | apply done_memOk)
    | split

theorem execMctpMessage_memOk : ∀ vendor body s, s.memOk → Out.memOk (@execMctpMessage vendor body s) := by
  intros
  unfold execMctpMessage
  repeat' first
    | (with_reducible first
        | assumption | intro _
        | apply Out.ite_memOk | apply State.ite_memOk | apply quiet_memOk)
    | split

theorem execMirrorAck_memOk : ∀ pair orbit ckpt s, s.memOk → Out.memOk (@execMirrorAck pair orbit ckpt s) := by
  intros
  unfold execMirrorAck
  repeat' first
    | (with_reducible first
        | assumption | intro _
        | apply Out.ite_memOk | apply State.ite_memOk | apply State.boundaryGo_memOk
        | apply State.markMirrored_memOk | apply State.modHalo_memOk | apply done_memOk)
    | split
    | (with_reducible apply State.mk_memOk)

theorem execMirrorItem_memOk : ∀ pair item s, s.memOk → Out.memOk (@execMirrorItem pair item s) := by
  intros
  unfold execMirrorItem
  repeat' first
    | (with_reducible first
        | assumption | intro _
        | apply Out.ite_memOk | apply State.ite_memOk | apply State.catchUpStart_memOk
        | apply State.modHalo_memOk | apply State.raise_memOk | apply State.takeItem_memOk | apply done_memOk)
    | split
    | (with_reducible apply State.mk_memOk)

theorem execModResetNAssert_memOk : ∀ s, s.memOk → Out.memOk (@execModResetNAssert s) := by
  intros
  unfold execModResetNAssert
  repeat' first
    | (with_reducible first
        | assumption | intro _
        | apply Out.ite_memOk | apply State.ite_memOk | apply State.hardReset_memOk | apply State.modPower_memOk
        | apply done_memOk)
    | split
    | (with_reducible apply State.mk_memOk)

theorem execModResetNRelease_memOk : ∀ sbSel energy s, s.memOk → Out.memOk (@execModResetNRelease sbSel energy
    s) := by
  intros
  unfold execModResetNRelease
  repeat' first
    | (with_reducible first
        | assumption | intro _
        | apply Out.ite_memOk | apply State.ite_memOk | apply State.hardReset_memOk | apply State.modPower_memOk
        | apply State.setEnergy_memOk | apply done_memOk)
    | split
    | (with_reducible apply State.mk_memOk)

theorem execOperandBufferLanding_memOk : ∀ c s, s.memOk → Out.memOk (@execOperandBufferLanding c s) := by
  intros
  unfold execOperandBufferLanding
  repeat' first
    | (with_reducible first
        | assumption | intro _
        | apply Out.memOk_next | apply Out.ite_memOk | apply State.ite_memOk | apply State.landOn_memOk)
    | split

theorem execOrbitAbandon_memOk : ∀ x s, s.memOk → Out.memOk (@execOrbitAbandon x s) := by
  intros
  unfold execOrbitAbandon
  repeat' first
    | (with_reducible first
        | assumption | intro _
        | apply Out.memOk_next | apply Out.ite_memOk | apply State.ite_memOk | apply State.modCtx_memOk)
    | split
    | (with_reducible apply State.mk_memOk)

theorem execOrbitBoundary_memOk : ∀ x s, s.memOk → Out.memOk (@execOrbitBoundary x s) := by
  intros
  unfold execOrbitBoundary
  repeat' first
    | (with_reducible first
        | assumption | intro _
        | apply Out.ite_memOk | apply State.ite_memOk | apply State.tryBoundary_memOk | apply done_memOk)
    | split

theorem execOscTrim_memOk : ∀ d move s, s.memOk → Out.memOk (@execOscTrim d move s) := by
  intros
  unfold execOscTrim
  repeat' first
    | (with_reducible first
        | assumption | intro _
        | apply Out.ite_memOk | apply State.ite_memOk | apply State.setDomain_memOk | apply quiet_memOk)
    | split
    | (with_reducible apply State.mk_memOk)

theorem execPaceFault_memOk : ∀ d t s, s.memOk → Out.memOk (@execPaceFault d t s) := by
  intros
  unfold execPaceFault
  repeat' first
    | (with_reducible first
        | assumption | intro _
        | apply Out.ite_memOk | apply State.ite_memOk | apply State.atTick_memOk | apply State.faultIf_memOk
        | apply done_memOk)
    | split

theorem execPaceSwitch_memOk : ∀ t s, s.memOk → Out.memOk (@execPaceSwitch t s) := by
  intros
  unfold execPaceSwitch
  repeat' first
    | (with_reducible first
        | assumption | intro _
        | apply Out.ite_memOk | apply State.ite_memOk | apply State.atTick_memOk | apply quiet_memOk)
    | split
    | (with_reducible apply State.mk_memOk)

theorem execParkedReadServed_memOk : ∀ m s, s.memOk → Out.memOk (@execParkedReadServed m s) := by
  intros
  unfold execParkedReadServed
  repeat' first
    | (with_reducible first
        | assumption | intro _
        | apply Out.ite_memOk | apply State.ite_memOk | apply State.respond_memOk | apply quiet_memOk)
    | split

theorem execParkedReadTimeout_memOk : ∀ m t s, s.memOk → Out.memOk (@execParkedReadTimeout m t s) := by
  intros
  unfold execParkedReadTimeout
  repeat' first
    | (with_reducible first
        | assumption | intro _
        | apply Out.ite_memOk | apply State.ite_memOk | apply State.atTick_memOk | apply State.respond_memOk
        | apply quiet_memOk)
    | split
    | (with_reducible apply State.mk_memOk)

theorem execPipelineResult_memOk : ∀ c e s, s.memOk → Out.memOk (@execPipelineResult c e s) := by
  intros
  unfold execPipelineResult
  repeat' first
    | (with_reducible first
        | assumption | intro _
        | apply Out.ite_memOk | apply State.ite_memOk | apply State.landOn_memOk | apply quiet_memOk)
    | split

theorem execPldmRequest_memOk : ∀ r s, s.memOk → Out.memOk (@execPldmRequest r s) := by
  intros
  unfold execPldmRequest
  repeat' first
    | (with_reducible first
        | assumption | intro _
        | apply Out.ite_memOk | apply State.ite_memOk | apply quiet_memOk)
    | split
    | (with_reducible apply State.mk_memOk)

theorem execPortSilent_memOk : ∀ p t s, s.memOk → Out.memOk (@execPortSilent p t s) := by
  intros
  unfold execPortSilent
  repeat' first
    | (with_reducible first
        | assumption | intro _
        | apply Out.ite_memOk | apply State.ite_memOk | apply State.atTick_memOk | apply State.portSilent_memOk
        | apply done_memOk)
    | split

theorem execPortTrainingStart_memOk : ∀ p s, s.memOk → Out.memOk (@execPortTrainingStart p s) := by
  intros
  unfold execPortTrainingStart
  repeat' first
    | (with_reducible first
        | assumption | intro _
        | apply Out.ite_memOk | apply State.ite_memOk | apply State.trainPort_memOk | apply quiet_memOk)
    | split

theorem execPowerCapControl_memOk : ∀ watts t s, s.memOk → Out.memOk (@execPowerCapControl watts t s) := by
  intros
  unfold execPowerCapControl
  repeat' first
    | (with_reducible first
        | assumption | intro _
        | apply Out.ite_memOk | apply State.ite_memOk | apply State.atTick_memOk | apply quiet_memOk)
    | split

theorem execPwrEnAssert_memOk : ∀ energy s, s.memOk → Out.memOk (@execPwrEnAssert energy s) := by
  intros
  unfold execPwrEnAssert
  repeat' first
    | (with_reducible first
        | assumption | intro _
        | apply Out.ite_memOk | apply State.ite_memOk | apply State.modPower_memOk | apply State.powerUp_memOk
        | apply done_memOk)
    | split
    | (with_reducible apply State.mk_memOk)

theorem execRefclkLoss_memOk : ∀ t s, s.memOk → Out.memOk (@execRefclkLoss t s) := by
  intros
  unfold execRefclkLoss
  repeat' first
    | (with_reducible first
        | assumption | intro _
        | apply Out.ite_memOk | apply State.ite_memOk | apply State.atTick_memOk | apply State.modPower_memOk
        | apply State.modTime_memOk | apply State.raise_memOk | apply State.timeState_memOk | apply quiet_memOk)
    | split
    | (with_reducible apply State.mk_memOk)

theorem execRendezvousRelease_memOk : ∀ x s, s.memOk → Out.memOk (@execRendezvousRelease x s) := by
  intros
  unfold execRendezvousRelease
  repeat' first
    | (with_reducible first
        | assumption | intro _
        | apply Out.ite_memOk | apply State.ite_memOk | apply State.tryRelease_memOk | apply done_memOk)
    | split

theorem execResetRestoreDone_memOk : ∀ s, s.memOk → Out.memOk (@execResetRestoreDone s) := by
  intros
  unfold execResetRestoreDone
  repeat' first
    | (with_reducible first
        | assumption | intro _
        | apply Out.memOk_next | apply Out.ite_memOk | apply State.ite_memOk | apply State.endResets_memOk
        | apply State.liftIdle_memOk | apply State.raise_memOk | apply State.restoreDone_memOk
        | apply State.restoreFound_memOk | apply State.setRunning_memOk | apply State.stampCores_memOk
        | apply State.startNext_memOk | apply done_memOk)
    | split
    | (with_reducible apply State.mk_memOk)

theorem execResourcesReleased_memOk : ∀ x s, s.memOk → Out.memOk (@execResourcesReleased x s) := by
  intros
  unfold execResourcesReleased
  repeat' first
    | (with_reducible first
        | assumption | intro _
        | apply Out.ite_memOk | apply State.ite_memOk | apply State.finishAll_memOk | apply State.freeCtx_memOk
        | apply done_memOk)
    | split

theorem execRetrainDelayExpiry_memOk : ∀ p t s, s.memOk → Out.memOk (@execRetrainDelayExpiry p t s) := by
  intros
  unfold execRetrainDelayExpiry
  repeat' first
    | (with_reducible first
        | assumption | intro _
        | apply Out.ite_memOk | apply State.ite_memOk | apply State.atTick_memOk | apply State.trainPort_memOk
        | apply quiet_memOk)
    | split

theorem execSealSigned_memOk : ∀ s, s.memOk → Out.memOk (@execSealSigned s) := by
  intros
  unfold execSealSigned
  repeat' first
    | (with_reducible first
        | assumption | intro _
        | apply Out.ite_memOk | apply State.ite_memOk | apply State.sealNext_memOk | apply done_memOk)
    | split

theorem execSeamFault_memOk : ∀ t s, s.memOk → Out.memOk (@execSeamFault t s) := by
  intros
  unfold execSeamFault
  repeat' first
    | (with_reducible first
        | assumption | intro _
        | apply Out.ite_memOk | apply State.ite_memOk | apply State.atTick_memOk | apply State.faultIf_memOk
        | apply done_memOk)
    | split

theorem execSignalLock_memOk : ∀ p lanes s, s.memOk → Out.memOk (@execSignalLock p lanes s) := by
  intros
  unfold execSignalLock
  repeat' first
    | (with_reducible first
        | assumption | intro _
        | apply Out.ite_memOk | apply State.ite_memOk | apply State.modPort_memOk | apply quiet_memOk)
    | split
    | (with_reducible apply State.mk_memOk)

theorem execStackFault_memOk : ∀ u t s, s.memOk → Out.memOk (@execStackFault u t s) := by
  intros
  unfold execStackFault
  repeat' first
    | (with_reducible first
        | assumption | intro _
        | apply Out.ite_memOk | apply State.ite_memOk | apply State.atTick_memOk | apply State.faultIf_memOk
        | apply done_memOk)
    | split

theorem execStageLimitExpiry_memOk : ∀ r s, s.memOk → Out.memOk (@execStageLimitExpiry r s) := by
  intros
  unfold execStageLimitExpiry
  repeat' first
    | (with_reducible first
        | assumption | intro _
        | apply Out.ite_memOk | apply State.ite_memOk | apply State.bringupFails_memOk
        | apply State.endStage_memOk | apply done_memOk)
    | split

theorem execStagingDeparture_memOk : ∀ x s, s.memOk → Out.memOk (@execStagingDeparture x s) := by
  intros
  unfold execStagingDeparture
  repeat' first
    | (with_reducible first
        | assumption | intro _
        | apply Out.ite_memOk | apply State.ite_memOk | apply State.depart_memOk | apply State.takeFlights_memOk
        | apply State.whileMoving_memOk | apply quiet_memOk)
    | split

theorem execStall_memOk : ∀ x t s, s.memOk → Out.memOk (@execStall x t s) := by
  intros
  unfold execStall
  repeat' first
    | (with_reducible first
        | assumption | intro _
        | apply Out.ite_memOk | apply State.ite_memOk | apply State.atTick_memOk | apply State.stallCheck_memOk
        | apply quiet_memOk)
    | split

theorem execTapBypass_memOk : ∀ s, s.memOk → Out.memOk (@execTapBypass s) := by
  intros
  unfold execTapBypass
  repeat' first
    | (with_reducible first
        | assumption | intro _
        | apply Out.ite_memOk | apply State.ite_memOk | apply quiet_memOk)
    | split

theorem execTapExtest_memOk : ∀ s, s.memOk → Out.memOk (@execTapExtest s) := by
  intros
  unfold execTapExtest
  repeat' first
    | (with_reducible first
        | assumption | intro _
        | apply Out.ite_memOk | apply State.ite_memOk | apply quiet_memOk)
    | split

theorem execTapIdcode_memOk : ∀ s, s.memOk → Out.memOk (@execTapIdcode s) := by
  intros
  unfold execTapIdcode
  repeat' first
    | (with_reducible first
        | assumption | intro _
        | apply Out.ite_memOk | apply State.ite_memOk | apply quiet_memOk)
    | split

theorem execTapSamplePreload_memOk : ∀ s, s.memOk → Out.memOk (@execTapSamplePreload s) := by
  intros
  unfold execTapSamplePreload
  repeat' first
    | (with_reducible first
        | assumption | intro _
        | apply Out.ite_memOk | apply State.ite_memOk | apply quiet_memOk)
    | split

theorem execThermalSample_memOk : ∀ sensor temp t s, s.memOk → Out.memOk (@execThermalSample sensor temp t s) := by
  intros
  unfold execThermalSample
  repeat' first
    | (with_reducible first
        | assumption | intro _
        | apply Out.ite_memOk | apply State.ite_memOk | apply State.atTick_memOk | apply quiet_memOk)
    | split

theorem execThermalTrip_memOk : ∀ sensor temp t s, s.memOk → Out.memOk (@execThermalTrip sensor temp t s) := by
  intros
  unfold execThermalTrip
  repeat' first
    | (with_reducible first
        | assumption | intro _
        | apply Out.ite_memOk | apply State.ite_memOk | apply State.atTick_memOk | apply State.trip_memOk
        | apply done_memOk)
    | split

theorem execTimeHoldover_memOk : ∀ t s, s.memOk → Out.memOk (@execTimeHoldover t s) := by
  intros
  unfold execTimeHoldover
  repeat' first
    | (with_reducible first
        | assumption | intro _
        | apply Out.ite_memOk | apply State.ite_memOk | apply State.atTick_memOk | apply State.holdover_memOk
        | apply quiet_memOk)
    | split

theorem execTimeReqSend_memOk : ∀ t ps s, s.memOk → Out.memOk (@execTimeReqSend t ps s) := by
  intros
  unfold execTimeReqSend
  repeat' first
    | (with_reducible first
        | assumption | intro _
        | apply Out.ite_memOk | apply State.ite_memOk | apply State.atTick_memOk | apply State.holdover_memOk
        | apply State.modTime_memOk | apply State.sendCtl_memOk | apply quiet_memOk)
    | split
    | (with_reducible apply State.mk_memOk)

theorem execTransitLineArrival_memOk : ∀ x s, s.memOk → Out.memOk (@execTransitLineArrival x s) := by
  intros
  unfold execTransitLineArrival
  repeat' first
    | (with_reducible first
        | assumption | intro _
        | apply Out.ite_memOk | apply State.ite_memOk | apply State.dropLost_memOk
        | apply State.whileMoving_memOk | apply quiet_memOk)
    | split

theorem execTrstN_memOk : ∀ low s, s.memOk → Out.memOk (@execTrstN low s) := by
  intros
  unfold execTrstN
  repeat' first
    | (with_reducible first
        | assumption | intro _
        | apply Out.ite_memOk | apply State.ite_memOk | apply State.modPower_memOk | apply quiet_memOk)
    | split
    | (with_reducible apply State.mk_memOk)

theorem execTxnApplyTick_memOk : ∀ t s, s.memOk → Out.memOk (@execTxnApplyTick t s) := by
  intros
  unfold execTxnApplyTick
  repeat' first
    | (with_reducible first
        | assumption | intro _
        | apply Out.ite_memOk | apply State.ite_memOk | apply State.applyParts_memOk | apply State.atTick_memOk
        | apply quiet_memOk)
    | split
    | (with_reducible apply State.mk_memOk)

theorem execWaitMiss_memOk : ∀ x t s, s.memOk → Out.memOk (@execWaitMiss x t s) := by
  intros
  unfold execWaitMiss
  repeat' first
    | (with_reducible first
        | assumption | intro _
        | apply Out.ite_memOk | apply State.ite_memOk | apply State.atTick_memOk | apply quiet_memOk)
    | split

theorem execWireLanding_memOk : ∀ x s, s.memOk → Out.memOk (@execWireLanding x s) := by
  intros
  unfold execWireLanding
  repeat' first
    | (with_reducible first
        | assumption | intro _
        | apply Out.memOk_next | apply Out.ite_memOk | apply State.ite_memOk | apply State.modCtx_memOk)
    | split

theorem idleStep_memOk : ∀ s, s.memOk → Out.memOk (@idleStep s) := by
  intros
  unfold idleStep
  repeat' first
    | (with_reducible first
        | assumption | intro _
        | apply Out.ite_memOk | apply State.ite_memOk | apply State.idle_memOk | apply done_memOk)
    | split

end Sys2Proof.Machine
end

