-- ==== Sys2Proof/Laws/Planes.lean ====
section
/-! SUPPORT. What the updates of one plane of the state (time, links, ledger, flash, bring-up, recoveries, power) and of one
record of a context leave alone: one lemma per field and update, all true by definition. -/
namespace Sys2Proof.Machine
open Sys2Proof
variable (s : State)

/-! ### modTime -/

@[simp] theorem State.modTime_pending (f : TimeBase → TimeBase) : (s.modTime f).pending = s.pending := rfl
@[simp] theorem State.modTime_domains (f : TimeBase → TimeBase) : (s.modTime f).domains = s.domains := rfl
@[simp] theorem State.modTime_calendar (f : TimeBase → TimeBase) : (s.modTime f).calendar = s.calendar := rfl
@[simp] theorem State.modTime_events (f : TimeBase → TimeBase) : (s.modTime f).events = s.events := rfl
@[simp] theorem State.modTime_cores (f : TimeBase → TimeBase) : (s.modTime f).cores = s.cores := rfl
@[simp] theorem State.modTime_ctxs (f : TimeBase → TimeBase) : (s.modTime f).ctxs = s.ctxs := rfl
@[simp] theorem State.modTime_mem (f : TimeBase → TimeBase) : (s.modTime f).mem = s.mem := rfl
@[simp] theorem State.modTime_drams (f : TimeBase → TimeBase) : (s.modTime f).drams = s.drams := rfl
@[simp] theorem State.modTime_base (f : TimeBase → TimeBase) : (s.modTime f).base = s.base := rfl
@[simp] theorem State.modTime_hubs (f : TimeBase → TimeBase) : (s.modTime f).hubs = s.hubs := rfl
@[simp] theorem State.modTime_grants (f : TimeBase → TimeBase) : (s.modTime f).grants = s.grants := rfl
@[simp] theorem State.modTime_links (f : TimeBase → TimeBase) : (s.modTime f).links = s.links := rfl
@[simp] theorem State.modTime_mbox (f : TimeBase → TimeBase) : (s.modTime f).mbox = s.mbox := rfl
@[simp] theorem State.modTime_fuses (f : TimeBase → TimeBase) : (s.modTime f).fuses = s.fuses := rfl
@[simp] theorem State.modTime_anchors (f : TimeBase → TimeBase) : (s.modTime f).anchors = s.anchors := rfl
@[simp] theorem State.modTime_ledger (f : TimeBase → TimeBase) : (s.modTime f).ledger = s.ledger := rfl
@[simp] theorem State.modTime_flash (f : TimeBase → TimeBase) : (s.modTime f).flash = s.flash := rfl
@[simp] theorem State.modTime_boot (f : TimeBase → TimeBase) : (s.modTime f).boot = s.boot := rfl
@[simp] theorem State.modTime_recovery (f : TimeBase → TimeBase) : (s.modTime f).recovery = s.recovery := rfl
@[simp] theorem State.modTime_power (f : TimeBase → TimeBase) : (s.modTime f).power = s.power := rfl

/-! ### modLinks -/

@[simp] theorem State.modLinks_pending (f : Links → Links) : (s.modLinks f).pending = s.pending := rfl
@[simp] theorem State.modLinks_time (f : Links → Links) : (s.modLinks f).time = s.time := rfl
@[simp] theorem State.modLinks_domains (f : Links → Links) : (s.modLinks f).domains = s.domains := rfl
@[simp] theorem State.modLinks_calendar (f : Links → Links) : (s.modLinks f).calendar = s.calendar := rfl
@[simp] theorem State.modLinks_events (f : Links → Links) : (s.modLinks f).events = s.events := rfl
@[simp] theorem State.modLinks_cores (f : Links → Links) : (s.modLinks f).cores = s.cores := rfl
@[simp] theorem State.modLinks_ctxs (f : Links → Links) : (s.modLinks f).ctxs = s.ctxs := rfl
@[simp] theorem State.modLinks_mem (f : Links → Links) : (s.modLinks f).mem = s.mem := rfl
@[simp] theorem State.modLinks_drams (f : Links → Links) : (s.modLinks f).drams = s.drams := rfl
@[simp] theorem State.modLinks_base (f : Links → Links) : (s.modLinks f).base = s.base := rfl
@[simp] theorem State.modLinks_hubs (f : Links → Links) : (s.modLinks f).hubs = s.hubs := rfl
@[simp] theorem State.modLinks_grants (f : Links → Links) : (s.modLinks f).grants = s.grants := rfl
@[simp] theorem State.modLinks_mbox (f : Links → Links) : (s.modLinks f).mbox = s.mbox := rfl
@[simp] theorem State.modLinks_fuses (f : Links → Links) : (s.modLinks f).fuses = s.fuses := rfl
@[simp] theorem State.modLinks_anchors (f : Links → Links) : (s.modLinks f).anchors = s.anchors := rfl
@[simp] theorem State.modLinks_ledger (f : Links → Links) : (s.modLinks f).ledger = s.ledger := rfl
@[simp] theorem State.modLinks_flash (f : Links → Links) : (s.modLinks f).flash = s.flash := rfl
@[simp] theorem State.modLinks_boot (f : Links → Links) : (s.modLinks f).boot = s.boot := rfl
@[simp] theorem State.modLinks_recovery (f : Links → Links) : (s.modLinks f).recovery = s.recovery := rfl
@[simp] theorem State.modLinks_power (f : Links → Links) : (s.modLinks f).power = s.power := rfl

/-! ### setBundle -/

@[simp] theorem State.setBundle_pending (b : Nat) (v : Bundle) : (s.setBundle b v).pending = s.pending := rfl
@[simp] theorem State.setBundle_time (b : Nat) (v : Bundle) : (s.setBundle b v).time = s.time := rfl
@[simp] theorem State.setBundle_domains (b : Nat) (v : Bundle) : (s.setBundle b v).domains = s.domains := rfl
@[simp] theorem State.setBundle_calendar (b : Nat) (v : Bundle) : (s.setBundle b v).calendar = s.calendar := rfl
@[simp] theorem State.setBundle_events (b : Nat) (v : Bundle) : (s.setBundle b v).events = s.events := rfl
@[simp] theorem State.setBundle_cores (b : Nat) (v : Bundle) : (s.setBundle b v).cores = s.cores := rfl
@[simp] theorem State.setBundle_ctxs (b : Nat) (v : Bundle) : (s.setBundle b v).ctxs = s.ctxs := rfl
@[simp] theorem State.setBundle_mem (b : Nat) (v : Bundle) : (s.setBundle b v).mem = s.mem := rfl
@[simp] theorem State.setBundle_drams (b : Nat) (v : Bundle) : (s.setBundle b v).drams = s.drams := rfl
@[simp] theorem State.setBundle_base (b : Nat) (v : Bundle) : (s.setBundle b v).base = s.base := rfl
@[simp] theorem State.setBundle_hubs (b : Nat) (v : Bundle) : (s.setBundle b v).hubs = s.hubs := rfl
@[simp] theorem State.setBundle_grants (b : Nat) (v : Bundle) : (s.setBundle b v).grants = s.grants := rfl
@[simp] theorem State.setBundle_mbox (b : Nat) (v : Bundle) : (s.setBundle b v).mbox = s.mbox := rfl
@[simp] theorem State.setBundle_fuses (b : Nat) (v : Bundle) : (s.setBundle b v).fuses = s.fuses := rfl
@[simp] theorem State.setBundle_anchors (b : Nat) (v : Bundle) : (s.setBundle b v).anchors = s.anchors := rfl
@[simp] theorem State.setBundle_ledger (b : Nat) (v : Bundle) : (s.setBundle b v).ledger = s.ledger := rfl
@[simp] theorem State.setBundle_flash (b : Nat) (v : Bundle) : (s.setBundle b v).flash = s.flash := rfl
@[simp] theorem State.setBundle_boot (b : Nat) (v : Bundle) : (s.setBundle b v).boot = s.boot := rfl
@[simp] theorem State.setBundle_recovery (b : Nat) (v : Bundle) : (s.setBundle b v).recovery = s.recovery := rfl
@[simp] theorem State.setBundle_power (b : Nat) (v : Bundle) : (s.setBundle b v).power = s.power := rfl

/-! ### modLedger -/

@[simp] theorem State.modLedger_pending (f : Ledger → Ledger) : (s.modLedger f).pending = s.pending := rfl
@[simp] theorem State.modLedger_time (f : Ledger → Ledger) : (s.modLedger f).time = s.time := rfl
@[simp] theorem State.modLedger_domains (f : Ledger → Ledger) : (s.modLedger f).domains = s.domains := rfl
@[simp] theorem State.modLedger_calendar (f : Ledger → Ledger) : (s.modLedger f).calendar = s.calendar := rfl
@[simp] theorem State.modLedger_events (f : Ledger → Ledger) : (s.modLedger f).events = s.events := rfl
@[simp] theorem State.modLedger_cores (f : Ledger → Ledger) : (s.modLedger f).cores = s.cores := rfl
@[simp] theorem State.modLedger_ctxs (f : Ledger → Ledger) : (s.modLedger f).ctxs = s.ctxs := rfl
@[simp] theorem State.modLedger_mem (f : Ledger → Ledger) : (s.modLedger f).mem = s.mem := rfl
@[simp] theorem State.modLedger_drams (f : Ledger → Ledger) : (s.modLedger f).drams = s.drams := rfl
@[simp] theorem State.modLedger_base (f : Ledger → Ledger) : (s.modLedger f).base = s.base := rfl
@[simp] theorem State.modLedger_hubs (f : Ledger → Ledger) : (s.modLedger f).hubs = s.hubs := rfl
@[simp] theorem State.modLedger_grants (f : Ledger → Ledger) : (s.modLedger f).grants = s.grants := rfl
@[simp] theorem State.modLedger_links (f : Ledger → Ledger) : (s.modLedger f).links = s.links := rfl
@[simp] theorem State.modLedger_mbox (f : Ledger → Ledger) : (s.modLedger f).mbox = s.mbox := rfl
@[simp] theorem State.modLedger_fuses (f : Ledger → Ledger) : (s.modLedger f).fuses = s.fuses := rfl
@[simp] theorem State.modLedger_anchors (f : Ledger → Ledger) : (s.modLedger f).anchors = s.anchors := rfl
@[simp] theorem State.modLedger_flash (f : Ledger → Ledger) : (s.modLedger f).flash = s.flash := rfl
@[simp] theorem State.modLedger_boot (f : Ledger → Ledger) : (s.modLedger f).boot = s.boot := rfl
@[simp] theorem State.modLedger_recovery (f : Ledger → Ledger) : (s.modLedger f).recovery = s.recovery := rfl
@[simp] theorem State.modLedger_power (f : Ledger → Ledger) : (s.modLedger f).power = s.power := rfl

/-! ### setStream -/

@[simp] theorem State.setStream_pending (k : Nat) (v : LStream) : (s.setStream k v).pending = s.pending := rfl
@[simp] theorem State.setStream_time (k : Nat) (v : LStream) : (s.setStream k v).time = s.time := rfl
@[simp] theorem State.setStream_domains (k : Nat) (v : LStream) : (s.setStream k v).domains = s.domains := rfl
@[simp] theorem State.setStream_calendar (k : Nat) (v : LStream) : (s.setStream k v).calendar = s.calendar := rfl
@[simp] theorem State.setStream_events (k : Nat) (v : LStream) : (s.setStream k v).events = s.events := rfl
@[simp] theorem State.setStream_cores (k : Nat) (v : LStream) : (s.setStream k v).cores = s.cores := rfl
@[simp] theorem State.setStream_ctxs (k : Nat) (v : LStream) : (s.setStream k v).ctxs = s.ctxs := rfl
@[simp] theorem State.setStream_mem (k : Nat) (v : LStream) : (s.setStream k v).mem = s.mem := rfl
@[simp] theorem State.setStream_drams (k : Nat) (v : LStream) : (s.setStream k v).drams = s.drams := rfl
@[simp] theorem State.setStream_base (k : Nat) (v : LStream) : (s.setStream k v).base = s.base := rfl
@[simp] theorem State.setStream_hubs (k : Nat) (v : LStream) : (s.setStream k v).hubs = s.hubs := rfl
@[simp] theorem State.setStream_grants (k : Nat) (v : LStream) : (s.setStream k v).grants = s.grants := rfl
@[simp] theorem State.setStream_links (k : Nat) (v : LStream) : (s.setStream k v).links = s.links := rfl
@[simp] theorem State.setStream_mbox (k : Nat) (v : LStream) : (s.setStream k v).mbox = s.mbox := rfl
@[simp] theorem State.setStream_fuses (k : Nat) (v : LStream) : (s.setStream k v).fuses = s.fuses := rfl
@[simp] theorem State.setStream_anchors (k : Nat) (v : LStream) : (s.setStream k v).anchors = s.anchors := rfl
@[simp] theorem State.setStream_flash (k : Nat) (v : LStream) : (s.setStream k v).flash = s.flash := rfl
@[simp] theorem State.setStream_boot (k : Nat) (v : LStream) : (s.setStream k v).boot = s.boot := rfl
@[simp] theorem State.setStream_recovery (k : Nat) (v : LStream) : (s.setStream k v).recovery = s.recovery := rfl
@[simp] theorem State.setStream_power (k : Nat) (v : LStream) : (s.setStream k v).power = s.power := rfl

/-! ### modFlash -/

@[simp] theorem State.modFlash_pending (f : Flash → Flash) : (s.modFlash f).pending = s.pending := rfl
@[simp] theorem State.modFlash_time (f : Flash → Flash) : (s.modFlash f).time = s.time := rfl
@[simp] theorem State.modFlash_domains (f : Flash → Flash) : (s.modFlash f).domains = s.domains := rfl
@[simp] theorem State.modFlash_calendar (f : Flash → Flash) : (s.modFlash f).calendar = s.calendar := rfl
@[simp] theorem State.modFlash_events (f : Flash → Flash) : (s.modFlash f).events = s.events := rfl
@[simp] theorem State.modFlash_cores (f : Flash → Flash) : (s.modFlash f).cores = s.cores := rfl
@[simp] theorem State.modFlash_ctxs (f : Flash → Flash) : (s.modFlash f).ctxs = s.ctxs := rfl
@[simp] theorem State.modFlash_mem (f : Flash → Flash) : (s.modFlash f).mem = s.mem := rfl
@[simp] theorem State.modFlash_drams (f : Flash → Flash) : (s.modFlash f).drams = s.drams := rfl
@[simp] theorem State.modFlash_base (f : Flash → Flash) : (s.modFlash f).base = s.base := rfl
@[simp] theorem State.modFlash_hubs (f : Flash → Flash) : (s.modFlash f).hubs = s.hubs := rfl
@[simp] theorem State.modFlash_grants (f : Flash → Flash) : (s.modFlash f).grants = s.grants := rfl
@[simp] theorem State.modFlash_links (f : Flash → Flash) : (s.modFlash f).links = s.links := rfl
@[simp] theorem State.modFlash_mbox (f : Flash → Flash) : (s.modFlash f).mbox = s.mbox := rfl
@[simp] theorem State.modFlash_fuses (f : Flash → Flash) : (s.modFlash f).fuses = s.fuses := rfl
@[simp] theorem State.modFlash_anchors (f : Flash → Flash) : (s.modFlash f).anchors = s.anchors := rfl
@[simp] theorem State.modFlash_ledger (f : Flash → Flash) : (s.modFlash f).ledger = s.ledger := rfl
@[simp] theorem State.modFlash_boot (f : Flash → Flash) : (s.modFlash f).boot = s.boot := rfl
@[simp] theorem State.modFlash_recovery (f : Flash → Flash) : (s.modFlash f).recovery = s.recovery := rfl
@[simp] theorem State.modFlash_power (f : Flash → Flash) : (s.modFlash f).power = s.power := rfl

/-! ### modBoot -/

@[simp] theorem State.modBoot_pending (f : Boot → Boot) : (s.modBoot f).pending = s.pending := rfl
@[simp] theorem State.modBoot_time (f : Boot → Boot) : (s.modBoot f).time = s.time := rfl
@[simp] theorem State.modBoot_domains (f : Boot → Boot) : (s.modBoot f).domains = s.domains := rfl
@[simp] theorem State.modBoot_calendar (f : Boot → Boot) : (s.modBoot f).calendar = s.calendar := rfl
@[simp] theorem State.modBoot_events (f : Boot → Boot) : (s.modBoot f).events = s.events := rfl
@[simp] theorem State.modBoot_cores (f : Boot → Boot) : (s.modBoot f).cores = s.cores := rfl
@[simp] theorem State.modBoot_ctxs (f : Boot → Boot) : (s.modBoot f).ctxs = s.ctxs := rfl
@[simp] theorem State.modBoot_mem (f : Boot → Boot) : (s.modBoot f).mem = s.mem := rfl
@[simp] theorem State.modBoot_drams (f : Boot → Boot) : (s.modBoot f).drams = s.drams := rfl
@[simp] theorem State.modBoot_base (f : Boot → Boot) : (s.modBoot f).base = s.base := rfl
@[simp] theorem State.modBoot_hubs (f : Boot → Boot) : (s.modBoot f).hubs = s.hubs := rfl
@[simp] theorem State.modBoot_grants (f : Boot → Boot) : (s.modBoot f).grants = s.grants := rfl
@[simp] theorem State.modBoot_links (f : Boot → Boot) : (s.modBoot f).links = s.links := rfl
@[simp] theorem State.modBoot_mbox (f : Boot → Boot) : (s.modBoot f).mbox = s.mbox := rfl
@[simp] theorem State.modBoot_fuses (f : Boot → Boot) : (s.modBoot f).fuses = s.fuses := rfl
@[simp] theorem State.modBoot_anchors (f : Boot → Boot) : (s.modBoot f).anchors = s.anchors := rfl
@[simp] theorem State.modBoot_ledger (f : Boot → Boot) : (s.modBoot f).ledger = s.ledger := rfl
@[simp] theorem State.modBoot_flash (f : Boot → Boot) : (s.modBoot f).flash = s.flash := rfl
@[simp] theorem State.modBoot_recovery (f : Boot → Boot) : (s.modBoot f).recovery = s.recovery := rfl
@[simp] theorem State.modBoot_power (f : Boot → Boot) : (s.modBoot f).power = s.power := rfl

/-! ### setRunning -/

@[simp] theorem State.setRunning_pending (r : Option Recovery) : (s.setRunning r).pending = s.pending := rfl
@[simp] theorem State.setRunning_time (r : Option Recovery) : (s.setRunning r).time = s.time := rfl
@[simp] theorem State.setRunning_domains (r : Option Recovery) : (s.setRunning r).domains = s.domains := rfl
@[simp] theorem State.setRunning_calendar (r : Option Recovery) : (s.setRunning r).calendar = s.calendar := rfl
@[simp] theorem State.setRunning_events (r : Option Recovery) : (s.setRunning r).events = s.events := rfl
@[simp] theorem State.setRunning_cores (r : Option Recovery) : (s.setRunning r).cores = s.cores := rfl
@[simp] theorem State.setRunning_ctxs (r : Option Recovery) : (s.setRunning r).ctxs = s.ctxs := rfl
@[simp] theorem State.setRunning_mem (r : Option Recovery) : (s.setRunning r).mem = s.mem := rfl
@[simp] theorem State.setRunning_drams (r : Option Recovery) : (s.setRunning r).drams = s.drams := rfl
@[simp] theorem State.setRunning_base (r : Option Recovery) : (s.setRunning r).base = s.base := rfl
@[simp] theorem State.setRunning_hubs (r : Option Recovery) : (s.setRunning r).hubs = s.hubs := rfl
@[simp] theorem State.setRunning_grants (r : Option Recovery) : (s.setRunning r).grants = s.grants := rfl
@[simp] theorem State.setRunning_links (r : Option Recovery) : (s.setRunning r).links = s.links := rfl
@[simp] theorem State.setRunning_mbox (r : Option Recovery) : (s.setRunning r).mbox = s.mbox := rfl
@[simp] theorem State.setRunning_fuses (r : Option Recovery) : (s.setRunning r).fuses = s.fuses := rfl
@[simp] theorem State.setRunning_anchors (r : Option Recovery) : (s.setRunning r).anchors = s.anchors := rfl
@[simp] theorem State.setRunning_ledger (r : Option Recovery) : (s.setRunning r).ledger = s.ledger := rfl
@[simp] theorem State.setRunning_flash (r : Option Recovery) : (s.setRunning r).flash = s.flash := rfl
@[simp] theorem State.setRunning_boot (r : Option Recovery) : (s.setRunning r).boot = s.boot := rfl
@[simp] theorem State.setRunning_power (r : Option Recovery) : (s.setRunning r).power = s.power := rfl

/-! ### modPower -/

@[simp] theorem State.modPower_pending (f : Power → Power) : (s.modPower f).pending = s.pending := rfl
@[simp] theorem State.modPower_time (f : Power → Power) : (s.modPower f).time = s.time := rfl
@[simp] theorem State.modPower_domains (f : Power → Power) : (s.modPower f).domains = s.domains := rfl
@[simp] theorem State.modPower_calendar (f : Power → Power) : (s.modPower f).calendar = s.calendar := rfl
@[simp] theorem State.modPower_events (f : Power → Power) : (s.modPower f).events = s.events := rfl
@[simp] theorem State.modPower_cores (f : Power → Power) : (s.modPower f).cores = s.cores := rfl
@[simp] theorem State.modPower_ctxs (f : Power → Power) : (s.modPower f).ctxs = s.ctxs := rfl
@[simp] theorem State.modPower_mem (f : Power → Power) : (s.modPower f).mem = s.mem := rfl
@[simp] theorem State.modPower_drams (f : Power → Power) : (s.modPower f).drams = s.drams := rfl
@[simp] theorem State.modPower_base (f : Power → Power) : (s.modPower f).base = s.base := rfl
@[simp] theorem State.modPower_hubs (f : Power → Power) : (s.modPower f).hubs = s.hubs := rfl
@[simp] theorem State.modPower_grants (f : Power → Power) : (s.modPower f).grants = s.grants := rfl
@[simp] theorem State.modPower_links (f : Power → Power) : (s.modPower f).links = s.links := rfl
@[simp] theorem State.modPower_mbox (f : Power → Power) : (s.modPower f).mbox = s.mbox := rfl
@[simp] theorem State.modPower_fuses (f : Power → Power) : (s.modPower f).fuses = s.fuses := rfl
@[simp] theorem State.modPower_anchors (f : Power → Power) : (s.modPower f).anchors = s.anchors := rfl
@[simp] theorem State.modPower_ledger (f : Power → Power) : (s.modPower f).ledger = s.ledger := rfl
@[simp] theorem State.modPower_flash (f : Power → Power) : (s.modPower f).flash = s.flash := rfl
@[simp] theorem State.modPower_boot (f : Power → Power) : (s.modPower f).boot = s.boot := rfl
@[simp] theorem State.modPower_recovery (f : Power → Power) : (s.modPower f).recovery = s.recovery := rfl

/-! ### modHalo -/

@[simp] theorem State.modHalo_pending (x : Nat) (f : Halo → Halo) : (s.modHalo x f).pending = s.pending := rfl
@[simp] theorem State.modHalo_time (x : Nat) (f : Halo → Halo) : (s.modHalo x f).time = s.time := rfl
@[simp] theorem State.modHalo_domains (x : Nat) (f : Halo → Halo) : (s.modHalo x f).domains = s.domains := rfl
@[simp] theorem State.modHalo_calendar (x : Nat) (f : Halo → Halo) : (s.modHalo x f).calendar = s.calendar := rfl
@[simp] theorem State.modHalo_events (x : Nat) (f : Halo → Halo) : (s.modHalo x f).events = s.events := rfl
@[simp] theorem State.modHalo_cores (x : Nat) (f : Halo → Halo) : (s.modHalo x f).cores = s.cores := rfl
@[simp] theorem State.modHalo_mem (x : Nat) (f : Halo → Halo) : (s.modHalo x f).mem = s.mem := rfl
@[simp] theorem State.modHalo_drams (x : Nat) (f : Halo → Halo) : (s.modHalo x f).drams = s.drams := rfl
@[simp] theorem State.modHalo_base (x : Nat) (f : Halo → Halo) : (s.modHalo x f).base = s.base := rfl
@[simp] theorem State.modHalo_hubs (x : Nat) (f : Halo → Halo) : (s.modHalo x f).hubs = s.hubs := rfl
@[simp] theorem State.modHalo_grants (x : Nat) (f : Halo → Halo) : (s.modHalo x f).grants = s.grants := rfl
@[simp] theorem State.modHalo_links (x : Nat) (f : Halo → Halo) : (s.modHalo x f).links = s.links := rfl
@[simp] theorem State.modHalo_mbox (x : Nat) (f : Halo → Halo) : (s.modHalo x f).mbox = s.mbox := rfl
@[simp] theorem State.modHalo_fuses (x : Nat) (f : Halo → Halo) : (s.modHalo x f).fuses = s.fuses := rfl
@[simp] theorem State.modHalo_anchors (x : Nat) (f : Halo → Halo) : (s.modHalo x f).anchors = s.anchors := rfl
@[simp] theorem State.modHalo_ledger (x : Nat) (f : Halo → Halo) : (s.modHalo x f).ledger = s.ledger := rfl
@[simp] theorem State.modHalo_flash (x : Nat) (f : Halo → Halo) : (s.modHalo x f).flash = s.flash := rfl
@[simp] theorem State.modHalo_boot (x : Nat) (f : Halo → Halo) : (s.modHalo x f).boot = s.boot := rfl
@[simp] theorem State.modHalo_recovery (x : Nat) (f : Halo → Halo) : (s.modHalo x f).recovery = s.recovery := rfl
@[simp] theorem State.modHalo_power (x : Nat) (f : Halo → Halo) : (s.modHalo x f).power = s.power := rfl

/-! ### modWeights -/

@[simp] theorem State.modWeights_pending (x : Nat) (f : Weights → Weights) : (s.modWeights x f).pending = s.pending := rfl
@[simp] theorem State.modWeights_time (x : Nat) (f : Weights → Weights) : (s.modWeights x f).time = s.time := rfl
@[simp] theorem State.modWeights_domains (x : Nat) (f : Weights → Weights) : (s.modWeights x f).domains = s.domains := rfl
@[simp] theorem State.modWeights_calendar (x : Nat) (f : Weights → Weights) : (s.modWeights x f).calendar = s.calendar := rfl
@[simp] theorem State.modWeights_events (x : Nat) (f : Weights → Weights) : (s.modWeights x f).events = s.events := rfl
@[simp] theorem State.modWeights_cores (x : Nat) (f : Weights → Weights) : (s.modWeights x f).cores = s.cores := rfl
@[simp] theorem State.modWeights_mem (x : Nat) (f : Weights → Weights) : (s.modWeights x f).mem = s.mem := rfl
@[simp] theorem State.modWeights_drams (x : Nat) (f : Weights → Weights) : (s.modWeights x f).drams = s.drams := rfl
@[simp] theorem State.modWeights_base (x : Nat) (f : Weights → Weights) : (s.modWeights x f).base = s.base := rfl
@[simp] theorem State.modWeights_hubs (x : Nat) (f : Weights → Weights) : (s.modWeights x f).hubs = s.hubs := rfl
@[simp] theorem State.modWeights_grants (x : Nat) (f : Weights → Weights) : (s.modWeights x f).grants = s.grants := rfl
@[simp] theorem State.modWeights_links (x : Nat) (f : Weights → Weights) : (s.modWeights x f).links = s.links := rfl
@[simp] theorem State.modWeights_mbox (x : Nat) (f : Weights → Weights) : (s.modWeights x f).mbox = s.mbox := rfl
@[simp] theorem State.modWeights_fuses (x : Nat) (f : Weights → Weights) : (s.modWeights x f).fuses = s.fuses := rfl
@[simp] theorem State.modWeights_anchors (x : Nat) (f : Weights → Weights) : (s.modWeights x f).anchors = s.anchors := rfl
@[simp] theorem State.modWeights_ledger (x : Nat) (f : Weights → Weights) : (s.modWeights x f).ledger = s.ledger := rfl
@[simp] theorem State.modWeights_flash (x : Nat) (f : Weights → Weights) : (s.modWeights x f).flash = s.flash := rfl
@[simp] theorem State.modWeights_boot (x : Nat) (f : Weights → Weights) : (s.modWeights x f).boot = s.boot := rfl
@[simp] theorem State.modWeights_recovery (x : Nat) (f : Weights → Weights) : (s.modWeights x f).recovery = s.recovery := rfl
@[simp] theorem State.modWeights_power (x : Nat) (f : Weights → Weights) : (s.modWeights x f).power = s.power := rfl

/-! ### modReplay -/

@[simp] theorem State.modReplay_pending (x : Nat) (f : Replay → Replay) : (s.modReplay x f).pending = s.pending := rfl
@[simp] theorem State.modReplay_time (x : Nat) (f : Replay → Replay) : (s.modReplay x f).time = s.time := rfl
@[simp] theorem State.modReplay_domains (x : Nat) (f : Replay → Replay) : (s.modReplay x f).domains = s.domains := rfl
@[simp] theorem State.modReplay_calendar (x : Nat) (f : Replay → Replay) : (s.modReplay x f).calendar = s.calendar := rfl
@[simp] theorem State.modReplay_events (x : Nat) (f : Replay → Replay) : (s.modReplay x f).events = s.events := rfl
@[simp] theorem State.modReplay_cores (x : Nat) (f : Replay → Replay) : (s.modReplay x f).cores = s.cores := rfl
@[simp] theorem State.modReplay_mem (x : Nat) (f : Replay → Replay) : (s.modReplay x f).mem = s.mem := rfl
@[simp] theorem State.modReplay_drams (x : Nat) (f : Replay → Replay) : (s.modReplay x f).drams = s.drams := rfl
@[simp] theorem State.modReplay_base (x : Nat) (f : Replay → Replay) : (s.modReplay x f).base = s.base := rfl
@[simp] theorem State.modReplay_hubs (x : Nat) (f : Replay → Replay) : (s.modReplay x f).hubs = s.hubs := rfl
@[simp] theorem State.modReplay_grants (x : Nat) (f : Replay → Replay) : (s.modReplay x f).grants = s.grants := rfl
@[simp] theorem State.modReplay_links (x : Nat) (f : Replay → Replay) : (s.modReplay x f).links = s.links := rfl
@[simp] theorem State.modReplay_mbox (x : Nat) (f : Replay → Replay) : (s.modReplay x f).mbox = s.mbox := rfl
@[simp] theorem State.modReplay_fuses (x : Nat) (f : Replay → Replay) : (s.modReplay x f).fuses = s.fuses := rfl
@[simp] theorem State.modReplay_anchors (x : Nat) (f : Replay → Replay) : (s.modReplay x f).anchors = s.anchors := rfl
@[simp] theorem State.modReplay_ledger (x : Nat) (f : Replay → Replay) : (s.modReplay x f).ledger = s.ledger := rfl
@[simp] theorem State.modReplay_flash (x : Nat) (f : Replay → Replay) : (s.modReplay x f).flash = s.flash := rfl
@[simp] theorem State.modReplay_boot (x : Nat) (f : Replay → Replay) : (s.modReplay x f).boot = s.boot := rfl
@[simp] theorem State.modReplay_recovery (x : Nat) (f : Replay → Replay) : (s.modReplay x f).recovery = s.recovery := rfl
@[simp] theorem State.modReplay_power (x : Nat) (f : Replay → Replay) : (s.modReplay x f).power = s.power := rfl

end Sys2Proof.Machine
end

