-- ==== Sys2Proof/Laws/Rows.lean ====
section
/-! SUPPORT. Every field of a bundle completes within the reach of its core: one lemma per command. -/
namespace Sys2Proof.Machine
open Sys2Proof

theorem idleBundle_reaches (f : Fetch) (s : State) :
    ∃ t, exec (.idleBundle f) s = .next t ∧ Reaches f.core.ctx f.core.core s t :=
  have h := Reaches.ite ((Reaches.present f.core).trans (Reaches.fetchUe _ _ _)) (Reaches.present f.core)
  ⟨_, h.quiet, h⟩

theorem brk_reaches (c : CoreRef) (s : State) :
    ∃ t, exec (.brk c) s = .next t ∧ Reaches c.ctx c.core s t :=
  ⟨_, rfl, Reaches.ite ((Reaches.present c).trans (Reaches.modCtx _ (fun _ => rfl))) (Reaches.present c)⟩

theorem rdv_reaches (c : CoreRef) (f : CtlField) (s : State) :
    ∃ t, exec (.rdv c f) s = .next t ∧ Reaches c.ctx c.core s t :=
  ⟨_, rfl, Reaches.outsideArm c _ (fun _ => Reaches.freezeBy _)⟩

theorem fence_reaches (c : CoreRef) (s : State) :
    ∃ t, exec (.fence c) s = .next t ∧ Reaches c.ctx c.core s t :=
  ⟨_, rfl, Reaches.outsideArm c _ (fun _ => Reaches.freezeBy _)⟩

theorem rdvFence_reaches (c : CoreRef) (f : CtlField) (s : State) :
    ∃ t, exec (.rdvFence c f) s = .next t ∧ Reaches c.ctx c.core s t :=
  ⟨_, rfl, Reaches.outsideArm c _ (fun _ => (Reaches.freezeBy _).trans (Reaches.freezeBy _))⟩

theorem orbitEnd_reaches (c : CoreRef) (s : State) :
    ∃ t, exec (.orbitEnd c) s = .next t ∧ Reaches c.ctx c.core s t :=
  ⟨_, rfl, Reaches.outsideArm c _ (fun _ => Reaches.freezeBy _)⟩

theorem jmp_reaches (c : CoreRef) (f : CtlField) (s : State) :
    ∃ t, exec (.jmp c f) s = .next t ∧ Reaches c.ctx c.core s t :=
  ⟨_, rfl, Reaches.ite (Reaches.branchTo c _) (Reaches.present c)⟩

theorem loop_reaches (c : CoreRef) (f : CtlField) (s : State) :
    ∃ t, exec (.loop c f) s = .next t ∧ Reaches c.ctx c.core s t :=
  ⟨_, rfl, Reaches.ite (Reaches.onCore c _ (fun k => by dsimp only; split <;> simp [Core.sameRegs, Core.branchTo])) (Reaches.present c)⟩

theorem ubr_reaches (c : CoreRef) (f : CtlField) (s : State) :
    ∃ t, exec (.ubr c f) s = .next t ∧ Reaches c.ctx c.core s t :=
  ⟨_, rfl, Reaches.outsideArm c _ (fun _ => Reaches.ite (Reaches.branchTo c _) (Reaches.refl _ _ _))⟩

theorem fbr_reaches (c : CoreRef) (f : CtlField) (s : State) :
    ∃ t, exec (.fbr c f) s = .next t ∧ Reaches c.ctx c.core s t :=
  ⟨_, rfl, Reaches.outsideArm c _ (fun _ => Reaches.onCore c _ (fun _ => by simp [Core.sameRegs]))⟩

theorem armend_reaches (c : CoreRef) (s : State) :
    ∃ t, exec (.armend c) s = .next t ∧ Reaches c.ctx c.core s t :=
  ⟨_, rfl, Reaches.ite (Reaches.onCore c _ (fun _ => by simp [Core.sameRegs])) (Reaches.present c)⟩

theorem armCut_reaches (c : CoreRef) (s : State) :
    ∃ t, exec (.armCut c) s = .next t ∧ Reaches c.ctx c.core s t :=
  ⟨_, rfl, Reaches.ite (Reaches.armCutAt.trans (Reaches.modCoreOf _ (fun _ => by simp [Core.sameRegs]))) (Reaches.refl _ _ _)⟩

theorem add_reaches (c : CoreRef) (f : ScalarField) (s : State) :
    ∃ t, exec (.add c f) s = .next t ∧ Reaches c.ctx c.core s t :=
  ⟨_, rfl, Reaches.scalarOp _ _ _ _⟩

theorem sub_reaches (c : CoreRef) (f : ScalarField) (s : State) :
    ∃ t, exec (.sub c f) s = .next t ∧ Reaches c.ctx c.core s t :=
  ⟨_, rfl, Reaches.scalarOp _ _ _ _⟩

theorem mul_reaches (c : CoreRef) (f : ScalarField) (s : State) :
    ∃ t, exec (.mul c f) s = .next t ∧ Reaches c.ctx c.core s t :=
  ⟨_, rfl, Reaches.scalarOp _ _ _ _⟩

theorem and_reaches (c : CoreRef) (f : ScalarField) (s : State) :
    ∃ t, exec (.and c f) s = .next t ∧ Reaches c.ctx c.core s t :=
  ⟨_, rfl, Reaches.scalarOp _ _ _ _⟩

theorem or_reaches (c : CoreRef) (f : ScalarField) (s : State) :
    ∃ t, exec (.or c f) s = .next t ∧ Reaches c.ctx c.core s t :=
  ⟨_, rfl, Reaches.scalarOp _ _ _ _⟩

theorem xor_reaches (c : CoreRef) (f : ScalarField) (s : State) :
    ∃ t, exec (.xor c f) s = .next t ∧ Reaches c.ctx c.core s t :=
  ⟨_, rfl, Reaches.scalarOp _ _ _ _⟩

theorem shl_reaches (c : CoreRef) (f : ScalarField) (s : State) :
    ∃ t, exec (.shl c f) s = .next t ∧ Reaches c.ctx c.core s t :=
  ⟨_, rfl, Reaches.scalarOp _ _ _ _⟩

theorem shr_reaches (c : CoreRef) (f : ScalarField) (s : State) :
    ∃ t, exec (.shr c f) s = .next t ∧ Reaches c.ctx c.core s t :=
  ⟨_, rfl, Reaches.scalarOp _ _ _ _⟩

theorem sar_reaches (c : CoreRef) (f : ScalarField) (s : State) :
    ∃ t, exec (.sar c f) s = .next t ∧ Reaches c.ctx c.core s t :=
  ⟨_, rfl, Reaches.scalarOp _ _ _ _⟩

theorem min_reaches (c : CoreRef) (f : ScalarField) (s : State) :
    ∃ t, exec (.min c f) s = .next t ∧ Reaches c.ctx c.core s t :=
  ⟨_, rfl, Reaches.scalarOp _ _ _ _⟩

theorem max_reaches (c : CoreRef) (f : ScalarField) (s : State) :
    ∃ t, exec (.max c f) s = .next t ∧ Reaches c.ctx c.core s t :=
  ⟨_, rfl, Reaches.scalarOp _ _ _ _⟩

theorem minu_reaches (c : CoreRef) (f : ScalarField) (s : State) :
    ∃ t, exec (.minu c f) s = .next t ∧ Reaches c.ctx c.core s t :=
  ⟨_, rfl, Reaches.scalarOp _ _ _ _⟩

theorem maxu_reaches (c : CoreRef) (f : ScalarField) (s : State) :
    ∃ t, exec (.maxu c f) s = .next t ∧ Reaches c.ctx c.core s t :=
  ⟨_, rfl, Reaches.scalarOp _ _ _ _⟩

theorem slt_reaches (c : CoreRef) (f : ScalarField) (s : State) :
    ∃ t, exec (.slt c f) s = .next t ∧ Reaches c.ctx c.core s t :=
  ⟨_, rfl, Reaches.scalarOp _ _ _ _⟩

theorem sltu_reaches (c : CoreRef) (f : ScalarField) (s : State) :
    ∃ t, exec (.sltu c f) s = .next t ∧ Reaches c.ctx c.core s t :=
  ⟨_, rfl, Reaches.scalarOp _ _ _ _⟩

theorem seq_reaches (c : CoreRef) (f : ScalarField) (s : State) :
    ∃ t, exec (.seq c f) s = .next t ∧ Reaches c.ctx c.core s t :=
  ⟨_, rfl, Reaches.scalarOp _ _ _ _⟩

theorem csel_reaches (c : CoreRef) (f : ScalarField) (s : State) :
    ∃ t, exec (.csel c f) s = .next t ∧ Reaches c.ctx c.core s t :=
  ⟨_, rfl, Reaches.scalarFrom _ _ _ _⟩

theorem movi_reaches (c : CoreRef) (f : ScalarField) (s : State) :
    ∃ t, exec (.movi c f) s = .next t ∧ Reaches c.ctx c.core s t :=
  ⟨_, rfl, Reaches.scalarFrom _ _ _ _⟩

theorem movhi_reaches (c : CoreRef) (f : ScalarField) (s : State) :
    ∃ t, exec (.movhi c f) s = .next t ∧ Reaches c.ctx c.core s t :=
  ⟨_, rfl, Reaches.scalarFrom _ _ _ _⟩

theorem rdpar_reaches (c : CoreRef) (f : ScalarField) (s : State) :
    ∃ t, exec (.rdpar c f) s = .next t ∧ Reaches c.ctx c.core s t :=
  ⟨_, rfl, Reaches.scalarFrom _ _ _ _⟩

theorem wrpar_reaches (c : CoreRef) (f : ScalarField) (s : State) :
    ∃ t, exec (.wrpar c f) s = .next t ∧ Reaches c.ctx c.core s t :=
  ⟨_, rfl, Reaches.onCore c _ (fun _ => by simp [Core.sameRegs, Core.issue])⟩

theorem rdstep_reaches (c : CoreRef) (f : ScalarField) (s : State) :
    ∃ t, exec (.rdstep c f) s = .next t ∧ Reaches c.ctx c.core s t :=
  ⟨_, rfl, Reaches.scalarFrom _ _ _ _⟩

theorem rdorbit_reaches (c : CoreRef) (f : ScalarField) (s : State) :
    ∃ t, exec (.rdorbit c f) s = .next t ∧ Reaches c.ctx c.core s t :=
  ⟨_, rfl, Reaches.scalarFrom _ _ _ _⟩

theorem rdpci_reaches (c : CoreRef) (f : ScalarField) (s : State) :
    ∃ t, exec (.rdpci c f) s = .next t ∧ Reaches c.ctx c.core s t :=
  ⟨_, rfl, Reaches.scalarFrom _ _ _ _⟩

theorem rdncore_reaches (c : CoreRef) (f : ScalarField) (s : State) :
    ∃ t, exec (.rdncore c f) s = .next t ∧ Reaches c.ctx c.core s t :=
  ⟨_, rfl, Reaches.scalarFrom _ _ _ _⟩

theorem rdsem_reaches (c : CoreRef) (f : ScalarField) (s : State) :
    ∃ t, exec (.rdsem c f) s = .next t ∧ Reaches c.ctx c.core s t := by
  simp only [exec, execRdsem]
  split
  · refine ⟨_, rfl, ?_⟩
    refine Reaches.ite (Reaches.trans ?_ (Reaches.brokenSeen _ _)) ?_ <;>
      exact Reaches.ite (((Reaches.scalarFrom c f 1 _).trans (Reaches.flagCtx _)).trans (Reaches.chanFault _ _ _))
        (Reaches.scalarFrom c f 1 _)
  · exact ⟨_, rfl, Reaches.scalarFrom c f 1 _⟩

theorem rdbrk_reaches (c : CoreRef) (f : ScalarField) (s : State) :
    ∃ t, exec (.rdbrk c f) s = .next t ∧ Reaches c.ctx c.core s t :=
  ⟨_, rfl, Reaches.ite ((Reaches.scalarFrom c f 1 _).trans (Reaches.brokenSeen _ _)) (Reaches.scalarFrom c f 1 _)⟩

theorem reduce_reaches (c : CoreRef) (f : ScalarField) (s : State) :
    ∃ t, exec (.reduce c f) s = .next t ∧ Reaches c.ctx c.core s t :=
  ⟨_, rfl, Reaches.ite ((Reaches.onCore c _ Core.sameRegs_refl).trans (Reaches.modCtx _ (fun _ => rfl))) (Reaches.onCore c _ Core.sameRegs_refl)⟩

theorem rdwire_reaches (c : CoreRef) (f : ScalarField) (s : State) :
    ∃ t, exec (.rdwire c f) s = .next t ∧ Reaches c.ctx c.core s t :=
  ⟨_, rfl, Reaches.scalarFrom _ _ _ _⟩

theorem lcset_reaches (c : CoreRef) (f : ScalarField) (s : State) :
    ∃ t, exec (.lcset c f) s = .next t ∧ Reaches c.ctx c.core s t :=
  ⟨_, rfl, Reaches.onCore c _ (fun _ => by simp [Core.sameRegs, Core.issue])⟩

theorem tapset_reaches (c : CoreRef) (f : ScalarField) (s : State) :
    ∃ t, exec (.tapset c f) s = .next t ∧ Reaches c.ctx c.core s t :=
  ⟨_, rfl, Reaches.onCore c _ (fun _ => by simp [Core.sameRegs])⟩

theorem tail_reaches (c : CoreRef) (f : ScalarField) (s : State) :
    ∃ t, exec (.tail c f) s = .next t ∧ Reaches c.ctx c.core s t :=
  ⟨_, rfl, Reaches.scalarFrom _ _ _ _⟩

theorem readTap_reaches (c : CoreRef) (p : BitVec 2) (z : TapField) (e : Ecc) (s : State) :
    ∃ t, exec (.readTap c p z e) s = .next t ∧ Reaches c.ctx c.core s t := by
  simp only [exec, execReadTap]
  split
  · refine ⟨_, Reaches.quiet (x := c.ctx) (p := c.core) ?_, ?_⟩ <;>
      exact Reaches.ite ((Reaches.onCore c _ (fun _ => by simp [Core.sameRegs])).trans (Reaches.eccRead _ _ _ _))
        (Reaches.onCore c _ (fun _ => by simp [Core.sameRegs]))
  · exact ⟨_, rfl, Reaches.present c⟩

theorem writeTap_reaches (c : CoreRef) (p : BitVec 2) (z : TapField) (e : Ecc) (s : State) :
    ∃ t, exec (.writeTap c p z e) s = .next t ∧ Reaches c.ctx c.core s t := by
  have h : Reaches c.ctx c.core s (s.onCore c (fun k =>
      let w := if p = 3 then { k.work with recvTd := z.td.toNat } else k.work
      let w := if z.en then { w with writes := w.writes ++
        [{ port := p.toNat, td := z.td.toNat, inc := z.inc, lines := k.tapLines z.td.toNat, ecc := e }] } else w
      { k with work := w })) := Reaches.onCore c _ (fun _ => by simp [Core.sameRegs])
  exact ⟨_, Reaches.quiet (Reaches.ite (h.trans (Reaches.eccWrite c _ _)) h),
    Reaches.ite (h.trans (Reaches.eccWrite c _ _)) h⟩

theorem enter_reaches (c : CoreRef) (k : BitVec 2) (f : ArrayFields) (e : Ecc) (s : State) :
    ∃ t, exec (.enter c k f e) s = .next t ∧ Reaches c.ctx c.core s t :=
  ⟨_, rfl, Reaches.arrayRow _ _⟩

theorem shift_reaches (c : CoreRef) (k : BitVec 2) (f : ArrayFields) (e : Ecc) (s : State) :
    ∃ t, exec (.shift c k f e) s = .next t ∧ Reaches c.ctx c.core s t :=
  ⟨_, rfl, Reaches.arrayRow _ _⟩

theorem swap_reaches (c : CoreRef) (k : BitVec 2) (f : ArrayFields) (s : State) :
    ∃ t, exec (.swap c k f) s = .next t ∧ Reaches c.ctx c.core s t :=
  ⟨_, rfl, Reaches.arrayRow _ _⟩

theorem fadd_reaches (c : CoreRef) (f : VectorField) (s : State) :
    ∃ t, exec (.fadd c f) s = .next t ∧ Reaches c.ctx c.core s t :=
  ⟨_, rfl, Reaches.vecFloat _ _ _ _ _⟩

theorem fsub_reaches (c : CoreRef) (f : VectorField) (s : State) :
    ∃ t, exec (.fsub c f) s = .next t ∧ Reaches c.ctx c.core s t :=
  ⟨_, rfl, Reaches.vecFloat _ _ _ _ _⟩

theorem fmul_reaches (c : CoreRef) (f : VectorField) (s : State) :
    ∃ t, exec (.fmul c f) s = .next t ∧ Reaches c.ctx c.core s t :=
  ⟨_, rfl, Reaches.vecFloat _ _ _ _ _⟩

theorem fma_reaches (c : CoreRef) (f : VectorField) (s : State) :
    ∃ t, exec (.fma c f) s = .next t ∧ Reaches c.ctx c.core s t :=
  ⟨_, rfl, Reaches.vecFloat _ _ _ _ _⟩

theorem fnma_reaches (c : CoreRef) (f : VectorField) (s : State) :
    ∃ t, exec (.fnma c f) s = .next t ∧ Reaches c.ctx c.core s t :=
  ⟨_, rfl, Reaches.vecFloat _ _ _ _ _⟩

theorem fmin_reaches (c : CoreRef) (f : VectorField) (s : State) :
    ∃ t, exec (.fmin c f) s = .next t ∧ Reaches c.ctx c.core s t :=
  ⟨_, rfl, Reaches.vecFloat _ _ _ _ _⟩

theorem fmax_reaches (c : CoreRef) (f : VectorField) (s : State) :
    ∃ t, exec (.fmax c f) s = .next t ∧ Reaches c.ctx c.core s t :=
  ⟨_, rfl, Reaches.vecFloat _ _ _ _ _⟩

theorem fabs_reaches (c : CoreRef) (f : VectorField) (s : State) :
    ∃ t, exec (.fabs c f) s = .next t ∧ Reaches c.ctx c.core s t :=
  ⟨_, rfl, Reaches.vecFloat _ _ _ _ _⟩

theorem fneg_reaches (c : CoreRef) (f : VectorField) (s : State) :
    ∃ t, exec (.fneg c f) s = .next t ∧ Reaches c.ctx c.core s t :=
  ⟨_, rfl, Reaches.vecFloat _ _ _ _ _⟩

theorem fcpys_reaches (c : CoreRef) (f : VectorField) (s : State) :
    ∃ t, exec (.fcpys c f) s = .next t ∧ Reaches c.ctx c.core s t :=
  ⟨_, rfl, Reaches.vecFloat _ _ _ _ _⟩

theorem frint_reaches (c : CoreRef) (f : VectorField) (s : State) :
    ∃ t, exec (.frint c f) s = .next t ∧ Reaches c.ctx c.core s t :=
  ⟨_, rfl, Reaches.vecLanes _ _ _ _ _ _⟩

theorem fscale_reaches (c : CoreRef) (f : VectorField) (s : State) :
    ∃ t, exec (.fscale c f) s = .next t ∧ Reaches c.ctx c.core s t :=
  ⟨_, rfl, Reaches.vecLanes _ _ _ _ _ _⟩

theorem fexp_reaches (c : CoreRef) (f : VectorField) (s : State) :
    ∃ t, exec (.fexp c f) s = .next t ∧ Reaches c.ctx c.core s t :=
  ⟨_, rfl, Reaches.vecLanes _ _ _ _ _ _⟩

theorem fmant_reaches (c : CoreRef) (f : VectorField) (s : State) :
    ∃ t, exec (.fmant c f) s = .next t ∧ Reaches c.ctx c.core s t :=
  ⟨_, rfl, Reaches.vecLanes _ _ _ _ _ _⟩

theorem fceq_reaches (c : CoreRef) (f : VectorField) (s : State) :
    ∃ t, exec (.fceq c f) s = .next t ∧ Reaches c.ctx c.core s t :=
  ⟨_, rfl, Reaches.vecCompare _ _ _ _ _⟩

theorem fclt_reaches (c : CoreRef) (f : VectorField) (s : State) :
    ∃ t, exec (.fclt c f) s = .next t ∧ Reaches c.ctx c.core s t :=
  ⟨_, rfl, Reaches.vecCompare _ _ _ _ _⟩

theorem fcle_reaches (c : CoreRef) (f : VectorField) (s : State) :
    ∃ t, exec (.fcle c f) s = .next t ∧ Reaches c.ctx c.core s t :=
  ⟨_, rfl, Reaches.vecCompare _ _ _ _ _⟩

theorem fcun_reaches (c : CoreRef) (f : VectorField) (s : State) :
    ∃ t, exec (.fcun c f) s = .next t ∧ Reaches c.ctx c.core s t :=
  ⟨_, rfl, Reaches.vecCompare _ _ _ _ _⟩

theorem fclass_reaches (c : CoreRef) (f : VectorField) (s : State) :
    ∃ t, exec (.fclass c f) s = .next t ∧ Reaches c.ctx c.core s t :=
  ⟨_, rfl, Reaches.vecCompare _ _ _ _ _⟩

theorem iceq_reaches (c : CoreRef) (f : VectorField) (s : State) :
    ∃ t, exec (.iceq c f) s = .next t ∧ Reaches c.ctx c.core s t :=
  ⟨_, rfl, Reaches.vecCompare _ _ _ _ _⟩

theorem iclt_reaches (c : CoreRef) (f : VectorField) (s : State) :
    ∃ t, exec (.iclt c f) s = .next t ∧ Reaches c.ctx c.core s t :=
  ⟨_, rfl, Reaches.vecCompare _ _ _ _ _⟩

theorem icltu_reaches (c : CoreRef) (f : VectorField) (s : State) :
    ∃ t, exec (.icltu c f) s = .next t ∧ Reaches c.ctx c.core s t :=
  ⟨_, rfl, Reaches.vecCompare _ _ _ _ _⟩

theorem sel_reaches (c : CoreRef) (f : VectorField) (s : State) :
    ∃ t, exec (.sel c f) s = .next t ∧ Reaches c.ctx c.core s t :=
  ⟨_, rfl, Reaches.vecOp _ _ _ _ _ _⟩

theorem kand_reaches (c : CoreRef) (f : VectorField) (s : State) :
    ∃ t, exec (.kand c f) s = .next t ∧ Reaches c.ctx c.core s t :=
  ⟨_, rfl, Reaches.vecMask _ _ _⟩

theorem kor_reaches (c : CoreRef) (f : VectorField) (s : State) :
    ∃ t, exec (.kor c f) s = .next t ∧ Reaches c.ctx c.core s t :=
  ⟨_, rfl, Reaches.vecMask _ _ _⟩

theorem kxor_reaches (c : CoreRef) (f : VectorField) (s : State) :
    ∃ t, exec (.kxor c f) s = .next t ∧ Reaches c.ctx c.core s t :=
  ⟨_, rfl, Reaches.vecMask _ _ _⟩

theorem knot_reaches (c : CoreRef) (f : VectorField) (s : State) :
    ∃ t, exec (.knot c f) s = .next t ∧ Reaches c.ctx c.core s t :=
  ⟨_, rfl, Reaches.vecMask _ _ _⟩

theorem iadd_reaches (c : CoreRef) (f : VectorField) (s : State) :
    ∃ t, exec (.iadd c f) s = .next t ∧ Reaches c.ctx c.core s t :=
  ⟨_, rfl, Reaches.vecInt _ _ _ _⟩

theorem isub_reaches (c : CoreRef) (f : VectorField) (s : State) :
    ∃ t, exec (.isub c f) s = .next t ∧ Reaches c.ctx c.core s t :=
  ⟨_, rfl, Reaches.vecInt _ _ _ _⟩

theorem imul_reaches (c : CoreRef) (f : VectorField) (s : State) :
    ∃ t, exec (.imul c f) s = .next t ∧ Reaches c.ctx c.core s t :=
  ⟨_, rfl, Reaches.vecInt _ _ _ _⟩

theorem iand_reaches (c : CoreRef) (f : VectorField) (s : State) :
    ∃ t, exec (.iand c f) s = .next t ∧ Reaches c.ctx c.core s t :=
  ⟨_, rfl, Reaches.vecInt _ _ _ _⟩

theorem ior_reaches (c : CoreRef) (f : VectorField) (s : State) :
    ∃ t, exec (.ior c f) s = .next t ∧ Reaches c.ctx c.core s t :=
  ⟨_, rfl, Reaches.vecInt _ _ _ _⟩

theorem ixor_reaches (c : CoreRef) (f : VectorField) (s : State) :
    ∃ t, exec (.ixor c f) s = .next t ∧ Reaches c.ctx c.core s t :=
  ⟨_, rfl, Reaches.vecInt _ _ _ _⟩

theorem ishl_reaches (c : CoreRef) (f : VectorField) (s : State) :
    ∃ t, exec (.ishl c f) s = .next t ∧ Reaches c.ctx c.core s t :=
  ⟨_, rfl, Reaches.vecInt _ _ _ _⟩

theorem ishr_reaches (c : CoreRef) (f : VectorField) (s : State) :
    ∃ t, exec (.ishr c f) s = .next t ∧ Reaches c.ctx c.core s t :=
  ⟨_, rfl, Reaches.vecInt _ _ _ _⟩

theorem isar_reaches (c : CoreRef) (f : VectorField) (s : State) :
    ∃ t, exec (.isar c f) s = .next t ∧ Reaches c.ctx c.core s t :=
  ⟨_, rfl, Reaches.vecInt _ _ _ _⟩

theorem imin_reaches (c : CoreRef) (f : VectorField) (s : State) :
    ∃ t, exec (.imin c f) s = .next t ∧ Reaches c.ctx c.core s t :=
  ⟨_, rfl, Reaches.vecInt _ _ _ _⟩

theorem imax_reaches (c : CoreRef) (f : VectorField) (s : State) :
    ∃ t, exec (.imax c f) s = .next t ∧ Reaches c.ctx c.core s t :=
  ⟨_, rfl, Reaches.vecInt _ _ _ _⟩

theorem umin_reaches (c : CoreRef) (f : VectorField) (s : State) :
    ∃ t, exec (.umin c f) s = .next t ∧ Reaches c.ctx c.core s t :=
  ⟨_, rfl, Reaches.vecInt _ _ _ _⟩

theorem umax_reaches (c : CoreRef) (f : VectorField) (s : State) :
    ∃ t, exec (.umax c f) s = .next t ∧ Reaches c.ctx c.core s t :=
  ⟨_, rfl, Reaches.vecInt _ _ _ _⟩

theorem mov_reaches (c : CoreRef) (f : VectorField) (s : State) :
    ∃ t, exec (.mov c f) s = .next t ∧ Reaches c.ctx c.core s t :=
  ⟨_, rfl, Reaches.vecLanes _ _ _ _ _ _⟩

theorem vecMovi_reaches (c : CoreRef) (f : VectorField) (s : State) :
    ∃ t, exec (.vecMovi c f) s = .next t ∧ Reaches c.ctx c.core s t :=
  ⟨_, rfl, Reaches.vecLanes _ _ _ _ _ _⟩

theorem laneid_reaches (c : CoreRef) (f : VectorField) (s : State) :
    ∃ t, exec (.laneid c f) s = .next t ∧ Reaches c.ctx c.core s t :=
  ⟨_, rfl, Reaches.vecOp _ _ _ _ _ _⟩

theorem vrotl_reaches (c : CoreRef) (f : VectorField) (s : State) :
    ∃ t, exec (.vrotl c f) s = .next t ∧ Reaches c.ctx c.core s t :=
  ⟨_, rfl, Reaches.vecOp _ _ _ _ _ _⟩

theorem vlbc_reaches (c : CoreRef) (f : VectorField) (s : State) :
    ∃ t, exec (.vlbc c f) s = .next t ∧ Reaches c.ctx c.core s t :=
  ⟨_, rfl, Reaches.vecOp _ _ _ _ _ _⟩

theorem cvtf_reaches (c : CoreRef) (f : VectorField) (s : State) :
    ∃ t, exec (.cvtf c f) s = .next t ∧ Reaches c.ctx c.core s t :=
  ⟨_, rfl, Reaches.vecOp _ _ _ _ _ _⟩

theorem cvtw_reaches (c : CoreRef) (f : VectorField) (s : State) :
    ∃ t, exec (.cvtw c f) s = .next t ∧ Reaches c.ctx c.core s t :=
  ⟨_, rfl, Reaches.vecOp _ _ _ _ _ _⟩

theorem cvtmx_reaches (c : CoreRef) (f : VectorField) (s : State) :
    ∃ t, exec (.cvtmx c f) s = .next t ∧ Reaches c.ctx c.core s t :=
  ⟨_, rfl, Reaches.vecOp _ _ _ _ _ _⟩

theorem cvtwmx_reaches (c : CoreRef) (f : VectorField) (s : State) :
    ∃ t, exec (.cvtwmx c f) s = .next t ∧ Reaches c.ctx c.core s t :=
  ⟨_, rfl, Reaches.vecOp _ _ _ _ _ _⟩

theorem ftoi_reaches (c : CoreRef) (f : VectorField) (s : State) :
    ∃ t, exec (.ftoi c f) s = .next t ∧ Reaches c.ctx c.core s t :=
  ⟨_, rfl, Reaches.vecLanes _ _ _ _ _ _⟩

theorem itof_reaches (c : CoreRef) (f : VectorField) (s : State) :
    ∃ t, exec (.itof c f) s = .next t ∧ Reaches c.ctx c.core s t :=
  ⟨_, rfl, Reaches.vecLanes _ _ _ _ _ _⟩

theorem vtail_reaches (c : CoreRef) (f : VectorField) (s : State) :
    ∃ t, exec (.vtail c f) s = .next t ∧ Reaches c.ctx c.core s t :=
  ⟨_, rfl, Reaches.vecOp _ _ _ _ _ _⟩

theorem vtailu_reaches (c : CoreRef) (f : VectorField) (s : State) :
    ∃ t, exec (.vtailu c f) s = .next t ∧ Reaches c.ctx c.core s t :=
  ⟨_, rfl, Reaches.vecOp _ _ _ _ _ _⟩

theorem rfsum_reaches (c : CoreRef) (f : VectorField) (s : State) :
    ∃ t, exec (.rfsum c f) s = .next t ∧ Reaches c.ctx c.core s t :=
  ⟨_, rfl, Reaches.vecReduce _ _ _ _ _⟩

theorem rfmax_reaches (c : CoreRef) (f : VectorField) (s : State) :
    ∃ t, exec (.rfmax c f) s = .next t ∧ Reaches c.ctx c.core s t :=
  ⟨_, rfl, Reaches.vecReduce _ _ _ _ _⟩

theorem rfmin_reaches (c : CoreRef) (f : VectorField) (s : State) :
    ∃ t, exec (.rfmin c f) s = .next t ∧ Reaches c.ctx c.core s t :=
  ⟨_, rfl, Reaches.vecReduce _ _ _ _ _⟩

theorem risum_reaches (c : CoreRef) (f : VectorField) (s : State) :
    ∃ t, exec (.risum c f) s = .next t ∧ Reaches c.ctx c.core s t :=
  ⟨_, rfl, Reaches.vecReduce _ _ _ _ _⟩

theorem rusum_reaches (c : CoreRef) (f : VectorField) (s : State) :
    ∃ t, exec (.rusum c f) s = .next t ∧ Reaches c.ctx c.core s t :=
  ⟨_, rfl, Reaches.vecReduce _ _ _ _ _⟩

theorem rimax_reaches (c : CoreRef) (f : VectorField) (s : State) :
    ∃ t, exec (.rimax c f) s = .next t ∧ Reaches c.ctx c.core s t :=
  ⟨_, rfl, Reaches.vecReduce _ _ _ _ _⟩

theorem rimin_reaches (c : CoreRef) (f : VectorField) (s : State) :
    ∃ t, exec (.rimin c f) s = .next t ∧ Reaches c.ctx c.core s t :=
  ⟨_, rfl, Reaches.vecReduce _ _ _ _ _⟩

theorem rand_reaches (c : CoreRef) (f : VectorField) (s : State) :
    ∃ t, exec (.rand c f) s = .next t ∧ Reaches c.ctx c.core s t :=
  ⟨_, rfl, Reaches.vecReduce _ _ _ _ _⟩

theorem ror_reaches (c : CoreRef) (f : VectorField) (s : State) :
    ∃ t, exec (.ror c f) s = .next t ∧ Reaches c.ctx c.core s t :=
  ⟨_, rfl, Reaches.vecReduce _ _ _ _ _⟩

theorem rargmax_reaches (c : CoreRef) (f : VectorField) (s : State) :
    ∃ t, exec (.rargmax c f) s = .next t ∧ Reaches c.ctx c.core s t :=
  ⟨_, rfl, Reaches.vecReduce _ _ _ _ _⟩

theorem rkcnt_reaches (c : CoreRef) (f : VectorField) (s : State) :
    ∃ t, exec (.rkcnt c f) s = .next t ∧ Reaches c.ctx c.core s t :=
  ⟨_, rfl, Reaches.vecReduce _ _ _ _ _⟩

theorem vectorLoad_reaches (c : CoreRef) (r : BitVec 6) (s : State) :
    ∃ t, exec (.vectorLoad c r) s = .next t ∧ Reaches c.ctx c.core s t :=
  ⟨_, rfl, Reaches.onCore c _ (fun _ => by simp [Core.sameRegs])⟩

theorem vectorStore_reaches (c : CoreRef) (r : BitVec 6) (s : State) :
    ∃ t, exec (.vectorStore c r) s = .next t ∧ Reaches c.ctx c.core s t :=
  ⟨_, rfl, Reaches.onCore c _ (fun _ => by simp [Core.sameRegs])⟩

theorem dramToCore_reaches (c : CoreRef) (sd : BitVec 8) (s : State) :
    ∃ t, exec (.dramToCore c sd) s = .next t ∧ Reaches c.ctx c.core s t :=
  ⟨_, rfl, Reaches.issueRow _ _ _⟩

theorem coreToDram_reaches (c : CoreRef) (sd : BitVec 8) (s : State) :
    ∃ t, exec (.coreToDram c sd) s = .next t ∧ Reaches c.ctx c.core s t :=
  ⟨_, rfl, Reaches.issueRow _ _ _⟩

theorem baseToCore_reaches (c : CoreRef) (sd : BitVec 8) (s : State) :
    ∃ t, exec (.baseToCore c sd) s = .next t ∧ Reaches c.ctx c.core s t :=
  ⟨_, rfl, Reaches.issueRow _ _ _⟩

theorem coreToBase_reaches (c : CoreRef) (sd : BitVec 8) (s : State) :
    ∃ t, exec (.coreToBase c sd) s = .next t ∧ Reaches c.ctx c.core s t :=
  ⟨_, rfl, Reaches.issueRow _ _ _⟩

theorem dramToBase_reaches (c : CoreRef) (sd : BitVec 8) (s : State) :
    ∃ t, exec (.dramToBase c sd) s = .next t ∧ Reaches c.ctx c.core s t :=
  ⟨_, rfl, Reaches.issueRow _ _ _⟩

theorem baseToDram_reaches (c : CoreRef) (sd : BitVec 8) (s : State) :
    ∃ t, exec (.baseToDram c sd) s = .next t ∧ Reaches c.ctx c.core s t :=
  ⟨_, rfl, Reaches.issueRow _ _ _⟩

theorem comet_reaches (c : CoreRef) (sd : BitVec 8) (s : State) :
    ∃ t, exec (.comet c sd) s = .next t ∧ Reaches c.ctx c.core s t :=
  ⟨_, rfl, Reaches.issueRow _ _ _⟩

theorem send_reaches (c : CoreRef) (sep : BitVec 4) (s : State) :
    ∃ t, exec (.send c sep) s = .next t ∧ Reaches c.ctx c.core s t :=
  ⟨_, rfl, Reaches.onCore c _ (fun _ => by simp [Core.sameRegs])⟩

theorem elast_reaches (c : CoreRef) (sep : BitVec 4) (token : BitVec 16) (s : State) :
    ∃ t, exec (.elast c sep token) s = .next t ∧ Reaches c.ctx c.core s t :=
  ⟨_, rfl, Reaches.onCore c _ (fun _ => by simp [Core.sameRegs])⟩

theorem recv_reaches (c : CoreRef) (rep : BitVec 4) (e : Ecc) (s : State) :
    ∃ t, exec (.recv c rep e) s = .next t ∧ Reaches c.ctx c.core s t := by
  have h : Reaches c.ctx c.core s (s.onCore c (fun k => { k with work := { k.work with recv := some rep.toNat } })) :=
    Reaches.onCore c _ (fun _ => by simp [Core.sameRegs])
  exact ⟨_, Reaches.quiet (Reaches.ite (h.trans (Reaches.chanEcc c e)) h),
    Reaches.ite (h.trans (Reaches.chanEcc c e)) h⟩

theorem semopAdd_reaches (c : CoreRef) (n : BitVec 6) (v : BitVec 16) (s : State) :
    ∃ t, exec (.semopAdd c n v) s = .next t ∧ Reaches c.ctx c.core s t :=
  ⟨_, rfl, Reaches.semop _ _ _⟩

theorem semopSub_reaches (c : CoreRef) (n : BitVec 6) (v : BitVec 16) (s : State) :
    ∃ t, exec (.semopSub c n v) s = .next t ∧ Reaches c.ctx c.core s t :=
  ⟨_, rfl, Reaches.semop _ _ _⟩

end Sys2Proof.Machine
end

