-- ==== Sys2Proof/Laws/Service.lean ====
section
/-! SUPPORT. The service of a mailbox command: what its row comes to where the slot is served and the gate accepts. -/
namespace Sys2Proof.Machine
open Sys2Proof
variable {s : State} {m : Nat} {q : Cmd} {k : CmdSpec}

@[simp] theorem State.slot_modSlot_self (s : State) (m : Nat) (f : Slot → Slot) : (s.modSlot m f).slot m = f (s.slot m) := by
  simp [State.modSlot, State.setSlot, State.slot]

theorem State.leaseCheck_idle (h : ∀ o, s.mbox.owner = some o → s.now < s.mbox.leaseEnd) : s.leaseCheck = s := by
  unfold State.leaseCheck
  split
  · rfl
  · rename_i o ho
    rw [if_pos (h o ho)]

theorem State.electionCheck_idle (h : ∀ t, s.mbox.election = some t → s.now < t) : s.electionCheck = s := by
  unfold State.electionCheck
  split
  · rfl
  · rename_i t ht
    rw [if_pos (h t ht)]

/-- With no lease and no election due, the timers do nothing. -/
theorem State.mboxTimers_idle (h : ∀ o, s.mbox.owner = some o → s.now < s.mbox.leaseEnd)
    (g : ∀ t, s.mbox.election = some t → s.now < t) : s.mboxTimers = s := by
  unfold State.mboxTimers
  rw [State.leaseCheck_idle h, State.electionCheck_idle g]

theorem State.isOwner_entered (s : State) (m : Nat) (q : Cmd) (op : Nat) :
    (s.entered m q op).isOwner m = s.isOwner m := by
  unfold State.entered State.renew
  split
  · rename_i h
    have h' : s.isOwner m = true := h
    rw [h']
    simp only [State.isOwner, State.owner] at h' ⊢
    split at h'
    · rename_i hl
      have : s.mbox.owner = some m := by simpa using h'
      show decide ((if s.now < s.now + 2000000000 then s.mbox.owner else none) = some m) = true
      simp [this]
    · simp at h'
  · rfl

/-- The gate sees at the start of service what it sees of the state before. -/
theorem State.gate_entered (s : State) (m : Nat) (q : Cmd) (op : Nat) : (s.entered m q op).gate m q k = s.gate m q k := by
  have b : (s.entered m q op).boot = s.boot := by
    unfold State.entered State.renew
    split <;> rfl
  unfold State.gate State.servedFor
  rw [b, State.isOwner_entered]

/-- Whether a path has trained rests on what a posted command leaves alone. -/
theorem State.pathTrained_post (s : State) (m n : Nat) (b : List Byte) : (s.post n b).pathTrained m = s.pathTrained m := by
  have h : ((s.post n b).slot m).bound = (s.slot m).bound ∧ ((s.post n b).slot m).transport = (s.slot m).transport ∧
      ((s.post n b).slot m).port = (s.slot m).port := by
    by_cases e : m = n
    · subst e
      simp [State.post]
    · simp [State.post, State.modSlot, State.setSlot, State.slot, Tab.get_set, e]
  unfold State.pathTrained
  simp only [h]
  rfl

theorem State.servesSlot_post (s : State) (m n : Nat) (b : List Byte) : (s.post n b).servesSlot m = s.servesSlot m := by
  unfold State.servesSlot
  rw [State.pathTrained_post]
  rfl

/-- A served command comes to its own effect and its answer. -/
theorem Serves.serve (h : Serves s m q k) (body : State → State × Reply)
    (ha : ((body (s.entered m q k.op)).1.slot m).agent = ((s.entered m q k.op).slot m).agent)
    (hb : ((body (s.entered m q k.op)).1.slot m).bound = ((s.entered m q k.op).slot m).bound) :
    s.serve m q k body =
      (body (s.entered m q k.op)).1.respond m q.seq (body (s.entered m q k.op)).2 := by
  have e : (((s.post m (cmdBytes q k.op)).modSlot m (fun v => { v with posted := false })).mboxTimers).renew m =
      s.entered m q k.op := by
    rw [State.mboxTimers_idle (by exact h.lease) (by exact h.election)]
    rfl
  have sv : (s.post m (cmdBytes q k.op)).servesSlot m = true := by rw [State.servesSlot_post]; exact h.served
  have hm : ¬ 8 ≤ m := by have := h.slot; omega
  unfold State.serve
  simp only [h.runs, h.free, sv, hm, e, State.gate_entered, h.gate, Bool.not_true, decide_false, Bool.or_false,
    Bool.false_eq_true, if_false, if_true]
  simp [ha, hb]

@[simp] theorem State.respond_mem (s : State) (m n : Nat) (r : Reply) : (s.respond m n r).mem = s.mem := by
  unfold State.respond State.message
  split <;> rfl
@[simp] theorem State.respond_pending (s : State) (m n : Nat) (r : Reply) : (s.respond m n r).pending = s.pending := by
  unfold State.respond State.message
  split <;> rfl
@[simp] theorem State.entered_mem (s : State) (m : Nat) (q : Cmd) (op : Nat) : (s.entered m q op).mem = s.mem := by
  unfold State.entered State.renew
  split <;> rfl
@[simp] theorem State.entered_pending (s : State) (m : Nat) (q : Cmd) (op : Nat) :
    (s.entered m q op).pending = s.pending := by
  unfold State.entered State.renew
  split <;> rfl

/-- A result with the queue and the memory of the state before it is what `quiet` answers. -/
theorem quiet_eq {s t : State} (h : t.pending = s.pending) (g : t.mem = s.mem) : quiet s t = .next t := by
  have e : { t with pending := s.pending, mem := s.mem } = t := by rw [← h, ← g]
  simp [quiet, e]

theorem done_eq {s t : State} (h : t.pending = s.pending) : done s t = .next t := by
  have e : { t with pending := s.pending } = t := by rw [← h]
  simp [done, e]

/-- A served command that writes no memory completes with its effect and its answer. -/
theorem Serves.quiet (h : Serves s m q k) (body : State → State × Reply)
    (ha : ((body (s.entered m q k.op)).1.slot m).agent = ((s.entered m q k.op).slot m).agent)
    (hb : ((body (s.entered m q k.op)).1.slot m).bound = ((s.entered m q k.op).slot m).bound)
    (hp : (body (s.entered m q k.op)).1.pending = s.pending)
    (hw : (body (s.entered m q k.op)).1.mem = s.mem) :
    Machine.quiet s (s.serve m q k body) =
      .next ((body (s.entered m q k.op)).1.respond m q.seq (body (s.entered m q k.op)).2) := by
  rw [h.serve body ha hb]
  exact quiet_eq (by simp [hp]) (by simp [hw])

/-- A served command that answers with a record. -/
theorem Serves.report {op arg : Nat} {early : Bool} (payload : State → List Byte)
    (h : Serves s m q { op, who := .all, early, arg }) :
    s.report m q op arg early payload =
      .next ((s.entered m q op).respond m q.seq { payload := payload (s.entered m q op) }) :=
  h.quiet _ rfl rfl (by simp) (by simp)

/-- What is read after a command's service: its answer, in a free slot. -/
theorem State.respond_slot (s : State) (m n : Nat) (r : Reply) :
    ((s.respond m n r).slot m).response = r.bytes n ∧ ((s.respond m n r).slot m).respValid = true ∧
    ((s.respond m n r).slot m).busy = false := by
  have e : (s.respond m n r).slot m = (s.modSlot m (fun v => { v with
      response := r.bytes n, respValid := true, lastSeq := n, posted := false, inService := false, parked := none,
      claim := none })).slot m := by
    unfold State.respond State.message
    split <;> rfl
  rw [e]
  simp [Slot.busy]

end Sys2Proof.Machine
end

