-- ==== Sys2Proof/WellFormed.lean ====
section
/-! DEFINITION. When a command is well formed: each operand lies in the range the spec gives what it names. The
meanings are total; an ill-formed command names nothing the part has. -/
namespace Sys2Proof

/-- A context x0-x15 (01 R20). -/
def ctxOk (x : Nat) : Bool := decide (x < 16)
/-- A mailbox slot m0-m7 (13 R347). -/
def slotOk (m : Nat) : Bool := decide (m < 8)
/-- A link port p0-p19 (12 R302). -/
def portOk (p : Nat) : Bool := decide (p < 20)
/-- A DRAM stack d0-d15 (02 R43). -/
def stackOk (d : Nat) : Bool := decide (d < 16)
/-- A channel of a stack (08 R195). -/
def channelOk (ch : Nat) : Bool := decide (ch < 128)
/-- A value of the 64-bit tick counter (11 R292). -/
def tickOk (t : Nat) : Bool := decide (t < 2 ^ 64)
/-- A context and one of the at most 1,152 program cores (01 R18). -/
def CoreRef.valid (c : CoreRef) : Bool := ctxOk c.ctx && decide (c.core < 1152)
/-- A command's header: SEQ, CONTEXT and LEN in their ranges (13 R350). -/
def Cmd.valid (q : Cmd) : Bool := decide (q.seq < 256) && ctxOk q.ctx && decide (q.payload.length ≤ 4080)
/-- A word of a line: eight of 64 bits (07 R178). -/
def Ecc.valid (e : Ecc) : Bool := e.ue.all (fun u => decide (u.2 < 8))
/-- A maintenance frame's finding. -/
def MaintWork.valid : MaintWork → Bool
  | .refresh => true
  | .mailbox => true
  | .calibration => true
  | .scrub e => e.valid
/-- A mirror item's fields in the ranges of its entry (15 R463). -/
def MirrorItem.valid : MirrorItem → Bool
  | .checkpoint _ _ _ => true
  | .admitted _ step pcore endpoint _ index token _ => decide (step < 2 ^ 48) && decide (pcore < 1152) &&
      decide (endpoint < 16) && decide (index < 64) && decide (token < 65536)
  | .boundary _ patch => decide (patch.length ≤ 64)
  | .intervention _ step kind pcore payload =>
    decide (step < 2 ^ 48) && decide (kind < 256) && decide (pcore < 2048) && decide (payload.length = 216)
  | .ledgerEntry _ entry => decide (entry.length = 256)
  | .sealHeader _ _ => true
  | .orbitEnd _ record => decide (record.length = 256)
/-- A stage names physical cores: 80 of each of 16 sites (02 R44). -/
def StageReport.valid (r : StageReport) : Bool := r.failed.all (fun c => decide (c < 1280))

/-- Every operand is in range. -/
def Instr.wellFormed : Instr → Bool
  | .idleBundle f => f.core.valid && f.ecc.valid
  | .brk c => c.valid
  | .rdv c _ => c.valid
  | .fence c => c.valid
  | .rdvFence c _ => c.valid
  | .orbitEnd c => c.valid
  | .rendezvousRelease x => ctxOk x
  | .fenceRelease x => ctxOk x
  | .orbitBoundary x => ctxOk x
  | .jmp c _ => c.valid
  | .loop c _ => c.valid
  | .ubr c _ => c.valid
  | .fbr c _ => c.valid
  | .armend c => c.valid
  | .armCut c => c.valid
  | .add c _ => c.valid
  | .sub c _ => c.valid
  | .mul c _ => c.valid
  | .and c _ => c.valid
  | .or c _ => c.valid
  | .xor c _ => c.valid
  | .shl c _ => c.valid
  | .shr c _ => c.valid
  | .sar c _ => c.valid
  | .min c _ => c.valid
  | .max c _ => c.valid
  | .minu c _ => c.valid
  | .maxu c _ => c.valid
  | .slt c _ => c.valid
  | .sltu c _ => c.valid
  | .seq c _ => c.valid
  | .csel c _ => c.valid
  | .movi c _ => c.valid
  | .movhi c _ => c.valid
  | .rdpar c _ => c.valid
  | .wrpar c _ => c.valid
  | .rdstep c _ => c.valid
  | .rdorbit c _ => c.valid
  | .rdpci c _ => c.valid
  | .rdncore c _ => c.valid
  | .rdsem c _ => c.valid
  | .rdbrk c _ => c.valid
  | .reduce c _ => c.valid
  | .rdwire c _ => c.valid
  | .lcset c _ => c.valid
  | .tapset c _ => c.valid
  | .tail c _ => c.valid
  | .readTap c _ _ e => c.valid && e.valid
  | .writeTap c _ _ e => c.valid && e.valid
  | .coreMemWriteVisible c => c.valid
  | .pipelineResult c e => c.valid && e.valid
  | .wireLanding x => ctxOk x
  | .enter c _ _ e => c.valid && e.valid
  | .shift c _ _ e => c.valid && e.valid
  | .swap c _ _ => c.valid
  | .operandBufferLanding c => c.valid
  | .arrayOutput c => c.valid
  | .fadd c _ => c.valid
  | .fsub c _ => c.valid
  | .fmul c _ => c.valid
  | .fma c _ => c.valid
  | .fnma c _ => c.valid
  | .fmin c _ => c.valid
  | .fmax c _ => c.valid
  | .fabs c _ => c.valid
  | .fneg c _ => c.valid
  | .fcpys c _ => c.valid
  | .frint c _ => c.valid
  | .fscale c _ => c.valid
  | .fexp c _ => c.valid
  | .fmant c _ => c.valid
  | .fceq c _ => c.valid
  | .fclt c _ => c.valid
  | .fcle c _ => c.valid
  | .fcun c _ => c.valid
  | .fclass c _ => c.valid
  | .iceq c _ => c.valid
  | .iclt c _ => c.valid
  | .icltu c _ => c.valid
  | .sel c _ => c.valid
  | .kand c _ => c.valid
  | .kor c _ => c.valid
  | .kxor c _ => c.valid
  | .knot c _ => c.valid
  | .iadd c _ => c.valid
  | .isub c _ => c.valid
  | .imul c _ => c.valid
  | .iand c _ => c.valid
  | .ior c _ => c.valid
  | .ixor c _ => c.valid
  | .ishl c _ => c.valid
  | .ishr c _ => c.valid
  | .isar c _ => c.valid
  | .imin c _ => c.valid
  | .imax c _ => c.valid
  | .umin c _ => c.valid
  | .umax c _ => c.valid
  | .mov c _ => c.valid
  | .vecMovi c _ => c.valid
  | .laneid c _ => c.valid
  | .vrotl c _ => c.valid
  | .vlbc c _ => c.valid
  | .cvtf c _ => c.valid
  | .cvtw c _ => c.valid
  | .cvtmx c _ => c.valid
  | .cvtwmx c _ => c.valid
  | .ftoi c _ => c.valid
  | .itof c _ => c.valid
  | .vtail c _ => c.valid
  | .vtailu c _ => c.valid
  | .rfsum c _ => c.valid
  | .rfmax c _ => c.valid
  | .rfmin c _ => c.valid
  | .risum c _ => c.valid
  | .rusum c _ => c.valid
  | .rimax c _ => c.valid
  | .rimin c _ => c.valid
  | .rand c _ => c.valid
  | .ror c _ => c.valid
  | .rargmax c _ => c.valid
  | .rkcnt c _ => c.valid
  | .vectorLoad c _ => c.valid
  | .vectorStore c _ => c.valid
  | .dramToCore c _ => c.valid
  | .coreToDram c _ => c.valid
  | .baseToCore c _ => c.valid
  | .coreToBase c _ => c.valid
  | .dramToBase c _ => c.valid
  | .baseToDram c _ => c.valid
  | .comet c _ => c.valid
  | .dramSlot d ch e => stackOk d && channelOk ch && e.valid
  | .maintenanceFrame d ch w => stackOk d && channelOk ch && w.valid
  | .dramLineLands d _ t => stackOk d && tickOk t
  | .dramWriteCommit d _ => stackOk d
  | .stagingDeparture x => ctxOk x
  | .baseLineLands x => ctxOk x
  | .baseBankAccess x e => ctxOk x && e.all (·.valid)
  | .baseScrubSlot q bank e => decide (q < 4) && decide (bank < 128) && e.valid
  | .transitLineArrival x => ctxOk x
  | .send c _ => c.valid
  | .elast c _ _ => c.valid
  | .recv c _ e => c.valid && e.valid
  | .semopAdd c _ _ => c.valid
  | .semopSub c _ _ => c.valid
  | .chanLinesArrive x => ctxOk x
  | .entryHeaderArrive x => ctxOk x
  | .lockedCreditReturn x => ctxOk x
  | .stall x t => ctxOk x && tickOk t
  | .deadlineMiss x t => ctxOk x && tickOk t
  | .waitMiss x t => ctxOk x && tickOk t
  | .orbitAbandon x => ctxOk x
  | .beat d _ => decide (d < 20)
  | .paceSwitch t => tickOk t
  | .oscTrim d _ => decide (d < 20)
  | .dramRetrain d t => stackOk d && tickOk t
  | .linkAdaptation p t => portOk p && tickOk t
  | .powerCapControl _ t => tickOk t
  | .timeReqSend t ps => tickOk t && decide (ps < 1000)
  | .timeReq p _ t ps => portOk p && tickOk t && decide (ps < 1000)
  | .timeResp p _ t ps => portOk p && tickOk t && decide (ps < 1000)
  | .timeHoldover t => tickOk t
  | .portTrainingStart p => portOk p
  | .signalLock p _ => portOk p
  | .equalisationDone p _ => portOk p
  | .frameLock p _ _ _ => portOk p
  | .dwellEnd p own partner t => portOk p && decide (own.length = 9) && decide (partner.length = 9) && tickOk t
  | .retrainDelayExpiry p t => portOk p && tickOk t
  | .laneBerCheck p errors t => portOk p && decide (errors.length = 9) && tickOk t
  | .dataFrameGroup p _ heads payloads t =>
    portOk p && decide (heads.length ≤ 8) && decide (payloads.length = heads.length)
      && heads.all (fun h => h.extractLsb' 12 2 == 0#2) && payloads.all (fun l => decide (l.length = 10)) && tickOk t
  | .idleFrameGroup p g t => portOk p && g.head.extractLsb' 12 2 == 1#2 && tickOk t
  | .calibrationGroup p => portOk p
  | .fseqGapTimeout p => portOk p
  | .heartbeatSend p t => portOk p && tickOk t
  | .portSilent p t => portOk p && tickOk t
  | .absenceReturnBy p t => portOk p && tickOk t
  | .entryEnd p _ => portOk p
  | .entryCredit p _ => portOk p
  | .openFlit p _ => portOk p
  | .openAck p _ => portOk p
  | .closeFlit p _ => portOk p
  | .breakFlit p _ => portOk p
  | .mgmt p f => portOk p && decide (f.tag < 65536)
  | .faultFront p _ => portOk p
  | .absence p _ => portOk p
  | .remoteRd p _ => portOk p
  | .calFlit p _ => portOk p
  | .refclkLoss t => tickOk t
  | .mctpMessage _ _ => true
  | .pldmRequest r => match r with | .fru => true | .sensor i => decide (i ≤ 40)
  | .electionClose t => tickOk t
  | .leaseExpiry t => tickOk t
  | .parkedReadServed m => slotOk m
  | .parkedReadTimeout m t => slotOk m && tickOk t
  | .nopCmd m q => slotOk m && q.valid
  | .claim m q => slotOk m && q.valid
  | .renew m q => slotOk m && q.valid
  | .handover m q => slotOk m && q.valid
  | .releaseOwner m q => slotOk m && q.valid
  | .ownerRead m q => slotOk m && q.valid
  | .settingRead m q => slotOk m && q.valid
  | .settingWrite m q => slotOk m && q.valid
  | .beginTxn m q => slotOk m && q.valid
  | .setStage m q => slotOk m && q.valid
  | .commitBoundary m q => slotOk m && q.valid
  | .commitTick m q => slotOk m && q.valid
  | .txnApplyTick t => tickOk t
  | .rollback m q => slotOk m && q.valid
  | .txnRead m q => slotOk m && q.valid
  | .contextCreate m q => slotOk m && q.valid
  | .contextZeroed x => ctxOk x
  | .contextDestroy m q => slotOk m && q.valid
  | .contextStart m q => slotOk m && q.valid
  | .contextStop m q => slotOk m && q.valid
  | .evict m q => slotOk m && q.valid
  | .patchStage m q => slotOk m && q.valid
  | .jobOpen m q => slotOk m && q.valid
  | .jobClose m q => slotOk m && q.valid
  | .imageLoad m q => slotOk m && q.valid
  | .imageReceived x => ctxOk x
  | .weightLoad m q => slotOk m && q.valid
  | .weightSwap m q => slotOk m && q.valid
  | .anchorInstall m q => slotOk m && q.valid
  | .anchorTableRead m q => slotOk m && q.valid
  | .anchorRemove m q => slotOk m && q.valid
  | .ledgerRead m q => slotOk m && q.valid
  | .attest m q => slotOk m && q.valid
  | .replayArmSet m q => slotOk m && q.valid
  | .replayArmAppend m q => slotOk m && q.valid
  | .memRead m q => slotOk m && q.valid
  | .memWrite m q => slotOk m && q.valid
  | .debugHold m q => slotOk m && q.valid
  | .debugRelease m q => slotOk m && q.valid
  | .brkArm m q => slotOk m && q.valid
  | .brkDisarm m q => slotOk m && q.valid
  | .semSet m q => slotOk m && q.valid
  | .vregRead m q => slotOk m && q.valid
  | .queueRead m q => slotOk m && q.valid
  | .imemOverride m q => slotOk m && q.valid
  | .baseMemStatus m q => slotOk m && q.valid
  | .stackStatus m q => slotOk m && q.valid
  | .hubStatus m q => slotOk m && q.valid
  | .paceStatus m q => slotOk m && q.valid
  | .portMap m q => slotOk m && q.valid
  | .slotTableRead m q => slotOk m && q.valid
  | .calendarRead m q => slotOk m && q.valid
  | .grantTableRead m q => slotOk m && q.valid
  | .grantIssue m q => slotOk m && q.valid
  | .grantRevoke m q => slotOk m && q.valid
  | .connOpen m q => slotOk m && q.valid
  | .connOpenTimeout _ t => tickOk t
  | .connClose m q => slotOk m && q.valid
  | .portRetrain m q => slotOk m && q.valid
  | .timeSet m q => slotOk m && q.valid
  | .eventRead m q => slotOk m && q.valid
  | .eventAck m q => slotOk m && q.valid
  | .resetCmd m q => slotOk m && q.valid
  | .recoveryRead m q => slotOk m && q.valid
  | .readyReport m q => slotOk m && q.valid
  | .fuseMapRead m q => slotOk m && q.valid
  | .fieldRepairAdd m q => slotOk m && q.valid
  | .fieldRepairRemove m q => slotOk m && q.valid
  | .haloPair m q => slotOk m && q.valid
  | .haloStandby m q => slotOk m && q.valid
  | .haloUnpair m q => slotOk m && q.valid
  | .takeover m q => slotOk m && q.valid
  | .haloResume m q => slotOk m && q.valid
  | .checkpointRestore m q => slotOk m && q.valid
  | .checkpointRead m q => slotOk m && q.valid
  | .haloStatus m q => slotOk m && q.valid
  | .fwStageBulk m q => slotOk m && q.valid
  | .fwStageChunk m q => slotOk m && q.valid
  | .mirrorItem _ item => item.valid
  | .mirrorAck _ _ _ => true
  | .batchCloseTimer stream t => decide (stream < 17) && tickOk t
  | .sealSigned => true
  | .holdupGuardConfirm energy => decide (energy < 65536)
  | .flashStoreDone => true
  | .modResetNRelease _ energy => decide (energy < 65536)
  | .bringupStageEnd r => r.valid
  | .stageLimitExpiry r => r.valid
  | .linksUnconfigured => true
  | .eclipseFrozen => true
  | .eclipseBudgetExpiry t => tickOk t
  | .resetRestoreDone => true
  | .coreFault core t => decide (core < 1152) && tickOk t
  | .clusterFault site cluster t => decide (site < 16) && decide (cluster < 9) && tickOk t
  | .paceFault d t => decide (d < 20) && tickOk t
  | .baseFault u t => decide (u < 4) && tickOk t
  | .stackFault u t => decide (u < 16) && tickOk t
  | .seamFault t => tickOk t
  | .mcWatchdog t => tickOk t
  | .pwrEnAssert energy => decide (energy < 65536)
  | .inputPowerFail _ energy t => decide (energy < 65536) && tickOk t
  | .emergencySealDone energy => decide (energy < 65536)
  | .modResetNAssert => true
  | .thermalSample sensor temp t => decide (sensor < 36) && decide (temp < 65536) && tickOk t
  | .thermalTrip sensor temp t => decide (sensor < 36) && decide (temp < 65536) && tickOk t
  | .tapExtest => true
  | .tapSamplePreload => true
  | .tapBypass => true
  | .tapIdcode => true
  | .trstN _ => true
  | .holdupBankCharged energy => decide (energy < 65536)
  | .absentPartnerReturns p => portOk p
  | .resourcesReleased x => ctxOk x

end Sys2Proof
end

