-- ==== Sys2Proof/Tests/Slice0.lean ====
section
/-! SUPPORT. States on which the hypotheses of the statements hold, and small checks of single commands. -/
namespace Sys2Proof.Tests
set_option Elab.async false
open Sys2Proof Sys2Proof.Machine

/-- A ready module whose owner is slot 1. -/
def host : State :=
  { boot := { phase := 1, stage := 5 },
    mbox := { owner := some 1, leaseEnd := 1000000, slots := [(1, { bound := true })] } }

/-- Context 0 runs on site 0 at step 7. -/
def ctx0 : Ctx := { phase := .running, sites := [0], quads := [0], step := 7 }

/-- The ready module with context 0 running. -/
def run : State := { host with ctxs := [(0, ctx0)] }

/-- The running module with program core 0 as given. -/
def onCore0 (k : Core) : State := { run with cores := [(0, k)] }

def c0 : CoreRef := ⟨0, 0⟩

def cmd (arg : Nat) (payload : List Byte := []) : Cmd :=
  { seq := 1, ctx := 0, ctxValid := true, arg := BitVec.ofNat 64 arg, payload }

/-- The state that a command leaves. -/
def after (i : Instr) (s : State) : State := match exec i s with | .next t => t | _ => s

/-- The state that a step of the block leaves. -/
def after0 (s : State) : State := match step s with | .next t => t | _ => s

/-- Whether the command passes what every command meets. -/
def served (s : State) (m : Nat) (q : Cmd) (k : CmdSpec) : Bool :=
  s.mcRuns && decide (m < 8) && !(s.slot m).busy && s.servesSlot m &&
    s.mbox.owner.all (fun _ => decide (s.now < s.mbox.leaseEnd)) && s.mbox.election.all (fun t => decide (s.now < t)) &&
    decide (s.gate m q k = stOK)

theorem serves_of {s : State} {m : Nat} {q : Cmd} {k : CmdSpec} (h : served s m q k = true) : Serves s m q k := by
  simp only [served, Bool.and_eq_true, decide_eq_true_eq, Bool.not_eq_true'] at h
  obtain ⟨⟨⟨⟨⟨⟨a, b⟩, c⟩, d⟩, e⟩, f⟩, g⟩ := h
  refine ⟨a, b, c, d, ?_, ?_, g⟩
  · intro o ho
    rw [ho] at e
    simpa using e
  · intro t ht
    rw [ht] at f
    simpa using f


/-! ### The step, memory, fields of a bundle -/

theorem witness_StepRunsFront : ({ run with pending := [.idleBundle ⟨c0, .none⟩, .brk c0] } : State).pending =
    .idleBundle ⟨c0, .none⟩ :: [.brk c0] ∧
    step { run with pending := [.idleBundle ⟨c0, .none⟩, .brk c0] } =
      exec (.idleBundle ⟨c0, .none⟩) { run with pending := [.brk c0] } :=
  ⟨rfl, rfl⟩

theorem witness_IdleStepTicks : State.reset.pending = [] ∧ State.reset.mcRuns = true ∧ State.reset.mbox.messages = [] ∧
    State.reset.mbox.forward = [] ∧ (∀ m, m < 8 → (State.reset.slot m).posted = false) ∧
    (after0 State.reset).time.now = 1 := by decide +kernel

theorem witness_IdleStepTicks_stopped :
    let s : State := { power := { modReset := true } }
    let z : State := { power := { sealing := true } }
    s.pending = [] ∧ s.power.modReset = true ∧ after0 s = s ∧ z.mcRuns = false ∧ z.power.management = true ∧
    z.power.halted = false ∧ z.power.modReset = false ∧ (after0 z).time.now = 1 := by decide +kernel

theorem witness_StepKeepsMemoryCanonical : State.reset.memOk ∧ ∃ t, step State.reset = .next t := ⟨rfl, _, rfl⟩

theorem witness_FieldsNeedLiveCore : bundleCore (.armend c0) = some c0 ∧ State.reset.live c0 = false ∧
    (onCore0 { seq := { armEnded := true } }).live c0 = false ∧ after (.armend c0) State.reset = State.reset := by decide +kernel

theorem witness_FieldsFrame : bundleCore (.semopSub c0 47 1) = some c0 ∧
    (after (.semopSub c0 47 1) run).mem = run.mem := by decide +kernel

/-- SUB of 3 from 5 for sr3, due at step 8. -/
theorem witness_ScalarArithmetic : (onCore0 { sr := [(1, 5), (2, 3)] }).live c0 = true ∧
    ((after (.sub c0 ⟨3, 1, 2, false, 0, 0⟩) (onCore0 { sr := [(1, 5), (2, 3)] })).core c0).pipe =
      [⟨8, 7, false, .sr 3, 2⟩] := by decide +kernel

/-- RDSEM of semaphore 47 with BRK, of 48; RDBRK of receive end 15 and of send end 15, broken. -/
theorem witness_ScalarReads :
    let e : RecvEp := { state := .broken, elastic := true }
    let s := onCore0 { sems := [(47, { value := 9, brk := true })], recvEps := [(15, e)] }
    s.live c0 = true ∧ (15#8).toNat.testBit 4 = false ∧ (31#8).toNat.testBit 4 = true ∧
    ((after (.rdsem c0 ⟨1, 0, 0, false, 0, 47⟩) s).core c0).pipe = [⟨8, 7, false, .sr 1, 0x80000009⟩] ∧
    ((after (.rdsem c0 ⟨1, 0, 0, false, 0, 48⟩) s).core c0).pipe = [⟨8, 7, false, .sr 1, 0⟩] ∧
    ((after (.rdbrk c0 ⟨1, 0, 0, false, 0, 15⟩) s).core c0).pipe = [⟨8, 7, false, .sr 1, 1⟩] ∧
    ((after (.rdbrk c0 ⟨1, 0, 0, false, 0, 31⟩) s).core c0).pipe = [⟨8, 7, false, .sr 1, 0⟩] := by decide +kernel

/-- The Tail generator's test vectors A and B (05 R145). -/
theorem test_tailVectors : tail 0 0 0 0 0 = 0x815CEB51 ∧ tail 0x0123456789ABCDEF 1 5000 2 3 = 0x8D3214E5 := by decide +kernel

/-- LCSET from a parameter and from IMM; REDUCE of code 7 contributes nothing. -/
theorem witness_ScalarWrites :
    let s := onCore0 { par := [(63, 0x12345)] }
    s.live c0 = true ∧
    ((after (.lcset c0 ⟨0, 0, 0, false, 63, 7⟩) s).core c0).pipe = [⟨8, 7, false, .lc 3, 0x2345⟩] ∧
    ((after (.lcset c0 ⟨0, 0, 0, false, 9, 2⟩) s).core c0).pipe = [⟨8, 7, false, .lc 2, 9⟩] ∧
    ((after (.reduce c0 ⟨0, 0, 0, false, 0, 31⟩) s).ctx 0).wireIn = [] ∧
    ((after (.reduce c0 ⟨0, 0, 0, false, 0, 17⟩) s).ctx 0).wireIn = [⟨1, 0, 4, 0⟩] := by decide +kernel

/-- Of two results for sr3 due at one step the scalar operation's stands; what is due later waits; half a vector
register is written. -/
theorem witness_ResultsLand :
    let k : Core := { pipe := [⟨7, 6, false, .sr 3, 9⟩, ⟨7, 6, true, .sr 3, 8⟩, ⟨8, 7, false, .par 63, 1⟩, ⟨7, 6, false, .lc 3, 5⟩],
                      vpipe := [⟨7, 5, false, 63, 0xFF, 0xAB⟩, ⟨7, 5, false, 71, 1, 1⟩], vregs := [(63, 0x1200)] }
    let s := onCore0 k
    let j := (after (.pipelineResult c0 .none) s).core c0
    s.lands c0 = true ∧ j.sr.get 0 3 = 9 ∧ j.lc.get 0 3 = 5 ∧ j.par.get 0 63 = 0 ∧ j.vregs.get 0 63 = 0x12AB ∧
    j.masks.get 0 7 = 1 ∧ j.pipe = [⟨8, 7, false, .par 63, 1⟩] ∧
    (∀ r ∈ k.pipe, r.due ≤ 7 → r.dest = .sr 3 → r.red = false → r.val = 9) := by decide +kernel

/-- Landings due at the step, and one that waits. -/
theorem witness_BuffersLand :
    let k : Core := { opland := [(7, 15, 4), (8, 0, 3)], drainIn := [⟨3, true, 7, 2, [(15, 6)]⟩],
                      memWrites := [⟨5, 8191, 2, 2, 0⟩, ⟨6, 0, 1, 2, 0⟩] }
    let s : State := { onCore0 k with ctxs := [(0, { ctx0 with wires := [⟨7, 3, 11⟩, ⟨9, 0, 1⟩] })] }
    s.lands c0 = true ∧ ((after (.operandBufferLanding c0) s).core c0).opbuf = [(15, 4)] ∧
    ((after (.operandBufferLanding c0) s).core c0).opland = [(8, 0, 3)] ∧
    ((after (.arrayOutput c0) s).core c0).drain = [(15, 6)] ∧
    ((after (.wireLanding 0) s).ctx 0).wire = [(3, 11)] ∧
    Memory.byte (after (.coreMemWriteVisible c0) s).mem (coreAddr 0 8191) = 2 ∧
    Memory.byte (after (.coreMemWriteVisible c0) s).mem (coreAddr 0 0) = 0 ∧
    ((after (.coreMemWriteVisible c0) s).core c0).memWrites = [⟨6, 0, 1, 2, 0⟩] := by decide +kernel

theorem witness_ControlsFreeze : run.ctlActs c0 = true ∧ (run.core c0).seq.inArm = false ∧
    ((after (.orbitEnd c0) run).ctx 0).freeze = some { endBy := [0], fence := true } := by decide +kernel

/-- Inside an arm a rendezvous sets ARM_CUT and freezes nothing; JMP, LOOP and ARMEND act. -/
theorem witness_ControlsInsideArmCut :
    let s := onCore0 { seq := { inArm := true, armLeft := 4 }, lc := [(0, 2)] }
    s.ctlActs c0 = true ∧ (s.core c0).seq.inArm = true ∧ (s.view c0).lc.get 0 (ctlLcsel 0) ≠ 0 ∧
    (run.core c0).seq.inArm = false ∧ ((after (.rdv c0 0) s).core c0).rep.armCut = true ∧
    ((after (.rdv c0 0) s).ctx 0).freeze = none ∧ ((after (.armend c0) s).core c0).work.armEnd = true := by decide +kernel

theorem witness_BranchesSetTarget :
    let s := onCore0 { seq := { inArm := true, armLeft := 1 }, lc := [(3, 1)] }
    run.ctlActs c0 = true ∧ s.ctlActs c0 = true ∧ (run.view c0).lc.get 0 (ctlLcsel 0xC000) = 0 ∧
    (s.view c0).lc.get 0 (ctlLcsel 0xC000) ≠ 0 ∧ (run.core c0).seq.inArm = false ∧ (s.core c0).seq.inArm = true ∧
    (s.core c0).seq.armLeft ≤ 1 ∧ (s.core c0).work.armEnd = false ∧
    ((after (.jmp c0 0x3FF0) run).core c0).seq.target = some 1023 ∧
    ((after (.armCut c0) s).core c0).rep.armCut = true := by decide +kernel

theorem witness_BranchesSetTarget_brk : run.live c0 = true ∧
    ({ run with ctxs := [(0, { ctx0 with armed := true })] } : State).live c0 = true ∧
    ((after (.brk c0) { run with ctxs := [(0, { ctx0 with armed := true })] }).ctx 0).holds.debug = true ∧
    ((after (.brk c0) run).ctx 0).holds.debug = false ∧
    ((after (.idleBundle ⟨c0, { ue := [(1, 7)] }⟩) run).core c0).rep.eccUe = true ∧
    (after (.idleBundle ⟨c0, { ue := [(1, 7)] }⟩) run).events.nextSeq = run.events.nextSeq + 1 ∧
    ((after (.idleBundle ⟨c0, .none⟩) run).core c0).rep.eccUe = false := by decide +kernel

/-- A tap of four lines whose region wraps inside the access. -/
theorem witness_TapsAndArraysAct :
    let s := onCore0 { taps := [(31, { base := 100, len := 4, width := 2, cur := 3 })] }
    s.live c0 = true ∧
    (((after (.readTap c0 3 ⟨true, 31, true⟩ .none) s).core c0).work.reads.map TapReq.lines) =
      [(List.range ((s.core c0).taps.get {} 31).w).map (fun j =>
        (100 + (3 + j) % ((s.core c0).taps.get {} 31).lines) % 8192)] ∧
    ((after (.writeTap c0 3 ⟨false, 31, true⟩ .none) s).core c0).work.recvTd = 31 ∧
    ((after (.swap c0 3 ⟨4, 4, 4, 4⟩) s).core c0).work.arrays = [{ k := 3, f := ⟨4, 4, 4, 4⟩, swap := true }] ∧
    ((after (.swap c0 3 ⟨4, 4, 4, 4⟩) { s with fuses := { variant := 2 } }).core c0).work.arrays = [] := by decide +kernel

theorem witness_StreamsAndChannelsIssue : run.live c0 = true ∧
    ((after (.comet c0 255) run).core c0).work.issue = none ∧
    ((after (.elast c0 15 65535) run).core c0).work.elast = some (15, 65535) ∧
    ((after (.semopSub c0 47 1) run).core c0).work.sems = [(47, -1)] ∧
    ((after (.semopAdd c0 48 1) run).core c0).work.sems = [] := by decide +kernel

/-! ### The vector unit -/

def vf (vfmt : BitVec 4) : VectorField := ⟨1, 2, 3, 4, 0, false, vfmt, 5, false, 0⟩

/-- Lane 0 of the one vector result in flight. -/
def lane0 (i : Instr) (s : State) : Option Nat := ((after i s).core c0).vpipe.head?.map (fun r => laneOf r.data 0)

/-- 1.0 + 2.0 = 3.0 in FP32 and in BF16; -0 is below +0; 2.5 rounds to 2.0. -/
theorem witness_FloatLanes :
    let s := onCore0 { vregs := [(2, 0x3F800000), (3, 0x40000000)] }
    s.live c0 = true ∧ (vf 1).vfmt.toNat ≤ 1 ∧ (vf 0).vfmt = 0 ∧ lane0 (.fadd c0 (vf 0)) s = some 0x40400000 ∧
    bf16.addE (bf16.decode 0x3F80) (bf16.decode 0x4000) = 0x4040 ∧ fMin fp32 0 0x80000000 = 0x80000000 ∧
    fRint 0x40200000 = 0x40000000 := by decide +kernel

theorem witness_IntegerLanes :
    let s := onCore0 { vregs := [(2, 0xFFFFFFFF), (3, 1)] }
    s.live c0 = true ∧ (vf 9).vfmt.toNat ≤ 9 ∧ lane0 (.imin c0 (vf 9)) s = some 0xFFFFFFFF := by decide +kernel

theorem witness_LaneMoves :
    let s := onCore0 { vregs := [(2, 0x1200000034), (3, 7)] }
    s.live c0 = true ∧ (vf 9).vfmt.toNat ≤ 9 ∧ lane0 (.vrotl c0 { vf 9 with vimm := 1 }) s = some 0x12 := by decide +kernel

/-- FCEQ of -0 and +0 holds, of a NaN with itself not, and a result for k0 is none. -/
theorem witness_MaskResults :
    let s := onCore0 { vregs := [(2, 0x80000000)] }
    let n := onCore0 { vregs := [(2, 0x7FC00000), (3, 0x7FC00000)] }
    s.live c0 = true ∧ (vf 0).vfmt = 0 ∧ lane0 (.fceq c0 (vf 0)) s = some 0xFFFFFFFF ∧
    lane0 (.fceq c0 (vf 0)) n = some 0xFFFFFFFE ∧
    ((after (.fceq c0 { vf 0 with vd := 8 }) s).core c0).vpipe = [] := by decide +kernel

/-- CVTF of 1.0 to BF16, and back; 2.5 to an integer goes to 2. -/
theorem witness_Conversions :
    let s := onCore0 { vregs := [(2, 0x3F800000)] }
    s.live c0 = true ∧ lane0 (.cvtf c0 (vf 1)) s = some 0x3F80 ∧ (vf 9).vfmt.toNat ≤ 9 ∧
    3 ≤ (vf 8).vfmt.toNat ∧ (vf 8).vfmt.toNat ≤ 8 ∧ (narrowElem false 1 0x3F80).toF32 = 0x3F800000 ∧
    toIntN 32 rne (f32 0x40200000) = 2 := by decide +kernel

/-- RISUM and RUSUM of a lane of all ones; RARGMAX names lane 0. -/
theorem witness_Reductions :
    let s := onCore0 { vregs := [(2, 0xFFFFFFFF)] }
    s.live c0 = true ∧ ((after (.risum c0 (vf 9)) s).core c0).pipe = [⟨15, 7, true, .sr 5, 0xFFFFFFFFFFFFFFFF⟩] ∧
    ((after (.rusum c0 (vf 0)) s).core c0).pipe = [⟨15, 7, true, .sr 5, 0xFFFFFFFF⟩] := by decide +kernel

theorem witness_ReservedFormatsEmpty : run.live c0 = true ∧ 9 < (vf 10).vfmt.toNat ∧ (vf 1).vfmt ≠ 0 ∧
    1 < (vf 2).vfmt.toNat ∧ after (.iadd c0 (vf 10)) run = run.present c0 ∧
    after (.fceq c0 (vf 1)) run = run.present c0 ∧ after (.fmax c0 (vf 2)) run = run.present c0 ∧
    after (.cvtmx c0 (vf 0)) run = run.present c0 := by decide +kernel

/-! ### The mailbox -/

theorem witness_BusySlotRefuses :
    let s : State := { host with mbox := { host.mbox with slots := [(1, { bound := true, inService := true, busyRefusals := 65535 })] } }
    let p : State := { host with mbox := { host.mbox with slots := [(1, { bound := true, inService := true, transport := 1, port := 18 })] } }
    let z : State := { host with mbox := { host.mbox with slots := [(0, { inService := true })] } }
    s.mcRuns = true ∧ (s.slot 1).busy = true ∧ ((after (.nopCmd 1 (cmd 0)) s).slot 1).busyRefusals = 65535 ∧
    (after (.nopCmd 1 (cmd 0)) s).mbox.messages = [] ∧ (p.slot 1).busy = true ∧
    (after (.nopCmd 1 (cmd 0)) p).mbox.messages.map Message.port = [18] ∧ (z.slot 0).busy = true ∧
    (after (.nopCmd 0 (cmd 0)) z).mbox.mctp.take 2 = [0x13, 0] := by decide +kernel

theorem witness_OwnerRowsRefused : ownerRow (.resetCmd 7 (cmd 0)) = some (0x90, 7, cmd 0) ∧ host.mcRuns = true ∧
    (host.slot 7).busy = false ∧ host.servesSlot 7 = true ∧ host.mbox.owner = some 1 ∧ host.now < host.mbox.leaseEnd ∧
    host.mbox.election = none ∧ host.boot.rom = false ∧ host.boot.phase = 1 ∧
    (((after (.resetCmd 7 (cmd 0)) host).slot 7).response).take 2 = [0x20, 0] ∧
    (after (.resetCmd 7 (cmd 0)) host).recovery = host.recovery := by decide +kernel

theorem witness_TicketsRun : (∀ d ∈ host.mbox.deferred, d.ticket ≠ (host.defer 1 (cmd 0) 0x33 0 0 []).2) ∧
    (host.defer 1 (cmd 0) 0x33 0 0 []).2 = 1 ∧
    ((host.defer 1 (cmd 0) 0x33 0 0 []).1.finish 1 0 0).events.nextSeq = 2 := by decide +kernel

theorem witness_OwnerKeepsLease : Serves host 1 (cmd 0) { op := 0x11, who := .owner, early := true } ∧
    Serves host 7 (cmd 0) { op := 0x01, who := .all, early := true } ∧
    Serves host 0 (cmd 0) { op := 0x14, who := .all, early := true } ∧ host.boot.rom = false ∧
    (after (.renew 1 (cmd 0)) host).mbox.leaseEnd = 2000000000 ∧
    (after (.nopCmd 7 (cmd 0)) host).mbox.leaseEnd = 1000000 :=
  ⟨serves_of (by decide +kernel), serves_of (by decide +kernel), serves_of (by decide +kernel), by decide +kernel⟩

/-- The lease runs out at its tick and not one before. -/
theorem witness_OwnerKeepsLease_expiry : host.mbox.owner = some 1 ∧ host.mbox.leaseEnd ≤ (host.atTick 1000000).now ∧
    (host.atTick 999999).now < host.mbox.leaseEnd ∧ (after (.leaseExpiry 1000000) host).mbox.owner = none ∧
    (after (.leaseExpiry 999999) host).mbox.owner = some 1 ∧ State.reset.mbox.owner = none ∧
    after (.leaseExpiry 5) State.reset = State.reset.atTick 5 ∧
    (after (.leaseExpiry 1000000) host).events.held.map Event.code = [3] ∧
    (after (.leaseExpiry 1000000) host).events.held.map Event.unit = [1] := by decide +kernel

theorem witness_OwnershipPasses :
    let s : State := { host with mbox := { host.mbox with txn := some [], slots := [(1, { bound := true }), (7, { bound := true })] } }
    Serves s 1 (cmd 7) { op := 0x12, who := .owner, early := true, arg := 7 } ∧
    Serves s 1 (cmd 0) { op := 0x13, who := .owner, early := true } ∧
    argFld (cmd 7) 0 3 ≠ 1 ∧ (s.slot (argFld (cmd 7) 0 3)).bound = true ∧ argFld (cmd 1) 0 3 = 1 ∧
    (s.slot (argFld (cmd 6) 0 3)).bound = false ∧ (∀ v ∈ s.events.held, v.tick < s.now) ∧
    (after (.handover 1 (cmd 7)) s).mbox.owner = some 7 ∧ (after (.handover 1 (cmd 7)) s).events.nextSeq = 3 ∧
    (after (.handover 1 (cmd 7)) s).events.held.any (fun e => e.code = 2 && e.unit = 7) = true ∧
    (after (.handover 1 (cmd 6)) s).mbox.owner = some 1 :=
  ⟨serves_of (by decide +kernel), serves_of (by decide +kernel), by decide +kernel⟩

theorem witness_ElectionsDecide :
    let s : State := { host with mbox := { host.mbox with owner := none } }
    Serves s 1 (cmd 0x500000000F) claimSpec ∧ Serves host 1 (cmd 0) claimSpec ∧ Serves host 7 (cmd 0) claimSpec ∧
    (after (.claim 1 (cmd 0x500000000F)) s).mbox.election = some 5000000 ∧
    ((after (.claim 1 (cmd 0x500000000F)) s).slot 1).claim = some { seq := 1, priority := 15, nonce := 0x50 } :=
  ⟨serves_of (by decide +kernel), serves_of (by decide +kernel), serves_of (by decide +kernel), by decide +kernel⟩

/-- Equal priorities and nonces: the lower slot wins at the tick, and nothing happens one tick before. -/
theorem witness_ElectionsDecide_close :
    let k : Claim := { seq := 1, priority := 2, nonce := 9 }
    let s : State := { mbox := { election := some 500, slots := [(3, { claim := some k }), (7, { claim := some k })] } }
    s.mbox.election = some 500 ∧ 500 ≤ (s.atTick 500).now ∧ (s.slot 3).claim = some k ∧
    (∀ n, n < 8 → ∀ c ∈ (s.slot n).claim, n = 3 ∨ k.priority < c.priority ∨
      (k.priority = c.priority ∧ (k.nonce < c.nonce ∨ (k.nonce = c.nonce ∧ 3 < n)))) ∧
    (s.atTick 499).now < 500 ∧ (after (.electionClose 500) s).mbox.owner = some 3 ∧
    (after (.electionClose 499) s).mbox.owner = none := by decide +kernel

theorem witness_RecordsRead :
    Serves host 1 (cmd 3) { op := 0x60, who := .all, early := true, arg := 3 } ∧
    Serves host 1 (cmd 15) { op := 0x61, who := .all, early := true, arg := 15 } ∧
    Serves host 1 (cmd 3) { op := 0x62, who := .all, early := true, arg := 3 } ∧
    Serves host 1 (cmd 0) { op := 0x64, who := .all, early := true } ∧
    Serves host 1 (cmd 0) { op := 0x66, who := .all, early := true } ∧
    Serves host 1 (cmd 0) { op := 0x67, who := .all, early := true } ∧
    Serves host 1 (cmd 0) { op := 0x91, who := .all } ∧
    Serves host 1 (cmd 0) { op := 0x92, who := .all, early := true } ∧
    Serves host 1 (withArg (cmd 0xF00) 0 1 0) { op := 0x44, who := .all, arg := 0xF00 } :=
  ⟨serves_of (by decide +kernel), serves_of (by decide +kernel), serves_of (by decide +kernel), serves_of (by decide +kernel), serves_of (by decide +kernel),
    serves_of (by decide +kernel), serves_of (by decide +kernel), serves_of (by decide +kernel), serves_of (by decide +kernel)⟩

theorem witness_ListsRead :
    let s : State := { host with mbox := { host.mbox with txn := some [⟨0x42, 5, 1⟩] } }
    Serves host 1 (cmd (2 ^ 32 - 1)) { op := 0x80, who := .all, early := true, arg := 2 ^ 32 - 1 } ∧
    Serves host 1 (cmd 65535) { op := 0x93, who := .all, early := true, arg := 65535 } ∧
    s.mbox.txn = some [⟨0x42, 5, 1⟩] ∧ Serves s 1 (cmd 0) { op := 0x26, who := .all, arg := 0xFFFF } ∧
    argFld (cmd 0) 0 1 = 0 ∧ Serves host 1 (cmd 0) { op := 0x63, who := .all, early := true, arg := 1 } ∧
    argFld (cmd 1) 0 1 = 1 ∧ Serves host 1 (cmd 1) { op := 0x63, who := .owner, early := true, arg := 1 } ∧
    ((after (.txnRead 1 (cmd 0)) s).slot 1).response.getD 12 0 = 1 :=
  ⟨serves_of (by decide +kernel), serves_of (by decide +kernel), rfl, serves_of (by decide +kernel), by decide +kernel, serves_of (by decide +kernel), by decide +kernel,
    serves_of (by decide +kernel), by decide +kernel⟩

/-- The owner's module with context 0 held by a debugger. -/
def heldRun (c : Ctx) (k : Core) : State :=
  { host with ctxs := [(0, { c with sites := [0], quads := [0] })], cores := [(0, k)] }

theorem witness_ContextsRead :
    let z : Freeze := { settled := true }
    let c : Ctx := { phase := .running, freeze := some z, holds := { debug := true }, image := some {} }
    let e : RecvEp := { state := .bound, esize := 1, depth := 4, subs := [(0, { entries := [⟨0, 3, 1, true⟩], done := 1 })] }
    let s := heldRun c { recvEps := [(0, e)] }
    (sidInfo s.variant (argSid (cmd 0x42))).isSome = true ∧ sidInfo s.variant (argSid (cmd 0xFFFF)) = none ∧
    Serves s 1 (cmd 0x42) { op := 0x20, who := .all, early := true, arg := 2 ^ 32 - 1 } ∧
    Serves s 1 (cmd 0xFFFF) { op := 0x20, who := .all, early := true, arg := 2 ^ 32 - 1 } ∧
    (s.ctx 0).phase ≠ .free ∧ (s.ctx 0).image = some {} ∧
    Serves s 1 (cmd 0x1FFF) { op := 0x65, who := .all, early := true, ctx := true, arg := 0x1FFF } ∧
    Serves s 1 (cmd 0) { op := 0x9C, who := .all, ctx := true } ∧
    argFld (cmd 0x033D0047) 0 11 < (s.ctx 0).ncores ∧ (s.ctx 0).held = true ∧ argFld (cmd 0x033D0047) 24 2 ≠ 0 ∧
    argFld (cmd 0x033D0047) 16 6 + argFld (cmd 0x033D0047) 24 2 ≤ 64 ∧
    Serves s 1 (cmd 0x033D0047) { op := 0x56, who := .all, ctx := true, arg := 0x033F07FF } ∧
    ((s.core ⟨0, 71⟩).recvEps.get {} 15).state = .unbound ∧ ((s.core c0).recvEps.get {} 0).state ≠ .unbound ∧
    (((s.core c0).recvEps.get {} 0).entryAt 0).2 = some ⟨0, 3, 1, true⟩ ∧
    Serves s 1 (cmd 0x3F0000000F0047) { op := 0x57, who := .all, ctx := true, arg := 0x3F03FF000F07FF } ∧
    Serves s 1 (cmd 0) { op := 0x57, who := .all, ctx := true, arg := 0x3F03FF000F07FF } :=
  ⟨by decide +kernel, by decide +kernel, serves_of (by decide +kernel), serves_of (by decide +kernel), by decide +kernel, rfl, serves_of (by decide +kernel),
    serves_of (by decide +kernel), by decide +kernel, by decide +kernel, by decide +kernel, by decide +kernel, serves_of (by decide +kernel), by decide +kernel, by decide +kernel,
    by decide +kernel, serves_of (by decide +kernel), serves_of (by decide +kernel)⟩

/-- A read of the last line of core memory of a core no context holds, and one of a running context's core, parked. -/
theorem witness_MemoryOverTheMailbox_reads :
    let q := cmd (coreAddr 100 8191 + 64 * 2 ^ 48)
    let r := cmd (coreAddr 0 0 + 64 * 2 ^ 48)
    Serves run 1 q memReadSpec ∧ Serves run 1 r memReadSpec ∧ 0 < q.arg.toNat / 2 ^ 48 ∧ q.arg.toNat / 2 ^ 48 ≤ 4080 ∧
    (run.entered 1 q 0x50).spanCheck (q.arg.toNat % 2 ^ 48) 64 = stOK ∧
    (run.entered 1 q 0x50).readable (q.arg.toNat % 2 ^ 48) 64 = true ∧
    (run.entered 1 r 0x50).spanCheck (r.arg.toNat % 2 ^ 48) 64 = stOK ∧
    (run.entered 1 r 0x50).readable (r.arg.toNat % 2 ^ 48) 64 = false ∧
    ((after (.memRead 1 r) run).slot 1).parked = some 0 ∧ ((after (.memRead 1 q) run).slot 1).respValid = true :=
  ⟨serves_of (by decide +kernel), serves_of (by decide +kernel), by decide +kernel⟩

theorem witness_MemoryOverTheMailbox_parked :
    let s : State := after (.memRead 1 (cmd (coreAddr 0 0 + 64 * 2 ^ 48))) run
    let t : State := { s with ctxs := [(0, { ctx0 with phase := .idle })] }
    let sp := readSpan (leAt (s.slot 1).command 8 8)
    (s.slot 1).parked = some 0 ∧ (t.slot 1).parked = some 0 ∧ t.mcRuns = true ∧ t.readable sp.1 sp.2 = true ∧
    100000000 ≤ (s.atTick 100000000).now ∧ (s.atTick 99999999).now < 100000000 ∧
    ((after (.parkedReadServed 1) t).slot 1).parked = none ∧ ((after (.parkedReadServed 1) s).slot 1).parked = some 0 ∧
    ((after (.parkedReadTimeout 1 100000000) s).slot 1).parked = none := by decide +kernel

/-- Reads of no byte and of one too many, of a hole, with none parked; writes of a hole, to a running core, to a control
window; an override of a context that runs. -/
theorem witness_MemoryOverTheMailbox_refused :
    let r := fun a n : Nat => cmd (a + n * 2 ^ 48)
    let w := fun a : Nat => cmd a (List.replicate 64 5)
    let i := cmd 71 (List.replicate 64 6)
    let k : CmdSpec := { op := 0x51, who := .owner, arg := 2 ^ 48 - 1, len := fun n => decide (64 ≤ n) && decide (n ≤ 4032) }
    let hole := 2 ^ 47
    let ctl := 3848290697216 + 100 * 65536
    Serves run 1 (r (coreAddr 100 0) 0) memReadSpec ∧ Serves run 1 (r (coreAddr 100 0) 4081) memReadSpec ∧
    Serves run 1 (r hole 64) memReadSpec ∧ (run.entered 1 (r hole 64) 0x50).spanCheck hole 64 ≠ stOK ∧
    (run.slot 1).parked = none ∧ Serves run 1 (w hole) k ∧ (run.entered 1 (w hole) 0x51).spanCheck hole 64 ≠ stOK ∧
    Serves run 1 (w (coreAddr 0 0)) k ∧ (run.entered 1 (w (coreAddr 0 0)) 0x51).spanCheck (coreAddr 0 0) 64 = stOK ∧
    (run.entered 1 (w (coreAddr 0 0)) 0x51).writeCheck (coreAddr 0 0) 64 ≠ stOK ∧ Serves run 1 (w ctl) k ∧
    (run.entered 1 (w ctl) 0x51).spanCheck ctl 64 = stOK ∧ (run.entered 1 (w ctl) 0x51).writeCheck ctl 64 = stOK ∧
    regionUnit ctl = 8 ∧ (run.ctx 0).phase ≠ .free ∧
    argFld i 0 11 < (run.ctx 0).ncores ∧ (run.ctx 0).held = false ∧
    Serves run 1 i { op := 0x58, who := .owner, ctx := true, arg := 0x03FF07FF, len := fun n => n = 64 } ∧
    after (.parkedReadServed 1) run = run ∧ after (.parkedReadTimeout 1 7) run = run.atTick 7 :=
  ⟨serves_of (by decide +kernel), serves_of (by decide +kernel), serves_of (by decide +kernel), by decide +kernel, by decide +kernel, serves_of (by decide +kernel), by decide +kernel, serves_of (by decide +kernel), by decide +kernel,
    by decide +kernel, serves_of (by decide +kernel), by decide +kernel, by decide +kernel, by decide +kernel, by decide +kernel,
    by decide +kernel, by decide +kernel, serves_of (by decide +kernel), by decide +kernel⟩

theorem witness_MemoryOverTheMailbox_writes :
    let q := cmd (coreAddr 100 8191) (List.replicate 64 5)
    let i := cmd (71 + 1023 * 65536) (List.replicate 64 6)
    let s := heldRun { phase := .running, freeze := some { settled := true }, holds := { debug := true } } {}
    let a := imemAddr 71 false 1023
    Serves run 1 q { op := 0x51, who := .owner, arg := 2 ^ 48 - 1, len := fun n => decide (64 ≤ n) && decide (n ≤ 4032) } ∧
    (run.entered 1 q 0x51).spanCheck (argFld q 0 48) 64 = stOK ∧ (run.entered 1 q 0x51).writeCheck (argFld q 0 48) 64 = stOK ∧
    regionUnit (argFld q 0 48) ≠ 8 ∧ Memory.byte (after (.memWrite 1 q) run).mem (argFld q 0 48 + 63) = 5 ∧
    (s.ctx 0).phase ≠ .free ∧ argFld i 0 11 < (s.ctx 0).ncores ∧ (s.ctx 0).held = true ∧
    Serves s 1 i { op := 0x58, who := .owner, ctx := true, arg := 0x03FF07FF, len := fun n => n = 64 } ∧
    Memory.byte (after (.imemOverride 1 i) s).mem (a + 63) = 6 ∧ Memory.byte (after (.imemOverride 1 i) s).mem (a + 64) = 0 :=
  ⟨serves_of (by decide +kernel), by decide +kernel, by decide +kernel, by decide +kernel, by decide +kernel, by decide +kernel, by decide +kernel, by decide +kernel,
    serves_of (by decide +kernel), by decide +kernel⟩

theorem witness_DebugCommands :
    let s := heldRun { phase := .running, freeze := some { settled := true } } {}
    let q := cmd (71 + 47 * 65536 + 5 * 2 ^ 32)
    (s.ctx 0).phase ≠ .free ∧ Roomy s (cmd 0) ∧ Serves s 1 (cmd 0) { op := 0x52, who := .owner, ctx := true } ∧
    Serves s 1 (cmd 0) { op := 0x53, who := .owner, ctx := true } ∧ (s.ctx 0).item = 0 ∧
    Serves s 1 (withArg (cmd 0) 0 1 1) { op := 0x54, who := .owner, ctx := true, arg := 1 } ∧
    Serves s 1 (withArg (cmd 1) 0 1 0) { op := 0x54, who := .owner, ctx := true, arg := 1 } ∧
    Serves s 1 q { op := 0x55, who := .owner, ctx := true, arg := 0x7FFFFFFF003F07FF } ∧
    argFld q 0 11 < (s.ctx 0).ncores ∧ argFld q 16 6 < 48 ∧ (s.ctx 0).active = true ∧ (s.ctx 0).frozen = true ∧
    ((after (.debugHold 1 (cmd 0)) s).ctx 0).holds.debug = true ∧
    ((after (.semSet 1 q) s).core ⟨0, 71⟩).sems.get {} 47 = { value := 5 } :=
  ⟨by decide +kernel, ⟨by decide +kernel, by decide +kernel⟩, serves_of (by decide +kernel), serves_of (by decide +kernel), by decide +kernel, serves_of (by decide +kernel),
    serves_of (by decide +kernel), serves_of (by decide +kernel), by decide +kernel⟩

/-- A hold of a context that runs stays deferred; its semaphores are not set. -/
theorem witness_DebugCommands_running :
    let q := cmd (71 + 47 * 65536 + 5 * 2 ^ 32)
    (run.ctx 0).phase ≠ .free ∧ Roomy run (cmd 0) ∧ Serves run 1 (cmd 0) { op := 0x52, who := .owner, ctx := true } ∧
    run.mbox.deferred = [] ∧ (run.ctx 0).active = true ∧ (run.ctx 0).frozen = false ∧ (run.ctx 0).held = false ∧
    Serves run 1 q { op := 0x55, who := .owner, ctx := true, arg := 0x7FFFFFFF003F07FF } ∧
    (after (.debugHold 1 (cmd 0)) run).mbox.deferred.map Deferred.opcode = [0x52] ∧
    ((after (.semSet 1 q) run).core ⟨0, 71⟩).sems.get {} 47 = {} :=
  ⟨by decide +kernel, ⟨by decide +kernel, by decide +kernel⟩, serves_of (by decide +kernel), by decide +kernel, by decide +kernel, by decide +kernel, by decide +kernel,
    serves_of (by decide +kernel), by decide +kernel⟩

/-! ### Freezes, boundaries, arrivals, memory, monitors -/

def freezer (z : Freeze) (h : Holds := {}) : State :=
  { host with ctxs := [(0, { phase := .running, sites := [0], quads := [0], step := 7, freeze := some z, holds := h })],
              cores := [(0, { sems := [(5, { value := 3, pending := 4 })] })] }

/-- A consuming condition of threshold 4 with VALUE 3 and one token admitted from PENDING. -/
theorem witness_FreezesRelease :
    let c : Cond := ⟨0, false, 5, 4, true⟩
    let z : Freeze := { step := 7, rdvBy := [0], conds := [c], settled := true }
    let s := freezer z
    let t := after (.rendezvousRelease 0) s
    (s.ctx 0).freeze = some z ∧ (s.ctx 0).item = 0 ∧ (s.ctx 0).rt.abandon = false ∧ (s.ctx 0).resume = none ∧
    (s.ctx 0).holds.any = false ∧ s.condMet 0 c = true ∧ (s.core c0).elasticAsem 5 = none ∧
    (t.ctx 0).resume = some (0, 8) ∧ (t.core c0).sems.get {} 5 = { value := 0 + 3 - 4 , pending := 3 } ∧
    after (.rendezvousRelease 0) (freezer z { debug := true }) = freezer z { debug := true } := by decide +kernel

theorem witness_FreezesRelease_fence :
    let z : Freeze := { step := 2 ^ 48 - 1, since := 9, fence := true, settled := true }
    (freezer z).fenceHolds 0 = true ∧ ((after (.fenceRelease 0) (freezer z)).ctx 0).resume = some (9, 2 ^ 48) := by
  decide +kernel

theorem witness_BoundariesEnterOrbits :
    let k : Core := { sr := [(1, 5)], pipe := [⟨9, 7, false, .sr 1, 1⟩], vregs := [(1, 1)] }
    let s : State := { host with ctxs := [(0, { phase := .running, sites := [0], quads := [0], step := 8, orbit := 4, item := 7 })],
                                 cores := [(0, k)] }
    let t := after (.orbitBoundary 0) s
    (s.ctx 0).item = 7 ∧ (s.ctx 0).freeze = none ∧ s.mirrored 0 = false ∧ (s.ctx 0).holds.eclipse = false ∧
    (s.ctx 0).holds.debug = false ∧ (s.ctx 0).resume = none ∧ (s.ctx 0).halo.catchUp = false ∧
    ((t.ctx 0).orbit, (t.ctx 0).resume, (t.core c0).pipe, (t.core c0).sr) = (5, some (0, 0), [], [(1, 5)]) := by decide +kernel

/-- Context 0 with one flight that is due and one that is not. -/
def flying (g : Cargo) (k : Core := {}) : State :=
  { host with ctxs := [(0, { ctx0 with flights := [{ due := 7, step := 3, src := 0, j := 0, cargo := g },
                                                  { due := 8, step := 3, src := 0, j := 1, cargo := g }] })],
              cores := [(0, k)] }

theorem witness_ArrivalsAct :
    let e : RecvEp := { state := .bound, kind := 0, esize := 4, depth := 4 }
    let l := flying (.chanLine 0 2 0 0 3 77) { recvEps := [(2, e)] }
    let h := flying (.header 0 2 0 6 1) { recvEps := [(2, e)] }
    let c := flying (.credit 0 3) { sendEps := [(3, { state := .bound, inFlight := 2, csem := 4 })] }
    let r := flying (.ringLine 513 (some 9)) { ring := { unlanded := [513] } }
    let one := fun (s : State) (p : Flight → Bool) => ((s.ctx 0).flights.filter (fun g => p g && decide (g.due ≤ 7))).length
    (l.ctx 0).active = true ∧ (l.ctx 0).frozen = false ∧ one l Flight.isChanLine = 1 ∧ one h Flight.isHeader = 1 ∧
    one h Flight.isChanLine = 0 ∧ one c Flight.isCredit = 1 ∧ one r Flight.isRing = 1 ∧ one r Flight.isDramLine = 0 ∧
    ((after (.chanLinesArrive 0) l).core c0).store = [(e.slotLine 0 0 3, 77)] ∧
    ((after (.entryHeaderArrive 0) h).core c0).semIn = [(0, 6)] ∧
    ((after (.lockedCreditReturn 0) c).core c0).semIn = [(4, 1)] ∧
    (((after (.lockedCreditReturn 0) c).core c0).sendEps.get {} 3).inFlight = 1 ∧
    ((after (.baseLineLands 0) r).core c0).ring.lines = [(1, 9)] ∧
    ((after (.baseLineLands 0) r).core c0).ring.unlanded = [] ∧ ((after (.baseLineLands 0) r).ctx 0).flights.length = 1 := by decide +kernel

theorem witness_ArrivalsAct_transit :
    let d := flying (.departure 0 0 0 5 0)
    let f : Flight := { due := 9, step := 3, src := 0, j := 0, cargo := .credit 0 0, lost := some 1, dropAt := 7 }
    let x : State := { host with ctxs := [(0, { ctx0 with flights := [f] })] }
    ((d.ctx 0).flights.filter (fun g => Flight.isDeparture g && decide (g.due ≤ 7))).length = 1 ∧
    ((after (.stagingDeparture 0) d).stack 0).staging.u = 1 ∧
    (x.ctx 0).flights.filter (fun g => g.lost.isSome && !g.counted && decide (g.dropAt ≤ 7)) = [f] ∧
    ((after (.transitLineArrival 0) x).hub 0).drops = 1 ∧
    ((after (.transitLineArrival 0) x).ctx 0).flags.toNat.testBit fFwDrop = true := by decide +kernel

/-- A dropped ring line leaves its place; a staging position whose line never comes is passed; a cell that a reset removed
drops a line. -/
theorem witness_ArrivalsAct_lost :
    let r := flying (.ringLine 513 (some 9)) { ring := { lines := [(1, 4)], unlanded := [513] } }
    let l : State := { r with ctxs := [(0, { ctx0 with flights := (r.ctx 0).flights.map (fun g => { g with lost := some 2 }) })] }
    let d : State := { flying (.departure 0 0 0 5 0) with drams := [(0, { staging := { skip := [0, 1] } })] }
    let f : Flight := { due := 9, step := 3, src := 0, j := 0, cargo := .credit 0 0, lost := some 2, dropAt := 7 }
    let x : State := { host with ctxs := [(0, { ctx0 with flights := [f] })] }
    ((after (.baseLineLands 0) l).core c0).ring.lines = [(1, 4)] ∧
    ((after (.baseLineLands 0) l).core c0).ring.unlanded = [] ∧
    (d.stack 0).staging.u ∈ (d.stack 0).staging.skip ∧ ((after (.stagingDeparture 0) d).stack 0).staging.u = 3 ∧
    ((after (.transitLineArrival 0) x).ctx 0).flags.toNat.testBit fTransitLost = true := by decide +kernel

def writeReq : DramReq := { ctx := 0, step := 1, core := 0, j := 0, line := 0, ctxLine := 0, write := true, data := some 7 }
def readReq : DramReq := { ctx := 0, step := 1, core := 0, j := 0, line := 0, ctxLine := 0, write := false,
                           dest := .rings [(0, 512)], data := some 7 }

theorem witness_ChannelsServe :
    let w : State := { run with drams := [(15, { waiting := [writeReq] })] }
    let r : State := { run with drams := [(15, { waiting := [readReq] })] }
    (run.stack 15).choose (run.coming 15) (slotClass (run.splitOf 15) 0) 0 = none ∧
    (w.stack 15).choose (w.coming 15) (slotClass (w.splitOf 15) (((w.stack 15).slots.get 0 0) % 16)) 0 = some (writeReq, false) ∧
    ((r.stack 15).choose (r.coming 15) (slotClass (r.splitOf 15) (((r.stack 15).slots.get 0 0) % 16)) 0).map (fun p => p.1) =
      some readReq ∧
    ((after (.dramSlot 15 0 .none) w).stack 15).unsettled = [writeReq] ∧
    ((after (.dramSlot 15 0 .none) r).stack 15).served = [{ readReq with data := some 0 }] ∧
    ((after (.dramSlot 15 0 .none) run).stack 15).slots = [(0, 1)] := by decide +kernel

theorem witness_ChannelsServe_landings :
    let l : State := { run with drams := [(0, { served := [readReq] })] }
    let w : State := { run with drams := [(0, { unsettled := [writeReq] })] }
    let b := flying (.baseWrite 3 [(5, 9)])
    let i : State := { l with ctxs := [(0, { ctx0 with phase := .idle })] }
    let r := flying (.baseRead 3 [5] none 0 [514] 2 3)
    let o : State := { host with mbox := { host.mbox with settings := [(3 * 65536 + 0x60, some 0)] } }
    (l.stack 0).served[0]? = some readReq ∧ readReq.landed = false ∧ readReq.xw = 3 ∧
    ((after (.dramLineLands 0 0 0) l).core c0).ring.fresh = [(512, 7, false)] ∧
    ((after (.dramLineLands 0 0 0) l).core c0).ring.lines = [] ∧ (i.ctx 0).active = false ∧
    ((after (.dramLineLands 0 0 0) i).core c0).ring.lines = [(0, 7)] ∧
    (w.stack 0).unsettled = [writeReq] ∧ Memory.byte (after (.dramWriteCommit 0 0) w).mem (dramAddr 0 0) = 7 ∧
    ((b.ctx 0).flights.filter (fun g => g.isBank && decide (g.due ≤ 7))).length = 1 ∧ (b.ctx 0).baseWrites = [] ∧
    ((after (.baseBankAccess 0 []) b).ctx 0).baseWrites = [(7, 3, 5, 9)] ∧
    ((r.ctx 0).flights.filter (fun g => g.isBank && decide (g.due ≤ 7))).length = 1 ∧
    (((after (.baseBankAccess 0 []) r).ctx 0).flights.filter Flight.isRing).map Flight.due = [14] ∧
    host.setting 0x60 3 ≠ 0 ∧ o.setting 0x60 3 = 0 ∧ after (.baseScrubSlot 3 31 .none) o = o ∧
    ((after (.baseScrubSlot 3 31 .none) host).baseOf 3).scrubPos = [(31, 1)] := by decide +kernel

/-- The monitors one tick past their budgets and at them. -/
theorem witness_MonitorsAct :
    let z : Freeze := { settled := true }
    let s : State := { freezer z with mbox := { host.mbox with settings := [(0x43, some 1), (0x44, some 100), (0x45, some 50)] } }
    let o : State := { s with ctxs := [(0, { ctx0 with freeze := some z, rt := { abandon := true } })] }
    (s.ctx 0).freeze = some z ∧ s.setting 0x42 0 = 50000000 ∧ 50000000 < (s.atTick 50000001).now ∧
    (s.atTick 50000000).now ≤ 50000000 ∧ (s.ctx 0).inOrbit = true ∧ s.setting 0x43 0 = 1 ∧ s.setting 0x44 0 = 100 ∧
    s.waitBudgetOf 0 = 50 ∧ (s.ctx 0).resume = none ∧ (o.ctx 0).rt.abandon = true ∧ (s.ctx 0).rt.abandon = false ∧
    (after (.stall 0 50000001) s).events.nextSeq = 2 ∧ after (.stall 0 50000000) s = s.atTick 50000000 ∧
    ((after (.deadlineMiss 0 101) s).ctx 0).rt.deadlineMisses = 1 ∧ after (.deadlineMiss 0 100) s = s.atTick 100 ∧
    ((after (.waitMiss 0 51) s).ctx 0).rt.waitMisses = 1 ∧ after (.waitMiss 0 50) s = s.atTick 50 ∧
    ((after (.orbitAbandon 0) o).ctx 0).freeze = some { z with abandon := true, fence := true } ∧
    after (.orbitAbandon 0) s = s := by decide +kernel

/-! ### Pace domains, time, links -/

/-- A ready module of coordinates 5 with the ports given. -/
def linked (ports : Tab Port) (bundles : Tab Bundle := []) (circuits : List Circuit := []) : State :=
  { host with mbox := { host.mbox with settings := [(0x11, some 5), (19 * 65536 + 0x14, some 6)] },
              links := { ports, bundles, circuits } }

/-- The ready module with the margin warning of two domains just given, so that the free margin says nothing. -/
def warned : State := { host with domains := [(0, { lastWarn := some 0 }), (16, { lastWarn := some 0 })] }

/-- Domain 16 is 8 beats ahead of a neighbour, or may beat; context 0 waits for the phase of its step. -/
theorem witness_DomainsBeat :
    let h : State := { run with domains := [(16, { beats := 8 })] }
    let b : State := { warned with ctxs := [(0, { phase := .running, sites := [0], quads := [0], resume := some (3, 1) })] }
    let w : State := { warned with ctxs := [(0, { phase := .running, sites := [0], quads := [0], resume := some (3, 2) })] }
    h.paced = true ∧ (h.domain 16).detached = false ∧ h.domainHolds 16 = true ∧ ((after (.beat 16 600) h).domain 16).beats = 8 ∧
    b.domainHolds 16 = false ∧ (b.ctx 0).resume = some (3, 1) ∧ (b.ctx 0).quads.headD 4 = 0 ∧
    (1 + (b.ctx 0).img.delta) % 16 = ((b.domain 16).beats + 1) % 2 ^ 64 % 16 ∧
    (2 + (w.ctx 0).img.delta) % 16 ≠ ((w.domain 16).beats + 1) % 2 ^ 64 % 16 ∧
    ((after (.beat 16 600) b).ctx 0).step = 1 ∧ ((after (.beat 16 600) b).ctx 0).resume = none ∧
    (after (.beat 16 600) w).ctx 0 = w.ctx 0 := by decide +kernel

theorem witness_DomainsBeat_sites :
    let two : State := { warned with ctxs := [(0, { phase := .running, sites := [0, 1], quads := [0], step := 7 })] }
    host.domainHolds 15 = false ∧ host.holderOf 15 = none ∧ run.holderOf 0 = some (0, 0) ∧ two.holderOf 0 = some (0, 0) ∧
    (two.ctx 0).active = true ∧ (two.ctx 0).frozen = false ∧
    (∃ e ∈ (two.ctx 0).sites, ((two.ctx 0).ahead.modify 0 0 (· + 1)).get 0 e = 0) ∧
    (∀ e ∈ (run.ctx 0).sites, 0 < ((run.ctx 0).ahead.modify 0 0 (· + 1)).get 0 e) ∧
    ((after (.beat 0 600) two).ctx 0).ahead = [(0, 1)] := by decide +kernel

theorem witness_PaceChanges :
    let s : State := { linked [(0, { phase := .up })] with time := { pend := some ⟨500, 2, false⟩ } }
    s.time.pend = some ⟨500, 2, false⟩ ∧ 500 ≤ (s.atTick 500).now ∧ (s.atTick 499).now < 500 ∧
    s.nextTrained 19 = some 0 ∧ (s.atTick 0).mayPace = true ∧ s.settingNow 0x80 0 < 65535 ∧ s.atLowEnd = false ∧
    100 * 0 < s.settingNow 0x80 0 * 95 ∧ s.power.throttled = [] ∧ s.power.refclkLost = false ∧ s.mcRuns = true ∧
    ((after (.paceSwitch 500) s).domain 19).target = targetMhz 2 ∧ after (.paceSwitch 499) s = s.atTick 499 ∧
    ((after (.powerCapControl 65535 0) s).domain 3).target = 1575 ∧ ((after (.powerCapControl 0 0) s).domain 3).target = 1600 ∧
    (after (.refclkLoss 0) s).time.state = 4 ∧ ((after (.refclkLoss 0) s).port 0).phase = .down := by decide +kernel

/-- The last tick of each window, and the tick after an oscillator's. -/
theorem witness_PaceChanges_windows :
    let s : State := { linked [(0, { phase := .up })] with calendar :=
      [⟨0, 19, 0, 20000, false⟩, ⟨1, 15, 0, 100000, false⟩, ⟨2, 19, 0, 50000, false⟩] }
    let v := s.atTick 19999
    s.calendar.length < 64 ∧ v.windowNow 0 19 = some ⟨0, 19, 0, 20000, false⟩ ∧
    (s.atTick 20000).windowNow 0 19 = none ∧ (s.atTick 99999).windowNow 1 15 = some ⟨1, 15, 0, 100000, false⟩ ∧
    (s.atTick 49999).windowNow 2 19 = some ⟨2, 19, 0, 50000, false⟩ ∧ s.nextTrained 19 = some 0 ∧
    ((after (.oscTrim 19 (some true)) v).domain 19).trim = 1 ∧
    ((after (.oscTrim 19 none) v).domain 19).trim = 0 ∧ ((after (.oscTrim 19 (some false)) v).domain 19).trim = 0 ∧
    ((after (.oscTrim 19 (some true)) (s.atTick 20000)).domain 19).trim = 0 ∧
    (after (.oscTrim 19 (some true)) v).calendar.contains ⟨0, 0, 5000000, 5020000, false⟩ = true ∧
    (after (.dramRetrain 15 99999) s).calendar.contains ⟨1, 0, 1100000, 1200000, false⟩ = true ∧
    (after (.linkAdaptation 19 49999) s).calendar.contains ⟨2, 0, 1050000, 1100000, false⟩ = true := by decide +kernel

theorem witness_TimeFollows :
    let s : State := { linked [(18, { phase := .up, partner := 9, tdepth := 1 })] with time := { state := 3, loaded := true } }
    let a : State := { s with time := { s.time with asked := some (4, 10, 0), parent := some 18 } }
    let f : Flit := BitVec.ofNat 512 (4 * 2 ^ 8 + 20 * 2 ^ 192 + 30 * 2 ^ 320 + 5 * 2 ^ 448)
    (s.atTick 50).parentNow = some (18, 9) ∧ s.setting 0x03 0 ≠ 1 ∧ ((linked []).atTick 0).parentNow = none ∧
    s.time.state = 3 ∧ flitAt f 56 3 = s.code ∧ flitAt f 1 1 = 4 ∧ a.time.asked = some (4, 10, 0) ∧
    a.time.parent = some 18 ∧ a.time.loaded = true ∧ s.time.lastSync + 100000 ≤ (s.atTick 100000).now ∧
    (s.atTick 99999).now < s.time.lastSync + 100000 ∧
    (after (.timeReqSend 50 0) s).time.asked = some (1, 50, 0) ∧ (after (.timeReqSend 50 0) s).time.parent = some 18 ∧
    (after (.timeResp 18 f 40 0) a).time.offset = 0 ∧ (after (.timeResp 18 f 40 0) a).time.good = 1 ∧
    (after (.timeHoldover 100000) s).time.state = 4 ∧ (after (.timeHoldover 99999) s).time.state = 3 := by decide +kernel

theorem witness_TimeFollows_load :
    let s : State := { linked [(18, { phase := .up })] with time := { state := 1, asked := some (4, 10, 0), parent := some 18 } }
    let f : Flit := BitVec.ofNat 512 (4 * 2 ^ 8 + 2000000 * 2 ^ 192 + 2000010 * 2 ^ 320 + 5 * 2 ^ 448)
    s.time.loaded = false ∧ (∀ x, x < 16 → (s.ctx x).phase = .free) ∧
    1000000 < (timeOffset 10000 2000000000 2000010000 40000 0).natAbs ∧
    (after (.timeResp 18 f 40 0) s).time.loaded = true ∧ (after (.timeResp 18 f 40 0) s).time.now = 2000020 ∧
    flitAt f 56 3 = s.code := by decide +kernel

/-- A time flit for a module that no way leads to and for the adapter behind a port; an answer of another port than the
one asked; eight in a row 10,000 ns apart lock, and one a tick late counts as the first. -/
theorem witness_TimeFollows_others :
    let q : TimeBase := { state := 3, loaded := true, asked := some (4, 10000, 0), parent := some 18, good := 7, askedAt := some 0 }
    let s : State := { linked [(0, { phase := .up, partner := 12582921 }), (18, { phase := .up })] with time := q }
    let f := fun d : Nat => (BitVec.ofNat 512 (4 * 2 ^ 8 + 10010 * 2 ^ 192 + 10010 * 2 ^ 320 + d * 2 ^ 448) : Flit)
    flitAt (f 12582921) 56 3 = 12582921 ∧ (s.atTick 0).route 12582921 0 = some 0 ∧ (s.atTick 0).route 4 0 = none ∧
    flitAt (f 4) 56 3 ≠ s.code ∧ after (.timeReq 18 (f 4) 40 0) s = s.atTick 40 ∧
    s.time.parent ≠ some 0 ∧ after (.timeResp 0 (f 5) 40 0) s = s.atTick 40 ∧
    (after (.timeResp 18 (f 5) 10020 0) s).time.state = 2 ∧ (after (.timeResp 18 (f 5) 10020 0) s).time.good = 8 ∧
    (after (.timeResp 18 (f 5) 10020 0) { s with time := { q with askedAt := some 1 } }).time.good = 1 ∧
    (after (.timeHoldover 200000) { s with time := { q with state := 1 } }).time.state = 1 := by decide +kernel

theorem witness_PortsTrain :
    let d := linked [(0, {}), (1, { phase := .absentPlanned }), (2, { phase := .failed, since := 5 }),
                     (3, { phase := .training, train := .equalise, lanes := 511 }), (4, { phase := .training, train := .frameLock }),
                     (5, { phase := .dwell, lanes := 511 }), (6, { phase := .dwell, lanes := 511, miswired := true }), (7, { phase := .training })]
    let g : List (BitVec 8) := List.replicate 9 60
    let own : List Nat := List.replicate 9 425000
    d.mayTrain 0 = true ∧ (d.port 0).phase = .down ∧ (d.port 0).since = 0 ∧ d.mayTrain 1 = true ∧ d.mayTrain 2 = true ∧
    (d.port 2).since + 10000000000 ≤ (d.atTick 10000000005).now ∧ (d.atTick 10000000004).now < (d.port 2).since + 10000000000 ∧
    (d.port 7).train = .signal ∧ ((d.port 5).select (laneDead d.boot.merged 5) own g).width ≠ 0 ∧
    ((d.port 5).select (laneDead d.boot.merged 5) own (List.replicate 9 59)).width = 0 ∧
    ((d.port 5).select (laneDead d.boot.merged 5) (List.replicate 9 425001) g).width = 0 ∧
    ((after (.portTrainingStart 0) d).port 0).phase = .training ∧ ((after (.absentPartnerReturns 1) d).port 1).phase = .training ∧
    ((after (.retrainDelayExpiry 2 10000000005) d).port 2).phase = .training ∧
    ((after (.signalLock 7 257) d).port 7).lanes = 257 ∧ ((after (.equalisationDone 3 3) d).port 3).lanes = 3 ∧
    ((after (.frameLock 4 9 19 3) d).port 4).partnerPort = 19 ∧ ((after (.dwellEnd 5 own g 0) d).port 5).phase = .up ∧
    ((after (.dwellEnd 5 own g 0) d).port 5).active = [0, 1, 2, 3, 4, 5, 6, 7] ∧
    ((after (.dwellEnd 5 own (List.replicate 9 59) 0) d).port 5).phase = .failed ∧
    ((after (.dwellEnd 6 own g 0) d).port 6).phase = .miswired := by decide +kernel

theorem witness_PortsServe :
    let p : Port := { phase := .up, width := 3, ready := 511, active := [0, 1, 2, 3, 4, 5, 6, 7], partner := 9, fails := 14 }
    let s := linked [(18, p), (0, { p with swap := [(0, 8)], groups := 255, fails := 15 }), (19, p)]
      [(18, { held := [⟨3, [], 18⟩] }), (19, { seen := 1 })]
    let m : Flit := BitVec.ofNat 512 (2 ^ 464 + 2 * 2 ^ 466 + 9 * 2 ^ 472)
    let bers : List Nat := 2125001 :: List.replicate 8 2125000
    s.isUp 18 = true ∧ (bitsUp 9 (511 - 1)).find? (fun i => !p.active.contains i) = some 8 ∧ (s.port 18).swap = [] ∧
    (∀ i, i < 9 → i ≠ 0 → 50 ≤ berCode (dwellBits / 2) (bers.getD i 0)) ∧ berCode (dwellBits / 2) (bers.getD 0 0) < 50 ∧
    (s.port 0).swap = [(0, 8)] ∧ (s.port 0).groups % 256 = 255 ∧ (s.port 18).groups % 256 ≠ 255 ∧
    (s.port 18).beat < (s.atTick 1000).now / 1000 * 1000 ∧ (s.atTick 999).now / 1000 * 1000 ≤ (s.port 18).beat ∧
    fld m.toNat 472 24 = 9 ∧ fld m.toNat 496 5 = 0 ∧ bit m.toNat 464 = true ∧ (s.bundle 18).waiting = [] ∧
    (s.bundle 18).gap = true ∧ (s.bundle 19).gap = true ∧ (s.bundle 0).gap = false ∧ (s.port 18).fails < 15 ∧
    15 ≤ (s.port 0).fails ∧ ((after (.laneBerCheck 18 bers 0) s).port 18).swap = [(0, 8)] ∧
    ((after (.laneBerCheck 18 (List.replicate 9 2125000) 0) s).port 18).swap = [] ∧
    ((after (.calibrationGroup 0) s).port 0).active = [8, 1, 2, 3, 4, 5, 6, 7] ∧
    (after (.calibrationGroup 18) s).port 18 = s.port 18 ∧
    ((after (.heartbeatSend 18 1000) s).port 18).beat = 1000 ∧ ((after (.heartbeatSend 18 999) s).port 18).beat = 0 ∧
    ((after (.idleFrameGroup 18 ⟨frameHead 5 1 0, m⟩ 77) s).port 18).heard = 77 ∧
    ((after (.idleFrameGroup 18 ⟨frameHead 5 1 0, m⟩ 77) s).port 18).tdepth = 2 ∧
    ((after (.idleFrameGroup 18 ⟨frameHead 5 1 0, m⟩ 77) s).bundle 18).seen = 5 ∧
    bit ((after (.fseqGapTimeout 19) s).port 19).mapSent.toNat 12 = true ∧ after (.fseqGapTimeout 0) s = s ∧
    ((after (.dataFrameGroup 18 false [] [] 0) s).port 18).fails = 15 ∧
    ((after (.dataFrameGroup 0 false [] [] 0) s).port 0).phase = .down := by decide +kernel

/-- A data group of one line for a receive end, after FSEQ 4,095. -/
theorem witness_PortsServe_data :
    let c : Circuit := { port := 18, tag := 6, dest := .recv 0 0 0 0, connId := 1, cls := false, src := 9, dst := 5 }
    let s := linked [(18, { phase := .up, width := 3 })] [(18, { got := 4095 })] [c]
    let m : Flit := BitVec.ofNat 512 (2 ^ 80 * (1 + 2 ^ 7 + 6 * 2 ^ 18))
    let heads := [frameHead 0 0 1, frameHead 0 0 0]
    let payloads : List (List Flit) := [[33], [m]]
    let frames := framesOf heads payloads
    runOf m 1 = some (0, false, 6) ∧ s.circuit 18 6 = some c ∧ (s.bundle (s.bundleOf 18)).held = [] ∧
    s.isUp 18 = true ∧ groupFseq frames = ((s.bundle 18).got + 1) % 4096 ∧
    groupFlits 3 (deskew (widthLanes 3) frames) = [⟨0, false, 6, 33, none, none⟩] ∧
    ((after (.dataFrameGroup 18 true heads payloads 0) s).bundle 18).got = 0 ∧
    (after (.dataFrameGroup 18 true heads payloads 0) s).circuit 18 6 = some { c with lines := [33] } := by decide +kernel

theorem witness_PartnersLeave :
    let p : Port := { phase := .up, watch := true, partner := 9 }
    let s := linked [(0, p), (10, p), (18, p), (19, p), (5, { returnBy := some 50 })]
    let f : Flit := BitVec.ofNat 512 (9 * 2 ^ 8 + 5 * 2 ^ 64)
    let t : State := { s with links := { s.links with fronts := [⟨9, 0, 0⟩] } }
    let a : State := { s with mbox := { s.mbox with slots := [(6, { bound := true, agent := 9 })] } }
    let g : Flit := BitVec.ofNat 512 (6 * 2 ^ 16 + 2 ^ 24 + 20 * 2 ^ 32)
    (s.port 0).heard + 3500 ≤ (s.atTick 3500).now ∧ (s.atTick 3499).now < (s.port 0).heard + 3500 ∧
    (∃ v ∈ List.range 20, v ≠ 0 ∧ s.bundleOf v = s.bundleOf 0 ∧ s.isUp v = true) ∧ (s.port 5).returnBy = some 50 ∧
    s.isUp 5 = false ∧ flitAt f 1 1 ≠ 2 ∧ flitAt f 1 3 = 9 ∧ flitAt f 16 4 = 0 ∧ t.now < 0 + 10000000 ∧
    s.links.fronts = [] ∧ flitAt f 1 3 ≠ s.code ∧
    (∀ x, x < 16 → (s.ctx x).phase = .free ∧ (s.ctx x).halo.phase = .unpaired ∧ (s.ctx x).job.modules = []) ∧
    s.role 19 = 6 ∧ flitAt g 2 1 = 6 ∧ (a.slot 6).bound = true ∧ (a.slot 6).agent = (a.port 19).partner ∧
    bit (flitAt g 3 1) 0 = true ∧ bit (flitAt g 3 1) 1 = false ∧
    ((after (.portSilent 0 3500) s).port 0).phase = .down ∧ after (.portSilent 0 3499) s = s.atTick 3499 ∧
    ((after (.absenceReturnBy 5 50) s).port 5).watch = true ∧ after (.absenceReturnBy 5 49) s = s.atTick 49 ∧
    s.role 10 ≠ 5 ∧ flitAt (0 : Flit) 1 1 = 0 ∧ s.role 18 = 5 ∧
    ((after (.absence 18 0) s).port 18).phase = .absentPlanned ∧
    ((after (.absence 10 f) s).port 10).phase = .absentPlanned ∧ ((after (.absence 10 f) s).port 10).returnBy = some 5 ∧
    after (.faultFront 18 f) t = t ∧ (after (.faultFront 18 f) s).links.fronts = [⟨9, 0, 0⟩] ∧
    a.circuitOn 19 0 = none ∧ ((after (.mgmt 19 ⟨0, g⟩) a).slot 6).assembling = some (List.replicate 20 0) := by decide +kernel

/-- The module with a bound elastic receive end 2 and send end 3 of context 0, and their circuits. -/
def carrying (c : CircuitEnd) : State :=
  let e : RecvEp := { state := .bound, elastic := true, kind := 1, asem := 4, esize := 2, depth := 4, connId := 7 }
  let d : SendEp := { state := .bound, elastic := true, kind := 1, csem := 5, esize := 2, depth := 4, inFlight := 1, connId := 7,
                      peers := [⟨9, 0, 0, 2, 18, 8⟩], freed := [0] }
  { linked [(18, { phase := .up, partner := 9 }), (19, { phase := .up, partner := 12582921 })] []
      [{ port := 18, tag := 6, dest := c, connId := 7, cls := false, src := 9, dst := 5, lines := [33] }] with
      ctxs := [(0, ctx0)], cores := [(0, { recvEps := [(2, e)], sendEps := [(3, d)] })] }

theorem witness_CircuitsCarry :
    let f : Flit := BitVec.ofNat 512 (6 * 2 ^ 16 + 9 * 2 ^ 32 + 1 * 2 ^ 48)
    let r := carrying (.recv 0 0 2 0)
    let s := carrying (.send 0 0 3 0)
    let t := carrying (.through 19 3)
    let q : Flit := BitVec.ofNat 512 (8 * 2 ^ 16)
    let o : State := { r with drams := [(0, { remoteOpen := true })],
                              ctxs := [(0, { ctx0 with image := some { drams := 1, dram := [[0]], sections := [⟨11, 2047, [1]⟩] } })] }
    flitAt f 2 2 = 6 ∧ (r.circuit 18 6).map Circuit.dest = some (.recv 0 0 2 0) ∧
    ((r.core c0).recvEps.get {} 2).state = .bound ∧ ((s.core c0).sendEps.get {} 3).state ≠ .unbound ∧
    (s.circuit 18 6).map Circuit.dest = some (.send 0 0 3 0) ∧ (t.circuit 18 6).map Circuit.dest = some (.through 19 3) ∧
    r.replyCtx 18 6 = none ∧ r.replyCtx 18 8 = some 0 ∧ r.remoteClosed 0 0 0 1 = true ∧ o.replyCtx 18 8 = some 0 ∧
    o.remoteClosed 0 0 0 1 = false ∧
    (((after (.entryEnd 18 f) r).core c0).sems.get {} 4).pending = 9 ∧
    ((((after (.entryEnd 18 f) r).core c0).recvEps.get {} 2).sub 0).done = 1 ∧
    ((after (.entryEnd 18 f) t).bundle 19).sent = 1 ∧ ((after (.remoteRd 18 q) o).stack 0).remote.length = 1 ∧
    after (.calFlit 18 f) r = r := by decide +kernel

/-- The bulk connection takes the lines; a tag that no circuit has; a management flit of through traffic goes on. -/
theorem witness_CircuitsCarry_others :
    let f : Flit := BitVec.ofNat 512 (6 * 2 ^ 16 + 9 * 2 ^ 32 + 1 * 2 ^ 48)
    let n : Flit := BitVec.ofNat 512 (5 * 2 ^ 16)
    let t := carrying (.through 19 3)
    let k : Bulk := ⟨7, 0, 18, 3, [], 0, false⟩
    let b : State := { carrying (.bulk 0) with links := { (carrying (.bulk 0)).links with bulks := [k] } }
    (b.circuit 18 6).map Circuit.dest = some (.bulk 0) ∧ b.bulk 7 = some k ∧ (b.ctx 0).weights.busy = false ∧
    b.mbox.deferred = [] ∧ ((after (.entryEnd 18 f) b).bulk 7).map (fun k => k.bytes.take 2) = some [33, 0] ∧
    b.circuit 18 5 = none ∧ after (.entryEnd 18 n) b = b ∧ after (.entryCredit 18 n) b = b ∧
    (t.circuitOn 18 6).map Circuit.dest = some (.through 19 3) ∧
    ((after (.mgmt 18 ⟨6, f⟩) t).bundle 19).replay.length = 1 := by decide +kernel

def anOpen : Opening :=
  { bind := { unbind := false, send := true, core := 0, ep := 3, kind := 1, cls := false, sem := 5, esize := 2, depth := 4,
              count := 1, index := 0, connId := 7, peers := [⟨9, 0, 0, 2, 18, 8⟩], ticket := 1 },
    ctx := 0, slot := 1, deadline := 100, waiting := [0] }

theorem witness_ConnectionsOpenAndBreak :
    let f : Flit := BitVec.ofNat 512 (7 * 2 ^ 8 + 5 * 2 ^ 64 + 1 * 2 ^ 88 + 6 * 2 ^ 96 + 1 * 2 ^ 112 + 3 * 2 ^ 120 + 2 * 2 ^ 231)
    let r := carrying (.recv 0 0 2 0)
    let s : State := { r with links := { r.links with openings := [anOpen] } }
    let a : Flit := BitVec.ofNat 512 (7 * 2 ^ 8 + 11 * 2 ^ 96)
    let n : Flit := BitVec.ofNat 512 (7 * 2 ^ 8 + 1 * 2 ^ 40)
    flitAt f 8 3 = r.code ∧ r.openCheck 0 f = 0 ∧ ((r.takeTag (r.bundleOf 0)).map (fun p => p.2)) = some 1 ∧
    fld (flitAt f 24 8) 28 11 ≠ 2047 ∧ (linked []).openCheck 0 f ≠ 0 ∧
    s.links.openings.find? (fun o => o.bind.connId = flitAt a 1 4) = some anOpen ∧ flitAt a 5 1 = 0 ∧
    anOpen.bind.peers[0]?.isSome = true ∧ s.bundleOf 18 = 18 ∧ anOpen.bind.core ≠ 2047 ∧ flitAt n 5 1 ≠ 0 ∧
    anOpen.deadline ≤ (s.atTick 100).now ∧ (s.atTick 99).now < anOpen.deadline ∧ s.bulk 7 = none ∧
    (after (.openFlit 0 f) r).links.circuits.length = 2 ∧ (after (.openFlit 0 f) (linked [])).links.circuits = [] ∧
    ((after (.openAck 18 a) s).ctx 0).binds.length = 1 := by decide +kernel

theorem lowestFree_full (n : Nat) : ∀ k, lowestFree k (List.range' k n) = k + n := by
  induction n with
  | zero => intro k; rfl
  | succ n ih =>
    intro k
    rw [List.range'_succ, lowestFree, if_pos rfl, ih]
    omega

/-- OPEN where no tag is left, for a management endpoint, for a module behind port 19, and for one that no way leads to. -/
theorem witness_ConnectionsOpenAndBreak_opens :
    let f := fun dst core : Nat =>
      (BitVec.ofNat 512 (8 * 2 ^ 8 + dst * 2 ^ 64 + 1 * 2 ^ 88 + 4 * 2 ^ 96 + core * 2 ^ 220) : Flit)
    let r := carrying (.recv 0 0 2 0)
    r.openCheck 18 (f 5 2047) = 0 ∧ fld (flitAt (f 5 2047) 24 8) 28 11 = 2047 ∧
    ((after (.openFlit 18 (f 5 2047)) r).bulk 8).map Bulk.ctx = some 0 ∧
    r.route (flitAt (f 12582921 0) 8 3) 8 = some 19 ∧ ((r.takeTag 19).map (fun p => p.2)) = some 1 ∧
    (((after (.openFlit 18 (f 12582921 0)) r).circuit 18 4).map Circuit.dest) = some (.through 19 1) ∧
    r.route (flitAt (f 4 0) 8 3) 8 = none ∧ (after (.openFlit 18 (f 4 0)) r).links.circuits.length = 1 := by decide +kernel

theorem takeTag_full (s : State) (p : Nat) (h : (s.bundle (s.bundleOf p)).tags = List.range' 1 65535) : s.takeTag p = none := by
  have : ¬ lowestFree 1 (s.bundle (s.bundleOf p)).tags < 65536 := by rw [h, lowestFree_full]; decide
  exact if_neg this

theorem tags_of_linked (l : List Nat) :
    ((linked [] [(18, { tags := l })]).bundle ((linked [] [(18, { tags := l })]).bundleOf 18)).tags = l := rfl

theorem witness_ConnectionsOpenAndBreak_tags :
    (linked [] [(18, { tags := List.range' 1 65535 })]).takeTag 18 = none := takeTag_full _ _ (tags_of_linked _)

/-- OPEN_ACK of a peer that is not asked, of one of two peers, of a bulk connection's peer; of through traffic, accepted
and refused; and of nothing here. -/
theorem witness_ConnectionsOpenAndBreak_acks :
    let t := carrying (.through 19 3)
    let two : Opening := { anOpen with bind := { anOpen.bind with peers := [⟨9, 0, 0, 2, 18, 8⟩, ⟨9, 0, 0, 2, 18, 9⟩] }, waiting := [0, 1] }
    let far : Opening := { anOpen with bind := { anOpen.bind with peers := [⟨9, 0, 0, 2, 19, 8⟩] } }
    let bulk : Opening := { anOpen with bind := { anOpen.bind with core := 2047 } }
    let on := fun o : Opening => ({ t with links := { t.links with openings := [o] } } : State)
    let a : Flit := BitVec.ofNat 512 (7 * 2 ^ 8 + 11 * 2 ^ 96)
    let n : Flit := BitVec.ofNat 512 (7 * 2 ^ 8 + 1 * 2 ^ 40)
    let z : Flit := BitVec.ofNat 512 (9 * 2 ^ 8)
    after (.openAck 18 a) (on far) = on far ∧ ((after (.openAck 18 a) (on two)).links.openings.map Opening.waiting) = [[1]] ∧
    ((after (.openAck 18 a) (on bulk)).bulk 7).map Bulk.ctx = some 0 ∧
    (t.throughOf 19 7).isSome = true ∧ t.throughOf 19 9 = none ∧ after (.openAck 19 z) t = t ∧
    (((after (.openAck 19 a) t).circuit 19 11).map Circuit.dest) = some (.through 18 1) ∧
    (after (.openAck 19 n) t).links.circuits = [] ∧ t.links.openings = [] ∧ (on anOpen).opensMirror anOpen = false ∧
    (after (.openAck 18 n) (on anOpen)).links.openings = [] := by decide +kernel

/-- The opening of a mirror circuit that is refused: the pairing is not made; a resumption ends. -/
theorem witness_ConnectionsOpenAndBreak_mirror :
    let o : Opening := { anOpen with bind := { anOpen.bind with core := 2047, ep := 0, peers := [⟨9, 0, 2047, 0, 18, 8⟩] } }
    let s := fun h : Halo => ({ linked [(18, { phase := .up, partner := 9 })] with
      ctxs := [(0, { phase := .idle, sites := [0], halo := h })], links := { openings := [o] } } : State)
    let a := s { phase := .active, partner := 9, pairId := 7 }
    let r := s { phase := .suspended, partner := 9, pairId := 7, resume := true, ticket := 3 }
    let n : Flit := BitVec.ofNat 512 (7 * 2 ^ 8 + 1 * 2 ^ 40)
    a.opensMirror o = true ∧ r.opensMirror o = true ∧ (a.ctx 0).holds.checkpoint = false ∧ (a.ctx 0).holds.mirrorLag = false ∧
    ((after (.openAck 18 n) a).ctx 0).halo = {} ∧
    ((after (.openAck 18 n) r).ctx 0).halo = { phase := .suspended, partner := 9, pairId := 7 } ∧
    ((after (.connOpenTimeout 7 100) a).ctx 0).halo = {} := by decide +kernel

theorem witness_ConnectionsOpenAndBreak_close :
    let r := carrying (.recv 0 0 2 0)
    let s : State := { r with links := { r.links with openings := [anOpen] } }
    let f : Flit := BitVec.ofNat 512 (7 * 2 ^ 8)
    (after (.connOpenTimeout 7 100) s).links.openings = [] ∧ after (.connOpenTimeout 7 99) s = s.atTick 99 ∧
    (after (.connOpenTimeout 9 100) s) = s.atTick 100 ∧ r.bulk 7 = none ∧ (∀ x, x < 16 → (r.ctx x).halo.pairId ≠ 7) ∧
    (after (.closeFlit 18 f) r).links.circuits = [] ∧
    (((after (.closeFlit 18 f) r).core c0).sendEps.get {} 3).state = .broken ∧
    (((after (.breakFlit 18 f) r).core c0).recvEps.get {} 2).state = .broken ∧
    (((after (.breakFlit 18 f) r).core c0).sems.get {} 4).brk = true := by decide +kernel

/-! ### Settings, transactions, contexts, images -/

theorem witness_SettingWrites :
    let q := fun (sid v : Nat) => cmd sid (bytesOf 8 v)
    let k : CmdSpec := { op := 0x21, who := .owner, early := true, arg := 2 ^ 32 - 1, len := fun n => n = 8 }
    let u := fun (sid v : Nat) => run.entered 1 (q sid v) 0x21
    let t : State := { run with links := { ports := [(0, { phase := .up })] } }
    Serves run 1 (q 0x42 7) k ∧ Serves run 1 (q 0x43 1) k ∧ Serves run 1 (q 0x03 1) k ∧ Serves run 1 (q 0x52 50) k ∧
    Serves run 1 (q 0xFF 0) k ∧ Serves t 1 (q 0x10 1) k ∧
    (u 0x42 7).settingCheck 0x42 7 = stOK ∧ sidInfo run.variant 0x42 = some (0, 1) ∧ (u 0x43 1).settingCheck 0x43 1 = stOK ∧
    sidInfo run.variant 0x43 = some (1, 1) ∧ (run.ctx (sidInst 0x43)).active = true ∧ (u 3 1).settingCheck 3 1 = stOK ∧
    sidInfo run.variant 3 = some (2, 0) ∧ (u 3 1).unitRuns 3 = true ∧ (u 0x52 50).settingCheck 0x52 50 = stOK ∧
    sidInfo run.variant 0x52 = some (3, 1) ∧ (u 0xFF 0).settingCheck 0xFF 0 ≠ stOK ∧ boardSetting 0x42 = false ∧
    (u 0x54 1).sealsOver [⟨0x54, 1, 0⟩] = false ∧
    (after (.settingWrite 1 (q 0x42 7)) run).setting 0x42 0 = 7 ∧ (after (.settingWrite 1 (q 0x43 1)) run).setting 0x43 0 = 0 ∧
    (after (.settingWrite 1 (q 0x43 1)) run).mbox.lone.length = 1 ∧ (after (.settingWrite 1 (q 3 1)) run).setting 3 0 = 0 ∧
    ((after (.settingWrite 1 (q 0x52 50)) run).slot 1).response.getD 0 0 = BitVec.ofNat 8 stPairedField :=
  ⟨serves_of (by decide +kernel), serves_of (by decide +kernel), serves_of (by decide +kernel), serves_of (by decide +kernel), serves_of (by decide +kernel),
    serves_of (by decide +kernel), by decide +kernel⟩

theorem witness_SettingWrites_time :
    let q := cmd 0 (bytesOf 8 (2 ^ 64 - 1))
    let s : State := { host with mbox := { host.mbox with settings := [(3, some 1)] } }
    Serves s 1 q { op := 0x75, who := .owner, len := fun n => n = 8 } ∧
    Serves host 1 q { op := 0x75, who := .owner, len := fun n => n = 8 } ∧ s.mayLoad = true ∧ host.mayLoad = false ∧
    (after (.timeSet 1 q) s).time.now = 2 ^ 64 - 1 ∧ (after (.timeSet 1 q) host).time.now = 0 :=
  ⟨serves_of (by decide +kernel), serves_of (by decide +kernel), by decide +kernel⟩

/-- The running context with an open transaction. -/
def staging (l : List Staged) : State := { run with mbox := { run.mbox with txn := some l } }

theorem witness_TransactionsRun :
    let a : Staged := ⟨0x42, 5, 1⟩
    let b : Staged := ⟨0x43, 1, 2⟩
    let s := staging [a, b]
    let q := cmd 0x42 (bytesOf 8 9)
    let c := withArg (cmd 0 (bytesOf 8 0)) 0 1 0
    let d := withArg (cmd 1 (bytesOf 8 100000)) 0 1 1
    Serves run 1 (cmd 0) { op := 0x22, who := .owner } ∧ Serves s 1 (cmd 0) { op := 0x22, who := .owner } ∧
    run.mbox.txn = none ∧ s.mbox.txn = some [a, b] ∧
    Serves s 1 q { op := 0x23, who := .owner, arg := 2 ^ 32 - 1, len := fun n => n = 8 } ∧
    (s.entered 1 q 0x23).settingCheck 0x42 9 = stOK ∧ Serves s 1 (cmd 0) { op := 0x25, who := .owner } ∧
    Serves s 1 c { op := 0x24, who := .owner, arg := 1, len := fun n => n = 8 } ∧
    ((s.entered 1 c 0x24).commitCheck [a, b] none).1 = stOK ∧
    [a, b].filter (fun e => !(s.entered 1 c 0x24).partNow e) = [b] ∧
    Serves s 1 d { op := 0x24, who := .owner, arg := 1, len := fun n => n = 8 } ∧
    ((s.entered 1 d 0x24).commitCheck [a, b] (some 100000)).1 = stOK ∧
    (after (.beginTxn 1 (cmd 0)) run).mbox.txn = some [] ∧ (after (.setStage 1 q) s).mbox.txn = some [⟨0x42, 9, 1⟩, b] ∧
    (after (.rollback 1 (cmd 0)) s).mbox.txn = none ∧
    (after (.commitBoundary 1 c) s).mbox.committed.map Committed.rest = some [b] ∧
    (after (.commitBoundary 1 c) s).setting 0x42 0 = 5 ∧
    (after (.commitTick 1 d) s).mbox.committed.map Committed.tick = some (some 100000) :=
  ⟨serves_of (by decide +kernel), serves_of (by decide +kernel), rfl, rfl, serves_of (by decide +kernel), by decide +kernel, serves_of (by decide +kernel),
    serves_of (by decide +kernel), by decide +kernel, by decide +kernel, serves_of (by decide +kernel), by decide +kernel⟩

theorem witness_TransactionsRun_apply :
    let p : Staged := ⟨0x42, 5, 1⟩
    let s : State := { run with mbox := { run.mbox with committed := some ⟨some 500, [p], 0, 1, 1⟩ } }
    s.mbox.committed = some ⟨some 500, [p], 0, 1, 1⟩ ∧ sidInfo s.variant p.sid = some (0, 1) ∧ s.partLost p.sid = false ∧
    500 ≤ (s.atTick 500).now ∧ (s.atTick 499).now < 500 ∧ (after (.txnApplyTick 500) s).setting 0x42 0 = 5 ∧
    (after (.txnApplyTick 500) s).mbox.committed = none ∧ after (.txnApplyTick 499) s = s.atTick 499 := by decide +kernel

/-- The module with context 0 in a phase, holding site 15. -/
def phased (p : CtxPhase) : State := { host with ctxs := [(0, { phase := p, sites := [15], quads := [3] })] }

theorem witness_ContextsComeAndGo :
    let q := cmd 0x8000
    Serves host 1 q { op := 0x30, who := .owner, ctx := true, arg := 65535 } ∧ host.createCheck 0 (bitsUp 16 0x8000) = stOK ∧
    host.cmdRoom 0 = true ∧ (phased .creating).loadOf 0 = none ∧
    Serves (phased .idle) 1 (cmd 0) { op := 0x31, who := .owner, ctx := true } ∧ Roomy (phased .idle) (cmd 0) ∧
    Serves (phased .idle) 1 (cmd 1) { op := 0x34, who := .owner, ctx := true, arg := 255 } ∧
    ((after (.contextCreate 1 q) host).ctx 0).phase = .creating ∧ ((after (.contextCreate 1 q) host).ctx 0).sites = [15] ∧
    ((after (.contextDestroy 1 (cmd 0)) (phased .idle)).ctx 0).phase = .destroying ∧
    (after (.resourcesReleased 0) (phased .destroying)).ctx 0 = {} ∧
    granuleSum ((after (.evict 1 (cmd 1)) (phased .idle)).ctx 0).dram = 0 :=
  ⟨serves_of (by decide +kernel), by decide +kernel, by decide +kernel, by decide +kernel, serves_of (by decide +kernel), ⟨by decide +kernel, by decide +kernel⟩,
    serves_of (by decide +kernel), by decide +kernel⟩

theorem witness_ContextsComeAndGo_zeroed :
    let s : State := { phased .creating with mem := [(coreAddr 1080 0, 7)] }
    (s.ctx 0).logical 0 = 1080 ∧ ((after (.contextZeroed 0) s).ctx 0).phase = .idle ∧
    Memory.byte (after (.contextZeroed 0) s).mem (coreAddr 1080 0) = 0 := by decide +kernel

theorem witness_ContextsStartAndStop :
    let s : State := { host with ctxs := [(0, { phase := .idle, sites := [0], quads := [0], image := some { cores := 72 } })] }
    let j := cmd 5 (bytesOf 2 1 ++ List.replicate 30 0 ++ bytesOf 4 9)
    Serves s 1 (cmd 0) { op := 0x32, who := .owner, ctx := true } ∧ s.startCheck 0 = stOK ∧ s.allStaged 0 = false ∧
    Serves run 1 (cmd 0) { op := 0x33, who := .owner, ctx := true } ∧ Roomy run (cmd 0) ∧ (run.ctx 0).phase = .running ∧
    (run.ctx 0).item ≠ 4 ∧
    Serves s 1 (cmd 0 (bytesOf 16 5)) { op := 0x35, who := .owner, ctx := true, len := fun n => n % 16 = 0 && decide (n ≤ 1024) } ∧
    Serves s 1 j { op := 0x36, who := .owner, ctx := true, arg := 2 ^ 32 - 1, len := fun l => l = 32 + 4 * leAt j.payload 0 2 } ∧
    leAt j.payload 0 2 = 1 ∧ argFld j 0 32 ≠ 0 ∧ (∀ v ∈ ((j.payload.drop 8).take 20).map BitVec.toNat, v ≤ 3) ∧
    s.layoutCheck (((j.payload.drop 8).take 20).map BitVec.toNat) = none ∧ (s.ctx 0).job.id = 0 ∧
    Serves s 1 (cmd 0) { op := 0x37, who := .owner, ctx := true } ∧
    ((after (.contextStart 1 (cmd 0)) s).ctx 0).resume = some (0, 0) ∧
    ((after (.contextStop 1 (cmd 0)) run).ctx 0).phase = .stopping ∧
    ((after (.patchStage 1 (cmd 0 (bytesOf 16 5))) s).ctx 0).patch = [5] ∧
    ((after (.jobOpen 1 j) s).ctx 0).job.modules = [9] ∧ ((after (.jobClose 1 (cmd 0)) s).ctx 0).job = {} :=
  ⟨serves_of (by decide +kernel), by decide +kernel, by decide +kernel, serves_of (by decide +kernel), ⟨by decide +kernel, by decide +kernel⟩, by decide +kernel, by decide +kernel,
    serves_of (by decide +kernel), serves_of (by decide +kernel), by decide +kernel, by decide +kernel, by decide +kernel, by decide +kernel, by decide +kernel,
    serves_of (by decide +kernel), by decide +kernel⟩

/-- The module with context 0 in a phase and a bulk connection 7 that holds bytes. -/
def bulked (p : CtxPhase) (bytes : List Byte) (d : List Deferred := []) : State :=
  { host with ctxs := [(0, { phase := p, sites := [0], quads := [0] })], links := { bulks := [⟨7, 0, 18, 3, bytes, 0, false⟩] },
              mbox := { host.mbox with deferred := d, settings := [(0x51, some 0)] } }

theorem witness_ImagesAndWeightsLoad :
    let q := cmd 7 (bytesOf 8 80)
    let k := fun op : Nat => ({ op, who := .owner, ctx := true, arg := 2 ^ 32 - 1, len := fun n => n = 8 } : CmdSpec)
    let i := bulked .idle []
    let r := bulked .running []
    HasBulk i 1 q ⟨7, 0, 18, 3, [], 0, false⟩ ∧ Roomy i q ∧ HasBulk r 1 q ⟨7, 0, 18, 3, [], 0, false⟩ ∧ Roomy r q ∧
    Serves i 1 q (k 0x40) ∧ Serves i 1 q (k 0x41) ∧ Serves r 1 q (k 0x42) ∧
    (i.ctx 0).weights.busy = false ∧ (i.ctx 0).halo.phase ≠ .active ∧ (i.ctx 0).loading = none ∧ (r.ctx 0).active = true ∧
    ((after (.imageLoad 1 q) i).ctx 0).loading = some 7 ∧ ((after (.weightLoad 1 q) i).ctx 0).weights.len = 80 ∧
    ((after (.weightSwap 1 q) r).ctx 0).weights.swap = true :=
  ⟨⟨by decide +kernel, rfl, rfl⟩, ⟨by decide +kernel, by decide +kernel⟩, ⟨by decide +kernel, rfl, rfl⟩, ⟨by decide +kernel, by decide +kernel⟩, serves_of (by decide +kernel),
    serves_of (by decide +kernel), serves_of (by decide +kernel), by decide +kernel⟩

/-- An image of no bundles for one site, and bytes that are none. -/
def anImage : List Byte :=
  bytesOf 64 (0x4D494B46 + 2 ^ 32 + 2 ^ 48 + 72 * 2 ^ 64 + 2 ^ 80) ++ bytesOf 16 (1 + 2047 * 2 ^ 8 + 80 * 2 ^ 64)

theorem witness_ImagesAndWeightsLoad_received :
    let d : Deferred := { ticket := 1, slot := 1, ctx := some 0, opcode := 0x40, key := 7, aux := 80 }
    let s := bulked .idle anImage [d]
    let n := bulked .idle (List.replicate 80 0) [d]
    s.loadOf 0 = some d ∧ (s.bulk 7).map Bulk.bytes = some anImage ∧
    (match s.imageCheck 0 anImage with | .inl _ => true | .inr _ => false) = true ∧
    n.imageCheck 0 (List.replicate 80 0) = .inr stImageFormat := by decide +kernel

theorem witness_ImagesAndWeightsLoad_replay :
    let q := withArg (cmd 0 (bytesOf 8 9 ++ bytesOf 512 5)) 0 2 0
    let e := withArg (cmd 1 (2 :: List.replicate 255 0)) 0 2 1
    let s := phased .idle
    Serves s 1 q { op := 0x47, who := .owner, ctx := true, arg := 3, len := fun n => n = 520 } ∧
    Serves s 1 e { op := 0x47, who := .owner, ctx := true, arg := 3, len := fun n => n % 256 = 0 && decide (n ≤ 3840) } ∧
    (∀ v ∈ chunksOf 256 16 e.payload, 2 ≤ leAt v 0 1 ∧ leAt v 0 1 ≤ 4) ∧
    ((after (.replayArmSet 1 (cmd 0 q.payload)) s).ctx 0).replay.orbit = some 9 ∧
    ((after (.replayArmSet 1 (cmd 0 q.payload)) s).ctx 0).replay.pars.getD 0 0 = 5 ∧
    ((after (.replayArmAppend 1 (cmd 1 e.payload)) s).ctx 0).replay.entries.length = 1 :=
  ⟨serves_of (by decide +kernel), serves_of (by decide +kernel), by decide +kernel⟩

/-! ### Grants, trust, the halo partner -/

theorem witness_GrantsAndEndsOpen :
    let g : Grant := { ctx := 0, quad := 3, valid := true }
    let s : State := { run with grants := [g], mbox := { run.mbox with settings := [(0x11, some 5)] } }
    let q := cmd (0 + 2 * 16 + 63 * 2 ^ 8 + 16 * 2 ^ 16)
    let spec := bytesOf 32 (1 * 2 ^ 1 + 71 * 2 ^ 8 + 15 * 2 ^ 19 + 47 * 2 ^ 23 + 7 * 2 ^ 64)
    let o := cmd 0 spec
    let e : State := { s with cores := [(71, { recvEps := [(15, { state := .bound, elastic := true, kind := 1, connId := 7 })] })] }
    Serves s 1 q { op := 0x70, who := .owner, arg := 0x1F3F3F } ∧ (s.ctx (argFld q 0 4)).phase ≠ .free ∧
    (s.ctx (argFld q 0 4)).heldQuads.contains (argFld q 4 2) = false ∧ argFld q 16 5 ≤ 16 ∧ s.grantRoom = some 1 ∧
    Serves s 1 (cmd 0) { op := 0x71, who := .owner, arg := 63 } ∧ s.grants[argFld (cmd 0) 0 6]? = some g ∧
    (s.entered 1 (cmd 0) 0x71).grantServes g true = false ∧
    Serves s 1 o { op := 0x72, who := .owner, ctx := true, len := fun n => n = specLength o.payload } ∧ Roomy s o ∧
    (Bind.ofBytes spec).send = false ∧ (Bind.ofBytes spec).core = 71 ∧
    (s.entered 1 o 0x72).openStart 0 (Bind.ofBytes spec) (fld (leAt spec 0 8) 4 4) = stOK ∧
    Serves e 1 (cmd (71 + 15 * 2 ^ 12)) { op := 0x73, who := .owner, ctx := true, arg := 0x1F7FF } ∧
    (e.closing 0 71 15 false).isSome = true ∧ (e.ctx 0).binds = [] ∧
    Serves s 1 (cmd 17) { op := 0x74, who := .owner, arg := 31 } ∧ s.pendingS [0x10, 0x11, 0x12, 0x13, 0x14] = false ∧
    s.role 17 ≠ 0 ∧ s.code ≠ 16777215 ∧
    Serves s 0 (cmd (2 ^ 32 - 1)) { op := 0x81, who := .ownerOrBoard, early := true, arg := 2 ^ 32 - 1 } ∧
    (after (.grantIssue 1 q) s).grants.length = 2 ∧ (after (.grantRevoke 1 (cmd 0)) s).grants.contains g = false ∧
    ((after (.connOpen 1 o) s).ctx 0).binds.length = 1 ∧
    ((after (.connClose 1 (cmd (71 + 15 * 2 ^ 12))) e).ctx 0).binds.map Bind.unbind = [true] ∧
    ((after (.portRetrain 1 (cmd 17)) s).port 17).phase = .training ∧
    (after (.eventAck 0 (cmd (2 ^ 32 - 1))) s).events.ackSeq = 0 :=
  ⟨serves_of (by decide +kernel), by decide +kernel, by decide +kernel, by decide +kernel, by decide +kernel, serves_of (by decide +kernel), by decide +kernel, by decide +kernel,
    serves_of (by decide +kernel), ⟨by decide +kernel, by decide +kernel⟩, by decide +kernel, by decide +kernel, by decide +kernel, serves_of (by decide +kernel), by decide +kernel,
    by decide +kernel, serves_of (by decide +kernel), by decide +kernel, by decide +kernel, by decide +kernel, serves_of (by decide +kernel), by decide +kernel⟩

/-- The owner's module with a bulk connection 7 and signing indices in hand. -/
def trusted : State :=
  { host with anchors := [(15, { id := 3, valid := true })], links := { bulks := [⟨7, 0, 18, 3, [], 0, false⟩] },
              flash := { repairs := [16], identityKey := { next := 5, bound := 6 }, ledgerKey := { next := 5, bound := 6 } } }

theorem witness_TrustCommands :
    let a := cmd 0 (bytesOf 8 (9 + 2 ^ 32) ++ [0, 0, 0, 0x10] ++ List.replicate 64 0)
    let r := withArg (cmd 0xF00) 0 1 1
    let add := withArg (cmd 0 (bytesOf 8 0)) 0 1 1
    let del := withArg (cmd 0 (bytesOf 8 16)) 0 1 0
    Serves trusted 1 a { op := 0x43, who := .owner, len := fun n => n = 76 } ∧ trusted.anchorRoom = some 0 ∧
    oidOk (keyOid (a.payload.drop 8)) = true ∧ Serves trusted 1 r { op := 0x44, who := .owner, arg := 0xF01 } ∧
    argFld r 8 4 = 15 ∧ (trusted.anchors.get {} 15).valid = true ∧
    (∀ x, x < 16 → (trusted.ctx x).weights.usesAnchor 15 = false) ∧
    Serves trusted 1 add { op := 0x94, who := .owner, arg := 1, len := fun n => n = 8 } ∧ trusted.repairs.length < 1024 ∧
    Serves trusted 1 del { op := 0x94, who := .owner, arg := 1, len := fun n => n = 8 } ∧ bit 16 4 = true ∧
    trusted.repairs.contains 16 = true ∧
    ((after (.anchorInstall 1 a) trusted).anchors.get {} 0).id = 9 ∧
    ((after (.anchorRemove 1 (cmd 0xF00)) trusted).anchors.get {} 15).valid = false ∧
    (after (.fieldRepairAdd 1 (cmd 0 (bytesOf 8 0))) trusted).repairs = [16, 16] ∧
    (after (.fieldRepairRemove 1 (cmd 0 (bytesOf 8 16))) trusted).repairs = [] :=
  ⟨serves_of (by decide +kernel), by decide +kernel, by decide +kernel, serves_of (by decide +kernel), by decide +kernel, by decide +kernel, by decide +kernel,
    serves_of (by decide +kernel), by decide +kernel, serves_of (by decide +kernel), by decide +kernel⟩

theorem witness_TrustCommands_bulk :
    let l := cmd (7 + 16 * 2 ^ 32 + 2 ^ 40) (bytesOf 16 0)
    let a := cmd 7 (List.replicate 32 0)
    let b := withArg (cmd (7 * 2 ^ 32) (bytesOf 8 64)) 0 1 0
    let c := withArg (cmd 1 (bytesOf 8 0 ++ [5])) 0 1 1
    Serves trusted 1 l { op := 0x45, who := .all, arg := 2 ^ 37 - 1 + 2 ^ 40, len := fun n => n = 16 } ∧ trusted.isG = true ∧
    argFld l 32 5 ≤ 16 ∧ trusted.bulkOpen (argFld l 0 32) = true ∧ trusted.ledger.reads = [] ∧ trusted.flash.spill = [] ∧
    bit l.arg.toNat 40 = true ∧
    Serves trusted 1 a { op := 0x46, who := .all, arg := 2 ^ 37 - 1, len := fun n => n = 32 } ∧
    trusted.flash.identityKey.ready (2 ^ 40) = true ∧
    Serves trusted 1 b { op := 0xA0, who := .owner, early := true, arg := 2 ^ 64 - 2 ^ 32 + 1, len := fun n => n = 8 } ∧
    trusted.bulk (argFld b 32 32) = some ⟨7, 0, 18, 3, [], 0, false⟩ ∧ leAt b.payload 0 8 = 64 ∧
    Serves trusted 1 c { op := 0xA0, who := .owner, early := true, rom := true, arg := 3, len := fun n => decide (8 ≤ n) } ∧
    leAt c.payload 0 8 ≤ trusted.boot.staging.length ∧ bit c.arg.toNat 1 = false ∧
    (after (.ledgerRead 1 l) trusted).ledger.reads.map LRead.stream = [16] ∧
    (after (.attest 1 a) trusted).flash.identityKey.next = 6 ∧ (after (.fwStageBulk 1 (cmd (7 * 2 ^ 32) (bytesOf 8 64))) trusted).mbox.deferred.length = 1 ∧
    (after (.fwStageChunk 1 (cmd 1 (bytesOf 8 0 ++ [5]))) trusted).boot.staging = [5] :=
  ⟨serves_of (by decide +kernel), by decide +kernel, by decide +kernel, by decide +kernel, by decide +kernel, by decide +kernel, by decide +kernel, serves_of (by decide +kernel),
    by decide +kernel, serves_of (by decide +kernel), by decide +kernel, by decide +kernel, serves_of (by decide +kernel), by decide +kernel⟩

/-- The owner's module 5, its halo port up to module 9, and context 0 idle, in a job of both, with a record. -/
def haloed (h : Halo) (w : Weights := { phase := .valid }) : State :=
  { linked [(18, { phase := .up, partner := 9 })] with
      ctxs := [(0, { phase := .idle, sites := [0], quads := [0], weights := w, halo := h, job := { id := 1, modules := [5, 9] },
                     image := some { cores := 72, remoteOpen := true, drams := 1, dram := [[0]],
                                     sections := [⟨11, 2047, bytesOf 4 1000⟩] } })] }

/-- A region of eight lines from line 0 and a buffer from line 500. -/
def pairPayload (bufs : Nat) : List Byte :=
  bytesOf 4 (9 + 2 ^ 24) ++ bytesOf 4 0 ++ (List.range bufs).flatMap (fun i => bytesOf 8 ((500 + i) * 2 ^ 32)) ++
    bytesOf 16 (8 * 2 ^ 96)

theorem witness_HaloPartners_pair :
    let s := haloed {}
    let a := cmd 3 (pairPayload 3)
    let b := cmd 3 (pairPayload 1)
    let u := haloed { standby := true, partner := 9 }
    (s.ctx 0).phase ≠ .free ∧ Serves s 1 a { op := 0x96, who := .owner, ctx := true, arg := 2 ^ 32 - 1, len := pairLen a 32 } ∧
    regionsOk (leAt a.payload 3 1) (regionsAt a.payload 32 (leAt a.payload 3 1)) = true ∧
    s.pairOk 0 (leAt a.payload 0 3) (regionsAt a.payload 32 (leAt a.payload 3 1)) ([8, 16, 24].map (bufferAt a.payload)) = true ∧
    Serves s 1 b { op := 0x95, who := .owner, ctx := true, arg := 2 ^ 32 - 1, len := pairLen b 16 } ∧ Roomy s b ∧
    regionsOk (leAt b.payload 3 1) (regionsAt b.payload 16 (leAt b.payload 3 1)) = true ∧ (s.ctx 0).halo.standby = false ∧
    s.pairOk 0 (leAt b.payload 0 3) (regionsAt b.payload 16 (leAt b.payload 3 1)) [bufferAt b.payload 8] = true ∧
    Serves u 1 (cmd 0) { op := 0x97, who := .owner, ctx := true } ∧ (u.ctx 0).halo.standby = true ∧
    (u.ctx 0).halo.catchUp = false ∧ (u.ctx 0).item = 0 ∧
    ((after (.haloStandby 1 a) s).ctx 0).halo.buffers = [(0, 500), (0, 501), (0, 502)] ∧
    ((after (.haloUnpair 1 (cmd 0)) u).ctx 0).halo = {} :=
  ⟨by decide +kernel, serves_of (by decide +kernel), by decide +kernel, by decide +kernel, serves_of (by decide +kernel), ⟨by decide +kernel, by decide +kernel⟩, by decide +kernel,
    by decide +kernel, by decide +kernel, serves_of (by decide +kernel), by decide +kernel⟩

/-- The mirror circuit of the pairing 9: CLOSE unpairs its context, BREAK suspends it, and leaves it suspended. -/
theorem witness_HaloPartners_circuit :
    let s := fun p : HaloPhase => haloed { phase := p, partner := 9, pairId := 9 }
    let f : Flit := BitVec.ofNat 512 (9 * 2 ^ 8)
    (∀ p ∈ [HaloPhase.active, .suspended], ((s p).ctx 0).phase ≠ .free ∧ flitAt f 1 4 = ((s p).ctx 0).halo.pairId ∧
      (s p).role 18 = 5 ∧ ((s p).port 18).partner = 9 ∧ ((s p).ctx 0).halo.catchUp = false ∧ ((s p).ctx 0).item = 0 ∧
      (∀ y, y < 16 → y ≠ 0 → ((s p).ctx y).halo.pairId ≠ 9) ∧ (s p).bulk 9 = none ∧
      ((after (.closeFlit 18 f) (s p)).ctx 0).halo = {} ∧ ((after (.breakFlit 18 f) (s p)).ctx 0).halo.phase = .suspended) ∧
    ((List.range 20).find? (fun p => (s .active).role p = 5)).bind (fun p => ((s .active).takeTag p).map (fun v => v.2)) =
      some 1 := by decide +kernel

theorem witness_HaloPartners_takeover :
    let k : Checkpoint := { no := 2, bytes := bytesOf 16 0 ++ bytesOf 8 41 ++ bytesOf 40 0 }
    let s := haloed { standby := true, phase := .active, partner := 9, pairId := 3, ckpts := [k] }
    let r := haloed { phase := .suspended, partner := 9, pairId := 3 }
    (s.ctx 0).halo.newest = some k ∧ Serves s 1 (cmd 0) { op := 0x98, who := .owner, ctx := true } ∧ Roomy s (cmd 0) ∧
    (s.ctx 0).halo.mirrorPoint = none ∧ (s.ctx 0).halo.resume = false ∧ (s.ctx 0).phase = .idle ∧ s.allStaged 0 = false ∧
    ckptBinds k.bytes = 0 ∧ ckptSems k.bytes = 0 ∧ ckptSets k.bytes = 0 ∧ ckptOrbitOf k.bytes = 41 ∧
    Serves r 1 (cmd 0) { op := 0x99, who := .owner, ctx := true } ∧ Roomy r (cmd 0) ∧ (r.ctx 0).halo.phase = .suspended ∧
    (r.ctx 0).halo.standby = false ∧ (r.ctx 0).halo.resume = false ∧ r.haloReady 0 9 = true :=
  ⟨rfl, serves_of (by decide +kernel), ⟨by decide +kernel, by decide +kernel⟩, by decide +kernel, by decide +kernel, by decide +kernel, by decide +kernel, by decide +kernel, by decide +kernel,
    by decide +kernel, by decide +kernel, serves_of (by decide +kernel), ⟨by decide +kernel, by decide +kernel⟩, by decide +kernel⟩

theorem witness_HaloPartners_checkpoints :
    let k : Checkpoint := { no := 2, bytes := bytesOf 64 0 }
    let s : State := { haloed { standby := true, phase := .active, partner := 9, pairId := 3, ckpts := [k] } with
                         links := { bulks := [⟨7, 0, 18, 3, [], 0, false⟩] } }
    let q := cmd 7 (List.replicate 32 0)
    HasBulk s 1 q ⟨7, 0, 18, 3, [], 0, false⟩ ∧ Roomy s q ∧ (s.ctx 0).weights.busy = false ∧ s.mbox.deferred = [] ∧
    (s.ctx 0).phase = .idle ∧ (s.ctx 0).image ≠ none ∧
    Serves s 1 q { op := 0x9A, who := .owner, ctx := true, arg := 2 ^ 32 - 1, len := fun n => n = 32 } ∧
    Serves s 1 (cmd 7) { op := 0x9B, who := .all, ctx := true, arg := 2 ^ 32 - 1 } ∧ Roomy s (cmd 7) ∧
    s.bulkOpen (argFld (cmd 7) 0 32) = true ∧ (s.heldCkpt 0).isSome = true ∧
    (after (.checkpointRestore 1 q) s).mbox.deferred.length = 1 :=
  ⟨⟨by decide +kernel, rfl, rfl⟩, ⟨by decide +kernel, by decide +kernel⟩, by decide +kernel, by decide +kernel, by decide +kernel, by decide +kernel, serves_of (by decide +kernel),
    serves_of (by decide +kernel), ⟨by decide +kernel, by decide +kernel⟩, by decide +kernel⟩

theorem witness_HaloPartners_items :
    let s := haloed { standby := true, phase := .active, pairId := 3, mirrorPoint := some 4 }
    let a := haloed { phase := .active, partner := 9, pairId := 3, out := [.orbitEnd 6 []], mirrorPoint := some 4 }
    (List.range 16).find? (fun x => s.takesItems x 3) = some 0 ∧ (s.ctx 0).halo.resume = false ∧
    (List.range 16).find? (fun x => a.mirrored x && (a.ctx x).halo.pairId = 3) = some 0 ∧
    (a.ctx 0).halo.out = [.orbitEnd 6 []] ∧ (a.ctx 0).item = 0 ∧
    ((after (.mirrorItem 3 (.boundary 5 [])) s).ctx 0).halo.items = [.boundary 5 []] ∧
    ((after (.mirrorItem 3 (.orbitEnd 6 [])) s).ctx 0).halo.mirrorPoint = some 6 ∧
    ((after (.mirrorAck 3 6 none) a).ctx 0).halo.out = [] ∧
    ((after (.mirrorAck 3 6 none) a).ctx 0).halo.mirrorPoint = some 6 := by decide +kernel

/-! ### Recoveries, bring-up, power, the ledger -/

/-- What a stage or a self-test finds: nothing but its verdict. -/
def report (ok : Bool) : StageReport := { ok, defects := [], failed := [], ms := 1 }

/-- The module with a recovery of a core under way. -/
def recovering (r : Recovery) (c : Tab Ctx := []) : State := { host with recovery := { running := some r }, ctxs := c }

theorem witness_RecoveriesRun :
    let q := cmd (1151 * 16)
    let still : State := { host with mbox := { host.mbox with settings := [(0x71, some 0)] } }
    Serves host 1 q { op := 0x90, who := .owner, rom := true, arg := 0x1FFF7 } ∧ host.boot.rom = false ∧
    host.recovery.running = none ∧ host.resetTarget (argFld q 0 3, argFld q 4 12) = true ∧ argFld q 0 3 ≠ 2 ∧
    host.mcRuns = true ∧ host.power.compute = true ∧ still.setting 0x71 0 = 0 ∧ still.mcRuns = true ∧ host.setting 0x71 0 = 1 ∧
    host.boot.phase = 1 ∧ (host.atTick 9).faultsAgain 1151 = false ∧
    (after (.resetCmd 1 q) host).recovery.running.map Recovery.target = some 1151 ∧
    after (.clusterFault 15 8 9) still = (still.atTick 9).raise 0x110 none 143 (pack [(4, 2), (2, 1)]) ∧
    (after (.coreFault 1151 9) host).recovery.running.map (fun r => (r.kind, r.step)) = some (1, 2) ∧
    (after (.seamFault 9) host).recovery.running.map Recovery.scope = some 3 ∧
    host.firmwareRuns = true ∧ (after (.mcWatchdog 9) host).events.nextSeq = 2 ∧ (after (.mcWatchdog 9) run).ctxs = [] :=
  ⟨serves_of (by decide +kernel), by decide +kernel⟩

theorem witness_RecoveriesRun_steps :
    let r : Recovery := { kind := 1, scope := 0, target := 1151, step := 2 }
    let d : Recovery := { r with step := 5 }
    let f : Recovery := { kind := 0, scope := 0, target := 0, step := 2, forced := true }
    let s : State := { recovering r with cores := [(1151, { sr := [(1, 5)] })], mem := [(coreAddr 1151 0, 7)] }
    let w := recovering f [(0, ctx0)]
    s.recovery.running = some r ∧ s.affected r.area = [] ∧ (recovering d).recovery.queue = [] ∧
    (∀ x, x < 16 → ((recovering d).ctx x).holds.eclipse = false) ∧ w.affected f.area = [0] ∧ (w.ctx 0).freeze = none ∧
    (w.ctx 0).stands = false ∧ f.since + w.setting 0x70 0 ≤ (w.atTick (w.setting 0x70 0)).now ∧
    (w.atTick (w.setting 0x70 0 - 1)).now < f.since + w.setting 0x70 0 ∧
    (after .eclipseFrozen s).recovery.running.map Recovery.step = some 5 ∧ (after .eclipseFrozen s).coreAt 1151 = {} ∧
    Memory.byte (after .eclipseFrozen s).mem (coreAddr 1151 0) = 0 ∧
    (recovering d).boot.phase = 1 ∧ (after .resetRestoreDone (recovering d)).recovery.running = none ∧
    (after (.bringupStageEnd (report true)) (recovering d)).repairs = [] ∧
    (after (.bringupStageEnd { report true with defects := [BitVec.ofNat 64 (1 + 2 ^ 4 + 15 * 2 ^ 8)] }) (recovering d)).recovery.running = some d ∧
    after (.eclipseBudgetExpiry (w.setting 0x70 0 - 1)) w = w.atTick (w.setting 0x70 0 - 1) := by decide +kernel

theorem witness_PowerAndBringUp :
    let at' := fun n : Nat => ({ boot := { stage := n } } : State)
    let c : State := { at' 4 with mbox := { settings := [(0x11, some 5)] } }
    (at' 2).bringingUp = true ∧ c.code ≠ 16777215 ∧ (at' 4).code = 16777215 ∧
    (after (.bringupStageEnd (report true)) (at' 2)).boot.stage = 3 ∧ (after (.bringupStageEnd (report false)) (at' 2)).boot.phase = 2 ∧
    (after (.bringupStageEnd (report true)) c).boot.stage = 5 ∧ (after (.bringupStageEnd (report true)) (at' 5)).boot.phase = 1 ∧
    (after (.stageLimitExpiry (report true)) (at' 3)).boot.phase = 2 ∧ (after .linksUnconfigured (at' 4)).boot.unconfigured = true ∧
    (after (.bringupStageEnd (report true)) (at' 4)).boot.stage = 4 := by decide +kernel

theorem witness_PowerAndBringUp_pins :
    let h : State := { host with power := { modReset := true } }
    let e : State := { host with power := { pwrEn := false } }
    let o : State := { host with power := { pwrEn := false, management := false } }
    let b : Batch := { stream := 16, entries := [⟨5, [1]⟩] }
    let z : State := { host with power := { sealing := true }, ledger := { closed := [b] }, flash := { ledgerKey := { next := 5, bound := 9 } } }
    h.power.modReset = true ∧ host.power.modReset = false ∧ host.power.management = true ∧ host.power.sealing = false ∧
    host.power.halted = false ∧ e.power.pwrEn = false ∧ o.power.management = false ∧ z.firstBatch = some b ∧
    (after (.modResetNRelease true 9) h).power.modReset = false ∧ (after .modResetNAssert run).ctxs = [] ∧
    (after (.pwrEnAssert 9) e).power.pwrEn = true ∧ (after (.pwrEnAssert 9) o).power.management = true ∧
    (after (.inputPowerFail 2 9 0) run).power.energy = 9 ∧ (after (.inputPowerFail 2 9 0) run).power.compute = false ∧
    (after (.holdupBankCharged 3000) host).power.holdupOk = true := by decide +kernel

theorem witness_PowerAndBringUp_heat :
    tempTrip 35 ≤ tempTrip 35 ∧ tempTrip 35 - 1 < tempTrip 35 ∧
    (after (.thermalSample 35 (tempThrottle 35) 0) host).power.throttled = [35] ∧
    (after (.thermalSample 35 (tempThrottle 35 - 8) 0) { host with power := { throttled := [35] } }).power.throttled = [] ∧
    (after (.thermalTrip 35 (tempTrip 35) 0) host).power.tripLatch = true ∧
    after (.thermalTrip 35 (tempTrip 35 - 1) 0) host = host.atTick 0 := by decide +kernel

theorem witness_LedgerFlashAndPins :
    let e : LEntry := ⟨5, [1]⟩
    let s : State := { host with ledger := { streams := [(16, { opened := [e] })] } }
    let b : Batch := { stream := 16, entries := [e] }
    let c : State := { host with ledger := { closed := [b] }, flash := { ledgerKey := { next := 5, bound := 6 } } }
    let w := fun (v : FlashStore) => ({ host with flash := { waiting := [v] } } : State)
    let g := fun (v : FlashStore) => ({ host with flash := { storing := some v } } : State)
    (s.lstream 16).opened = [e] ∧ s.sealGap 16 = some 1000000 ∧ s.isG = true ∧ e.tick + 1000000 ≤ (s.atTick 1000005).now ∧
    (s.atTick 1000004).now < e.tick + 1000000 ∧ (s.lstream 16).lastClose = 0 ∧ c.power.sealing = false ∧ c.ledger.closed = [b] ∧
    c.flash.ledgerKey.ready (2 ^ 60) = true ∧ c.sealedUse + b.size ≤ sealedArea ∧ c.ledger.reads = [] ∧
    (w (.bootCount 3)).flash.waiting = [.bootCount 3] ∧ FlashStore.need (.bootCount 3) ≤ 15 ∧ 14 < FlashStore.need (.bootCount 3) ∧
    (after (.batchCloseTimer 16 1000005) s).ledger.closed.map Batch.entries = [[e]] ∧
    after (.batchCloseTimer 16 1000004) s = s.atTick 1000004 ∧
    (after (.holdupGuardConfirm 15) (w (.bootCount 3))).flash.storing = some (.bootCount 3) ∧
    (after (.holdupGuardConfirm 14) (w (.bootCount 3))).flash.storing = none ∧
    (after .flashStoreDone (g (.ledgerIndex 8192))).flash.ledgerKey.bound = 8192 ∧
    (after .flashStoreDone (g (.bootCount 3))).flash.bootCount = 3 ∧
    (after .flashStoreDone (g (.repairs [16]))).flash.repairs = [16] := by decide +kernel

theorem witness_LedgerFlashAndPins_pins :
    let h : State := { host with power := { modReset := true } }
    host.power.management = true ∧ host.power.trst = false ∧ host.mcRuns = true ∧ (host.slot 0).busy = false ∧
    (after .tapExtest h).power.ir = 3 ∧ (after .tapExtest host).power.ir = 1 ∧ (after .tapSamplePreload h).power.ir = 2 ∧
    (after (.trstN true) { host with power := { ir := 1 } }).power.ir = 0 ∧
    (after (.pldmRequest (.sensor 40)) host).mbox.pldm.map Prod.fst = [40] ∧ (after (.pldmRequest .fru) host).mbox.fru ≠ host.mbox.fru ∧
    after (.pldmRequest (.sensor 41)) host = host := by decide +kernel

theorem witness_LedgerFlashAndPins_message : (List.replicate 16 (0 : Byte)).length = 16 ∧
    exec (.mctpMessage Config.vendorId (List.replicate 16 0)) host =
      quiet host (if host.mcRuns && Config.vendorId = Config.vendorId then host.arrive 0 (List.replicate 16 0) else host) := ⟨rfl, rfl⟩

/-! Well-formedness: the check passes what the spec's ranges hold and refuses a term outside each of them. -/

def okCmd : Cmd := { seq := 0, ctx := 0, ctxValid := false, arg := 0, payload := [] }
def okField : CtlField := 0

theorem test_core_of_a_context : (Instr.brk ⟨15, 1151⟩).wellFormed = true ∧ (Instr.brk ⟨16, 0⟩).wellFormed = false ∧
    (Instr.brk ⟨0, 1152⟩).wellFormed = false := by decide +kernel

theorem test_context_number : (Instr.orbitBoundary 15).wellFormed = true ∧
    (Instr.orbitBoundary 16).wellFormed = false := by decide +kernel

theorem test_slot_number : (Instr.nopCmd 7 okCmd).wellFormed = true ∧ (Instr.nopCmd 8 okCmd).wellFormed = false := by
  decide +kernel

theorem test_command_header : (Instr.nopCmd 0 { okCmd with seq := 255, ctx := 15 }).wellFormed = true ∧
    (Instr.nopCmd 0 { okCmd with seq := 256 }).wellFormed = false ∧
    (Instr.nopCmd 0 { okCmd with ctx := 16 }).wellFormed = false := by decide +kernel

theorem test_command_length :
    (Instr.nopCmd 0 { okCmd with payload := List.replicate 4080 0 }).wellFormed = true ∧
    (Instr.nopCmd 0 { okCmd with payload := List.replicate 4081 0 }).wellFormed = false := by decide +kernel

theorem test_port_number : (Instr.portTrainingStart 19).wellFormed = true ∧
    (Instr.portTrainingStart 20).wellFormed = false := by decide +kernel

theorem test_stack_and_channel : (Instr.dramSlot 15 127 .none).wellFormed = true ∧
    (Instr.dramSlot 16 0 .none).wellFormed = false ∧ (Instr.dramSlot 0 128 .none).wellFormed = false := by decide +kernel

theorem test_word_of_a_line : (Instr.dramSlot 0 0 (.uncorrectable 0 7)).wellFormed = true ∧
    (Instr.dramSlot 0 0 (.uncorrectable 0 8)).wellFormed = false := by decide +kernel

theorem test_scrub_finding : (Instr.maintenanceFrame 0 0 (.scrub (.corrected 2))).wellFormed = true ∧
    (Instr.maintenanceFrame 0 0 (.scrub (.uncorrectable 0 8))).wellFormed = false := by decide +kernel

theorem test_tick_width : (Instr.leaseExpiry (2 ^ 64 - 1)).wellFormed = true ∧
    (Instr.leaseExpiry (2 ^ 64)).wellFormed = false := by decide +kernel

theorem test_domain_number : (Instr.beat 19 0).wellFormed = true ∧ (Instr.beat 20 0).wellFormed = false ∧
    (Instr.oscTrim 20 (some true)).wellFormed = false := by decide +kernel

theorem test_base_bank : (Instr.baseScrubSlot 3 127 .none).wellFormed = true ∧
    (Instr.baseScrubSlot 4 0 .none).wellFormed = false ∧ (Instr.baseScrubSlot 0 128 .none).wellFormed = false := by
  decide +kernel

theorem test_time_fraction : (Instr.timeReqSend 0 999).wellFormed = true ∧
    (Instr.timeReqSend 0 1000).wellFormed = false := by decide +kernel

theorem test_nine_lanes : (Instr.laneBerCheck 0 (List.replicate 9 0) 0).wellFormed = true ∧
    (Instr.laneBerCheck 0 (List.replicate 8 0) 0).wellFormed = false ∧
    (Instr.dwellEnd 0 (List.replicate 9 0) (List.replicate 10 0#8) 0).wellFormed = false := by decide +kernel

theorem test_frame_group :
    let g := fun heads flits : Nat => Instr.dataFrameGroup 0 true (List.replicate heads 0) (List.replicate flits (List.replicate 10 0)) 0
    (g 8 8).wellFormed = true ∧ (g 9 9).wellFormed = false ∧ (g 8 7).wellFormed = false ∧
    (Instr.dataFrameGroup 0 true [0] [[]] 0).wellFormed = false ∧
    (Instr.dataFrameGroup 0 true [0x1000] [List.replicate 10 0] 0).wellFormed = false ∧
    (Instr.idleFrameGroup 0 ⟨0x1000, 0⟩ 0).wellFormed = true ∧ (Instr.idleFrameGroup 0 ⟨0, 0⟩ 0).wellFormed = false := by decide +kernel

theorem test_sensor_numbers : (Instr.pldmRequest (.sensor 40)).wellFormed = true ∧
    (Instr.pldmRequest (.sensor 41)).wellFormed = false ∧
    (Instr.thermalSample 36 0 0).wellFormed = false ∧ (Instr.thermalTrip 0 65536 0).wellFormed = false := by decide +kernel

theorem test_fault_units : (Instr.coreFault 1151 0).wellFormed = true ∧ (Instr.coreFault 1152 0).wellFormed = false ∧
    (Instr.clusterFault 15 8 0).wellFormed = true ∧ (Instr.clusterFault 16 0 0).wellFormed = false ∧
    (Instr.clusterFault 0 9 0).wellFormed = false ∧ (Instr.paceFault 20 0).wellFormed = false ∧
    (Instr.baseFault 4 0).wellFormed = false ∧ (Instr.stackFault 16 0).wellFormed = false := by decide +kernel

theorem test_energy_width : (Instr.pwrEnAssert 65535).wellFormed = true ∧
    (Instr.pwrEnAssert 65536).wellFormed = false := by decide +kernel

theorem test_ledger_stream : (Instr.batchCloseTimer 16 0).wellFormed = true ∧
    (Instr.batchCloseTimer 17 0).wellFormed = false := by decide +kernel

theorem test_stage_core :
    (Instr.bringupStageEnd { ok := true, defects := [], failed := [1279], ms := 0 }).wellFormed = true ∧
    (Instr.bringupStageEnd { ok := true, defects := [], failed := [1280], ms := 0 }).wellFormed = false := by decide +kernel

theorem test_mirrored_admission : (MirrorItem.admitted 0 (2 ^ 48 - 1) 1151 15 0 63 65535 []).valid = true ∧
    (MirrorItem.admitted 0 (2 ^ 48) 0 0 0 0 0 []).valid = false ∧
    (MirrorItem.admitted 0 0 1152 0 0 0 0 []).valid = false ∧ (MirrorItem.admitted 0 0 0 16 0 0 0 []).valid = false ∧
    (MirrorItem.admitted 0 0 0 0 0 64 0 []).valid = false ∧
    (MirrorItem.admitted 0 0 0 0 0 0 65536 []).valid = false := by decide +kernel

theorem test_mirrored_entries : (MirrorItem.boundary 0 (List.replicate 65 0)).valid = false ∧
    (MirrorItem.intervention 0 0 256 0 (List.replicate 216 0)).valid = false ∧
    (MirrorItem.intervention 0 (2 ^ 48) 0 0 (List.replicate 216 0)).valid = false ∧
    (MirrorItem.intervention 0 0 0 0 []).valid = false ∧
    (MirrorItem.intervention 0 0 0 2048 (List.replicate 216 0)).valid = false ∧ (MirrorItem.ledgerEntry 0 []).valid = false ∧
    (MirrorItem.orbitEnd 0 []).valid = false := by decide +kernel

end Sys2Proof.Tests
end

section
/-! What the control field of a bundle and its header do (03 R66-R73, R92): the rules of the operations they use, then the
obligations O14 and O15. -/
namespace Sys2Proof.Machine
open Sys2Proof

/-! ### The context's record flags and the core's report -/

@[simp] theorem Ctx.flag_freeze (x : Ctx) (b : Nat) : (x.flag b).freeze = x.freeze := rfl

/-- A record flag stands once it is set (14 R411). -/
theorem Ctx.testBit_flag_self (x : Ctx) {b : Nat} (hb : b < 64) : (x.flag b).flags.toNat.testBit b = true := by
  have hbit : (BitVec.ofNat 64 (2 ^ b)).toNat = 2 ^ b := by
    rw [BitVec.toNat_ofNat, Nat.mod_eq_of_lt (Nat.pow_lt_pow_right (by decide) hb)]
  simp only [Ctx.flag, BitVec.toNat_or, hbit, Nat.testBit_or, Nat.testBit_two_pow_self, Bool.or_true, Bool.true_or]

section
variable (s : State) (c : CoreRef)

@[simp] theorem State.ctx_flagCtx (x b : Nat) : (s.flagCtx x b).ctx x = (s.ctx x).flag b :=
  State.ctx_modCtx_self s x _

/-- A change of the context that keeps its sites leaves every core of it. -/
theorem State.core_modCtx (f : Ctx → Ctx) (hf : ∀ k, (f k).sites = k.sites) :
    (s.modCtx c.ctx f).core c = s.core c := by
  simp [State.core, logical_of_sites (hf _)]

@[simp] theorem State.core_flagCtx (b : Nat) : (s.flagCtx c.ctx b).core c = s.core c :=
  State.core_modCtx s c _ (fun _ => rfl)

@[simp] theorem State.ctx_raise (code : Nat) (x : Option Nat) (unit data y : Nat) :
    (s.raise code x unit data).ctx y = s.ctx y := rfl
@[simp] theorem State.core_raise (code : Nat) (x : Option Nat) (unit data : Nat) :
    (s.raise code x unit data).core c = s.core c := rfl
@[simp] theorem State.nextSeq_raise (code : Nat) (x : Option Nat) (unit data : Nat) :
    (s.raise code x unit data).events.nextSeq = s.events.nextSeq + 1 := rfl

@[simp] theorem State.core_armCutAt : (s.armCutAt c.ctx c.core).core c =
    { s.core c with rep := { (s.core c).rep with armCut := true } } := by
  simp [State.armCutAt]
@[simp] theorem State.ctx_armCutAt (x p : Nat) : (s.armCutAt x p).ctx x = (s.ctx x).flag fArmCut := by
  simp [State.armCutAt]

/-! ### Presenting a bundle -/

/-- The core with `w` as the work of its step. -/
def Core.withWork (w : StepWork) (k : Core) : Core := { k with work := w }

/-- The core with its bundle of the step presented (03 R62). -/
def Core.presented (k : Core) : Core := k.withWork { k.work with given := true }

@[simp] theorem Core.presented_seq (k : Core) : k.presented.seq = k.seq := rfl
@[simp] theorem Core.presented_rep (k : Core) : k.presented.rep = k.rep := rfl
@[simp] theorem Core.presented_work (k : Core) : k.presented.work = { k.work with given := true } := rfl

theorem State.live_of_ctlActs {s : State} {c : CoreRef} (h : s.ctlActs c = true) : s.live c = true :=
  (Bool.and_eq_true_iff.mp h).1

theorem State.present_core (h : s.live c = true) : (s.present c).core c = (s.core c).presented :=
  State.onCore_core s c id h

@[simp] theorem State.present_ctx (y : Nat) : (s.present c).ctx y = s.ctx y := State.onCore_ctx s c id y

@[simp] theorem State.present_stepOf : (s.present c).stepOf c = s.stepOf c := by simp [State.stepOf]

/-- A core whose bundle is presented stays one on which the fields of the step act. -/
theorem State.live_present (h : s.live c = true) : (s.present c).live c = true := by
  rw [← h]
  simp [State.live, State.present_core s c h]

/-- An update of a presented core, where the fields of the step act. -/
theorem State.core_onCore_present (f : Core → Core) (h : s.live c = true) :
    ((s.present c).onCore c f).core c = (f (s.core c).presented).presented := by
  rw [State.onCore_core _ c f (State.live_present s c h), State.present_core s c h]
  rfl

/-! ### The work of a step and the registers it reads -/

theorem Core.putScalar_withWork (w : StepWork) (k : Core) (r : ScalarRes) :
    (k.withWork w).putScalar r = (k.putScalar r).withWork w := by
  unfold Core.putScalar
  cases r.dest <;> rfl

theorem Core.putVector_withWork (w : StepWork) (k : Core) (r : VecRes) :
    (k.withWork w).putVector r = (k.putVector r).withWork w := by
  unfold Core.putVector
  split <;> rfl

theorem Core.landResults_withWork (w : StepWork) (k : Core) (n : Nat) :
    (k.withWork w).landResults n = (k.landResults n).withWork w := by
  have hs := fun l => List.foldl_hom (l := l) (init := k) (Core.withWork w) (fun k r => Core.putScalar_withWork w k r)
  have hv := fun l i => List.foldl_hom (l := l) (init := i) (Core.withWork w) (fun k r => Core.putVector_withWork w k r)
  unfold Core.landResults
  dsimp only
  rw [hs, hv]
  rfl

/-- What has landed for a step does not depend on the work the step asks for (03 R64). -/
theorem Core.at'_withWork (w : StepWork) (k : Core) (n : Nat) : (k.withWork w).at' n = (k.at' n).withWork w := by
  have hd := fun l i => List.foldl_hom (l := l) (init := i) (g₁ := Core.putDrain) (g₂ := Core.putDrain)
    (Core.withWork w) (fun _ _ => rfl)
  unfold Core.at' Core.landDrain
  rw [Core.landResults_withWork]
  dsimp only
  rw [show ((k.landResults n).withWork w).landOpbuf n = ((k.landResults n).landOpbuf n).withWork w from rfl, hd]
  rfl

/-! ### What a completed command leaves -/

/-- What holds after a completed command, weakened. -/
theorem Completes.mono {i : Instr} {s : State} {P Q : State → Prop} (h : Completes i s P) (hpq : ∀ t, P t → Q t) :
    Completes i s Q := by
  obtain ⟨t, he, hp⟩ := h
  exact ⟨t, he, hpq t hp⟩

/-- A command that changes the core it names, where the fields of the step act. -/
theorem completes_onCore {s : State} {c : CoreRef} {i : Instr} {f : Core → Core} (hl : s.live c = true)
    (hi : exec i s = .next (s.onCore c f)) : Completes i s (fun t => t.core c = (f (s.core c)).presented) :=
  ⟨_, hi, State.onCore_core s c f hl⟩

/-- A command that does no more than present its bundle. -/
theorem completes_present {s : State} {c : CoreRef} {i : Instr} (hl : s.live c = true)
    (hi : exec i s = .next (s.present c)) : Completes i s (fun t => t.core c = (s.core c).presented) :=
  completes_onCore hl hi

/-! ### A control outside an arm, and inside one -/

theorem State.outsideArm_inArm (f : State → State) (h : s.ctlActs c = true) (ha : (s.core c).seq.inArm = true) :
    s.outsideArm c f = (s.present c).armCutAt c.ctx c.core := by
  simp [State.outsideArm, h, ha]

theorem State.outsideArm_free (f : State → State) (h : s.ctlActs c = true) (ha : (s.core c).seq.inArm = false) :
    s.outsideArm c f = f (s.present c) := by
  simp [State.outsideArm, h, ha]

/-- A control that acts only outside an arm, met inside one: it acts as NONE and sets ARM_CUT (03 R73). -/
theorem completes_cut {s : State} {c : CoreRef} {i : Instr} {f : State → State}
    (hi : exec i s = .next (s.outsideArm c f)) (h : s.ctlActs c = true) (ha : (s.core c).seq.inArm = true) :
    Completes i s (fun t => (t.core c).rep.armCut = true ∧ (t.ctx c.ctx).flags.toNat.testBit fArmCut = true ∧
      (t.ctx c.ctx).freeze = (s.ctx c.ctx).freeze ∧ (t.core c).seq = (s.core c).seq ∧
      (t.core c).work = { (s.core c).work with given := true }) := by
  rw [State.outsideArm_inArm s c f h ha] at hi
  refine ⟨_, hi, ?_⟩
  simp [State.present_core s c (State.live_of_ctlActs h), Ctx.testBit_flag_self _ (show fArmCut < 64 by decide)]

/-! ### Jumps, loops, branches and the end of an arm -/

variable {s c}

@[simp] theorem Core.branchTo_seq (k : Core) (t : Nat) : (k.branchTo t).seq = { k.seq with target := some t } := rfl

theorem exec_jmp (f : CtlField) (h : s.ctlActs c = true) :
    exec (.jmp c f) s = .next (s.onCore c (fun k => k.branchTo (ctlTarget f))) :=
  congrArg Host.Outcome.next (if_pos h)

/-- JMP goes to TARGET (03 R69). -/
theorem jmp_core (f : CtlField) (h : s.ctlActs c = true) :
    Completes (.jmp c f) s (fun t => t.core c = ((s.core c).branchTo (ctlTarget f)).presented) :=
  completes_onCore (State.live_of_ctlActs h) (exec_jmp f h)

/-- What LOOP makes of its core: a branch and a count where the counter is not zero, nothing where it is (03 R70). -/
theorem exec_loop (f : CtlField) (h : s.ctlActs c = true) : exec (.loop c f) s = .next (s.onCore c (fun k =>
    if (k.at' (s.stepOf c)).lc.get 0 (ctlLcsel f) ≠ 0 then
      { k.branchTo (ctlTarget f) with work := { k.work with loopDec := some (ctlLcsel f) } } else k)) :=
  congrArg Host.Outcome.next (if_pos h)

/-- LOOP whose counter is zero goes on to the next address (03 R70). -/
theorem loop_core_of_zero (f : CtlField) (h : s.ctlActs c = true) (h0 : (s.view c).lc.get 0 (ctlLcsel f) = 0) :
    Completes (.loop c f) s (fun t => t.core c = (s.core c).presented) :=
  (completes_onCore (State.live_of_ctlActs h) (exec_loop f h)).mono
    (fun _ ht => ht.trans (congrArg Core.presented (if_neg (not_not_intro h0))))

/-- LOOP whose counter is not zero goes to TARGET and takes one from the counter (03 R70). -/
theorem loop_core_of_nonzero (f : CtlField) (h : s.ctlActs c = true) (h0 : (s.view c).lc.get 0 (ctlLcsel f) ≠ 0) :
    Completes (.loop c f) s (fun t => t.core c = { (s.core c).branchTo (ctlTarget f) with
      work := { (s.core c).work with given := true, loopDec := some (ctlLcsel f) } }) :=
  (completes_onCore (State.live_of_ctlActs h) (exec_loop f h)).mono
    (fun _ ht => ht.trans (congrArg Core.presented (if_pos h0)))

/-- ARMEND inside an arm ends it (03 R72). -/
theorem armend_core_inArm (h : s.ctlActs c = true) (ha : (s.core c).seq.inArm = true) :
    Completes (.armend c) s (fun t => t.core c =
      { s.core c with work := { (s.core c).work with given := true, armEnd := true } }) :=
  completes_onCore (State.live_of_ctlActs h) (f := fun k => { k with work := { k.work with armEnd := true } })
    (congrArg Host.Outcome.next (if_pos (by simp [h, ha])))

/-- ARMEND outside an arm acts as NONE (03 R73). -/
theorem exec_armend_outside (ha : (s.core c).seq.inArm = false) : exec (.armend c) s = .next (s.present c) :=
  congrArg Host.Outcome.next (if_neg (by simp [ha]))

/-- UBR outside an arm tests its wire slot as the step finds it (03 R71). -/
theorem ubr_core (f : CtlField) (h : s.ctlActs c = true) (ha : (s.core c).seq.inArm = false) :
    Completes (.ubr c f) s (fun t => (t.core c).seq =
      if condHolds (ctlCond f) ((s.ctx c.ctx).wireAt (s.stepOf c) (ctlWsel f)).toInt
      then { (s.core c).seq with target := some (ctlTarget f) } else (s.core c).seq) := by
  have hl := State.live_of_ctlActs h
  refine ⟨_, congrArg Host.Outcome.next (State.outsideArm_free s c _ h ha), ?_⟩
  dsimp only
  split
  · rw [State.core_onCore_present s c _ hl]
    rfl
  · rw [State.present_core s c hl, Core.presented_seq]

/-- FBR outside an arm begins an arm at TARGET or at the next address, as the register it tests stands at the start of the
step (03 R72). -/
theorem fbr_work (f : CtlField) (h : s.ctlActs c = true) (ha : (s.core c).seq.inArm = false) :
    Completes (.fbr c f) s (fun t => (t.core c).work =
      { (s.core c).work with given := true, newArm := some (ctlArmLen f, ctlJoin f,
          if condHolds (ctlArmCond f) ((s.view c).sra (ctlCsr f)).toInt then ctlTarget f
          else ((s.core c).seq.baddr + 1) % 1024) }) := by
  refine ⟨_, congrArg Host.Outcome.next (State.outsideArm_free s c _ h ha), ?_⟩
  dsimp only
  rw [State.core_onCore_present s c _ (State.live_of_ctlActs h)]
  simp only [Core.presented, Core.at'_withWork]
  rfl

/-- The last step of an arm that has not reached ARMEND gives up its repeat and is flagged (03 R72). -/
theorem exec_armCut (hl : s.live c = true) (ha : (s.core c).seq.inArm = true) (hn : (s.core c).seq.armLeft ≤ 1)
    (he : (s.core c).work.armEnd = false) : exec (.armCut c) s = .next
      ((s.armCutAt c.ctx c.core).modCoreOf c.ctx c.core (fun k =>
        { k with seq := { k.seq with repLeft := 0, target := none } })) :=
  congrArg Host.Outcome.next (if_pos (by simp [hl, ha, hn, he]))

/-! ### Uncorrectable errors of a fetch -/

variable (s c)

@[simp] theorem State.core_memUe (port step line word : Nat) : (s.memUe c.ctx c.core port step line word).core c =
    { s.core c with rep := { (s.core c).rep with eccUe := true, ecc := addFld (s.core c).rep.ecc 32 16 1 } } := by
  simp [State.memUe]
@[simp] theorem State.ctx_memUe (x p port step line word : Nat) :
    (s.memUe x p port step line word).ctx x = (s.ctx x).flag fEccUe := by
  simp [State.memUe]
@[simp] theorem State.nextSeq_memUe (x p port step line word : Nat) :
    (s.memUe x p port step line word).events.nextSeq = s.events.nextSeq + 1 := by
  simp [State.memUe, State.flagCtx]

/-- The errors of a fetch are reported one after another. -/
theorem State.fetchUe_cons (x p step baddr ce : Nat) (u : Nat × Nat) (l : List (Nat × Nat)) :
    s.fetchUe x p step baddr ⟨ce, u :: l⟩ = (s.memUe x p 0 step baddr u.2).fetchUe x p step baddr ⟨ce, l⟩ := rfl

/-- Each error of a fetch raises one event, and none of them moves the sequencer or the work of the step. -/
theorem State.fetchUe_keeps (step baddr ce : Nat) (l : List (Nat × Nat)) :
    let t := s.fetchUe c.ctx c.core step baddr ⟨ce, l⟩
    (t.core c).seq = (s.core c).seq ∧ (t.core c).work = (s.core c).work ∧
      t.events.nextSeq = s.events.nextSeq + l.length := by
  induction l generalizing s with
  | nil => exact ⟨rfl, rfl, rfl⟩
  | cons u l ih =>
    obtain ⟨hseq, hwork, hev⟩ := ih (s.memUe c.ctx c.core 0 step baddr u.2)
    rw [State.core_memUe] at hseq hwork
    rw [State.nextSeq_memUe, Nat.add_assoc, Nat.add_comm 1] at hev
    exact ⟨hseq, hwork, hev⟩

/-- The core and the orbit are marked after a fetch where they were before it or the fetch meets an error (07 R178). -/
theorem State.fetchUe_marks (step baddr ce : Nat) (l : List (Nat × Nat)) :
    let t := s.fetchUe c.ctx c.core step baddr ⟨ce, l⟩
    (t.core c).rep.eccUe = ((s.core c).rep.eccUe || !l.isEmpty) ∧ (t.ctx c.ctx).flags.toNat.testBit fEccUe =
      ((s.ctx c.ctx).flags.toNat.testBit fEccUe || !l.isEmpty) := by
  induction l generalizing s with
  | nil => exact ⟨(Bool.or_false _).symm, (Bool.or_false _).symm⟩
  | cons u l ih =>
    obtain ⟨hcore, hctx⟩ := ih (s.memUe c.ctx c.core 0 step baddr u.2)
    rw [State.core_memUe, Bool.true_or] at hcore
    rw [State.ctx_memUe, Ctx.testBit_flag_self _ (show fEccUe < 64 by decide), Bool.true_or] at hctx
    rw [List.isEmpty_cons, Bool.not_false, Bool.or_true, Bool.or_true]
    exact ⟨hcore, hctx⟩

variable {s c}

/-- IDLE_BUNDLE where the fields act: the bundle is presented and the errors of its fetch are reported (03 R66, R92). -/
theorem exec_idleBundle (e : Ecc) (hl : s.live c = true) : exec (.idleBundle ⟨c, e⟩) s =
    .next ((s.present c).fetchUe c.ctx c.core (s.stepOf c) (s.core c).seq.baddr e) := by
  have hr : Reaches c.ctx c.core s ((s.present c).fetchUe c.ctx c.core (s.stepOf c) (s.core c).seq.baddr e) :=
    (Reaches.present c).trans (Reaches.fetchUe _ _ _)
  rw [← hr.quiet]
  exact congrArg (quiet s) (if_pos hl)

/-- IDLE_BUNDLE whose fetch meets uncorrectable errors. -/
theorem idleBundle_reports {e : Ecc} (hl : s.live c = true) (he : e.ue ≠ []) :
    Completes (.idleBundle ⟨c, e⟩) s (fun t => (t.core c).rep.eccUe = true ∧
      (t.ctx c.ctx).flags.toNat.testBit fEccUe = true ∧ (t.core c).work = { (s.core c).work with given := true } ∧
      (t.core c).seq = (s.core c).seq ∧ t.events.nextSeq = s.events.nextSeq + e.ue.length) := by
  obtain ⟨hcore, hctx⟩ := State.fetchUe_marks (s.present c) c (s.stepOf c) (s.core c).seq.baddr e.ce e.ue
  rw [List.isEmpty_eq_false_iff.mpr he, Bool.not_false, Bool.or_true] at hcore hctx
  obtain ⟨hseq, hwork, hev⟩ := State.fetchUe_keeps (s.present c) c (s.stepOf c) (s.core c).seq.baddr e.ce e.ue
  rw [State.present_core s c hl] at hseq hwork
  have hpresent : (s.present c).events = s.events := by simp [State.present, State.onCore_live s c _ hl]
  rw [hpresent] at hev
  exact ⟨_, exec_idleBundle e hl, hcore, hctx, hwork, hseq, hev⟩

/-- BRK with breakpoints armed (03 R66; 01 R34). -/
theorem exec_brk_armed (hl : s.live c = true) (ha : (s.ctx c.ctx).armed = true) : exec (.brk c) s =
    .next ((s.present c).modCtx c.ctx (fun x => { x with holds := { x.holds with debug := true } })) :=
  congrArg Host.Outcome.next (if_pos (by simp [hl, ha]))

/-- BRK with breakpoints not armed is an idle bundle (03 R66). -/
theorem exec_brk_idle (ha : (s.ctx c.ctx).armed = false) : exec (.brk c) s = .next (s.present c) :=
  congrArg Host.Outcome.next (if_neg (by simp [ha]))

/-- The six conditions of COND and the two codes that never hold (03 R71). -/
theorem condHolds_codes (x : Int) : condHolds 0 x = decide (x = 0) ∧ condHolds 1 x = decide (x ≠ 0) ∧
    condHolds 2 x = decide (x < 0) ∧ condHolds 3 x = decide (0 ≤ x) ∧ condHolds 4 x = decide (0 < x) ∧
    condHolds 5 x = decide (x ≤ 0) ∧ condHolds 6 x = false ∧ condHolds 7 x = false :=
  ⟨rfl, rfl, rfl, rfl, rfl, rfl, rfl, rfl⟩

end

/-! ### The obligations -/

/-- Settles O14: each of the six controls is one `outsideArm`, which inside an arm is a presented bundle and ARM_CUT. -/
theorem controlsInsideArmCut : Obligations.ControlsInsideArmCut := by
  intro s c f h
  refine ⟨fun ha => ⟨?_, ?_, ?_, ?_⟩, fun ha => ⟨_, exec_armend_outside ha, rfl⟩⟩
  · rintro i (rfl | rfl | rfl | rfl | rfl | rfl) <;> exact completes_cut rfl h ha
  · exact (jmp_core f h).mono (fun t ht => by simp [ht])
  · exact fun h0 => (loop_core_of_nonzero f h h0).mono (fun t ht => by simp [ht])
  · exact (armend_core_inArm h ha).mono (fun t ht => by rw [ht])

/-- Settles O15, command by command. -/
theorem branchesSetTarget : Obligations.BranchesSetTarget := by
  refine ⟨fun s c f h => ?_, fun s c e hl => ?_⟩
  · have hl := State.live_of_ctlActs h
    refine ⟨?jmp, ?loopZero, ?loopNonzero, ubr_core f h, fbr_work f h, ?armend, ?armendOutside, ?armCut, condHolds_codes⟩
    case jmp => exact (jmp_core f h).mono (fun t ht => by simp [ht])
    case loopZero => exact fun h0 => (loop_core_of_zero f h h0).mono (fun t ht => by simp [ht])
    case loopNonzero => exact fun h0 => (loop_core_of_nonzero f h h0).mono (fun t ht => by simp [ht])
    case armend => exact fun ha => (armend_core_inArm h ha).mono (fun t ht => by rw [ht])
    case armendOutside =>
      exact fun ha => (completes_present hl (exec_armend_outside ha)).mono (fun t ht => by rw [ht, Core.presented_work])
    case armCut =>
      intro ha hn hend
      refine ⟨_, exec_armCut hl ha hn hend, ?_⟩
      simp [Ctx.testBit_flag_self _ (show fArmCut < 64 by decide)]
  · refine ⟨fun he => ?_, idleBundle_reports hl, fun ha => ⟨_, exec_brk_armed hl ha, by simp⟩,
      fun ha => ⟨_, exec_brk_idle ha, by simp⟩⟩
    refine ⟨_, exec_idleBundle e hl, ?_⟩
    simp only [State.fetchUe, he, List.foldl_nil, State.present, State.onCore_live s c _ hl, id]

end Sys2Proof.Machine
end

section
/-! What a draw reads as when it is taken as a uniform FP32 value (05 R147): the code of a value that the grid of a format
holds, the code a normal FP32 value is decoded from, then the obligation O21. -/
namespace Sys2Proof.Machine
open Sys2Proof

/-- Rounding half to even leaves a quotient without remainder (05 R133). -/
@[simp] theorem rne_zero_rem (q k : Nat) : rne q 0 k = q := rfl

/-- A value on the grid of its format needs no rounding: its code holds the significand on that grid (05 R133). -/
theorem Fmt.codeOf_of_quantum_le (f : Fmt) {m : Nat} {e : Int} (hm : m ≠ 0) (hg : f.quantum m e ≤ e) :
    f.codeOf rne m e =
      (f.quantum m e + f.mb - f.emin).toNat * 2 ^ f.mb + m * 2 ^ (e - f.quantum m e).toNat := by
  simp [Fmt.codeOf, hm, gridDiv, hg]

/-- A code up to the largest finite one is the result, without its sign (05 R135). -/
theorem Fmt.round_of_codeOf_le (f : Fmt) (up : Nat → Nat → Nat → Nat) {m : Nat} {e : Int}
    (h : f.codeOf up m e ≤ f.maxCode) : f.round up false m e = f.codeOf up m e := by
  simp [Fmt.round, Fmt.withSign, Nat.not_lt.mpr h]

/-- A code whose exponent field is neither all zeros nor all ones is a normal value (05 R125, R126). -/
theorem Fmt.decode_normal (f : Fmt) {w : Nat} (h0 : fld w f.mb f.eb ≠ 0) (h1 : fld w f.mb f.eb ≠ 2 ^ f.eb - 1) :
    f.decode w = ⟨bit w (f.eb + f.mb), 2 ^ f.mb + fld w 0 f.mb, (fld w f.mb f.eb : Int) - f.bias - f.mb,
      (fld w f.mb f.eb : Int) - f.bias, 0⟩ := by
  simp [Fmt.decode, h0, h1]

/-- A normal FP32 value is decoded to the significand and the exponent its code was made of (05 R125, R126). -/
theorem decode_fp32_normal {x sig : Nat} (hx : x < 254) (hlo : 2 ^ 23 ≤ sig) (hhi : sig < 2 ^ 24) :
    fp32.decode (x * 2 ^ 23 + sig) = ⟨false, sig, (x : Int) - 149, (x : Int) - 126, 0⟩ := by
  have hsign : bit (x * 2 ^ 23 + sig) (fp32.eb + fp32.mb) = false :=
    Nat.testBit_lt_two_pow (show _ < 2 ^ 31 by omega)
  have hfield : fld (x * 2 ^ 23 + sig) fp32.mb fp32.eb = x + 1 := by
    simp only [fld, fp32, Nat.shiftRight_eq_div_pow]
    omega
  have hman : fld (x * 2 ^ 23 + sig) 0 fp32.mb = sig - 2 ^ 23 := by
    simp only [fld, fp32, Nat.shiftRight_zero]
    omega
  have hlast : x + 1 ≠ 2 ^ fp32.eb - 1 := Nat.ne_of_lt (show x + 1 < 2 ^ 8 - 1 by omega)
  rw [fp32.decode_normal (hfield ▸ x.succ_ne_zero) (hfield ▸ hlast), hsign, hfield, hman, Elem.mk.injEq]
  simp only [fp32]
  refine ⟨trivial, ?_, ?_, ?_, trivial⟩ <;> omega

section
variable {n : Nat}

/-- The significand of a value below 2^24, shifted up until its leading bit stands at bit 23. -/
theorem normalized_bounds (h0 : n ≠ 0) (h : n < 2 ^ 24) :
    2 ^ 23 ≤ n * 2 ^ (23 - n.log2) ∧ n * 2 ^ (23 - n.log2) < 2 ^ 24 := by
  have hk : n.log2 < 24 := (Nat.log2_lt h0).mpr h
  constructor
  · calc 2 ^ 23 = 2 ^ n.log2 * 2 ^ (23 - n.log2) := by rw [← Nat.pow_add]; congr 1; omega
      _ ≤ n * 2 ^ (23 - n.log2) := Nat.mul_le_mul_right _ (Nat.log2_self_le h0)
  · calc n * 2 ^ (23 - n.log2) < 2 ^ (n.log2 + 1) * 2 ^ (23 - n.log2) :=
          Nat.mul_lt_mul_of_pos_right Nat.lt_log2_self (Nat.two_pow_pos _)
      _ = 2 ^ 24 := by rw [← Nat.pow_add]; congr 1; omega

/-- The FP32 code of n × 2^-24 for a non-zero `n` below 2^24 (05 R147). -/
theorem round_fp32_draw (h0 : n ≠ 0) (h : n < 2 ^ 24) :
    fp32.round rne false n (-24) = (n.log2 + 102) * 2 ^ 23 + n * 2 ^ (23 - n.log2) := by
  have hk : n.log2 < 24 := (Nat.log2_lt h0).mpr h
  have hq : fp32.quantum n (-24) = (n.log2 : Int) - 47 := by
    simp only [Fmt.quantum, Fmt.emin, fp32]
    omega
  have hcode : fp32.codeOf rne n (-24) = (n.log2 + 102) * 2 ^ 23 + n * 2 ^ (23 - n.log2) := by
    rw [fp32.codeOf_of_quantum_le h0 (by omega), hq]
    congr 3
    · simp only [Fmt.emin, fp32]
      omega
    · omega
  have hmax : fp32.maxCode = 255 * 2 ^ 23 - 1 := rfl
  have hlt := (normalized_bounds h0 h).2
  rw [fp32.round_of_codeOf_le rne (by omega), hcode]

/-- n × 2^-24 with `n` below 2^24 is an FP32 value: without sign, finite, and n × 2^125 units of 2^-149 (05 R147). -/
theorem decode_round_fp32_draw (h : n < 2 ^ 24) :
    ∃ m e ex, fp32.decode (fp32.round rne false n (-24)) = ⟨false, m, e, ex, 0⟩ ∧ -149 ≤ e ∧
      m * 2 ^ (e + 149).toNat = n * 2 ^ 125 := by
  by_cases h0 : n = 0
  · subst h0
    exact ⟨0, -149, -126, rfl, Int.le_refl _, by simp⟩
  · have hk : n.log2 < 24 := (Nat.log2_lt h0).mpr h
    obtain ⟨hlo, hhi⟩ := normalized_bounds h0 h
    refine ⟨_, _, _, (congrArg fp32.decode (round_fp32_draw h0 h)).trans
      (decode_fp32_normal (by omega) hlo hhi), by omega, ?_⟩
    rw [Nat.mul_assoc, ← Nat.pow_add]
    congr 2
    omega

end

/-- A draw as a uniform value is finite and without sign, with its upper 24 bits as the count of 2^-24 (05 R147). -/
theorem decode_uniform32 (r : W32) :
    ∃ m e ex, fp32.decode (uniform32 r) = ⟨false, m, e, ex, 0⟩ ∧ -149 ≤ e ∧
      m * 2 ^ (e + 149).toNat = r.toNat / 2 ^ 8 * 2 ^ 125 :=
  decode_round_fp32_draw (show r.toNat / 2 ^ 8 < 2 ^ 24 by omega)

/-- Test vector A of the Tail generator (05 R145). -/
theorem tail_vectorA : tail 0 0 0 0 0 = 0x815CEB51 := by decide

/-- Settles O21: the 24 bits of a draw that are kept fit the significand of FP32, so the rounding is exact. -/
theorem uniformDraws : Obligations.UniformDraws := by
  unfold Obligations.UniformDraws
  intro units
  have hunits (r : W32) : units r = r.toNat / 2 ^ 8 * 2 ^ 125 := by
    obtain ⟨m, e, ex, hdecode, -, hm⟩ := decode_uniform32 r
    simpa only [units, hdecode] using hm
  refine ⟨fun r => ?_, ?_⟩
  · obtain ⟨m, e, ex, hdecode, he, -⟩ := decode_uniform32 r
    refine ⟨congrArg Elem.cls hdecode, congrArg Elem.neg hdecode, by rwa [hdecode], hunits r, ?_⟩
    rw [hunits]
    exact Nat.mul_le_mul_right _ (show r.toNat / 2 ^ 8 ≤ 2 ^ 24 - 1 by omega)
  · rw [hunits, tail_vectorA]
    rfl

end Sys2Proof.Machine
end

section
/-! How the owner of the module changes (13 R359): where an event stands in the ring that it is raised in (13 R385, R386),
what the end of a transaction and a change of owner leave alone, then the obligation O30. -/
namespace Sys2Proof.Machine
open Sys2Proof

/-! ### The event ring -/

/-- An inserted event may take the SEQ of one it passes, and nothing else of it changes. -/
theorem exists_mem_eventInsert (ack : Nat) (e : Event) (l : List Event) :
    ∃ n, { e with seq := n } ∈ eventInsert ack e l := by
  induction l generalizing e with
  | nil => exact ⟨e.seq, List.mem_singleton_self e⟩
  | cons h r ih =>
    unfold eventInsert
    split
    · obtain ⟨n, hn⟩ := ih { e with seq := h.seq }
      exact ⟨n, List.mem_cons_of_mem _ hn⟩
    · exact ⟨e.seq, List.mem_cons_self⟩

theorem length_eventInsert (ack : Nat) (e : Event) (l : List Event) : (eventInsert ack e l).length = l.length + 1 := by
  induction l generalizing e with
  | nil => rfl
  | cons h r ih =>
    unfold eventInsert
    split
    · exact congrArg (· + 1) (ih _)
    · rfl

/-- An event passes none of another tick. -/
theorem eventInsert_append (ack : Nat) (e : Event) (l : List Event) {older : List Event}
    (ho : ∀ v ∈ older, v.tick ≠ e.tick) : eventInsert ack e (l ++ older) = eventInsert ack e l ++ older := by
  induction l generalizing e with
  | nil =>
    cases older with
    | nil => rfl
    | cons v r => simp [eventInsert, ho v List.mem_cons_self]
  | cons h r ih =>
    simp only [List.cons_append, eventInsert, ih { e with seq := h.seq } ho]
    split <;> rfl

/-- At most the `k` newest events of the ring are of tick `t`. -/
def EventRing.Newest (r : EventRing) (t k : Nat) : Prop :=
  ∃ new older, r.held.reverse = new ++ older ∧ new.length ≤ k ∧ ∀ v ∈ older, v.tick ≠ t

theorem EventRing.newest_of_lt {r : EventRing} {t : Nat} (h : ∀ v ∈ r.held, v.tick < t) : r.Newest t 0 :=
  ⟨[], r.held.reverse, rfl, Nat.le_refl _, fun v hv => Nat.ne_of_lt (h v (List.mem_reverse.mp hv))⟩

section
variable {r : EventRing} {e : Event} {k : Nat}

/-- A ring with room for the new events of the tick keeps them all as one more is added. -/
theorem EventRing.held_add (h : r.Newest e.tick k) (hk : k < 256) : ∃ new older,
    (r.add e).held.reverse = eventInsert r.ackSeq e new ++ older ∧ new.length ≤ k ∧ ∀ v ∈ older, v.tick ≠ e.tick := by
  obtain ⟨new, older, hheld, hlen, hold⟩ := h
  refine ⟨new, older.take (256 - (new.length + 1)), ?_, hlen, fun v hv => hold v (List.mem_of_mem_take hv)⟩
  have hroom : (eventInsert r.ackSeq e new).length ≤ 256 := by rw [length_eventInsert]; omega
  simp only [EventRing.add, List.reverse_reverse, hheld, eventInsert_append _ _ _ hold, List.take_append,
    List.take_of_length_le hroom, length_eventInsert]

theorem EventRing.Newest.add (h : r.Newest e.tick k) (hk : k < 256) : (r.add e).Newest e.tick (k + 1) := by
  obtain ⟨new, older, hheld, hlen, hold⟩ := EventRing.held_add h hk
  exact ⟨_, older, hheld, by rw [length_eventInsert]; omega, hold⟩

theorem EventRing.Newest.exists_held (h : r.Newest e.tick k) (hk : k < 256) :
    ∃ n, { e with seq := n } ∈ (r.add e).held := by
  obtain ⟨new, older, hheld, -, -⟩ := EventRing.held_add h hk
  obtain ⟨n, hn⟩ := exists_mem_eventInsert r.ackSeq e new
  exact ⟨n, List.mem_reverse.mp (hheld ▸ List.mem_append_left older hn)⟩

end

section
variable (s : State) {k : Nat}

theorem State.newest_raise (code : Nat) (x : Option Nat) (unit data : Nat) (h : s.events.Newest s.now k) (hk : k < 256) :
    (s.raise code x unit data).events.Newest s.now (k + 1) :=
  EventRing.Newest.add (e := ⟨s.events.nextSeq, code, eventSeverity code, x, s.now, unit % 65536, data % 2 ^ 96⟩) h hk

/-- The ring holds an event that is raised where it has room for those of its tick (13 R386). -/
theorem State.exists_held_raise (code : Nat) (x : Option Nat) (unit data : Nat) (h : s.events.Newest s.now k)
    (hk : k < 256) : ∃ e ∈ (s.raise code x unit data).events.held,
      e.code = code ∧ e.tick = s.now ∧ e.unit = unit % 65536 := by
  obtain ⟨n, hn⟩ := EventRing.Newest.exists_held
    (e := ⟨s.events.nextSeq, code, eventSeverity code, x, s.now, unit % 65536, data % 2 ^ 96⟩) h hk
  exact ⟨_, hn, rfl, rfl, rfl⟩

/-! ### The end of a transaction -/

variable (slot cause : Nat)

theorem State.rollBack_none (h : s.mbox.txn = none) : s.rollBack slot cause = s := by simp [State.rollBack, h]

/-- The rolled back transaction raises its event. -/
theorem State.rollBack_some {l : List Staged} (h : s.mbox.txn = some l) : s.rollBack slot cause =
    State.raise { s with mbox := { s.mbox with txn := none } } 5 none slot cause := by
  simp [State.rollBack, h]

/-- What an ended transaction and its event leave alone is the same after a roll back. -/
theorem State.rollBack_same {α : Type} (p : State → α) (hp : ∀ u : State,
    p (State.raise { u with mbox := { u.mbox with txn := none } } 5 none slot cause) = p u) :
    p (s.rollBack slot cause) = p s := by
  cases h : s.mbox.txn with
  | none => rw [s.rollBack_none slot cause h]
  | some l => rw [s.rollBack_some slot cause h, hp]

@[simp] theorem State.rollBack_pending : (s.rollBack slot cause).pending = s.pending :=
  s.rollBack_same slot cause State.pending (fun _ => rfl)
@[simp] theorem State.rollBack_mem : (s.rollBack slot cause).mem = s.mem :=
  s.rollBack_same slot cause State.mem (fun _ => rfl)
@[simp] theorem State.rollBack_now : (s.rollBack slot cause).now = s.now :=
  s.rollBack_same slot cause State.now (fun _ => rfl)
@[simp] theorem State.rollBack_slot (m : Nat) : (s.rollBack slot cause).slot m = s.slot m :=
  s.rollBack_same slot cause (State.slot · m) (fun _ => rfl)

@[simp] theorem State.rollBack_txn : (s.rollBack slot cause).mbox.txn = none := by
  cases h : s.mbox.txn with
  | none => rw [s.rollBack_none slot cause h, h]
  | some l => rw [s.rollBack_some slot cause h]; rfl

@[simp] theorem State.rollBack_nextSeq :
    (s.rollBack slot cause).events.nextSeq = s.events.nextSeq + (if s.mbox.txn.isSome then 1 else 0) := by
  cases h : s.mbox.txn with
  | none => rw [s.rollBack_none slot cause h]; rfl
  | some l => rw [s.rollBack_some slot cause h]; rfl

theorem State.newest_rollBack (h : s.events.Newest s.now 0) : (s.rollBack slot cause).events.Newest s.now 1 := by
  cases ht : s.mbox.txn with
  | none =>
    obtain ⟨new, older, hheld, hlen, hold⟩ := h
    rw [s.rollBack_none slot cause ht]
    exact ⟨new, older, hheld, Nat.le_succ_of_le hlen, hold⟩
  | some l =>
    rw [s.rollBack_some slot cause ht]
    exact State.newest_raise { s with mbox := { s.mbox with txn := none } } 5 none slot cause h (by decide)

/-! ### A change of owner -/

variable (dest : Option Nat)

@[simp] theorem State.passOwner_pending : (s.passOwner dest).pending = s.pending := s.rollBack_pending _ _
@[simp] theorem State.passOwner_mem : (s.passOwner dest).mem = s.mem := s.rollBack_mem _ _
@[simp] theorem State.passOwner_slot (m : Nat) : (s.passOwner dest).slot m = s.slot m := s.rollBack_slot _ _ m
@[simp] theorem State.passOwner_owner : (s.passOwner dest).mbox.owner = dest := rfl
@[simp] theorem State.passOwner_txn : (s.passOwner dest).mbox.txn = none := s.rollBack_txn _ _
@[simp] theorem State.passOwner_leaseEnd : (s.passOwner dest).mbox.leaseEnd =
    if dest.isSome then s.now + 2000000000 else 0 := by
  rw [← s.rollBack_now (s.mbox.owner.getD 255) 1]
  rfl

@[simp] theorem State.passOwner_nextSeq :
    (s.passOwner dest).events.nextSeq = s.events.nextSeq + (if s.mbox.txn.isSome then 2 else 1) := by
  have hraised : (s.passOwner dest).events.nextSeq =
      (s.rollBack (s.mbox.owner.getD 255) 1).events.nextSeq + 1 := rfl
  rw [hraised, State.rollBack_nextSeq]
  split <;> rfl

/-- OWNER_CHANGED is held as an event of the tick, with the new owner or FFh as its unit (13 R359, R390). -/
theorem State.exists_held_passOwner (h : ∀ v ∈ s.events.held, v.tick < s.now) :
    ∃ e ∈ (s.passOwner dest).events.held, e.code = 2 ∧ e.tick = s.now ∧ e.unit = dest.getD 255 % 65536 := by
  have hnew := s.newest_rollBack (s.mbox.owner.getD 255) 1 (EventRing.newest_of_lt h)
  rw [← s.rollBack_now (s.mbox.owner.getD 255) 1] at hnew ⊢
  exact State.exists_held_raise { s.rollBack (s.mbox.owner.getD 255) 1 with mbox := _ } 2 none _ _ hnew (by decide)

end

/-! ### A command from the start of its service to its answer -/

section
variable {s t : State} {m : Nat} {q : Cmd} {op : Nat}

@[simp] theorem State.entered_now (s : State) (m : Nat) (q : Cmd) (op : Nat) : (s.entered m q op).now = s.now := by
  unfold State.entered State.renew
  split <;> rfl
@[simp] theorem State.entered_events (s : State) (m : Nat) (q : Cmd) (op : Nat) :
    (s.entered m q op).events = s.events := by
  unfold State.entered State.renew
  split <;> rfl
@[simp] theorem State.entered_txn (s : State) (m : Nat) (q : Cmd) (op : Nat) :
    (s.entered m q op).mbox.txn = s.mbox.txn := by
  unfold State.entered State.renew
  split <;> rfl

/-- A posted command leaves every slot bound or unbound as it was. -/
@[simp] theorem State.entered_bound (s : State) (m : Nat) (q : Cmd) (op n : Nat) :
    ((s.entered m q op).slot n).bound = (s.slot n).bound := by
  have hrenew (u : State) : (u.renew m).slot n = u.slot n := by
    unfold State.renew
    split <;> rfl
  rw [State.entered, hrenew]
  by_cases hn : n = m
  · subst hn
    simp [State.post]
  · simp [State.post, State.modSlot, State.setSlot, State.slot, Tab.get_set_other _ _ _ hn]

@[simp] theorem State.respond_events (s : State) (m n : Nat) (r : Reply) : (s.respond m n r).events = s.events := by
  unfold State.respond State.message
  split <;> rfl
@[simp] theorem State.respond_owner (s : State) (m n : Nat) (r : Reply) :
    (s.respond m n r).mbox.owner = s.mbox.owner := by
  unfold State.respond State.message
  split <;> rfl
@[simp] theorem State.respond_leaseEnd (s : State) (m n : Nat) (r : Reply) :
    (s.respond m n r).mbox.leaseEnd = s.mbox.leaseEnd := by
  unfold State.respond State.message
  split <;> rfl
@[simp] theorem State.respond_txn (s : State) (m n : Nat) (r : Reply) : (s.respond m n r).mbox.txn = s.mbox.txn := by
  unfold State.respond State.message
  split <;> rfl

/-- A served command whose row comes to `f` at the start of its service is answered as `f` says. -/
theorem Serves.completes {k : CmdSpec} {i : Instr} {body : State → State × Reply} (f : State → State × Reply)
    (h : Serves s m q k) (hi : exec i s = Machine.quiet s (s.serve m q k body))
    (hf : body (s.entered m q k.op) = f (s.entered m q k.op)) (hslot : ∀ u, (f u).1.slot m = u.slot m)
    (hpending : ∀ u, (f u).1.pending = u.pending) (hmem : ∀ u, (f u).1.mem = u.mem) :
    Completes i s (Answered s m q k.op f) := by
  refine ⟨_, hi.trans (h.quiet body ?_ ?_ ?_ ?_), ?_⟩
  · rw [hf, hslot]
  · rw [hf, hslot]
  · rw [hf, hpending, State.entered_pending]
  · rw [hf, hmem, State.entered_mem]
  · rw [Answered, hf]

/-- A command that changes the owner: the new owner and its lease, no transaction, and the events raised (13 R359). -/
theorem Answered.passOwner {dest : Option Nat} (h : Answered s m q op (fun u => okay (u.passOwner dest)) t) :
    t.mbox.owner = dest ∧ t.mbox.leaseEnd = (if dest.isSome then s.now + 2000000000 else 0) ∧ t.mbox.txn = none ∧
    t.events.nextSeq = s.events.nextSeq + (if s.mbox.txn.isSome then 2 else 1) ∧
    ((∀ v ∈ s.events.held, v.tick < s.now) →
      ∃ e ∈ t.events.held, e.code = 2 ∧ e.tick = s.now ∧ e.unit = dest.getD 255 % 65536) := by
  subst h
  refine ⟨?owner, ?lease, ?txn, ?events, ?held⟩
  case held => simpa only [okay, State.respond_events, State.entered_events, State.entered_now] using
    (s.entered m q op).exists_held_passOwner dest
  all_goals simp [okay]

/-- HANDOVER to another slot that has a path (13 R359). -/
theorem handover_passes (h : Serves s m q { op := 0x12, who := .owner, early := true, arg := 7 })
    (hm : argFld q 0 3 ≠ m) (hb : argFld q 0 3 = 0 ∨ (s.slot (argFld q 0 3)).bound = true) :
    Completes (.handover m q) s (Answered s m q 0x12 (fun u => okay (u.passOwner (some (argFld q 0 3))))) := by
  refine h.completes _ rfl (if_neg ?_) (fun u => u.passOwner_slot _ m) (fun u => u.passOwner_pending _)
    (fun u => u.passOwner_mem _)
  rcases hb with hb | hb
  · simpa [hb] using hm
  · simp [hm, hb]

/-- HANDOVER to the owner's own slot, or to one that has no path (13 R359). -/
theorem handover_refused (h : Serves s m q { op := 0x12, who := .owner, early := true, arg := 7 })
    (hd : argFld q 0 3 = m ∨ (argFld q 0 3 ≠ 0 ∧ (s.slot (argFld q 0 3)).bound = false)) :
    Completes (.handover m q) s (Answered s m q 0x12 (fun u => (u, { status := stNoSlot }))) :=
  h.completes _ rfl (if_pos (by simpa using hd)) (fun _ => rfl) (fun _ => rfl) (fun _ => rfl)

/-- RELEASE (13 R359). -/
theorem releaseOwner_passes (h : Serves s m q { op := 0x13, who := .owner, early := true }) :
    Completes (.releaseOwner m q) s (Answered s m q 0x13 (fun u => okay (u.passOwner none))) :=
  h.completes _ rfl rfl (fun u => u.passOwner_slot _ m) (fun u => u.passOwner_pending _) (fun u => u.passOwner_mem _)

end

/-- Settles O30: both commands are one change of owner from the state at the start of their service. -/
theorem ownershipPasses : Obligations.OwnershipPasses := by
  unfold Obligations.OwnershipPasses
  intro s m q dest raised
  refine ⟨fun h => ⟨fun hm hb => (handover_passes h hm hb).mono fun t ht => ?_, handover_refused h⟩,
    fun h => (releaseOwner_passes h).mono fun t ht => ?_⟩
  · obtain ⟨howner, hlease, htxn, hseq, hheld⟩ := ht.passOwner
    have hunit : (some dest).getD 255 % 65536 = dest :=
      Nat.mod_eq_of_lt (Nat.lt_trans (Nat.mod_lt _ (by decide) : dest < 2 ^ 3) (by decide))
    rw [hunit] at hheld
    exact ⟨ht, howner, hlease, htxn, hseq, hheld⟩
  · obtain ⟨howner, -, htxn, hseq, hheld⟩ := ht.passOwner
    exact ⟨ht, howner, htxn, hseq, hheld⟩

end Sys2Proof.Machine
end

section
/-! What every command does: it answers a next state, keeps the queue and the canonical form of memory; and what the fields
of a bundle reach, and that they need a live core (03 R62, R64): the obligations O2, O4, O6 and O7. -/
namespace Sys2Proof.Machine
open Sys2Proof

/-! ### Memory -/

/-- Every command keeps memory in its canonical form. -/
theorem exec_memOk (i : Instr) (s : State) (h : s.memOk) : Out.memOk (exec i s) :=
  match i with
  | .idleBundle f => execIdleBundle_memOk f s h
  | .brk c => execBrk_memOk c s h
  | .rdv c f => execRdv_memOk c f s h
  | .fence c => execFence_memOk c s h
  | .rdvFence c f => execRdvFence_memOk c f s h
  | .orbitEnd c => execOrbitEnd_memOk c s h
  | .rendezvousRelease x => execRendezvousRelease_memOk x s h
  | .fenceRelease x => execFenceRelease_memOk x s h
  | .orbitBoundary x => execOrbitBoundary_memOk x s h
  | .jmp c f => execJmp_memOk c f s h
  | .loop c f => execLoop_memOk c f s h
  | .ubr c f => execUbr_memOk c f s h
  | .fbr c f => execFbr_memOk c f s h
  | .armend c => execArmend_memOk c s h
  | .armCut c => execArmCut_memOk c s h
  | .add c f => execAdd_memOk c f s h
  | .sub c f => execSub_memOk c f s h
  | .mul c f => execMul_memOk c f s h
  | .and c f => execAnd_memOk c f s h
  | .or c f => execOr_memOk c f s h
  | .xor c f => execXor_memOk c f s h
  | .shl c f => execShl_memOk c f s h
  | .shr c f => execShr_memOk c f s h
  | .sar c f => execSar_memOk c f s h
  | .min c f => execMin_memOk c f s h
  | .max c f => execMax_memOk c f s h
  | .minu c f => execMinu_memOk c f s h
  | .maxu c f => execMaxu_memOk c f s h
  | .slt c f => execSlt_memOk c f s h
  | .sltu c f => execSltu_memOk c f s h
  | .seq c f => execSeq_memOk c f s h
  | .csel c f => execCsel_memOk c f s h
  | .movi c f => execMovi_memOk c f s h
  | .movhi c f => execMovhi_memOk c f s h
  | .rdpar c f => execRdpar_memOk c f s h
  | .wrpar c f => execWrpar_memOk c f s h
  | .rdstep c f => execRdstep_memOk c f s h
  | .rdorbit c f => execRdorbit_memOk c f s h
  | .rdpci c f => execRdpci_memOk c f s h
  | .rdncore c f => execRdncore_memOk c f s h
  | .rdsem c f => execRdsem_memOk c f s h
  | .rdbrk c f => execRdbrk_memOk c f s h
  | .reduce c f => execReduce_memOk c f s h
  | .rdwire c f => execRdwire_memOk c f s h
  | .lcset c f => execLcset_memOk c f s h
  | .tapset c f => execTapset_memOk c f s h
  | .tail c f => execTail_memOk c f s h
  | .readTap c p t e => execReadTap_memOk c p t e s h
  | .writeTap c p t e => execWriteTap_memOk c p t e s h
  | .coreMemWriteVisible c => execCoreMemWriteVisible_memOk c s h
  | .pipelineResult c e => execPipelineResult_memOk c e s h
  | .wireLanding x => execWireLanding_memOk x s h
  | .enter c k f e => execEnter_memOk c k f e s h
  | .shift c k f e => execShift_memOk c k f e s h
  | .swap c k f => execSwap_memOk c k f s h
  | .operandBufferLanding c => execOperandBufferLanding_memOk c s h
  | .arrayOutput c => execArrayOutput_memOk c s h
  | .fadd c f => execFadd_memOk c f s h
  | .fsub c f => execFsub_memOk c f s h
  | .fmul c f => execFmul_memOk c f s h
  | .fma c f => execFma_memOk c f s h
  | .fnma c f => execFnma_memOk c f s h
  | .fmin c f => execFmin_memOk c f s h
  | .fmax c f => execFmax_memOk c f s h
  | .fabs c f => execFabs_memOk c f s h
  | .fneg c f => execFneg_memOk c f s h
  | .fcpys c f => execFcpys_memOk c f s h
  | .frint c f => execFrint_memOk c f s h
  | .fscale c f => execFscale_memOk c f s h
  | .fexp c f => execFexp_memOk c f s h
  | .fmant c f => execFmant_memOk c f s h
  | .fceq c f => execFceq_memOk c f s h
  | .fclt c f => execFclt_memOk c f s h
  | .fcle c f => execFcle_memOk c f s h
  | .fcun c f => execFcun_memOk c f s h
  | .fclass c f => execFclass_memOk c f s h
  | .iceq c f => execIceq_memOk c f s h
  | .iclt c f => execIclt_memOk c f s h
  | .icltu c f => execIcltu_memOk c f s h
  | .sel c f => execSel_memOk c f s h
  | .kand c f => execKand_memOk c f s h
  | .kor c f => execKor_memOk c f s h
  | .kxor c f => execKxor_memOk c f s h
  | .knot c f => execKnot_memOk c f s h
  | .iadd c f => execIadd_memOk c f s h
  | .isub c f => execIsub_memOk c f s h
  | .imul c f => execImul_memOk c f s h
  | .iand c f => execIand_memOk c f s h
  | .ior c f => execIor_memOk c f s h
  | .ixor c f => execIxor_memOk c f s h
  | .ishl c f => execIshl_memOk c f s h
  | .ishr c f => execIshr_memOk c f s h
  | .isar c f => execIsar_memOk c f s h
  | .imin c f => execImin_memOk c f s h
  | .imax c f => execImax_memOk c f s h
  | .umin c f => execUmin_memOk c f s h
  | .umax c f => execUmax_memOk c f s h
  | .mov c f => execMov_memOk c f s h
  | .vecMovi c f => execVecMovi_memOk c f s h
  | .laneid c f => execLaneid_memOk c f s h
  | .vrotl c f => execVrotl_memOk c f s h
  | .vlbc c f => execVlbc_memOk c f s h
  | .cvtf c f => execCvtf_memOk c f s h
  | .cvtw c f => execCvtw_memOk c f s h
  | .cvtmx c f => execCvtmx_memOk c f s h
  | .cvtwmx c f => execCvtwmx_memOk c f s h
  | .ftoi c f => execFtoi_memOk c f s h
  | .itof c f => execItof_memOk c f s h
  | .vtail c f => execVtail_memOk c f s h
  | .vtailu c f => execVtailu_memOk c f s h
  | .rfsum c f => execRfsum_memOk c f s h
  | .rfmax c f => execRfmax_memOk c f s h
  | .rfmin c f => execRfmin_memOk c f s h
  | .risum c f => execRisum_memOk c f s h
  | .rusum c f => execRusum_memOk c f s h
  | .rimax c f => execRimax_memOk c f s h
  | .rimin c f => execRimin_memOk c f s h
  | .rand c f => execRand_memOk c f s h
  | .ror c f => execRor_memOk c f s h
  | .rargmax c f => execRargmax_memOk c f s h
  | .rkcnt c f => execRkcnt_memOk c f s h
  | .vectorLoad c r => execVectorLoad_memOk c r s h
  | .vectorStore c r => execVectorStore_memOk c r s h
  | .dramToCore c sd => execDramToCore_memOk c sd s h
  | .coreToDram c sd => execCoreToDram_memOk c sd s h
  | .baseToCore c sd => execBaseToCore_memOk c sd s h
  | .coreToBase c sd => execCoreToBase_memOk c sd s h
  | .dramToBase c sd => execDramToBase_memOk c sd s h
  | .baseToDram c sd => execBaseToDram_memOk c sd s h
  | .comet c sd => execComet_memOk c sd s h
  | .dramSlot d ch e => execDramSlot_memOk d ch e s h
  | .maintenanceFrame d ch w => execMaintenanceFrame_memOk d ch w s h
  | .dramLineLands d k t => execDramLineLands_memOk d k t s h
  | .dramWriteCommit d k => execDramWriteCommit_memOk d k s h
  | .stagingDeparture x => execStagingDeparture_memOk x s h
  | .baseLineLands x => execBaseLineLands_memOk x s h
  | .baseBankAccess x e => execBaseBankAccess_memOk x e s h
  | .baseScrubSlot q bank e => execBaseScrubSlot_memOk q bank e s h
  | .transitLineArrival x => execTransitLineArrival_memOk x s h
  | .send c sep => execSend_memOk c sep s h
  | .elast c sep token => execElast_memOk c sep token s h
  | .recv c rep e => execRecv_memOk c rep e s h
  | .semopAdd c n v => execSemopAdd_memOk c n v s h
  | .semopSub c n v => execSemopSub_memOk c n v s h
  | .chanLinesArrive x => execChanLinesArrive_memOk x s h
  | .entryHeaderArrive x => execEntryHeaderArrive_memOk x s h
  | .lockedCreditReturn x => execLockedCreditReturn_memOk x s h
  | .stall x t => execStall_memOk x t s h
  | .deadlineMiss x t => execDeadlineMiss_memOk x t s h
  | .waitMiss x t => execWaitMiss_memOk x t s h
  | .orbitAbandon x => execOrbitAbandon_memOk x s h
  | .beat d replicaPs => execBeat_memOk d replicaPs s h
  | .paceSwitch t => execPaceSwitch_memOk t s h
  | .oscTrim d move => execOscTrim_memOk d move s h
  | .dramRetrain d t => execDramRetrain_memOk d t s h
  | .linkAdaptation p t => execLinkAdaptation_memOk p t s h
  | .powerCapControl watts t => execPowerCapControl_memOk watts t s h
  | .timeReqSend t ps => execTimeReqSend_memOk t ps s h
  | .timeReq p f t ps => execTimeReq_memOk p f t ps s h
  | .timeResp p f t ps => execTimeResp_memOk p f t ps s h
  | .timeHoldover t => execTimeHoldover_memOk t s h
  | .portTrainingStart p => execPortTrainingStart_memOk p s h
  | .signalLock p lanes => execSignalLock_memOk p lanes s h
  | .equalisationDone p lanes => execEqualisationDone_memOk p lanes s h
  | .frameLock p code port lanes => execFrameLock_memOk p code port lanes s h
  | .dwellEnd p own partner t => execDwellEnd_memOk p own partner t s h
  | .retrainDelayExpiry p t => execRetrainDelayExpiry_memOk p t s h
  | .laneBerCheck p bers t => execLaneBerCheck_memOk p bers t s h
  | .dataFrameGroup p ok heads payloads t => execDataFrameGroup_memOk p ok heads payloads t s h
  | .idleFrameGroup p g t => execIdleFrameGroup_memOk p g t s h
  | .calibrationGroup p => execCalibrationGroup_memOk p s h
  | .fseqGapTimeout p => execFseqGapTimeout_memOk p s h
  | .heartbeatSend p t => execHeartbeatSend_memOk p t s h
  | .portSilent p t => execPortSilent_memOk p t s h
  | .absenceReturnBy p t => execAbsenceReturnBy_memOk p t s h
  | .entryEnd p f => execEntryEnd_memOk p f s h
  | .entryCredit p f => execEntryCredit_memOk p f s h
  | .openFlit p f => execOpenFlit_memOk p f s h
  | .openAck p f => execOpenAck_memOk p f s h
  | .closeFlit p f => execCloseFlit_memOk p f s h
  | .breakFlit p f => execBreakFlit_memOk p f s h
  | .mgmt p f => execMgmt_memOk p f s h
  | .faultFront p f => execFaultFront_memOk p f s h
  | .absence p f => execAbsence_memOk p f s h
  | .remoteRd p f => execRemoteRd_memOk p f s h
  | .calFlit p f => execCalFlit_memOk p f s h
  | .refclkLoss t => execRefclkLoss_memOk t s h
  | .mctpMessage vendor body => execMctpMessage_memOk vendor body s h
  | .pldmRequest r => execPldmRequest_memOk r s h
  | .electionClose t => execElectionClose_memOk t s h
  | .leaseExpiry t => execLeaseExpiry_memOk t s h
  | .parkedReadServed m => execParkedReadServed_memOk m s h
  | .parkedReadTimeout m t => execParkedReadTimeout_memOk m t s h
  | .nopCmd m q => execNopCmd_memOk m q s h
  | .claim m q => execClaim_memOk m q s h
  | .renew m q => execRenew_memOk m q s h
  | .handover m q => execHandover_memOk m q s h
  | .releaseOwner m q => execReleaseOwner_memOk m q s h
  | .ownerRead m q => execOwnerRead_memOk m q s h
  | .settingRead m q => execSettingRead_memOk m q s h
  | .settingWrite m q => execSettingWrite_memOk m q s h
  | .beginTxn m q => execBeginTxn_memOk m q s h
  | .setStage m q => execSetStage_memOk m q s h
  | .commitBoundary m q => execCommitBoundary_memOk m q s h
  | .commitTick m q => execCommitTick_memOk m q s h
  | .txnApplyTick t => execTxnApplyTick_memOk t s h
  | .rollback m q => execRollback_memOk m q s h
  | .txnRead m q => execTxnRead_memOk m q s h
  | .contextCreate m q => execContextCreate_memOk m q s h
  | .contextZeroed x => execContextZeroed_memOk x s h
  | .contextDestroy m q => execContextDestroy_memOk m q s h
  | .contextStart m q => execContextStart_memOk m q s h
  | .contextStop m q => execContextStop_memOk m q s h
  | .evict m q => execEvict_memOk m q s h
  | .patchStage m q => execPatchStage_memOk m q s h
  | .jobOpen m q => execJobOpen_memOk m q s h
  | .jobClose m q => execJobClose_memOk m q s h
  | .imageLoad m q => execImageLoad_memOk m q s h
  | .imageReceived x => execImageReceived_memOk x s h
  | .weightLoad m q => execWeightLoad_memOk m q s h
  | .weightSwap m q => execWeightSwap_memOk m q s h
  | .anchorInstall m q => execAnchorInstall_memOk m q s h
  | .anchorTableRead m q => execAnchorTableRead_memOk m q s h
  | .anchorRemove m q => execAnchorRemove_memOk m q s h
  | .ledgerRead m q => execLedgerRead_memOk m q s h
  | .attest m q => execAttest_memOk m q s h
  | .replayArmSet m q => execReplayArmSet_memOk m q s h
  | .replayArmAppend m q => execReplayArmAppend_memOk m q s h
  | .memRead m q => execMemRead_memOk m q s h
  | .memWrite m q => execMemWrite_memOk m q s h
  | .debugHold m q => execDebugHold_memOk m q s h
  | .debugRelease m q => execDebugRelease_memOk m q s h
  | .brkArm m q => execBrkArm_memOk m q s h
  | .brkDisarm m q => execBrkDisarm_memOk m q s h
  | .semSet m q => execSemSet_memOk m q s h
  | .vregRead m q => execVregRead_memOk m q s h
  | .queueRead m q => execQueueRead_memOk m q s h
  | .imemOverride m q => execImemOverride_memOk m q s h
  | .baseMemStatus m q => execBaseMemStatus_memOk m q s h
  | .stackStatus m q => execStackStatus_memOk m q s h
  | .hubStatus m q => execHubStatus_memOk m q s h
  | .paceStatus m q => execPaceStatus_memOk m q s h
  | .portMap m q => execPortMap_memOk m q s h
  | .slotTableRead m q => execSlotTableRead_memOk m q s h
  | .calendarRead m q => execCalendarRead_memOk m q s h
  | .grantTableRead m q => execGrantTableRead_memOk m q s h
  | .grantIssue m q => execGrantIssue_memOk m q s h
  | .grantRevoke m q => execGrantRevoke_memOk m q s h
  | .connOpen m q => execConnOpen_memOk m q s h
  | .connOpenTimeout connId t => execConnOpenTimeout_memOk connId t s h
  | .connClose m q => execConnClose_memOk m q s h
  | .portRetrain m q => execPortRetrain_memOk m q s h
  | .timeSet m q => execTimeSet_memOk m q s h
  | .eventRead m q => execEventRead_memOk m q s h
  | .eventAck m q => execEventAck_memOk m q s h
  | .resetCmd m q => execResetCmd_memOk m q s h
  | .recoveryRead m q => execRecoveryRead_memOk m q s h
  | .readyReport m q => execReadyReport_memOk m q s h
  | .fuseMapRead m q => execFuseMapRead_memOk m q s h
  | .fieldRepairAdd m q => execFieldRepairAdd_memOk m q s h
  | .fieldRepairRemove m q => execFieldRepairRemove_memOk m q s h
  | .haloPair m q => execHaloPair_memOk m q s h
  | .haloStandby m q => execHaloStandby_memOk m q s h
  | .haloUnpair m q => execHaloUnpair_memOk m q s h
  | .takeover m q => execTakeover_memOk m q s h
  | .haloResume m q => execHaloResume_memOk m q s h
  | .checkpointRestore m q => execCheckpointRestore_memOk m q s h
  | .checkpointRead m q => execCheckpointRead_memOk m q s h
  | .haloStatus m q => execHaloStatus_memOk m q s h
  | .fwStageBulk m q => execFwStageBulk_memOk m q s h
  | .fwStageChunk m q => execFwStageChunk_memOk m q s h
  | .mirrorItem pair item => execMirrorItem_memOk pair item s h
  | .mirrorAck pair orbit ckpt => execMirrorAck_memOk pair orbit ckpt s h
  | .batchCloseTimer stream t => execBatchCloseTimer_memOk stream t s h
  | .sealSigned => execSealSigned_memOk s h
  | .holdupGuardConfirm energy => execHoldupGuardConfirm_memOk energy s h
  | .flashStoreDone => execFlashStoreDone_memOk s h
  | .modResetNRelease sbSel energy => execModResetNRelease_memOk sbSel energy s h
  | .bringupStageEnd r => execBringupStageEnd_memOk r s h
  | .stageLimitExpiry r => execStageLimitExpiry_memOk r s h
  | .linksUnconfigured => execLinksUnconfigured_memOk s h
  | .eclipseFrozen => execEclipseFrozen_memOk s h
  | .eclipseBudgetExpiry t => execEclipseBudgetExpiry_memOk t s h
  | .resetRestoreDone => execResetRestoreDone_memOk s h
  | .coreFault core t => execCoreFault_memOk core t s h
  | .clusterFault site cluster t => execClusterFault_memOk site cluster t s h
  | .paceFault d t => execPaceFault_memOk d t s h
  | .baseFault u t => execBaseFault_memOk u t s h
  | .stackFault u t => execStackFault_memOk u t s h
  | .seamFault t => execSeamFault_memOk t s h
  | .mcWatchdog t => execMcWatchdog_memOk t s h
  | .pwrEnAssert energy => execPwrEnAssert_memOk energy s h
  | .inputPowerFail cause energy t => execInputPowerFail_memOk cause energy t s h
  | .emergencySealDone energy => execEmergencySealDone_memOk energy s h
  | .modResetNAssert => execModResetNAssert_memOk s h
  | .thermalSample sensor temp t => execThermalSample_memOk sensor temp t s h
  | .thermalTrip sensor temp t => execThermalTrip_memOk sensor temp t s h
  | .tapExtest => execTapExtest_memOk s h
  | .tapSamplePreload => execTapSamplePreload_memOk s h
  | .tapBypass => execTapBypass_memOk s h
  | .tapIdcode => execTapIdcode_memOk s h
  | .trstN low => execTrstN_memOk low s h
  | .holdupBankCharged energy => execHoldupBankCharged_memOk energy s h
  | .absentPartnerReturns p => execAbsentPartnerReturns_memOk p s h
  | .resourcesReleased x => execResourcesReleased_memOk x s h

/-- Settles O4: on an empty queue the block idles; otherwise the command at the front runs. -/
theorem stepKeepsMemoryCanonical : Obligations.StepKeepsMemoryCanonical := by
  intro s t h hstep
  unfold step at hstep
  split at hstep
  · rename_i c r _
    exact exec_memOk c { s with pending := r } h t hstep
  · exact idleStep_memOk s h t hstep

/-! ### The reach of a bundle's fields -/

/-- Every field of a bundle completes within the reach of its core. -/
theorem bundle_reaches {i : Instr} {c : CoreRef} (h : bundleCore i = some c) (s : State) :
    ∃ t, exec i s = .next t ∧ Reaches c.ctx c.core s t := by
  cases i <;> cases h
  case idleBundle => exact idleBundle_reaches _ s
  case brk => exact brk_reaches _ s
  case rdv => exact rdv_reaches _ _ s
  case fence => exact fence_reaches _ s
  case rdvFence => exact rdvFence_reaches _ _ s
  case orbitEnd => exact orbitEnd_reaches _ s
  case jmp => exact jmp_reaches _ _ s
  case loop => exact loop_reaches _ _ s
  case ubr => exact ubr_reaches _ _ s
  case fbr => exact fbr_reaches _ _ s
  case armend => exact armend_reaches _ s
  case armCut => exact armCut_reaches _ s
  case add => exact add_reaches _ _ s
  case sub => exact sub_reaches _ _ s
  case mul => exact mul_reaches _ _ s
  case and => exact and_reaches _ _ s
  case or => exact or_reaches _ _ s
  case xor => exact xor_reaches _ _ s
  case shl => exact shl_reaches _ _ s
  case shr => exact shr_reaches _ _ s
  case sar => exact sar_reaches _ _ s
  case min => exact min_reaches _ _ s
  case max => exact max_reaches _ _ s
  case minu => exact minu_reaches _ _ s
  case maxu => exact maxu_reaches _ _ s
  case slt => exact slt_reaches _ _ s
  case sltu => exact sltu_reaches _ _ s
  case seq => exact seq_reaches _ _ s
  case csel => exact csel_reaches _ _ s
  case movi => exact movi_reaches _ _ s
  case movhi => exact movhi_reaches _ _ s
  case rdpar => exact rdpar_reaches _ _ s
  case wrpar => exact wrpar_reaches _ _ s
  case rdstep => exact rdstep_reaches _ _ s
  case rdorbit => exact rdorbit_reaches _ _ s
  case rdpci => exact rdpci_reaches _ _ s
  case rdncore => exact rdncore_reaches _ _ s
  case rdsem => exact rdsem_reaches _ _ s
  case rdbrk => exact rdbrk_reaches _ _ s
  case reduce => exact reduce_reaches _ _ s
  case rdwire => exact rdwire_reaches _ _ s
  case lcset => exact lcset_reaches _ _ s
  case tapset => exact tapset_reaches _ _ s
  case tail => exact tail_reaches _ _ s
  case readTap => exact readTap_reaches _ _ _ _ s
  case writeTap => exact writeTap_reaches _ _ _ _ s
  case enter => exact enter_reaches _ _ _ _ s
  case shift => exact shift_reaches _ _ _ _ s
  case swap => exact swap_reaches _ _ _ s
  case fadd => exact fadd_reaches _ _ s
  case fsub => exact fsub_reaches _ _ s
  case fmul => exact fmul_reaches _ _ s
  case fma => exact fma_reaches _ _ s
  case fnma => exact fnma_reaches _ _ s
  case fmin => exact fmin_reaches _ _ s
  case fmax => exact fmax_reaches _ _ s
  case fabs => exact fabs_reaches _ _ s
  case fneg => exact fneg_reaches _ _ s
  case fcpys => exact fcpys_reaches _ _ s
  case frint => exact frint_reaches _ _ s
  case fscale => exact fscale_reaches _ _ s
  case fexp => exact fexp_reaches _ _ s
  case fmant => exact fmant_reaches _ _ s
  case fceq => exact fceq_reaches _ _ s
  case fclt => exact fclt_reaches _ _ s
  case fcle => exact fcle_reaches _ _ s
  case fcun => exact fcun_reaches _ _ s
  case fclass => exact fclass_reaches _ _ s
  case iceq => exact iceq_reaches _ _ s
  case iclt => exact iclt_reaches _ _ s
  case icltu => exact icltu_reaches _ _ s
  case sel => exact sel_reaches _ _ s
  case kand => exact kand_reaches _ _ s
  case kor => exact kor_reaches _ _ s
  case kxor => exact kxor_reaches _ _ s
  case knot => exact knot_reaches _ _ s
  case iadd => exact iadd_reaches _ _ s
  case isub => exact isub_reaches _ _ s
  case imul => exact imul_reaches _ _ s
  case iand => exact iand_reaches _ _ s
  case ior => exact ior_reaches _ _ s
  case ixor => exact ixor_reaches _ _ s
  case ishl => exact ishl_reaches _ _ s
  case ishr => exact ishr_reaches _ _ s
  case isar => exact isar_reaches _ _ s
  case imin => exact imin_reaches _ _ s
  case imax => exact imax_reaches _ _ s
  case umin => exact umin_reaches _ _ s
  case umax => exact umax_reaches _ _ s
  case mov => exact mov_reaches _ _ s
  case vecMovi => exact vecMovi_reaches _ _ s
  case laneid => exact laneid_reaches _ _ s
  case vrotl => exact vrotl_reaches _ _ s
  case vlbc => exact vlbc_reaches _ _ s
  case cvtf => exact cvtf_reaches _ _ s
  case cvtw => exact cvtw_reaches _ _ s
  case cvtmx => exact cvtmx_reaches _ _ s
  case cvtwmx => exact cvtwmx_reaches _ _ s
  case ftoi => exact ftoi_reaches _ _ s
  case itof => exact itof_reaches _ _ s
  case vtail => exact vtail_reaches _ _ s
  case vtailu => exact vtailu_reaches _ _ s
  case rfsum => exact rfsum_reaches _ _ s
  case rfmax => exact rfmax_reaches _ _ s
  case rfmin => exact rfmin_reaches _ _ s
  case risum => exact risum_reaches _ _ s
  case rusum => exact rusum_reaches _ _ s
  case rimax => exact rimax_reaches _ _ s
  case rimin => exact rimin_reaches _ _ s
  case rand => exact rand_reaches _ _ s
  case ror => exact ror_reaches _ _ s
  case rargmax => exact rargmax_reaches _ _ s
  case rkcnt => exact rkcnt_reaches _ _ s
  case vectorLoad => exact vectorLoad_reaches _ _ s
  case vectorStore => exact vectorStore_reaches _ _ s
  case dramToCore => exact dramToCore_reaches _ _ s
  case coreToDram => exact coreToDram_reaches _ _ s
  case baseToCore => exact baseToCore_reaches _ _ s
  case coreToBase => exact coreToBase_reaches _ _ s
  case dramToBase => exact dramToBase_reaches _ _ s
  case baseToDram => exact baseToDram_reaches _ _ s
  case comet => exact comet_reaches _ _ s
  case send => exact send_reaches _ _ s
  case elast => exact elast_reaches _ _ _ s
  case recv => exact recv_reaches _ _ _ s
  case semopAdd => exact semopAdd_reaches _ _ _ s
  case semopSub => exact semopSub_reaches _ _ _ s

/-- A command that is no field of a bundle completes and keeps the queue. -/
theorem completes_of_bundleCore_none {i : Instr} (h : bundleCore i = none) (s : State) :
    Completes i s (fun t => t.pending = s.pending) := by
  cases i <;> cases h
  case operandBufferLanding c =>
    refine ⟨_, rfl, ?_⟩
    unfold State.landOn
    split <;> rfl
  case arrayOutput c =>
    refine ⟨_, rfl, ?_⟩
    unfold State.landOn
    split <;> rfl
  case wireLanding x =>
    refine ⟨_, rfl, ?_⟩
    dsimp only
    split <;> rfl
  case orbitAbandon x =>
    refine ⟨_, rfl, ?_⟩
    dsimp only
    split
    · rfl
    · split <;> rfl
  all_goals exact ⟨_, rfl, rfl⟩

/-- Settles O2: a field of a bundle reaches no further than its core, and every other command ends in `quiet`, `done` or a
landing. -/
theorem everyCommandCompletes : Obligations.EveryCommandCompletes := by
  intro i s
  cases h : bundleCore i with
  | some c =>
    obtain ⟨t, ht, hr⟩ := bundle_reaches h s
    exact ⟨t, ht, hr.pending⟩
  | none => exact completes_of_bundleCore_none h s

/-- Settles O7: both parts are read off the reach of a bundle's fields. -/
theorem fieldsFrame : Obligations.FieldsFrame := by
  refine ⟨fun i c s h => ?_, fun i c s h => ?_⟩
  · obtain ⟨t, ht, hr⟩ := bundle_reaches h s
    exact ⟨t, ht, hr.cores, hr.ctxs, fun a => by rw [hr.mem], hr.drams, hr.base, hr.hubs, hr.grants, hr.time, hr.domains,
      hr.calendar, hr.links, hr.mbox, hr.fuses, hr.anchors, hr.ledger, hr.flash, hr.boot, hr.recovery, hr.power⟩
  · obtain ⟨t, ht, hr⟩ := bundle_reaches h s
    exact ⟨t, ht, hr.core c⟩

/-! ### Fields where the core is not live -/

section
variable {s : State} {c : CoreRef}

theorem State.present_dead (h : s.live c = false) : s.present c = s := s.onCore_dead c id h

theorem State.ctlActs_dead (h : s.live c = false) : s.ctlActs c = false := by simp [State.ctlActs, h]

theorem State.outsideArm_dead (h : s.live c = false) (f : State → State) : s.outsideArm c f = s := by
  simp [State.outsideArm, State.ctlActs_dead h, State.present_dead h]

theorem State.scalarOp_dead (h : s.live c = false) (f : ScalarField) (lat : Nat) (op : W64 → W64 → W64) :
    s.scalarOp c f lat op = s := s.onCore_dead c _ h

theorem State.scalarFrom_dead (h : s.live c = false) (f : ScalarField) (lat : Nat) (v : Core → W64) :
    s.scalarFrom c f lat v = s := s.onCore_dead c _ h

theorem State.vecOp_dead (h : s.live c = false) (f : VectorField) (ok : Bool) (lat : Nat) (uses : List (Nat × Nat))
    (res : VecArgs → List VecWrite) : s.vecOp c f ok lat uses res = s := by
  unfold State.vecOp
  split
  · exact s.onCore_dead c _ h
  · exact s.onCore_dead c _ h

theorem State.vecInt_dead (h : s.live c = false) (f : VectorField) (lat : Nat) (op : Nat → Nat → Nat) :
    s.vecInt c f lat op = s := by
  unfold State.vecInt State.vecLanes
  exact State.vecOp_dead h ..

theorem State.vecFloat_dead (h : s.live c = false) (f : VectorField) (lat : Nat) (uses : List (Nat × Nat))
    (op : Fmt → Nat → Nat → Nat → Nat) : s.vecFloat c f lat uses op = s := by
  unfold State.vecFloat
  split
  · exact State.vecOp_dead h ..
  · exact State.vecOp_dead h ..

theorem State.vecReduce_dead (h : s.live c = false) (f : VectorField) (ok : Bool) (uses : List (Nat × Nat))
    (val : VecArgs → List (Bool × Nat) → W64) : s.vecReduce c f ok uses val = s := by
  unfold State.vecReduce
  split
  · exact s.onCore_dead c _ h
  · exact s.onCore_dead c _ h

theorem State.arrayRow_dead (h : s.live c = false) (r : ArrayReq) : s.arrayRow c r = s := by
  unfold State.arrayRow
  split
  · exact State.present_dead h
  · exact s.onCore_dead c _ h

theorem State.issueRow_dead (h : s.live c = false) (sd kind : Nat) : s.issueRow c sd kind = s := by
  unfold State.issueRow
  split
  · exact s.onCore_dead c _ h
  · exact State.present_dead h

theorem State.semop_dead (h : s.live c = false) (n : Nat) (v : Int) : s.semop c n v = s := by
  unfold State.semop
  split
  · exact s.onCore_dead c _ h
  · exact State.present_dead h

end

/-- A field of a bundle whose core is not live changes nothing (03 R62, R72; 01 R29). -/
theorem exec_dead {i : Instr} {c : CoreRef} {s : State} (hi : bundleCore i = some c) (h : s.live c = false) :
    exec i s = .next s := by
  have hctl := State.ctlActs_dead h
  have hpresent := State.present_dead h
  cases i <;> cases hi
  case add | sub | mul | and | or | xor | shl | shr | sar | min | max | minu | maxu | slt | sltu | seq =>
    exact congrArg Host.Outcome.next (State.scalarOp_dead h ..)
  case csel | movi | movhi | rdpar | rdstep | rdorbit | rdpci | rdncore | rdwire | tail =>
    exact congrArg Host.Outcome.next (State.scalarFrom_dead h ..)
  case wrpar | lcset | tapset | vectorLoad | vectorStore | send | elast =>
    exact congrArg Host.Outcome.next (State.onCore_dead _ _ _ h)
  case rdv | fence | rdvFence | orbitEnd | ubr | fbr =>
    exact congrArg Host.Outcome.next (State.outsideArm_dead h _)
  case sel | laneid | vrotl | vlbc | cvtf | cvtw | cvtmx | cvtwmx | vtail | vtailu | frint | fscale | fexp |
      fmant | mov | vecMovi | ftoi | itof | fceq | fclt | fcle | fcun | fclass | iceq | iclt | icltu | kand |
      kor | kxor | knot =>
    exact congrArg Host.Outcome.next (State.vecOp_dead h ..)
  case iadd | isub | imul | iand | ior | ixor | ishl | ishr | isar | imin | imax | umin | umax =>
    exact congrArg Host.Outcome.next (State.vecInt_dead h ..)
  case fadd | fsub | fmul | fma | fnma | fmin | fmax | fabs | fneg | fcpys =>
    exact congrArg Host.Outcome.next (State.vecFloat_dead h ..)
  case rfsum | rfmax | rfmin | risum | rusum | rimax | rimin | rand | ror | rargmax | rkcnt =>
    exact congrArg Host.Outcome.next (State.vecReduce_dead h ..)
  case enter | shift | swap =>
    exact congrArg Host.Outcome.next (State.arrayRow_dead h _)
  case dramToCore | coreToDram | baseToCore | coreToBase | dramToBase | baseToDram | comet =>
    exact congrArg Host.Outcome.next (State.issueRow_dead h ..)
  case semopAdd | semopSub =>
    exact congrArg Host.Outcome.next (State.semop_dead h ..)
  case jmp =>
    simp [exec, execJmp, hctl, hpresent]
  case loop =>
    simp [exec, execLoop, hctl, hpresent]
  case armend =>
    simp [exec, execArmend, hctl, hpresent]
  case armCut =>
    simp [exec, execArmCut, h]
  case brk =>
    simp [exec, execBrk, h, hpresent]
  case idleBundle =>
    simp [exec, execIdleBundle, h, hpresent, quiet]
  case rdsem =>
    simp [exec, execRdsem, h, State.scalarFrom_dead h]
  case rdbrk =>
    simp [exec, execRdbrk, h, State.scalarFrom_dead h]
  case reduce =>
    simp [exec, execReduce, h, State.onCore_dead _ _ _ h]
  case readTap =>
    simp [exec, execReadTap, h, hpresent, State.onCore_dead _ _ _ h, quiet]
  case writeTap =>
    simp [exec, execWriteTap, h, State.onCore_dead _ _ _ h, quiet]
  case recv =>
    simp [exec, execRecv, h, State.onCore_dead _ _ _ h, quiet]

/-- Settles O6. -/
theorem fieldsNeedLiveCore : Obligations.FieldsNeedLiveCore :=
  fun _ _ s hi h => ⟨s, exec_dead hi h, rfl⟩

end Sys2Proof.Machine
end

section
/-! Lists that are folded into a table, and sorted lists: the last write to a place stands, whatever else is written. -/
namespace Sys2Proof
open Machine

/-! ### The last write stands -/

section
variable {σ α β : Type} {get : σ → β} {put : σ → α → σ}

/-- What no write of a list touches stays. -/
theorem foldl_get_same {l : List α} (h : ∀ a ∈ l, ∀ t, get (put t a) = get t) (s : σ) : get (l.foldl put s) = get s := by
  induction l generalizing s with
  | nil => rfl
  | cons a l ih =>
    rw [List.foldl_cons, ih (fun b hb => h b (List.mem_cons_of_mem a hb)), h a List.mem_cons_self]

variable {hit : α → Bool} {val : α → β}

/-- What a list holds at a place it has. -/
theorem getD_of_lt {α : Type} {l : List α} {i : Nat} (d : α) (h : i < l.length) : l.getD i d = l[i] := by
  rw [List.getD_eq_getElem?_getD, List.getElem?_eq_getElem h, Option.getD_some]

/-- Induction on a list from its end. -/
theorem list_snoc_induction {α : Type} {motive : List α → Prop} (nil : motive [])
    (append_singleton : ∀ l a, motive l → motive (l ++ [a])) (l : List α) : motive l := by
  rw [← l.reverse_reverse]
  induction l.reverse with
  | nil => exact nil
  | cons a l ih =>
    rw [List.reverse_cons]
    exact append_singleton _ a ih

/-- After a list of writes a place holds what the last one to it wrote, or what it held. -/
theorem foldl_get_getLast? (hhit : ∀ t a, hit a = true → get (put t a) = val a)
    (hmiss : ∀ t a, hit a = false → get (put t a) = get t) (l : List α) (s : σ) :
    get (l.foldl put s) = ((l.filter hit).getLast?.map val).getD (get s) := by
  induction l using list_snoc_induction with
  | nil => rfl
  | append_singleton l a ih =>
    rw [List.foldl_append, List.foldl_cons, List.foldl_nil, List.filter_append]
    cases ha : hit a with
    | true => simp [ha, hhit]
    | false => simp [ha, hmiss, ih]

/-- A write that every other write to its place comes strictly before stands. -/
theorem foldl_get_of_last (hhit : ∀ t a, hit a = true → get (put t a) = val a)
    (hmiss : ∀ t a, hit a = false → get (put t a) = get t) {le : α → α → Prop} {l : List α} (hl : l.Pairwise le)
    {r : α} (hr : r ∈ l) (hrhit : hit r = true) (hlast : ∀ q ∈ l, hit q = true → q = r ∨ ¬ le r q) (s : σ) :
    get (l.foldl put s) = val r := by
  have hmem : r ∈ l.filter hit := List.mem_filter.mpr ⟨hr, hrhit⟩
  rw [foldl_get_getLast? hhit hmiss]
  cases hq : (l.filter hit).getLast? with
  | none => simp [List.getLast?_eq_none_iff.mp hq] at hmem
  | some q =>
    obtain ⟨init, hinit⟩ := List.getLast?_eq_some_iff.mp hq
    have hqmem : q ∈ l.filter hit := hinit ▸ List.mem_append_right init (List.mem_singleton_self q)
    obtain ⟨hql, hqhit⟩ := List.mem_filter.mp hqmem
    rcases hlast q hql hqhit with rfl | hlt
    · rfl
    · have hsorted := hinit ▸ hl.filter hit
      rcases List.mem_append.mp (hinit ▸ hmem) with hin | hin
      · exact absurd ((List.pairwise_append.mp hsorted).2.2 r hin q (List.mem_singleton_self q)) hlt
      · rw [List.mem_singleton.mp hin]
        rfl

/-- Of writes to one place that are all alike, the value stands. -/
theorem foldl_get_of_unique (hhit : ∀ t a, hit a = true → get (put t a) = val a)
    (hmiss : ∀ t a, hit a = false → get (put t a) = get t) {l : List α} {r : α} (hr : r ∈ l) (hrhit : hit r = true)
    (huniq : ∀ q ∈ l, hit q = true → q = r) (s : σ) : get (l.foldl put s) = val r :=
  foldl_get_of_last hhit hmiss (List.pairwise_of_forall (R := fun _ _ => True) (fun _ _ => trivial)) hr hrhit
    (fun q hq hqhit => .inl (huniq q hq hqhit)) s

/-- An update that changes nothing more when it is made again, met once or more and alone at its place. -/
theorem foldl_get_of_idem {upd : α → β → β} {r : α} (hidem : ∀ v, upd r (upd r v) = upd r v)
    (hhit : ∀ t a, hit a = true → get (put t a) = upd a (get t))
    (hmiss : ∀ t a, hit a = false → get (put t a) = get t) {l : List α} (hr : r ∈ l) (hrhit : hit r = true)
    (huniq : ∀ q ∈ l, hit q = true → q = r) (s : σ) : get (l.foldl put s) = upd r (get s) := by
  induction l using list_snoc_induction with
  | nil => cases hr
  | append_singleton l a ih =>
    rw [List.foldl_append, List.foldl_cons, List.foldl_nil]
    have huniq' : ∀ q ∈ l, hit q = true → q = r := fun q hq => huniq q (List.mem_append_left _ hq)
    cases ha : hit a with
    | false =>
      have hne : r ≠ a := fun h => by simp [← h, hrhit] at ha
      rw [hmiss _ _ ha, ih (by simpa [hne] using hr) huniq']
    | true =>
      obtain rfl := huniq a (by simp) ha
      rw [hhit _ _ ha]
      by_cases hin : a ∈ l
      · rw [ih hin huniq', hidem]
      · rw [foldl_get_same (fun q hq t => hmiss t q ?_)]
        refine Classical.byContradiction fun hc => ?_
        exact hin (huniq' q hq (by simpa using hc) ▸ hq)

end

/-! ### A stable sort -/

section
variable {α : Type} {le : α → α → Bool}

@[simp] theorem mem_insertBy {a b : α} {l : List α} : b ∈ insertBy le a l ↔ b = a ∨ b ∈ l := by
  induction l with
  | nil => simp [insertBy]
  | cons c l ih =>
    unfold insertBy
    split
    · simp
    · simp only [List.mem_cons, ih]
      exact or_left_comm

@[simp] theorem mem_sortBy {b : α} {l : List α} : b ∈ sortBy le l ↔ b ∈ l := by
  induction l with
  | nil => simp [sortBy]
  | cons a l ih => simp [sortBy, ih]

/-- A sort by a total preorder sorts. -/
theorem pairwise_sortBy (htotal : ∀ a b, le a b = true ∨ le b a = true)
    (htrans : ∀ a b c, le a b = true → le b c = true → le a c = true) (l : List α) :
    (sortBy le l).Pairwise (fun a b => le a b = true) := by
  have hinsert : ∀ (a : α) (l : List α), l.Pairwise (fun a b => le a b = true) →
      (insertBy le a l).Pairwise (fun a b => le a b = true) := by
    intro a l hl
    induction l with
    | nil => simp [insertBy]
    | cons b l ih =>
      obtain ⟨hb, hl'⟩ := List.pairwise_cons.mp hl
      unfold insertBy
      split
      · rename_i hab
        refine List.pairwise_cons.mpr ⟨fun c hc => ?_, hl⟩
        rcases List.mem_cons.mp hc with rfl | hc
        · exact hab
        · exact htrans a b c hab (hb c hc)
      · rename_i hab
        refine List.pairwise_cons.mpr ⟨fun c hc => ?_, ih hl'⟩
        rcases mem_insertBy.mp hc with rfl | hc
        · exact (htotal c b).resolve_left hab
        · exact hb c hc
  induction l with
  | nil => exact List.Pairwise.nil
  | cons a l ih => exact hinsert a _ ih

end

/-! ### Bytes of a number -/

@[simp] theorem length_bytesOf (n v : Nat) : (bytesOf n v).length = n := by
  induction n generalizing v with
  | zero => rfl
  | succ n ih => simp [bytesOf, ih]

/-- The bytes of a number read back as its low bytes (00 R11). -/
theorem natOf_bytesOf (n v : Nat) : natOf (bytesOf n v) = v % 2 ^ (8 * n) := by
  induction n generalizing v with
  | zero => simp [bytesOf, natOf, Nat.mod_one]
  | succ n ih =>
    have hsplit : 2 ^ (8 * (n + 1)) = 2 ^ 8 * 2 ^ (8 * n) := by rw [← Nat.pow_add]; congr 1; omega
    rw [bytesOf, natOf, ih, hsplit, Nat.mod_mul, BitVec.toNat_ofNat, Nat.shiftRight_eq_div_pow, Nat.shiftLeft_eq,
      Nat.mul_comm]

@[simp] theorem length_lineBytes (l : Line) : (lineBytes l).length = 64 := length_bytesOf 64 _

@[simp] theorem lineOf_lineBytes (l : Line) : lineOf (lineBytes l) = l := by
  have htake : (lineBytes l).take 64 = lineBytes l := List.take_of_length_le (by simp)
  rw [lineOf, htake, lineBytes, natOf_bytesOf, Nat.mod_eq_of_lt (show l.toNat < _ from l.isLt),
    BitVec.ofNat_toNat, BitVec.setWidth_eq]

namespace Machine

/-! ### Lines of memory -/

@[simp] theorem Memory.bytes_write_self (m : Memory) (a : Nat) (l : List Byte) :
    Memory.bytes (Memory.write m a l) a l.length = l := by
  refine List.ext_getElem (by simp [Memory.bytes]) (fun i _ hi => ?_)
  simp [Memory.bytes, Memory.byte_write_self m a l i hi]

@[simp] theorem Memory.line_writeLine_self (m : Memory) (a : Nat) (l : Line) :
    Memory.line (Memory.writeLine m a l) a = l := by
  have h := Memory.bytes_write_self m a (lineBytes l)
  rw [length_lineBytes] at h
  rw [Memory.line, Memory.writeLine, h, lineOf_lineBytes]

theorem Memory.byte_writeLine_other (m : Memory) (a : Nat) (l : Line) (b : Nat) (h : b < a ∨ a + 64 ≤ b) :
    Memory.byte (Memory.writeLine m a l) b = Memory.byte m b :=
  Memory.byte_write_other m a _ b (by rwa [length_lineBytes])

theorem Memory.line_writeLine_other (m : Memory) (a : Nat) (l : Line) (b : Nat) (h : b + 64 ≤ a ∨ a + 64 ≤ b) :
    Memory.line (Memory.writeLine m a l) b = Memory.line m b := by
  unfold Memory.line Memory.bytes
  congr 1
  refine List.map_congr_left (fun i hi => Memory.byte_writeLine_other m a l _ ?_)
  have := List.mem_range.mp hi
  omega

end Machine
end Sys2Proof
end

section
/-! What lands on a core at the start of a step (03 R64, R77, R79; 04 R103, R111; 06 R154, R155; 07 R174): the landings as the
last writes to their places, then the obligations O11 and O12. -/
namespace Sys2Proof.Machine
open Sys2Proof

/-! ### Landing orders -/

theorem ScalarRes.le_iff (a b : ScalarRes) : a.le b = true ↔ a.due < b.due ∨ (a.due = b.due ∧ (a.issued < b.issued ∨
    (a.issued = b.issued ∧ (a.red = true ∨ b.red = false)))) := by
  simp [ScalarRes.le]

theorem ScalarRes.pairwise_sortBy (l : List ScalarRes) :
    (sortBy ScalarRes.le l).Pairwise (fun a b => a.le b = true) := by
  refine Sys2Proof.pairwise_sortBy (fun a b => ?_) (fun a b c => ?_) l
  · simp only [ScalarRes.le_iff]
    cases a.red <;> cases b.red <;> simp <;> omega
  · simp only [ScalarRes.le_iff]
    cases a.red <;> cases b.red <;> cases c.red <;> simp <;> omega

/-! ### Scalar results -/

section
variable (c : Core) (r : ScalarRes) (i : Nat)

@[simp] theorem Core.putScalar_vregs : (c.putScalar r).vregs = c.vregs := by unfold Core.putScalar; split <;> rfl
@[simp] theorem Core.putScalar_masks : (c.putScalar r).masks = c.masks := by unfold Core.putScalar; split <;> rfl

theorem Core.putScalar_sr (h : r.dest = .sr i) : (c.putScalar r).sr.get 0 i = r.val := by simp [Core.putScalar, h]
theorem Core.putScalar_par (h : r.dest = .par i) : (c.putScalar r).par.get 0 i = r.val := by simp [Core.putScalar, h]
theorem Core.putScalar_lc (h : r.dest = .lc i) : (c.putScalar r).lc.get 0 i = r.val.setWidth 16 := by
  simp [Core.putScalar, h]

theorem Core.putScalar_sr_other (h : r.dest ≠ .sr i) : (c.putScalar r).sr.get 0 i = c.sr.get 0 i := by
  unfold Core.putScalar
  split
  next n hn => exact Tab.get_set_other _ _ _ (fun e => h (e ▸ hn))
  · rfl
  · rfl
theorem Core.putScalar_par_other (h : r.dest ≠ .par i) : (c.putScalar r).par.get 0 i = c.par.get 0 i := by
  unfold Core.putScalar
  split
  · rfl
  next n hn => exact Tab.get_set_other _ _ _ (fun e => h (e ▸ hn))
  · rfl
theorem Core.putScalar_lc_other (h : r.dest ≠ .lc i) : (c.putScalar r).lc.get 0 i = c.lc.get 0 i := by
  unfold Core.putScalar
  split
  · rfl
  · rfl
  next n hn => exact Tab.get_set_other _ _ _ (fun e => h (e ▸ hn))

end

/-! ### Vector and mask results -/

section
variable (c : Core) (r : VecRes) (i : Nat)

@[simp] theorem Core.putVector_sr : (c.putVector r).sr = c.sr := by unfold Core.putVector; split <;> rfl
@[simp] theorem Core.putVector_par : (c.putVector r).par = c.par := by unfold Core.putVector; split <;> rfl
@[simp] theorem Core.putVector_lc : (c.putVector r).lc = c.lc := by unfold Core.putVector; split <;> rfl

/-- The bits of a register that a vector result writes are its own, the others stay (06 R154). -/
def VecRes.over (r : VecRes) (old : VReg) : VReg := (old &&& ~~~r.en) ||| (r.data &&& r.en)

theorem VecRes.over_over (old : VReg) : r.over (r.over old) = r.over old := by
  ext j hj
  simp only [VecRes.over, BitVec.getElem_or, BitVec.getElem_and, BitVec.getElem_not]
  cases r.en[j] <;> simp

theorem Core.putVector_vregs (hi : i < 64) (h : r.reg = i) :
    (c.putVector r).vregs.get 0 i = r.over (c.vregs.get 0 i) := by
  subst h
  simp [Core.putVector, hi, VecRes.over]

theorem Core.putVector_vregs_other (h : r.reg ≠ i) : (c.putVector r).vregs.get 0 i = c.vregs.get 0 i := by
  unfold Core.putVector
  split
  · exact Tab.get_set_other _ _ _ (Ne.symm h)
  · rfl

theorem Core.putVector_masks_other (h : r.reg ≠ 64 + i) : (c.putVector r).masks.get 0 i = c.masks.get 0 i := by
  unfold Core.putVector
  split
  · rfl
  · exact Tab.get_set_other _ _ _ (by omega)

end

/-! ### The results of a step -/

section
variable (k : Core) (n : Nat)

/-- The results due at step `n`, in landing order. -/
def Core.scalarsDue : List ScalarRes := sortBy ScalarRes.le (k.pipe.filter (fun r => decide (r.due ≤ n)))
def Core.vectorsDue : List VecRes := sortBy VecRes.le (k.vpipe.filter (fun r => decide (r.due ≤ n)))

@[simp] theorem Core.mem_scalarsDue {r : ScalarRes} : r ∈ k.scalarsDue n ↔ r ∈ k.pipe ∧ r.due ≤ n := by
  simp [Core.scalarsDue]
@[simp] theorem Core.mem_vectorsDue {r : VecRes} : r ∈ k.vectorsDue n ↔ r ∈ k.vpipe ∧ r.due ≤ n := by
  simp [Core.vectorsDue]

/-- Scalar registers, parameters and loop counters after the results of the step: vector results leave them. -/
theorem Core.landResults_scalar {β : Type} (get : Core → β) (hv : ∀ c r, get (c.putVector r) = get c)
    (hp : ∀ c p v, get { c with pipe := p, vpipe := v } = get c) :
    get (k.landResults n) = get ((k.scalarsDue n).foldl Core.putScalar k) := by
  unfold Core.landResults
  dsimp only
  rw [hp, foldl_get_same (fun r _ c => hv c r)]
  rfl

/-- Vector and mask registers after the results of the step: scalar results leave them. -/
theorem Core.landResults_vector {β : Type} (get : Core → β) (hp : ∀ c p v, get { c with pipe := p, vpipe := v } = get c) :
    get (k.landResults n) = get ((k.vectorsDue n).foldl Core.putVector ((k.scalarsDue n).foldl Core.putScalar k)) := by
  unfold Core.landResults
  exact hp ..

/-- Of the results due for one place, one that all others come strictly before stands (03 R77). -/
theorem Core.landResults_last {β : Type} (get : Core → β) (d : SDest) (val : ScalarRes → β)
    (hv : ∀ c r, get (c.putVector r) = get c) (hp : ∀ c p v, get { c with pipe := p, vpipe := v } = get c)
    (hhit : ∀ (c : Core) r, r.dest = d → get (c.putScalar r) = val r)
    (hmiss : ∀ (c : Core) r, r.dest ≠ d → get (c.putScalar r) = get c)
    {r : ScalarRes} (hr : r ∈ k.pipe) (hdue : r.due ≤ n) (hd : r.dest = d)
    (hlast : ∀ q ∈ k.pipe, q.due ≤ n → q.dest = r.dest → q = r ∨ q.due < r.due ∨ (q.due = r.due ∧ q.issued < r.issued) ∨
      (q.due = r.due ∧ q.issued = r.issued ∧ q.red = true ∧ r.red = false)) :
    get (k.landResults n) = val r := by
  rw [Core.landResults_scalar k n get hv hp]
  refine foldl_get_of_last (hit := fun q => decide (q.dest = d)) (fun c q h => hhit c q (by simpa using h))
    (fun c q h => hmiss c q (by simpa using h)) (ScalarRes.pairwise_sortBy _) ((k.mem_scalarsDue n).mpr ⟨hr, hdue⟩)
    (by simpa using hd) (fun q hq hqd => ?_) k
  obtain ⟨hqp, hqdue⟩ := (k.mem_scalarsDue n).mp hq
  refine (hlast q hqp hqdue (by simpa [hd] using hqd)).imp_right (fun h => ?_)
  rw [ScalarRes.le_iff]
  rcases h with h | h | ⟨h1, h2, h3, h4⟩
  · omega
  · omega
  · simp [h1, h2, h3, h4]

/-- A place that no result due at the step names stands. -/
theorem Core.landResults_stands {β : Type} (get : Core → β) (d : SDest)
    (hv : ∀ c r, get (c.putVector r) = get c) (hp : ∀ c p v, get { c with pipe := p, vpipe := v } = get c)
    (hmiss : ∀ (c : Core) r, r.dest ≠ d → get (c.putScalar r) = get c) (h : ∀ r ∈ k.pipe, r.due ≤ n → r.dest ≠ d) :
    get (k.landResults n) = get k := by
  rw [Core.landResults_scalar k n get hv hp]
  refine foldl_get_same (fun r hr c => hmiss c r ?_) k
  obtain ⟨hrp, hdue⟩ := (k.mem_scalarsDue n).mp hr
  exact h r hrp hdue

/-- The one result due for a vector register writes its bits and keeps the rest (06 R154). -/
theorem Core.landResults_vregs {r : VecRes} (hr : r ∈ k.vpipe) (hdue : r.due ≤ n) (hreg : r.reg < 64)
    (huniq : ∀ q ∈ k.vpipe, q.due ≤ n → q.reg = r.reg → q = r) :
    (k.landResults n).vregs.get 0 r.reg = r.over (k.vregs.get 0 r.reg) := by
  rw [Core.landResults_vector k n (fun c => c.vregs.get 0 r.reg) (fun _ _ _ => rfl)]
  have hscalar : ((k.scalarsDue n).foldl Core.putScalar k).vregs = k.vregs :=
    foldl_get_same (get := Core.vregs) (fun r _ c => Core.putScalar_vregs c r) k
  rw [foldl_get_of_idem (get := fun c : Core => c.vregs.get 0 r.reg) (hit := fun q => decide (q.reg = r.reg))
    (r.over_over) (fun c q h => c.putVector_vregs q r.reg hreg (by simpa using h))
    (fun c q h => c.putVector_vregs_other q r.reg (by simpa using h)) ((k.mem_vectorsDue n).mpr ⟨hr, hdue⟩) (by simp), hscalar]
  intro q hq hqr
  obtain ⟨hqp, hqdue⟩ := (k.mem_vectorsDue n).mp hq
  exact huniq q hqp hqdue (by simpa using hqr)

theorem Core.landResults_vregs_stands (i : Nat) (h : ∀ r ∈ k.vpipe, r.due ≤ n → r.reg ≠ i) :
    (k.landResults n).vregs.get 0 i = k.vregs.get 0 i := by
  rw [Core.landResults_vector k n (fun c => c.vregs.get 0 i) (fun _ _ _ => rfl),
    foldl_get_same (get := fun c : Core => c.vregs.get 0 i) (fun r hr c => c.putVector_vregs_other r i ?_),
    foldl_get_same (get := fun c : Core => c.vregs.get 0 i) (fun r _ c => by simp)]
  obtain ⟨hrp, hdue⟩ := (k.mem_vectorsDue n).mp hr
  exact h r hrp hdue

theorem Core.landResults_masks_stands (i : Nat) (h : ∀ r ∈ k.vpipe, r.due ≤ n → r.reg ≠ 64 + i) :
    (k.landResults n).masks.get 0 i = k.masks.get 0 i := by
  rw [Core.landResults_vector k n (fun c => c.masks.get 0 i) (fun _ _ _ => rfl),
    foldl_get_same (get := fun c : Core => c.masks.get 0 i) (fun r hr c => c.putVector_masks_other r i ?_),
    foldl_get_same (get := fun c : Core => c.masks.get 0 i) (fun r _ c => by simp)]
  obtain ⟨hrp, hdue⟩ := (k.mem_vectorsDue n).mp hr
  exact h r hrp hdue

end

/-! ### What a read of the register file reports -/

section
variable (s : State) (c : CoreRef)

/-- The core but for its report. -/
def Core.unreported (k : Core) : Core := { k with rep := {} }

@[simp] theorem Core.unreported_withRep (k : Core) (r : Reports) : ({ k with rep := r } : Core).unreported = k.unreported := rfl

theorem State.ceThreshold_unreported : ((s.ceThreshold c.ctx c.core).core c).unreported = (s.core c).unreported := by
  unfold State.ceThreshold
  dsimp only
  split
  · rw [State.core_raise, State.core_modCoreOf, Core.unreported_withRep]
  · rfl

theorem State.memCe_unreported (n : Nat) : ((s.memCe c.ctx c.core n).core c).unreported = (s.core c).unreported := by
  unfold State.memCe
  split
  · rfl
  · rw [State.ceThreshold_unreported, State.core_modCoreOf, Core.unreported_withRep]

theorem State.memUeFirst_unreported (src step line word : Nat) :
    ((s.memUeFirst c.ctx c.core src step line word).core c).unreported = (s.core c).unreported := by
  rw [State.memUeFirst, State.core_modCoreOf]
  split
  · rfl
  · rw [Core.unreported_withRep]

/-- Reports of a read of core memory or the register file touch the core's report alone (07 R178, R179). -/
theorem State.eccRead_unreported (port src step : Nat) (e : Ecc) :
    ((s.eccRead c.ctx c.core port src step e).core c).unreported = (s.core c).unreported := by
  unfold State.eccRead
  rw [foldl_get_same (get := fun u : State => (u.core c).unreported) (fun v _ u => ?_), State.memCe_unreported]
  rw [State.core_memUe, Core.unreported_withRep, State.memUeFirst_unreported]

/-- What does not rest on the report of a core is the same after such a read. -/
theorem State.core_eccRead {β : Type} (get : Core → β) (hget : ∀ k, get k.unreported = get k) (port src step : Nat)
    (e : Ecc) : get ((s.eccRead c.ctx c.core port src step e).core c) = get (s.core c) := by
  rw [← hget, State.eccRead_unreported, hget]

end

/-- PIPELINE_RESULT: what it leaves of a core on which results land, but for the core's report. -/
theorem pipelineResult_core {s : State} {c : CoreRef} (e : Ecc) (h : s.lands c = true) :
    Completes (.pipelineResult c e) s (fun t => ∀ {β : Type} (get : Core → β), (∀ k, get k.unreported = get k) →
      get (t.core c) = get ((s.core c).landResults (s.stepOf c))) := by
  refine ⟨_, rfl, fun {β} get hget => ?_⟩
  change get ((if s.lands c then (s.landOn c Core.landResults).eccRead c.ctx c.core 2 1 (s.stepOf c) e
    else s.landOn c Core.landResults).core c) = _
  rw [if_pos h, State.core_eccRead _ _ get hget, State.landOn, if_pos h, State.core_modCoreOf]

/-- Settles O11: each register is a reader of the core that vector results, or scalar ones, leave alone. -/
theorem resultsLand : Obligations.ResultsLand := by
  unfold Obligations.ResultsLand
  intro s c e h n k
  refine (pipelineResult_core e h).mono (fun t ht => ?_)
  refine ⟨ht Core.pipe (fun _ => rfl), ht Core.vpipe (fun _ => rfl), fun r hr hdue hlast => ?_, fun i hi => ?_,
    fun i hi => ?_, fun i hi => ?_, fun r hr hdue hreg huniq => ?_, fun i _ hi => ?_, fun i hi => ?_⟩
  · cases hd : r.dest with
    | sr i =>
      exact (ht (fun k => k.sr.get 0 i) (fun _ => rfl)).trans <| k.landResults_last n (fun k => k.sr.get 0 i) _ ScalarRes.val
        (by simp) (by simp) (fun c r => c.putScalar_sr r i) (fun c r => c.putScalar_sr_other r i) hr hdue hd hlast
    | par i =>
      exact (ht (fun k => k.par.get 0 i) (fun _ => rfl)).trans <| k.landResults_last n (fun k => k.par.get 0 i) _ ScalarRes.val
        (by simp) (by simp) (fun c r => c.putScalar_par r i) (fun c r => c.putScalar_par_other r i) hr hdue hd hlast
    | lc i =>
      exact (ht (fun k => k.lc.get 0 i) (fun _ => rfl)).trans <| k.landResults_last n (fun k => k.lc.get 0 i) _
        (fun r => r.val.setWidth 16) (by simp) (by simp) (fun c r => c.putScalar_lc r i) (fun c r => c.putScalar_lc_other r i) hr hdue hd hlast
  · rw [ht (fun k => k.sr.get 0 i) (fun _ => rfl)]
    exact k.landResults_stands n (fun k => k.sr.get 0 i) _ (by simp) (by simp) (fun c r => c.putScalar_sr_other r i) hi
  · rw [ht (fun k => k.par.get 0 i) (fun _ => rfl)]
    exact k.landResults_stands n (fun k => k.par.get 0 i) _ (by simp) (by simp) (fun c r => c.putScalar_par_other r i) hi
  · rw [ht (fun k => k.lc.get 0 i) (fun _ => rfl)]
    exact k.landResults_stands n (fun k => k.lc.get 0 i) _ (by simp) (by simp) (fun c r => c.putScalar_lc_other r i) hi
  · rw [ht (fun k => k.vregs.get 0 r.reg) (fun _ => rfl)]
    exact k.landResults_vregs n hr hdue hreg huniq
  · rw [ht (fun k => k.vregs.get 0 i) (fun _ => rfl)]
    exact k.landResults_vregs_stands n i hi
  · rw [ht (fun k => k.masks.get 0 i) (fun _ => rfl)]
    exact k.landResults_masks_stands n i hi

/-! ### Operand buffer, drain window, wire and core memory -/

section
variable (k : Core) (n : Nat)

theorem Core.landOpbuf_due {r : Nat × Nat × Line} (hr : r ∈ k.opland) (hdue : r.1 ≤ n)
    (huniq : ∀ q ∈ k.opland, q.1 ≤ n → q.2.1 = r.2.1 → q = r) : (k.landOpbuf n).opbuf.get 0 r.2.1 = r.2.2 := by
  refine foldl_get_of_unique (get := fun t : Tab Line => t.get 0 r.2.1) (val := fun q => q.2.2)
    (hit := fun q => decide (q.2.1 = r.2.1)) (fun t q h => ?_) (fun t q h => ?_) (r := r) ?_ (by simp) ?_ _
  · simp [of_decide_eq_true h]
  · exact Tab.get_set_other _ _ _ (Ne.symm (of_decide_eq_false h))
  · simpa using ⟨hr, hdue⟩
  · intro q hq hqr
    obtain ⟨hqp, hqdue⟩ := List.mem_filter.mp hq
    exact huniq q hqp (by simpa using hqdue) (by simpa using hqr)

theorem Core.landOpbuf_stands (i : Nat) (h : ∀ r ∈ k.opland, r.1 ≤ n → r.2.1 ≠ i) :
    (k.landOpbuf n).opbuf.get 0 i = k.opbuf.get 0 i := by
  refine foldl_get_same (get := fun t : Tab Line => t.get 0 i) (fun r hr t => ?_) _
  obtain ⟨hrp, hdue⟩ := List.mem_filter.mp hr
  exact Tab.get_set_other _ _ _ (Ne.symm (h r hrp (by simpa using hdue)))

/-- The drain lines that the outputs of the step write, in landing order. -/
def Core.drainDue : List (Nat × Line) :=
  (sortBy DrainRes.le (k.drainIn.filter (fun r => decide (r.due ≤ n)))).flatMap DrainRes.lines

theorem Core.mem_drainDue {p : Nat × Line} : p ∈ k.drainDue n ↔ ∃ r ∈ k.drainIn, r.due ≤ n ∧ p ∈ r.lines := by
  simp [Core.drainDue, and_assoc]

theorem Core.landDrain_drain : (k.landDrain n).drain = (k.drainDue n).foldl (fun t l => t.set 0 l.1 l.2) k.drain := by
  rw [Core.drainDue, List.foldl_flatMap]
  exact (List.foldl_hom Core.drain (fun _ _ => rfl)).symm

theorem Core.landDrain_due {r : DrainRes} (hr : r ∈ k.drainIn) (hdue : r.due ≤ n)
    (huniq : ∀ q ∈ k.drainIn, q.due ≤ n → q = r) {p : Nat × Line} (hp : p ∈ r.lines)
    (hline : ∀ q ∈ r.lines, q.1 = p.1 → q = p) : (k.landDrain n).drain.get 0 p.1 = p.2 := by
  rw [Core.landDrain_drain]
  refine foldl_get_of_unique (get := fun t : Tab Line => t.get 0 p.1) (val := fun q => q.2)
    (hit := fun q => decide (q.1 = p.1)) (fun t q h => ?_) (fun t q h => ?_) (r := p) ?_ (by simp) ?_ _
  · simp [of_decide_eq_true h]
  · exact Tab.get_set_other _ _ _ (Ne.symm (of_decide_eq_false h))
  · exact (k.mem_drainDue n).mpr ⟨r, hr, hdue, hp⟩
  · intro q hq hqp
    obtain ⟨v, hv, hvdue, hqv⟩ := (k.mem_drainDue n).mp hq
    exact hline q (huniq v hv hvdue ▸ hqv) (by simpa using hqp)

theorem Core.landDrain_stands (i : Nat) (h : ∀ r ∈ k.drainIn, r.due ≤ n → ∀ p ∈ r.lines, p.1 ≠ i) :
    (k.landDrain n).drain.get 0 i = k.drain.get 0 i := by
  rw [Core.landDrain_drain]
  refine foldl_get_same (get := fun t : Tab Line => t.get 0 i) (fun p hp t => ?_) _
  obtain ⟨r, hr, hdue, hpr⟩ := (k.mem_drainDue n).mp hp
  exact Tab.get_set_other _ _ _ (Ne.symm (h r hr hdue p hpr))

end

section
variable (x : Ctx) (n : Nat)

theorem Ctx.landWires_due {r : WireRes} (hr : r ∈ x.wires) (hdue : r.due ≤ n)
    (huniq : ∀ q ∈ x.wires, q.due ≤ n → q.slot = r.slot → q = r) : (x.landWires n).wire.get 0 r.slot = r.val := by
  refine foldl_get_of_unique (get := fun t : Tab W64 => t.get 0 r.slot) (val := WireRes.val)
    (hit := fun q => decide (q.slot = r.slot)) (fun t q h => ?_) (fun t q h => ?_) (r := r) ?_ (by simp) ?_ _
  · simp [of_decide_eq_true h]
  · exact Tab.get_set_other _ _ _ (Ne.symm (of_decide_eq_false h))
  · simpa using ⟨hr, hdue⟩
  · intro q hq hqr
    obtain ⟨hqp, hqdue⟩ := List.mem_filter.mp (mem_sortBy.mp hq)
    exact huniq q hqp (by simpa using hqdue) (by simpa using hqr)

theorem Ctx.landWires_stands (i : Nat) (h : ∀ r ∈ x.wires, r.due ≤ n → r.slot ≠ i) :
    (x.landWires n).wire.get 0 i = x.wire.get 0 i := by
  refine foldl_get_same (get := fun t : Tab W64 => t.get 0 i) (fun r hr t => ?_) _
  obtain ⟨hrp, hdue⟩ := List.mem_filter.mp (mem_sortBy.mp hr)
  exact Tab.get_set_other _ _ _ (Ne.symm (h r hrp (by simpa using hdue)))

end

section
variable (s : State) (l n : Nat)

/-- A line of core memory after the writes of the step is what a read of the step finds (07 R174). -/
theorem State.landMem_line (i : Nat) :
    Memory.line (s.landMem l n).mem (coreAddr l i) = s.lineAt l (s.coreAt l) n i := by
  have hwrite (m : Memory) (w : MemWrite) : Memory.line (Memory.writeLine m (coreAddr l w.line) w.data) (coreAddr l i) =
      if w.line = i then w.data else Memory.line m (coreAddr l i) := by
    split
    next h => rw [h, Memory.line_writeLine_self]
    next h => exact Memory.line_writeLine_other _ _ _ _ (by unfold coreAddr; omega)
  have hfold := foldl_get_getLast? (get := fun m => Memory.line m (coreAddr l i)) (val := MemWrite.data)
    (put := fun m (w : MemWrite) => Memory.writeLine m (coreAddr l w.line) w.data) (hit := fun w => decide (w.line = i))
    (fun m w h => by simp [of_decide_eq_true h]) (fun m w h => by simp [hwrite, of_decide_eq_false h])
    ((s.coreAt l).memWrites.filter (fun w => w.visible n)) s.mem
  rw [List.filter_filter] at hfold
  refine hfold.trans ?_
  unfold State.lineAt
  cases ((s.coreAt l).memWrites.filter (fun w => decide (w.line = i) && w.visible n)).getLast? <;> rfl

theorem State.landMem_byte (a : Nat) (h : ∀ w ∈ (s.coreAt l).memWrites, w.issued + 2 ≤ n →
    a < coreAddr l w.line ∨ coreAddr l w.line + 64 ≤ a) : Memory.byte (s.landMem l n).mem a = Memory.byte s.mem a := by
  refine foldl_get_same (get := fun m => Memory.byte m a) (fun w hw m => ?_) _
  obtain ⟨hwm, hv⟩ := List.mem_filter.mp hw
  exact Memory.byte_writeLine_other m _ _ a (h w hwm (by simpa [MemWrite.visible] using hv))

theorem State.landMem_waiting : ((s.landMem l n).coreAt l).memWrites =
    (s.coreAt l).memWrites.filter (fun w => decide (n < w.issued + 2)) := by
  have hcore : (s.landMem l n).coreAt l =
      { s.coreAt l with memWrites := (s.coreAt l).memWrites.filter (fun w => !w.visible n) } := Tab.get_set_self _ _ _ _
  rw [hcore]
  simp only [MemWrite.visible, ← decide_not, Nat.not_le]

theorem State.landMem_other {m : Nat} (h : m ≠ l) : (s.landMem l n).coreAt m = s.coreAt m := Tab.get_set_other _ _ _ h

end

/-- A row that lands what is due on a core where results land. -/
theorem completes_landOn {s : State} {c : CoreRef} {i : Instr} {f : Core → Nat → Core} (h : s.lands c = true)
    (hi : exec i s = .next (s.landOn c f)) : Completes i s (fun t => t.core c = f (s.core c) (s.stepOf c)) :=
  ⟨_, hi, by simp [State.landOn, h]⟩

theorem wireLanding_ctx {s : State} {c : CoreRef} (h : s.lands c = true) :
    Completes (.wireLanding c.ctx) s (fun t => t.ctx c.ctx = (s.ctx c.ctx).landWires (s.stepOf c)) := by
  have hmoves : ((s.ctx c.ctx).active && !(s.ctx c.ctx).frozen) = true := (Bool.and_eq_true_iff.mp h).1
  exact ⟨_, congrArg Host.Outcome.next (if_pos hmoves), State.ctx_modCtx_self ..⟩

theorem exec_coreMemWriteVisible {s : State} {c : CoreRef} (h : s.lands c = true) : exec (.coreMemWriteVisible c) s =
    .next (s.landMem ((s.ctx c.ctx).logical c.core) (s.stepOf c)) :=
  (congrArg (done s) (if_pos h)).trans (done_eq rfl)

/-- Settles O12. -/
theorem buffersLand : Obligations.BuffersLand := by
  refine ⟨fun s c h => ⟨?opbuf, ?drain, ?wire⟩, fun s c h => ⟨_, exec_coreMemWriteVisible h, State.landMem_line s _ _,
    State.landMem_byte s _ _, State.landMem_waiting s _ _, fun m => State.landMem_other s _ _, fun _ => rfl⟩⟩
  case opbuf =>
    refine (completes_landOn h rfl).mono (fun t ht => ?_)
    rw [ht]
    exact ⟨rfl, fun r => (s.core c).landOpbuf_due _, (s.core c).landOpbuf_stands _⟩
  case drain =>
    refine (completes_landOn h rfl).mono (fun t ht => ?_)
    rw [ht]
    exact ⟨rfl, fun r hr hdue huniq p hp => (s.core c).landDrain_due _ hr hdue huniq hp, (s.core c).landDrain_stands _⟩
  case wire =>
    refine (wireLanding_ctx h).mono (fun t ht => ?_)
    rw [ht]
    exact ⟨rfl, fun r => (s.ctx c.ctx).landWires_due _, (s.ctx c.ctx).landWires_stands _⟩

end Sys2Proof.Machine
end

section
/-! What a vector operation puts in flight (06 R151-R164): one rule for the issue, one for lanes, masks and reductions, then the
obligations O18, O19, O20, O22, O23 and O24. -/
namespace Sys2Proof.Machine
open Sys2Proof

/-! ### The issue of a vector operation -/

section
variable {s : State} {c : CoreRef} {f : VectorField}

/-- An operation that takes its format puts its writes in flight (06 R155). -/
theorem putsVectors_vecOp (hl : s.live c = true) (hf : f.vfmt.toNat ≤ 9) {ok : Bool} (hok : ok = true) (lat : Nat)
    (uses : List (Nat × Nat)) (res : VecArgs → List VecWrite) :
    PutsVectors s c lat (res ((s.view c).vecArgs f)) (s.vecOp c f ok lat uses res) := by
  have hrun : ¬ ((!ok || decide (9 < f.vfmt.toNat)) = true) := by simp [hok, hf]
  rw [State.vecOp, if_neg hrun, PutsVectors, State.onCore_core _ _ _ hl]
  rfl

/-- A result made of lanes is a result whose lanes hold their values under the mask (06 R154). -/
theorem PutsVectors.lanes {t : State} {lat : Nat} {v : List Nat}
    (h : PutsVectors s c lat [lanesOut f ((s.view c).vecArgs f).m v] t) {val : Nat → Nat}
    (hv : ∀ l, l < 256 → v.getD l 0 % 2 ^ 32 = val l % 2 ^ 32) : PutsLanes s c f lat val t := by
  refine ⟨_, h, rfl, rfl, rfl, rfl, fun l hl => ?_⟩
  obtain ⟨hen, hdata⟩ := lanesOut_lane f ((s.view c).vecArgs f).m v l hl
  unfold LaneIs
  dsimp only
  rw [hen, hdata, hv l hl]
  cases bit ((s.view c).vecArgs f).m.toNat l <;> cases f.mz <;> simp

/-- A command that puts lanes in flight, lane by lane. -/
theorem completes_lanes {i : Instr} (hl : s.live c = true) (hf : f.vfmt.toNat ≤ 9) {ok : Bool} (hok : ok = true) {lat : Nat}
    {uses : List (Nat × Nat)} {v : VecArgs → List Nat} {val : Nat → Nat}
    (hi : exec i s = .next (s.vecOp c f ok lat uses (fun g => [lanesOut f g.m (v g)])))
    (hv : ∀ l, l < 256 → (v ((s.view c).vecArgs f)).getD l 0 % 2 ^ 32 = val l % 2 ^ 32) :
    Completes i s (PutsLanes s c f lat val) :=
  ⟨_, hi, (putsVectors_vecOp hl hf hok lat uses _).lanes hv⟩

/-- A command whose lanes are a function of the lane's number. -/
theorem completes_lanes_map {i : Instr} (hl : s.live c = true) (hf : f.vfmt.toNat ≤ 9) {ok : Bool} (hok : ok = true)
    {lat : Nat} {uses : List (Nat × Nat)} {v : VecArgs → Nat → Nat} {val : Nat → Nat}
    (hi : exec i s = .next (s.vecOp c f ok lat uses (fun g => [lanesOut f g.m ((List.range 256).map (v g))])))
    (hv : ∀ l, v ((s.view c).vecArgs f) l = val l) : Completes i s (PutsLanes s c f lat val) :=
  completes_lanes hl hf hok hi (fun l h => by rw [getD_range_map _ l h, hv l])

/-! ### Floating-point lanes -/

/-- The operation `op` of a format on the FP32 value of lane `l`, or on its two BF16 values (06 R156). -/
def floatLane (f : VectorField) (g : VecArgs) (op : Fmt → Nat → Nat → Nat → Nat) (l : Nat) : Nat :=
  if f.vfmt = 1 then op bf16 (laneOf g.a l % 2 ^ 16) (laneOf g.b l % 2 ^ 16) (laneOf g.c l % 2 ^ 16) +
    op bf16 (laneOf g.a l / 2 ^ 16) (laneOf g.b l / 2 ^ 16) (laneOf g.c l / 2 ^ 16) * 2 ^ 16
  else op fp32 (laneOf g.a l) (laneOf g.b l) (laneOf g.c l)

theorem fld_lane_high (v : VReg) (l : Nat) : fld (laneOf v l) 16 16 = laneOf v l / 2 ^ 16 := by
  have := laneOf_lt v l
  simp only [fld, Nat.shiftRight_eq_div_pow]
  omega

/-- A command that works on FP32 lanes, or on the two BF16 elements of each lane (06 R156). -/
theorem completes_vecFloat {i : Instr} (hl : s.live c = true) (hf : f.vfmt.toNat ≤ 1) {lat : Nat}
    {uses : List (Nat × Nat)} {op : Fmt → Nat → Nat → Nat → Nat} (hi : exec i s = .next (s.vecFloat c f lat uses op)) :
    Completes i s (PutsLanes s c f lat (floatLane f ((s.view c).vecArgs f) op)) := by
  unfold State.vecFloat at hi
  by_cases h1 : f.vfmt = 1
  · rw [if_pos h1] at hi
    refine completes_lanes_map hl (by omega) rfl hi (fun l => ?_)
    simp only [floatLane, h1, if_true, fld_lane_high]
    rfl
  · rw [if_neg h1] at hi
    have h0 : f.vfmt = 0 := by bv_omega
    refine completes_lanes_map hl (by omega) (decide_eq_true h0) hi (fun l => ?_)
    rw [floatLane, if_neg h1]

end

/-- Settles O18. -/
theorem floatLanes : Obligations.FloatLanes := by
  refine ⟨fun s c f hl hf => ?_, fun s c f hl hf => ?_⟩
  · intro g lanes
    have float (i : Instr) {lat : Nat} {uses : List (Nat × Nat)} {op : Fmt → Nat → Nat → Nat → Nat}
        (hi : exec i s = .next (s.vecFloat c f lat uses op)) : Completes i s (lanes lat op) := completes_vecFloat hl hf hi
    refine ⟨(float (.fadd c f) rfl :), (float (.fsub c f) rfl :), (float (.fmul c f) rfl :), (float (.fma c f) rfl :),
      (float (.fnma c f) rfl :), ?fmin, ?fmax, ?fabs, (float (.fneg c f) rfl :), (float (.fcpys c f) rfl :)⟩
    case fmin =>
      have hmin := float (.fmin c f) rfl
      simpa only [fMin, Bool.or_eq_true] using hmin
    case fmax =>
      have hmax := float (.fmax c f) rfl
      simpa only [fMax, Bool.or_eq_true] using hmax
    case fabs =>
      have habs := float (.fabs c f) rfl
      simpa only [fSign, Fmt.withSign, Bool.false_eq_true, if_false, Nat.add_zero] using habs
  · have h9 : f.vfmt.toNat ≤ 9 := by rw [hf]; decide
    have hok : decide (f.vfmt = 0) = true := decide_eq_true hf
    exact ⟨completes_lanes_map hl h9 hok rfl (fun _ => rfl), completes_lanes_map hl h9 hok rfl (fun _ => rfl),
      completes_lanes_map hl h9 hok rfl (fun _ => rfl), completes_lanes_map hl h9 hok rfl (fun _ => rfl)⟩

/-! ### Integer lanes and moves -/

/-- A number of 32 bits as two's complement (06 R151). -/
theorem sInt_eq_toInt (a : Nat) : sInt 32 a = (BitVec.ofNat 32 a).toInt := by
  simp only [sInt, BitVec.toInt_eq_toNat_cond, BitVec.toNat_ofNat]
  split <;> split <;> omega

theorem i32_eq_ofInt (z : Int) : i32 z = (BitVec.ofInt 32 z).toNat := by
  simp [i32, BitVec.toNat_ofInt]

theorem mod_eq_toNat {x : Nat} {w : W32} (h : x = w.toNat) : x % 2 ^ 32 = w.toNat := by rw [h, BitVec.toNat_mod_cancel]

/-- Settles O19. -/
theorem integerLanes : Obligations.IntegerLanes := by
  intro s c f hl hf g a b lanes
  have ha (l : Nat) : (a l).toNat = laneOf g.a l := by
    rw [BitVec.toNat_ofNat, Nat.mod_eq_of_lt (laneOf_lt g.a l)]
  have hb (l : Nat) : (b l).toNat = laneOf g.b l := by
    rw [BitVec.toNat_ofNat, Nat.mod_eq_of_lt (laneOf_lt g.b l)]
  have hsa (l : Nat) : (a l).toInt = sInt 32 (laneOf g.a l) := (sInt_eq_toInt _).symm
  have hsb (l : Nat) : (b l).toInt = sInt 32 (laneOf g.b l) := (sInt_eq_toInt _).symm
  have int (i : Instr) {lat : Nat} {uses : List (Nat × Nat)} {op : Nat → Nat → Nat}
      (hi : exec i s = .next (s.vecLanes c f true lat uses (fun a b _ => op a b))) (v : Nat → W32)
      (hv : ∀ l, op (laneOf g.a l) (laneOf g.b l) % 2 ^ 32 = (v l).toNat) : Completes i s (lanes lat v) :=
    completes_lanes hl hf rfl hi (fun l h => by rw [getD_range_map _ l h, BitVec.toNat_mod_cancel]; exact hv l)
  refine ⟨(int (.iadd c f) rfl :) _ fun l => ?_, (int (.isub c f) rfl :) _ fun l => ?_,
    (int (.imul c f) rfl :) _ fun l => ?_, (int (.iand c f) rfl :) _ fun l => ?_, (int (.ior c f) rfl :) _ fun l => ?_,
    (int (.ixor c f) rfl :) _ fun l => ?_, (int (.ishl c f) rfl :) _ fun l => ?_, (int (.ishr c f) rfl :) _ fun l => ?_,
    (int (.isar c f) rfl :) _ fun l => ?_, (int (.imin c f) rfl :) _ fun l => ?_, (int (.imax c f) rfl :) _ fun l => ?_,
    (int (.umin c f) rfl :) _ fun l => ?_, (int (.umax c f) rfl :) _ fun l => ?_⟩
  · rw [BitVec.toNat_add, ha, hb]
  · rw [BitVec.toNat_sub, ha, hb, Nat.add_comm]
  · rw [BitVec.toNat_mul, ha, hb]
  · exact mod_eq_toNat (by rw [BitVec.toNat_and, ha, hb])
  · exact mod_eq_toNat (by rw [BitVec.toNat_or, ha, hb])
  · exact mod_eq_toNat (by rw [BitVec.toNat_xor, ha, hb])
  · rw [BitVec.toNat_shiftLeft, ha, hb]
  · exact mod_eq_toNat (by rw [BitVec.toNat_ushiftRight, ha, hb])
  · exact mod_eq_toNat (by rw [i32_eq_ofInt, ← hsa, ← hb, BitVec.sshiftRight, Int.shiftRight_eq_div_pow])
  · exact mod_eq_toNat (by rw [← hsa, ← hsb, apply_ite BitVec.toNat, ha, hb])
  · exact mod_eq_toNat (by rw [← hsa, ← hsb, apply_ite BitVec.toNat, ha, hb])
  · refine mod_eq_toNat ?_
    rw [apply_ite BitVec.toNat, ha, hb]
    change min _ _ = _
    split <;> omega
  · refine mod_eq_toNat ?_
    rw [apply_ite BitVec.toNat, ha, hb]
    change max _ _ = _
    split <;> omega

/-- Settles O20. -/
theorem laneMoves : Obligations.LaneMoves := by
  intro s c f hl hf v g by_
  have hby : g.amount f = by_ := rfl
  refine ⟨completes_lanes_map hl hf rfl rfl (fun _ => rfl), completes_lanes_map hl hf rfl rfl (fun _ => rfl),
    completes_lanes hl hf rfl rfl (fun l h => by simp [List.getD, h]), completes_lanes_map hl hf rfl rfl (fun l => ?_),
    completes_lanes hl hf rfl rfl (fun l h => ?_), completes_lanes_map hl hf rfl rfl (fun _ => rfl)⟩
  · rw [← hby]
  · rw [List.getD_eq_getElem?_getD, List.getElem?_replicate, if_pos h, ← hby]
    rfl

/-! ### Masks -/

theorem bit_ofNat {w n l : Nat} (hl : l < w) : bit (BitVec.ofNat w n).toNat l = bit n l := by
  simp [bit, BitVec.toNat_ofNat, Nat.testBit_mod_two_pow, hl]

/-- Bit `l` of bits laid side by side. -/
theorem bit_joinBits_map {l : Nat} (hl : l < 256) (p : Nat → Bool) :
    bit (joinBits 1 ((List.range 256).map (fun l => b2n (p l)))) l = p l := by
  rw [bit, testBit_joinBits 1 (by decide), Nat.div_one, Nat.mod_one, getD_range_map _ l hl, b2n]
  cases p l <;> rfl

section
variable {s : State} {c : CoreRef} {f : VectorField}

/-- The bits of a mask result under the mask of its operation (06 R149, R154). -/
theorem PutsVectors.mask {t : State} {v : Nat} (h : PutsVectors s c 2 (maskOut f ((s.view c).vecArgs f).m v) t)
    {val : Nat → Bool} (hv : ∀ l, l < 256 → bit v l = val l) : PutsMask s c f val t := by
  unfold PutsVectors maskOut at h
  unfold PutsMask
  dsimp only at h ⊢
  by_cases h0 : bvf f.vd 0 3 = 0
  · rw [if_pos h0] at h ⊢
    simpa using h
  · rw [if_neg h0] at h ⊢
    refine ⟨_, h, rfl, rfl, rfl, rfl, fun l hl => ?_⟩
    have hwide : l < 8192 := by omega
    have hones : bit (2 ^ 256 - 1) l = true := by rw [bit, Nat.testBit_two_pow_sub_one, decide_eq_true hl]
    have hdata : bit (v &&& ((s.view c).vecArgs f).m.toNat) l = (val l && bit ((s.view c).vecArgs f).m.toNat l) := by
      rw [← hv l hl]
      exact Nat.testBit_and ..
    rw [bit_ofNat hwide, bit_ofNat hwide, hdata, apply_ite (bit · l), hones]
    cases bit ((s.view c).vecArgs f).m.toNat l <;> cases f.mz <;> simp

/-- A command that puts a mask in flight, bit by bit. -/
theorem completes_mask {i : Instr} (hl : s.live c = true) (hf : f.vfmt.toNat ≤ 9) {ok : Bool} (hok : ok = true)
    {uses : List (Nat × Nat)} {v : VecArgs → Nat} {val : Nat → Bool}
    (hi : exec i s = .next (s.vecOp c f ok 2 uses (fun g => maskOut f g.m (v g))))
    (hv : ∀ l, l < 256 → bit (v ((s.view c).vecArgs f)) l = val l) : Completes i s (PutsMask s c f val) :=
  ⟨_, hi, (putsVectors_vecOp hl hf hok 2 uses _).mask hv⟩

theorem completes_compare {i : Instr} (hl : s.live c = true) (hf : f.vfmt.toNat ≤ 9) {ok : Bool} (hok : ok = true)
    {uses : List (Nat × Nat)} {op : Nat → Nat → Bool} {val : Nat → Bool}
    (hi : exec i s = .next (s.vecCompare c f ok uses op))
    (hv : ∀ l, op (laneOf ((s.view c).vecArgs f).a l) (laneOf ((s.view c).vecArgs f).b l) = val l) :
    Completes i s (PutsMask s c f val) :=
  completes_mask hl hf hok hi (fun l h => (bit_joinBits_map h _).trans (hv l))

theorem completes_vecMask {i : Instr} (hl : s.live c = true) (hf : f.vfmt.toNat ≤ 9) {op : Mask → Mask → Mask}
    {val : Nat → Bool} (hi : exec i s = .next (s.vecMask c f op))
    (hv : ∀ l, l < 256 → bit (op ((s.view c).maskReg (f.va.toNat % 8)) ((s.view c).maskReg (f.vb.toNat % 8))).toNat l =
      val l) : Completes i s (PutsMask s c f val) :=
  completes_mask hl hf rfl hi hv

end

theorem and_decide_eq (p q : Bool) (r : Prop) [Decidable r] :
    (!p && !q && decide r) = decide ((p = false ∧ q = false) ∧ r) := by cases p <;> cases q <;> simp

theorem or_eq_decide_not (p q : Bool) : (p || q) = decide (¬ (p = false ∧ q = false)) := by cases p <;> cases q <;> rfl

/-- Settles O22. -/
theorem maskResults : Obligations.MaskResults := by
  intro s c f hl hf v g a b ka kb num
  refine ⟨fun h0 => ?_, completes_compare hl hf rfl rfl (fun _ => rfl), completes_compare hl hf rfl rfl (fun l => ?_),
    completes_compare hl hf rfl rfl (fun _ => rfl), completes_vecMask hl hf rfl (fun l _ => ?_),
    completes_vecMask hl hf rfl (fun l _ => ?_), completes_vecMask hl hf rfl (fun l _ => ?_),
    completes_vecMask hl hf rfl (fun l h => ?_)⟩
  · have hok : decide (f.vfmt = 0) = true := decide_eq_true h0
    refine ⟨completes_compare hl hf hok rfl (fun l => ?_), completes_compare hl hf hok rfl (fun l => ?_),
      completes_compare hl hf hok rfl (fun l => ?_), completes_compare hl hf hok rfl (fun l => ?_),
      completes_compare hl hf hok rfl (fun _ => rfl)⟩
    · exact and_decide_eq ..
    · exact and_decide_eq ..
    · exact and_decide_eq ..
    · exact or_eq_decide_not ..
  · rw [sInt_eq_toInt, sInt_eq_toInt]
  · rw [BitVec.toNat_and]
    exact Nat.testBit_and ..
  · rw [BitVec.toNat_or]
    exact Nat.testBit_or ..
  · rw [BitVec.toNat_xor]
    exact Nat.testBit_xor ..
  · exact BitVec.getLsbD_not.trans (by rw [decide_eq_true h, Bool.true_and]; rfl)

/-! ### Conversions and draws -/

/-- Settles O23. -/
theorem conversions : Obligations.Conversions := by
  intro s c f hl v g o k part
  refine ⟨fun h1 h9 => ⟨⟨_, rfl, ?cvtf⟩, ?cvtw⟩, fun h3 h8 => ⟨⟨_, rfl, ?cvtmx⟩, ?cvtwmx⟩, fun h9 => ⟨?ftoi, ?itof, ?vtail, ?vtailu⟩⟩
  case cvtf => exact putsVectors_vecOp hl h9 (decide_eq_true h1) 4 _ _
  case cvtw => exact completes_lanes_map hl h9 (decide_eq_true h1) rfl (fun _ => rfl)
  case cvtmx => exact putsVectors_vecOp hl (by omega) (by simp [mxFmt, h3, h8, k]) 4 _ _
  case cvtwmx =>
    refine completes_lanes_map hl (by omega) (by simp [mxFmt, h3, h8, k]) rfl (fun e => ?_)
    have hplace : 8 * (8 * bvf f.vimm 0 3 + e / 32) = 64 * (f.vimm.toNat % 8) + 8 * (e / 32) := by
      simp only [bvf, fld, Nat.shiftRight_zero]
      omega
    rw [hplace] <;> rfl
  case ftoi => exact completes_lanes_map hl h9 rfl rfl (fun _ => rfl)
  case itof => exact completes_lanes_map hl h9 rfl rfl (fun _ => rfl)
  case vtail => exact completes_lanes_map hl h9 rfl rfl (fun _ => rfl)
  case vtailu => exact completes_lanes_map hl h9 rfl rfl (fun _ => rfl)

/-! ### Reductions -/

section
variable {s : State} {c : CoreRef} {f : VectorField}

/-- The lanes of VA with their mask bits, as a reduction takes them (06 R164). -/
def VecArgs.lanes (g : VecArgs) : List (Bool × Nat) := (List.range 256).map (fun l => (bit g.m.toNat l, laneOf g.a l))

/-- The unmasked lanes of VA, rising. -/
def VecArgs.on (g : VecArgs) : List Nat := (List.range 256).filter (fun l => bit g.m.toNat l)

theorem VecArgs.unmasked_lanes (g : VecArgs) : unmasked g.lanes = g.on.map (laneOf g.a) := by
  simp [unmasked, VecArgs.lanes, VecArgs.on, List.filter_map, Function.comp_def]

theorem VecArgs.lanesOr_lanes (g : VecArgs) (idn : Nat) : lanesOr idn g.lanes =
    (List.range 256).map (fun l => if bit g.m.toNat l then laneOf g.a l else idn) := by
  simp [lanesOr, VecArgs.lanes, Function.comp_def]

/-- A reduction that takes its format puts its value in flight for sr[VS] (06 R164). -/
theorem completes_vecReduce {i : Instr} (hl : s.live c = true) (hf : f.vfmt.toNat ≤ 9) {ok : Bool} (hok : ok = true)
    {uses : List (Nat × Nat)} {val : VecArgs → List (Bool × Nat) → W64} (hi : exec i s = .next (s.vecReduce c f ok uses val)) :
    Completes i s (PutsReduction s c f (val ((s.view c).vecArgs f) ((s.view c).vecArgs f).lanes)) := by
  have hrun : ¬ ((!ok || decide (9 < f.vfmt.toNat)) = true) := by simp [hok, hf]
  refine ⟨_, hi, ?_⟩
  rw [State.vecReduce, if_neg hrun, PutsReduction, State.onCore_core _ _ _ hl]
  rfl

end

/-- Settles O24. -/
theorem reductions : Obligations.Reductions := by
  intro s c f hl hf v g on u i
  have hu : unmasked g.lanes = u := g.unmasked_lanes
  have hi : (unmasked g.lanes).map (sInt 32) = i := by
    rw [hu, List.map_map]
    exact List.map_congr_left (fun l _ => sInt_eq_toInt _)
  have reduce (r : Instr) {ok : Bool} (hok : ok = true) {uses : List (Nat × Nat)}
      {val : VecArgs → List (Bool × Nat) → W64} (hr : exec r s = .next (s.vecReduce c f ok uses val)) {w : W64}
      (hw : val g g.lanes = w) : Completes r s (PutsReduction s c f w) := hw ▸ completes_vecReduce hl hf hok hr
  refine ⟨fun h0 => ?_, reduce _ rfl rfl ?_, reduce _ rfl rfl ?_, reduce _ rfl rfl ?_, reduce _ rfl rfl ?_,
    reduce _ rfl rfl ?_, reduce _ rfl rfl ?_, reduce _ rfl rfl ?_⟩
  · have hok : decide (f.vfmt = 0) = true := decide_eq_true h0
    refine ⟨reduce _ hok rfl ?_, reduce _ hok rfl ?_, reduce _ hok rfl ?_, reduce _ hok rfl ?_⟩
    · rw [g.lanesOr_lanes] <;> rfl
    · rw [hu]
    · rw [hu]
    · rw [VecArgs.lanes]
  · rw [← hi, List.sum_eq_foldl, List.foldl_map]
    rfl
  · rw [hu]
  · rw [← hi, List.foldl_map]
    rfl
  · rw [← hi, List.foldl_map]
    rfl
  · rw [hu]
    rfl
  · rw [hu]
    rfl
  · simp only [on, bitsUp, List.filter_filter, BitVec.toNat_and, Nat.testBit_and]
    rfl

end Sys2Proof.Machine
end

section
/-! Commands that the gate refuses to every slot but the owner's (13 R361), then the obligation O27. -/
namespace Sys2Proof.Machine
open Sys2Proof

section
variable {s : State} {m : Nat} {q : Cmd} {k : CmdSpec}

/-- What stands before the checks of a command: the slot is free and served, and no timer of the mailbox is due
(13 R353). -/
structure Meets (s : State) (m : Nat) : Prop where
  runs : s.mcRuns = true
  slot : m < 8
  free : (s.slot m).busy = false
  served : s.servesSlot m = true
  lease : ∀ o, s.mbox.owner = some o → s.now < s.mbox.leaseEnd
  election : ∀ t, s.mbox.election = some t → s.now < t

/-- A command that the gate refuses is answered with the gate's status and does nothing (13 R353). -/
theorem Meets.refused (h : Meets s m) (body : State → State × Reply) {st : Nat} (hg : s.gate m q k = st) (hst : st ≠ stOK) :
    s.serve m q k body = (s.entered m q k.op).respond m q.seq { status := st } := by
  have hentered : (((s.post m (cmdBytes q k.op)).modSlot m (fun v => { v with posted := false })).mboxTimers).renew m =
      s.entered m q k.op := by
    rw [State.mboxTimers_idle (by exact h.lease) (by exact h.election)]
    rfl
  have hserved : (s.post m (cmdBytes q k.op)).servesSlot m = true := by rw [State.servesSlot_post]; exact h.served
  have hm : ¬ 8 ≤ m := Nat.not_le.mpr h.slot
  unfold State.serve
  simp [h.runs, h.free, hserved, hm, hentered, State.gate_entered, hg, hst]

/-- The gate refuses a command of the owner's to every other slot (13 R361). -/
theorem State.gate_notOwner (hk : k.who = .owner) (hrom : s.boot.rom = false) (hphase : s.boot.phase = 1)
    (hseq : 0 < q.seq) (hseq' : q.seq < 256) (hlen : q.payload.length ≤ 4080) (ho : s.mbox.owner ≠ some m) :
    s.gate m q k = stNotOwner := by
  have hown : s.isOwner m = false := by
    unfold State.isOwner State.owner
    split
    · exact decide_eq_false ho
    · rfl
  have hpos : q.seq ≠ 0 := Nat.ne_of_gt hseq
  simp [State.gate, State.servedFor, hrom, hphase, hk, hown, hpos, Nat.not_le.mpr hseq', Nat.not_lt.mpr hlen]

end

/-- Settles O27: every row of the owner's is one service behind the gate. -/
theorem ownerRowsRefused : Obligations.OwnerRowsRefused := by
  intro i op m q s hrow hruns hm hfree hserved hlease helection hrom hphase hseq hseq' hlen howner
  have hmeets : Meets s m := ⟨hruns, hm, hfree, hserved, hlease, helection⟩
  have refused {k : CmdSpec} {body : State → State × Reply} (hk : k.who = .owner) (hop : k.op = op) :
      s.serve m q k body = (s.entered m q op).respond m q.seq { status := stNotOwner } :=
    hop ▸ hmeets.refused body (State.gate_notOwner hk hrom hphase hseq hseq' hlen howner) (by decide)
  have whenQuiet {k : CmdSpec} {body : State → State × Reply} (hi : exec i s = quiet s (s.serve m q k body))
      (hk : k.who = .owner) (hop : k.op = op) : Completes i s (Answered s m q op (fun u => (u, { status := stNotOwner }))) := by
    rw [refused hk hop, quiet_eq (by simp) (by simp)] at hi
    exact ⟨_, hi, rfl⟩
  have whenDone {k : CmdSpec} {body : State → State × Reply} (hi : exec i s = done s (s.serve m q k body))
      (hk : k.who = .owner) (hop : k.op = op) : Completes i s (Answered s m q op (fun u => (u, { status := stNotOwner }))) := by
    rw [refused hk hop, done_eq (by simp)] at hi
    exact ⟨_, hi, rfl⟩
  cases i <;> cases hrow
  case renew | handover | releaseOwner | beginTxn | setStage | commitBoundary | commitTick | rollback |
      contextCreate | contextDestroy | evict | patchStage | jobOpen | jobClose | anchorInstall | anchorRemove |
      replayArmSet | replayArmAppend | debugHold | brkArm | brkDisarm | semSet | grantIssue | grantRevoke |
      connOpen | connClose | portRetrain | timeSet | fieldRepairAdd | fieldRepairRemove | haloPair | haloStandby
      | haloResume | fwStageBulk | fwStageChunk =>
    exact whenQuiet rfl rfl rfl
  case contextStart | contextStop | imageLoad | weightLoad | weightSwap | memWrite | debugRelease | imemOverride
      | resetCmd | haloUnpair | takeover | checkpointRestore =>
    exact whenDone rfl rfl rfl

end Sys2Proof.Machine
end

section
/-! Claims and elections (13 R356, R357): how a claim is served, the order of claims, and the close of an election, then the
obligation O31. -/
namespace Sys2Proof.Machine
open Sys2Proof

/-! ### A claim is served -/

section
variable {s : State} {m : Nat} {q : Cmd}

/-- While no lease has run out the owner is the one that stands (13 R358). -/
theorem State.owner_of_lease {u : State} (h : ∀ o, u.mbox.owner = some o → u.now < u.mbox.leaseEnd) :
    u.owner = u.mbox.owner := by
  unfold State.owner
  split
  · rfl
  next hlate =>
    cases ho : u.mbox.owner with
    | none => rfl
    | some o => exact absurd (h o ho) hlate

@[simp] theorem State.entered_mbox_owner (s : State) (m : Nat) (q : Cmd) (op : Nat) :
    (s.entered m q op).mbox.owner = s.mbox.owner := by
  unfold State.entered State.renew
  split <;> rfl

@[simp] theorem State.entered_election (s : State) (m : Nat) (q : Cmd) (op : Nat) :
    (s.entered m q op).mbox.election = s.mbox.election := by
  unfold State.entered State.renew
  split <;> rfl

/-- The start of a service leaves the owner, whose lease can only restart. -/
theorem State.entered_owner (h : ∀ o, s.mbox.owner = some o → s.now < s.mbox.leaseEnd) (op : Nat) :
    (s.entered m q op).owner = s.mbox.owner := by
  rw [State.owner_of_lease, State.entered_mbox_owner]
  intro o ho
  rw [State.entered_mbox_owner] at ho
  rw [State.entered_now]
  unfold State.entered State.renew
  split
  · exact Nat.lt_add_of_pos_right (by decide)
  · exact h o ho

/-- CLAIM in a free slot comes to the service of the claim. -/
theorem Serves.exec_claim (h : Serves s m q claimSpec) : exec (.claim m q) s =
    Machine.quiet s ((s.entered m q 0x10).claimServe m q) := by
  obtain ⟨⟨⟨-, -⟩, -⟩, hclaim⟩ : ((((s.slot m).posted = false ∧ (s.slot m).inService = false) ∧
      (s.slot m).parked.isSome = false) ∧ (s.slot m).claim.isSome = false) := by
    simpa only [Slot.busy, Bool.or_eq_false_iff] using h.free
  have hentered : (((s.post m (cmdBytes q 0x10)).modSlot m (fun v => { v with posted := false })).mboxTimers).renew m =
      s.entered m q 0x10 := by
    rw [State.mboxTimers_idle (by exact h.lease) (by exact h.election)]
    rfl
  have hserved : (s.post m (cmdBytes q 0x10)).servesSlot m = true := by rw [State.servesSlot_post]; exact h.served
  have hm : ¬ 8 ≤ m := Nat.not_le.mpr h.slot
  unfold exec execClaim
  simp only [h.runs, hm, hclaim, h.free, hserved, hentered, Bool.not_true, decide_false, Bool.or_false, Bool.false_eq_true,
    if_false]

theorem State.stand_pending : (s.stand m q).pending = s.pending := by
  unfold State.stand
  dsimp only
  split <;> rfl

theorem State.stand_mem : (s.stand m q).mem = s.mem := by
  unfold State.stand
  dsimp only
  split <;> rfl

/-- What a CLAIM with no owner leaves (13 R356). -/
theorem State.stand_claims : ((s.stand m q).slot m).claim = some { seq := q.seq, priority := argFld q 0 4, nonce := argFld q 32 32 } ∧
    ((s.stand m q).slot m).inService = true ∧ (s.stand m q).mbox.owner = s.mbox.owner ∧
    (s.stand m q).mbox.election = some (s.mbox.election.getD (s.now + 5000000)) := by
  unfold State.stand
  rw [State.slot_modSlot_self]
  refine ⟨rfl, rfl, ?_, ?_⟩
  · dsimp only
    split <;> rfl
  · cases h : s.mbox.election with
    | none =>
      simp only [Option.isSome_none, Bool.false_eq_true, if_false]
      rfl
    | some e =>
      simp only [Option.isSome_some, if_true]
      exact h

theorem Serves.claimServe (h : Serves s m q claimSpec) : (s.entered m q 0x10).claimServe m q =
    match s.mbox.owner with
    | some o => if o = m then (s.entered m q 0x10).respond m q.seq {}
        else (s.entered m q 0x10).respond m q.seq { status := stOwned, detail := o }
    | none => (s.entered m q 0x10).stand m q := by
  unfold State.claimServe
  dsimp only
  rw [State.gate_entered, h.gate, if_neg (by decide), State.entered_owner h.lease] <;> rfl

/-- A claim with no owner stands. -/
theorem Serves.claim_stands (h : Serves s m q claimSpec) (ho : s.mbox.owner = none) :
    exec (.claim m q) s = .next ((s.entered m q 0x10).stand m q) := by
  rw [h.exec_claim, h.claimServe, ho]
  exact quiet_eq (by simp [State.stand_pending]) (by simp [State.stand_mem])

/-- A claim with an owner is answered at once. -/
theorem Serves.claim_answered (h : Serves s m q claimSpec) {o : Nat} (ho : s.mbox.owner = some o) (r : Reply)
    (hr : r = if o = m then {} else { status := stOwned, detail := o }) :
    Completes (.claim m q) s (Answered s m q 0x10 (fun u => (u, r))) := by
  refine ⟨_, ?_, rfl⟩
  rw [h.exec_claim, h.claimServe, ho, hr]
  dsimp only
  split
  · exact quiet_eq (by simp) (by simp)
  · exact quiet_eq (by simp) (by simp)

end

/-! ### The order of claims -/

/-- A claim beats another: lower priority value, then lower nonce, then lower slot (13 R357). -/
theorem claimLe_iff (a b : Nat × Claim) : claimLe a b = true ↔ a.2.priority < b.2.priority ∨
    (a.2.priority = b.2.priority ∧ (a.2.nonce < b.2.nonce ∨ (a.2.nonce = b.2.nonce ∧ a.1 ≤ b.1))) := by
  simp [claimLe]

theorem pairwise_sort_claims (l : List (Nat × Claim)) :
    (sortBy claimLe l).Pairwise (fun a b => claimLe a b = true) :=
  pairwise_sortBy (fun a b => by simp only [claimLe_iff]; omega) (fun a b c => by simp only [claimLe_iff]; omega) l

theorem State.mem_claims {s : State} {n : Nat} {c : Claim} : (n, c) ∈ s.claims ↔ n < 8 ∧ (s.slot n).claim = some c := by
  simp only [State.claims, List.mem_filterMap, List.mem_range, Option.map_eq_some_iff, Prod.mk.injEq]
  constructor
  · rintro ⟨n', hn', c', hc', rfl, rfl⟩
    exact ⟨hn', hc'⟩
  · rintro ⟨hn, hc⟩
    exact ⟨n, hn, c, hc, rfl, rfl⟩

/-- The claim that beats all others stands first. -/
theorem State.claims_head {s : State} {w : Nat} {k : Claim} (hw : w < 8) (hk : (s.slot w).claim = some k)
    (hbest : ∀ n, n < 8 → ∀ c, (s.slot n).claim = some c → n = w ∨ k.priority < c.priority ∨
      (k.priority = c.priority ∧ (k.nonce < c.nonce ∨ (k.nonce = c.nonce ∧ w < n)))) :
    ∃ r, sortBy claimLe s.claims = (w, k) :: r := by
  have hmem : (w, k) ∈ sortBy claimLe s.claims := mem_sortBy.mpr (State.mem_claims.mpr ⟨hw, hk⟩)
  have hsorted := pairwise_sort_claims s.claims
  cases hl : sortBy claimLe s.claims with
  | nil => rw [hl] at hmem; cases hmem
  | cons h r =>
    rw [hl] at hmem hsorted
    refine ⟨r, congrArg (· :: r) ?_⟩
    rcases List.mem_cons.mp hmem with heq | hin
    · exact heq.symm
    · obtain ⟨n, c⟩ := h
      have hle := (claimLe_iff _ _).mp (List.rel_of_pairwise_cons hsorted hin)
      have hhead : (n, c) ∈ s.claims := mem_sortBy.mp (hl ▸ List.mem_cons_self)
      obtain ⟨hn, hc⟩ := State.mem_claims.mp hhead
      rcases hbest n hn c hc with rfl | hlt
      · rw [hk] at hc
        cases hc
        rfl
      · dsimp only at hle
        omega

/-! ### The close of an election -/

section
variable (s : State) (m n : Nat) (r : Reply)

@[simp] theorem State.respond_election : (s.respond m n r).mbox.election = s.mbox.election := by
  unfold State.respond State.message
  split <;> rfl

@[simp] theorem State.respondClaim_owner : (s.respondClaim m n r).mbox.owner = s.mbox.owner := State.respond_owner ..
@[simp] theorem State.respondClaim_leaseEnd : (s.respondClaim m n r).mbox.leaseEnd = s.mbox.leaseEnd :=
  State.respond_leaseEnd ..
@[simp] theorem State.respondClaim_election : (s.respondClaim m n r).mbox.election = s.mbox.election :=
  State.respond_election ..

/-- The election gives ownership to the first of its claims, with a lease from the tick now (13 R357). -/
theorem State.electionCheck_gives {s : State} {e : Nat} (he : s.mbox.election = some e) (hdue : e ≤ s.now)
    {w : Nat × Claim} {l : List (Nat × Claim)} (hl : sortBy claimLe s.claims = w :: l) :
    s.electionCheck.mbox.owner = some w.1 ∧ s.electionCheck.mbox.election = none ∧
      s.electionCheck.mbox.leaseEnd = s.now + 2000000000 := by
  have hclaims : sortBy claimLe ({ s with mbox := { s.mbox with election := none } } : State).claims = w :: l := hl
  have hcheck : s.electionCheck = l.foldl (fun u c => u.respondClaim c.1 c.2.seq { status := stOwned, detail := w.1 })
      ((({ s with mbox := { s.mbox with election := none } } : State).giveOwner (some w.1)).respondClaim w.1 w.2.seq {}) := by
    unfold State.electionCheck
    simp only [he, Nat.not_lt.mpr hdue, if_false, hclaims]
  rw [hcheck]
  refine ⟨?_, ?_, ?_⟩
  · rw [foldl_get_same (get := fun u : State => u.mbox.owner) (fun _ _ _ => by simp)]
    simp [State.giveOwner]
    rfl
  · rw [foldl_get_same (get := fun u : State => u.mbox.election) (fun _ _ _ => by simp)]
    simp [State.giveOwner]
    rfl
  · rw [foldl_get_same (get := fun u : State => u.mbox.leaseEnd) (fun _ _ _ => by simp)]
    simp [State.giveOwner]
    rfl

end

/-- Settles O31. -/
theorem electionsDecide : Obligations.ElectionsDecide := by
  refine ⟨fun s m q h => ⟨fun ho => ⟨_, h.claim_stands ho, ?_⟩, fun o ho hne => ?_, fun ho => ?_⟩,
    fun s t e he => ⟨fun hdue w k hw hk hbest => ?_, fun hearly => ?_⟩⟩
  · obtain ⟨hclaim, hservice, howner, helection⟩ := (s.entered m q 0x10).stand_claims (m := m) (q := q)
    refine ⟨hclaim, hservice, by rw [howner, State.entered_mbox_owner, ho], ?_⟩
    rw [helection, State.entered_election, State.entered_now]
  · exact h.claim_answered ho _ (by rw [if_neg hne])
  · exact h.claim_answered ho _ (by rw [if_pos rfl])
  · obtain ⟨r, hr⟩ := State.claims_head (s := s.atTick t) hw hk hbest
    exact ⟨_, rfl, State.electionCheck_gives (s := s.atTick t) he hdue hr⟩
  · refine ⟨_, ?_, rfl⟩
    have hidle : (s.atTick t).electionCheck = s.atTick t :=
      State.electionCheck_idle (fun e' he' => Option.some.inj (he.symm.trans he') ▸ hearly)
    exact (congrArg (quiet s) hidle).trans (quiet_eq rfl rfl)

end Sys2Proof.Machine
end

section
/-! The step on its queue (O1, O3), the memory of the state after reset (O5), and the fields of a bundle that put scalar
results, requests and freezes in their core and context (O8, O9, O10, O13, O16, O17, O25). -/
namespace Sys2Proof.Machine
open Sys2Proof

/-! ### The step and its queue -/

/-- Settles O1. -/
theorem stepRunsFront : Obligations.StepRunsFront := by
  intro s c r h
  rw [step, h]

/-- With no message and no event to send, nothing leaves. -/
theorem State.sendMessages_idle {s : State} (hm : s.mbox.messages = []) (hf : s.mbox.forward = []) : s.sendMessages = s := by
  have hbox : { s.mbox with messages := [], forward := [] } = s.mbox := by rw [← hm, ← hf]
  simp [State.sendMessages, hf, hm, hbox]

/-- With no command posted, no slot is visited. -/
theorem State.serveNext_idle {s : State} (h : ∀ m, m < 8 → (s.slot m).posted = false) : s.serveNext = s := by
  have hvisit : s.nextVisit = none := by
    unfold State.nextVisit
    rw [List.findSome?_eq_none_iff]
    intro i _
    dsimp only
    split
    next m _ =>
      by_cases hm : m < 8
      · simp [h m hm]
      · simp [State.servesSlot, hm]
    next => rfl
  rw [State.serveNext, hvisit]

/-- Settles O3. -/
theorem idleStepTicks : Obligations.IdleStepTicks := by
  intro s hp ticked
  have hstep : step s = done s s.idle := by rw [step, hp]; rfl
  have hidle : s.idle.pending = s.pending → step s = .next s.idle := fun h => hstep.trans (done_eq h)
  refine ⟨fun hruns hm hf hslots => ?_, fun hruns hman hhalt hres => ?_, fun hoff => ?_⟩
  · obtain ⟨⟨⟨hman, hhalt⟩, -⟩, hres⟩ : ((s.power.management = true ∧ s.power.halted = false) ∧ s.power.sealing = false) ∧
        s.power.modReset = false := by
      simpa only [State.mcRuns, Bool.and_eq_true, Bool.not_eq_true'] using hruns
    have hsent : ticked.sendMessages.serveNext = ticked := by
      rw [State.sendMessages_idle (s := ticked) hm hf, State.serveNext_idle (s := ticked) hslots]
    have htick : s.idle = ticked := by
      have hrunsT : ticked.mcRuns = true := hruns
      simp only [State.idle, hman, hhalt, hres, Bool.not_false, Bool.and_self, if_true]
      exact (if_pos hrunsT).trans hsent
    rw [hidle (by rw [htick]), htick]
  · have htick : s.idle = ticked := by
      have hrunsT : ¬ ticked.mcRuns = true := by rw [show ticked.mcRuns = false from hruns]; decide
      simp only [State.idle, hman, hhalt, hres, Bool.not_false, Bool.and_self, if_true]
      exact if_neg hrunsT
    rw [hidle (by rw [htick]), htick]
  · have hstill : s.idle = s := by
      rcases hoff with h | h | h <;> simp [State.idle, State.mcRuns, h]
    rw [hidle (by rw [hstill]), hstill]

/-- Settles O5. -/
theorem resetMemoryCanonical : Obligations.ResetMemoryCanonical := ⟨rfl, fun _ => rfl⟩

/-! ### Scalar results -/

section
variable {s : State} {c : CoreRef}

/-- A field that issues one scalar result from the core as the step began (03 R64, R88). -/
theorem completes_issue {i : Instr} {lat : Nat} {d : SDest} {val : Core → W64} (hl : s.live c = true)
    (hi : exec i s = .next (s.onCore c (fun k => k.issue (s.stepOf c) lat d (val (k.at' (s.stepOf c)))))) :
    Completes i s (PutsScalar s c lat d (val (s.view c))) :=
  (completes_onCore hl hi).mono (fun t ht => by
    rw [PutsScalar, ht]
    rfl)

/-- A scalar operation on sa and operand B (03 R76). -/
theorem completes_scalarOp {i : Instr} {f : ScalarField} {lat : Nat} {op : W64 → W64 → W64} (hl : s.live c = true)
    (hi : exec i s = .next (s.scalarOp c f lat op)) : Completes i s (PutsScalar s c lat (.sr f.sd.toNat)
      (op ((s.view c).sra f.sa.toNat) ((s.view c).operandB f))) :=
  completes_issue (val := fun v => op (v.sra f.sa.toNat) (v.operandB f)) hl hi

/-- A scalar read of the core as the step began (03 R76). -/
theorem completes_scalarFrom {i : Instr} {f : ScalarField} {lat : Nat} {val : Core → W64} (hl : s.live c = true)
    (hi : exec i s = .next (s.scalarFrom c f lat val)) :
    Completes i s (PutsScalar s c lat (.sr f.sd.toNat) (val (s.view c))) :=
  completes_issue hl hi

end

/-- Settles O8. -/
theorem scalarArithmetic : Obligations.ScalarArithmetic := by
  intro s c f hl a b d
  have op (i : Instr) {lat : Nat} {g : W64 → W64 → W64} (hi : exec i s = .next (s.scalarOp c f lat g)) :
      Completes i s (PutsScalar s c lat d (g a b)) := completes_scalarOp hl hi
  refine ⟨op (.add c f) rfl, op (.sub c f) rfl, op (.mul c f) rfl, op (.and c f) rfl, op (.or c f) rfl, op (.xor c f) rfl,
    op (.shl c f) rfl, op (.shr c f) rfl, op (.sar c f) rfl, ?min, ?max, ?minu, ?maxu, ?slt, ?sltu, op (.seq c f) rfl⟩
  case min => simpa only [BitVec.slt_iff_toInt_lt] using op (.min c f) rfl
  case max => simpa only [BitVec.slt_iff_toInt_lt] using op (.max c f) rfl
  case minu => simpa only [BitVec.ult_iff_lt, BitVec.lt_def] using op (.minu c f) rfl
  case maxu => simpa only [BitVec.ult_iff_lt, BitVec.lt_def] using op (.maxu c f) rfl
  case slt => simpa only [BitVec.slt_iff_toInt_lt] using op (.slt c f) rfl
  case sltu => simpa only [BitVec.ult_iff_lt, BitVec.lt_def] using op (.sltu c f) rfl

/-! ### Reads of the core, its context and its channels -/

/-- Flags of the context and reports of the core leave what the core has in flight (01 R28). -/
@[simp] theorem State.pipe_brokenSeen (s : State) (c : CoreRef) (i n : Nat) :
    ((s.brokenSeen c.ctx c.core i n).core c).pipe = (s.core c).pipe := by
  simp [State.brokenSeen, Core.chanFault]

theorem State.pipe_chanFault (s : State) (c : CoreRef) (b i n : Nat) :
    ((s.modCoreOf c.ctx c.core (fun k => k.chanFault b i n)).core c).pipe = (s.core c).pipe := by
  simp [Core.chanFault]

section
variable {s : State} {c : CoreRef} {f : ScalarField}

/-- A scalar read puts its result in flight, whatever is reported of the core beside it. -/
theorem putsScalar_scalarFrom (hl : s.live c = true) {lat : Nat} {val : Core → W64} {t : State}
    (ht : (t.core c).pipe = ((s.scalarFrom c f lat val).core c).pipe) :
    PutsScalar s c lat (.sr f.sd.toNat) (val (s.view c)) t := by
  rw [PutsScalar, ht, State.scalarFrom, State.onCore_core _ _ _ hl]
  rfl

/-- RDSEM reads the semaphore as the channels' arrivals of the step have left it (03 R76; 10 R246, R259). -/
theorem completes_rdsem (hl : s.live c = true) :
    let q : Sem := if bvf f.sx 0 6 < 48 then ((s.chanView c.ctx).core c).sems.get {} (bvf f.sx 0 6) else {}
    Completes (.rdsem c f) s (PutsScalar s c 1 (.sr f.sd.toNat)
      (BitVec.ofNat 64 (q.value + (if q.brk then 2 ^ 31 else 0)))) := by
  intro q
  refine ⟨_, if_pos hl, putsScalar_scalarFrom (val := fun _ => BitVec.ofNat 64 (q.value + (if q.brk then 2 ^ 31 else 0)))
    hl ?_⟩
  rw [apply_ite (fun t : State => (t.core c).pipe), State.pipe_brokenSeen, ite_self,
    apply_ite (fun t : State => (t.core c).pipe), State.pipe_chanFault, State.core_flagCtx]
  exact ite_self _

/-- RDBRK reads whether an elastic endpoint is broken (03 R76; 10 R265). -/
theorem completes_rdbrk (hl : s.live c = true) {b : Bool × Nat}
    (hb : (s.core c).endpointBroken (bit f.sx.toNat 4) (bvf f.sx 0 4) = b) :
    Completes (.rdbrk c f) s (PutsScalar s c 1 (.sr f.sd.toNat) (if b.1 then 1 else 0)) := by
  subst hb
  refine ⟨_, rfl, putsScalar_scalarFrom (val := fun _ => if (Core.endpointBroken ..).1 then 1 else 0) hl ?_⟩
  rw [apply_ite (fun t : State => (t.core c).pipe), State.pipe_brokenSeen]
  exact ite_self _

end

/-- MOVHI's two halves as one number (03 R76). -/
theorem movhi_eq (h : W32) (l : W64) :
    (h ++ l.setWidth 32 : W64) = BitVec.ofNat 64 (h.toNat * 2 ^ 32 + l.toNat % 2 ^ 32) := by
  apply BitVec.eq_of_toNat_eq
  have hh := h.isLt
  have hl : l.toNat % 2 ^ 32 < 2 ^ 32 := Nat.mod_lt _ (by decide)
  rw [BitVec.toNat_append, BitVec.toNat_setWidth, BitVec.toNat_ofNat, ← Nat.shiftLeft_add_eq_or_of_lt hl, Nat.shiftLeft_eq]
  omega

/-- Settles O9. -/
theorem scalarReads : Obligations.ScalarReads := by
  refine ⟨fun s c f hl => ?_, fun s c f hl => ?_⟩
  · intro v x d
    have read (i : Instr) {lat : Nat} {val : Core → W64} (hi : exec i s = .next (s.scalarFrom c f lat val)) :
        Completes i s (PutsScalar s c lat d (val v)) := completes_scalarFrom hl hi
    refine ⟨?csel, read (.movi c f) rfl, ?movhi, read (.rdpar c f) rfl, read (.rdstep c f) rfl, read (.rdorbit c f) rfl,
      read (.rdpci c f) rfl, read (.rdncore c f) rfl, read (.rdwire c f) rfl, read (.tail c f) rfl⟩
    case csel => simpa only [ite_not] using read (.csel c f) rfl
    case movhi => simpa only [movhi_eq] using read (.movhi c f) rfl
  · intro n q d
    refine ⟨completes_rdsem hl, fun h4 => ?_, fun h4 => ?_⟩
    · intro e
      have hb : (s.core c).endpointBroken (bit f.sx.toNat 4) (bvf f.sx 0 4) = (e.elastic && e.state = .broken, e.csem) :=
        if_pos h4
      simpa using completes_rdbrk hl hb
    · intro e
      have hb : (s.core c).endpointBroken (bit f.sx.toNat 4) (bvf f.sx 0 4) = (e.elastic && e.state = .broken, e.asem) :=
        if_neg (by rw [bit, h4]; decide)
      simpa using completes_rdbrk hl hb

/-! ### Scalar writes -/

/-- REDUCE adds its contribution to the wire slot it names; code 7 adds none (03 R79). -/
theorem completes_reduce {s : State} {c : CoreRef} {f : ScalarField} (hl : s.live c = true) :
    Completes (.reduce c f) s (fun t => (t.core c).pipe = (s.core c).pipe ∧
      (t.ctx c.ctx).wireIn = (s.ctx c.ctx).wireIn ++ (if bvf f.sx 2 3 = 7 then []
        else [⟨bvf f.sx 0 2, c.core, bvf f.sx 2 3, (s.view c).sra f.sa.toNat⟩])) := by
  by_cases h7 : bvf f.sx 2 3 = 7
  · refine ⟨_, congrArg Host.Outcome.next (if_neg (by simp [h7])), ?_⟩
    dsimp only
    rw [State.onCore_core s c id hl, State.onCore_ctx, if_pos h7, List.append_nil]
    exact ⟨rfl, rfl⟩
  · refine ⟨_, congrArg Host.Outcome.next (if_pos (by simp [hl, h7])), ?_⟩
    dsimp only
    rw [State.ctx_modCtx_self, State.onCore_ctx, if_neg h7]
    refine ⟨?_, rfl⟩
    rw [State.core_modCtx (hf := fun _ => by rfl), State.onCore_core s c id hl]
    rfl

/-- Settles O10. -/
theorem scalarWrites : Obligations.ScalarWrites := by
  intro s c f hl v a
  have hfld : bvf f.sx 2 3 = f.sx.toNat / 4 % 8 := by simp [bvf, fld, Nat.shiftRight_eq_div_pow]
  refine ⟨completes_issue (val := fun k => k.sra f.sa.toNat) hl rfl, ?lcset, ?tapset, ?reduce⟩
  case lcset =>
    exact completes_issue (val := fun k => BitVec.ofNat 64 (if bit f.sx.toNat 2 then bvf (k.par.get 0 (bvf f.imm 0 6)) 0 16
      else bvf f.imm 0 16)) hl rfl
  case tapset => exact (completes_onCore (i := .tapset c f) hl rfl).mono (fun t ht => ht ▸ ⟨rfl, rfl⟩)
  case reduce => exact hfld ▸ completes_reduce hl

/-! ### Controls that freeze the context -/

theorem State.now_present (s : State) (c : CoreRef) : (s.present c).now = s.now := by
  unfold State.present State.onCore
  split <;> rfl

theorem State.freeze_freezeBy (s : State) (x : Nat) (f : Freeze → Freeze) :
    ((s.freezeBy x f).ctx x).freeze = some (f ((s.ctx x).freeze.getD { since := s.now })) := by
  rw [State.freezeBy, State.ctx_modCtx_self]

/-- A control outside an arm begins or widens the freeze of its context (01 R29, R31, R36). -/
theorem completes_freeze {s : State} {c : CoreRef} {i : Instr} {f : Freeze → Freeze} (h : s.ctlActs c = true)
    (ha : (s.core c).seq.inArm = false) (hi : exec i s = .next (s.outsideArm c (fun t => t.freezeBy c.ctx f))) :
    Completes i s (fun t => (t.ctx c.ctx).freeze = some (f ((s.ctx c.ctx).freeze.getD { since := s.now }))) := by
  rw [State.outsideArm_free s c _ h ha] at hi
  refine ⟨_, hi, ?_⟩
  dsimp only
  rw [State.freeze_freezeBy, State.present_ctx, State.now_present]

/-- Settles O13. -/
theorem controlsFreeze : Obligations.ControlsFreeze := by
  intro s c f h ha z
  refine ⟨(completes_freeze (i := .rdv c f) h ha rfl :), (completes_freeze (i := .fence c) h ha rfl :), ?_,
    (completes_freeze (i := .orbitEnd c) h ha rfl :)⟩
  refine ⟨_, congrArg Host.Outcome.next (State.outsideArm_free s c _ h ha), ?_⟩
  dsimp only
  rw [State.freeze_freezeBy, State.rendezvous, State.freeze_freezeBy, State.present_ctx, State.now_present]
  rfl

/-! ### Taps, arrays, streams and channels -/

section
variable {s : State} {c : CoreRef}

/-- What the memory reads and writes of a step report leaves the work the step asks for. -/
theorem State.work_eccRead (port src step : Nat) (e : Ecc) :
    ((s.eccRead c.ctx c.core port src step e).core c).work = (s.core c).work :=
  State.core_eccRead s c Core.work (fun _ => rfl) port src step e

theorem State.work_eccWrite (p : Nat) (e : Ecc) : ((s.eccWrite c p e).core c).work = (s.core c).work := by
  unfold State.eccWrite
  split
  · refine foldl_get_same (get := fun u : State => (u.core c).work) (fun u _ v => ?_) _
    simp [State.parity]
  · split
    · exact State.work_eccRead ..
    · rfl

theorem State.work_chanEcc (e : Ecc) : ((s.chanEcc c e).core c).work = (s.core c).work := by
  unfold State.chanEcc
  rw [foldl_get_same (get := fun u : State => (u.core c).work) (fun u _ v => ?_)]
  · have hwork := congrArg Core.work (State.memCe_unreported s c e.ce)
    exact hwork
  · rw [State.core_raise, State.core_modCoreOf, State.core_flagCtx]

/-- A field that only adds to the work of its core's step. -/
theorem completes_work {i : Instr} {f : StepWork → StepWork} (hl : s.live c = true)
    (hi : exec i s = .next (s.onCore c (fun k => { k with work := f k.work }))) :
    Completes i s (fun t => (t.core c).work = { f (s.core c).work with given := true }) :=
  (completes_onCore hl hi).mono (fun _ ht => by rw [ht]; rfl)

/-- A field that presents its bundle and asks for nothing. -/
theorem completes_work_present {i : Instr} (hl : s.live c = true) (hi : exec i s = .next (s.present c)) :
    Completes i s (fun t => (t.core c).work = { (s.core c).work with given := true }) :=
  (completes_present hl hi).mono (fun _ ht => by rw [ht]; rfl)

end

/-- Settles O16. -/
theorem tapsAndArraysAct : Obligations.TapsAndArraysAct := by
  refine ⟨fun s c p z e hl => ?_, fun s c k f e hl => ?_⟩
  · intro k td q
    refine ⟨?read, ?write⟩
    case read =>
      cases hen : z.en with
      | false =>
        refine ⟨_, if_neg (by rw [hen]; decide), ?_⟩
        dsimp only
        rw [State.present_core s c hl]
        simp [k]
      | true =>
        refine ⟨_, if_pos hen, ?_⟩
        dsimp only
        rw [if_pos hl]
        have hwork : ∀ u : State, (({ u.eccRead c.ctx c.core p.toNat 0 (s.stepOf c) e with
            pending := s.pending, mem := s.mem } : State).core c).work = (u.core c).work :=
          fun _ => State.work_eccRead ..
        rw [hwork, State.onCore_core _ _ _ hl]
        exact ⟨rfl, rfl⟩
    case write =>
      refine ⟨_, rfl, ?_⟩
      dsimp only
      have hwork : ∀ u : State, (({ (if s.live c && z.en then u.eccWrite c p.toNat e else u) with
          pending := s.pending, mem := s.mem } : State).core c).work = (u.core c).work := by
        intro u
        split
        · exact State.work_eccWrite ..
        · rfl
      rw [hwork, State.onCore_core _ _ _ hl]
      dsimp only
      by_cases hp : p = 3
      · subst hp
        cases hen : z.en with
        | false => exact ⟨(List.append_nil _).symm, rfl, rfl⟩
        | true => exact ⟨rfl, rfl, rfl⟩
      · rw [if_neg hp, if_neg hp]
        cases hen : z.en with
        | false => exact ⟨(List.append_nil _).symm, rfl, rfl⟩
        | true => exact ⟨rfl, rfl, rfl⟩
  · intro w add
    have row {i : Instr} (r : ArrayReq) (hi : exec i s = .next (s.arrayRow c r)) : Completes i s (add r) := by
      unfold State.arrayRow State.variant at hi
      by_cases hv : s.fuses.variant = 2
      · rw [if_pos hv] at hi
        exact (completes_work_present hl hi).mono (fun t ht => by simp only [add, if_pos hv, ht]; rfl)
      · rw [if_neg hv] at hi
        exact (completes_work hl (f := fun v => { v with arrays := v.arrays ++ [r] }) hi).mono (fun t ht => by
          simp only [add, if_neg hv, ht]; rfl)
    exact ⟨row _ rfl, row _ rfl, row _ rfl⟩

/-- Settles O17. -/
theorem streamsAndChannelsIssue : Obligations.StreamsAndChannelsIssue := by
  refine ⟨fun s c sd r hl => ?_, fun s c ep tok n v e hl => ?_⟩
  · intro w kind issues
    have row {i : Instr} {n : Nat} (hi : exec i s = .next (s.issueRow c sd.toNat n)) : Completes i s (issues n) := by
      unfold State.issueRow at hi
      by_cases hk : kind = n
      · rw [if_pos hk] at hi
        exact (completes_work hl (f := fun v => { v with issue := some sd.toNat }) hi).mono (fun t ht => by
          simp only [issues, if_pos hk, ht]; rfl)
      · rw [if_neg hk] at hi
        exact (completes_work_present hl hi).mono (fun t ht => by simp only [issues, if_neg hk, ht]; rfl)
    refine ⟨row rfl, row rfl, row rfl, row rfl, row rfl, row rfl, row rfl, ?_, ?_⟩
    · exact completes_work hl (f := fun v => { v with vlde := some r.toNat }) rfl
    · exact completes_work hl (f := fun v => { v with vste := some r.toNat }) rfl
  · intro w
    have semop {i : Instr} {z : Int} (hi : exec i s = .next (s.semop c n.toNat z)) : Completes i s (fun t =>
        (t.core c).work = { w with sems := w.sems ++ (if n.toNat < 48 then [(n.toNat, z)] else []) }) := by
      unfold State.semop at hi
      by_cases hn : n.toNat < 48
      · rw [if_pos hn] at hi
        exact (completes_work hl (f := fun v => { v with sems := v.sems ++ [(n.toNat, z)] }) hi).mono (fun t ht => by
          rw [ht, if_pos hn])
      · rw [if_neg hn] at hi
        exact (completes_work_present hl hi).mono (fun t ht => by rw [ht, if_neg hn, List.append_nil])
    refine ⟨?send, ?elast, ?recv, semop rfl, semop rfl⟩
    case send => exact completes_work hl (f := fun v => { v with send := some ep.toNat }) rfl
    case elast => exact completes_work hl (f := fun v => { v with elast := some (ep.toNat, tok.toNat) }) rfl
    case recv =>
      refine ⟨_, rfl, ?_⟩
      dsimp only
      have hwork : ∀ u : State, (({ (if s.live c && decide (((s.core c).recvEps.get {} ep.toNat).state ≠ .unbound) then
          u.chanEcc c e else u) with pending := s.pending, mem := s.mem } : State).core c).work = (u.core c).work := by
        intro u
        split
        · exact State.work_chanEcc ..
        · rfl
      rw [hwork, State.onCore_core _ _ _ hl]

/-! ### Formats an operation does not take -/

section
variable {s : State} {c : CoreRef} {f : VectorField}

/-- An operation that does not take its format presents its bundle and nothing more (06 R152). -/
theorem State.vecOp_empty {ok : Bool} (h : ok = false ∨ 9 < f.vfmt.toNat) (lat : Nat) (uses : List (Nat × Nat))
    (res : VecArgs → List VecWrite) : s.vecOp c f ok lat uses res = s.present c :=
  if_pos (by rcases h with h | h <;> simp [h])

theorem State.vecReduce_empty {ok : Bool} (h : ok = false ∨ 9 < f.vfmt.toNat) (uses : List (Nat × Nat))
    (val : VecArgs → List (Bool × Nat) → W64) : s.vecReduce c f ok uses val = s.present c :=
  if_pos (by rcases h with h | h <;> simp [h])

theorem State.vecFloat_empty (h : 1 < f.vfmt.toNat) (lat : Nat) (uses : List (Nat × Nat))
    (op : Fmt → Nat → Nat → Nat → Nat) : s.vecFloat c f lat uses op = s.present c := by
  have h1 : f.vfmt ≠ 1 := by rintro h1; simp [h1] at h
  have h0 : f.vfmt ≠ 0 := by rintro h0; simp [h0] at h
  rw [State.vecFloat, if_neg h1]
  exact State.vecOp_empty (.inl (decide_eq_false h0)) ..

end

/-- Settles O25. -/
theorem reservedFormatsEmpty : Obligations.ReservedFormatsEmpty := by
  intro s c f _ empty
  have of {i : Instr} {t : State} (hi : exec i s = .next t) (ht : t = s.present c) : Completes i s empty := ⟨t, hi, ht⟩
  refine ⟨fun h9 => ?_, fun h0 => ?_, fun h1 => ?_, fun h0 => ?_⟩
  · have op {ok : Bool} := State.vecOp_empty (s := s) (c := c) (ok := ok) (.inr h9)
    exact ⟨of rfl (by rw [State.vecInt]; exact op ..), of rfl (State.vecFloat_empty (by omega) ..), of rfl (op ..), of rfl (op ..),
      of rfl (State.vecReduce_empty (.inr h9) ..), of rfl (op ..), of rfl (op ..)⟩
  · have hok : decide (f.vfmt = 0) = false := decide_eq_false h0
    exact ⟨of rfl (State.vecOp_empty (.inl hok) ..), of rfl (State.vecOp_empty (.inl hok) ..),
      of rfl (State.vecReduce_empty (.inl hok) ..)⟩
  · exact ⟨of rfl (State.vecFloat_empty h1 ..), of rfl (State.vecFloat_empty h1 ..)⟩
  · have hlow : f.vfmt.toNat = 0 := by rw [h0]; rfl
    exact ⟨of rfl (State.vecOp_empty (.inl (by simp [hlow])) ..), of rfl (State.vecOp_empty (.inl (by simp [mxFmt, hlow])) ..)⟩

end Sys2Proof.Machine
end

section
/-! The commands that read (13 R352-R367): what the start of a service leaves, one rule for a row that answers and changes
nothing, then the obligations O26, O29, O32, O33 and O34. -/
namespace Sys2Proof.Machine
open Sys2Proof

/-! ### What the start of a service leaves -/

section
variable (s : State) (m : Nat) (q : Cmd) (op : Nat)

/-- The start of a service changes the mailbox alone (13 R350, R358). -/
theorem State.entered_eq : s.entered m q op = { s with mbox := (s.entered m q op).mbox } := by
  unfold State.entered State.renew
  split <;> rfl

/-- What does not read the mailbox is as it was at the start of a service. -/
theorem State.get_entered {β : Type} (get : State → β) (h : ∀ u b, get { u with mbox := b } = get u) :
    get (s.entered m q op) = get s := by
  rw [State.entered_eq, h]

@[simp] theorem State.entered_ctx (x : Nat) : (s.entered m q op).ctx x = s.ctx x := State.get_entered _ _ _ _ (State.ctx · x) (fun _ _ => rfl)
@[simp] theorem State.entered_core (c : CoreRef) : (s.entered m q op).core c = s.core c :=
  State.get_entered _ _ _ _ (State.core · c) (fun _ _ => rfl)
@[simp] theorem State.entered_coreAt (l : Nat) : (s.entered m q op).coreAt l = s.coreAt l :=
  State.get_entered _ _ _ _ (State.coreAt · l) (fun _ _ => rfl)
@[simp] theorem State.entered_variant : (s.entered m q op).variant = s.variant :=
  State.get_entered _ _ _ _ State.variant (fun _ _ => rfl)
@[simp] theorem State.entered_deferred : (s.entered m q op).mbox.deferred = s.mbox.deferred := by
  unfold State.entered State.renew
  split <;> rfl
@[simp] theorem State.entered_tickets : (s.entered m q op).mbox.tickets = s.mbox.tickets := by
  unfold State.entered State.renew
  split <;> rfl

end

/-! ### A row that answers -/

section
variable {s : State} {m : Nat} {q : Cmd} {k : CmdSpec} {i : Instr} {body : State → State × Reply}

/-- A served command that answers and changes nothing more. -/
theorem Serves.replies (r : State → Reply) (h : Serves s m q k) (hi : exec i s = Machine.quiet s (s.serve m q k body))
    (hbody : body (s.entered m q k.op) = (s.entered m q k.op, r (s.entered m q k.op))) :
    Completes i s (Answered s m q k.op (fun u => (u, r u))) :=
  h.completes _ hi hbody (fun _ => rfl) (fun _ => rfl) (fun _ => rfl)

/-- A command on a context that exists goes on to its own checks. -/
theorem State.needCtx_entered {x : Nat} (hx : (s.ctx x).phase ≠ .free) (op : Nat) (go : State × Reply) :
    (s.entered m q op).needCtx x go = go := if_neg (by rwa [State.entered_ctx])

end

/-! ### A busy slot -/

section
variable {s : State} {m : Nat} (seq : Nat)

/-- A refusal at once is counted in the slot, which holds its command on (13 R352). -/
theorem State.slotBusy_slot : (s.slotBusy m seq).slot m =
    { s.slot m with busyRefusals := Nat.min 65535 ((s.slot m).busyRefusals + 1) } := by
  have hmessage (u : State) (b : List Byte) : (u.message m b).slot m = u.slot m := by
    unfold State.message
    split <;> rfl
  rw [State.slotBusy, hmessage, State.slot_modSlot_self]
  rfl

/-- A count of refusals changes no letter of the slot. -/
theorem State.letter_refused (b : List Byte) :
    (s.modSlot m (fun v => { v with busyRefusals := satAdd 65535 v.busyRefusals 1 })).letter m b = s.letter m b := by
  unfold State.letter
  rw [State.slot_modSlot_self]

/-- The refusal goes to the slot's master (13 R352). -/
theorem State.slotBusy_leaves :
    (m = 0 → (s.slotBusy m seq).mbox.mctp = ({ status := stSlotBusy } : Reply).bytes seq) ∧
    (m ≠ 0 → (s.slotBusy m seq).mbox.messages =
      s.mbox.messages ++ s.letter m (({ status := stSlotBusy } : Reply).bytes seq)) ∧
    s.slotBusy m seq = { s with mbox := (s.slotBusy m seq).mbox } := by
  unfold State.slotBusy State.message
  refine ⟨fun h => ?_, fun h => ?_, ?_⟩
  · rw [if_pos h]
  · rw [if_neg h]
    exact congrArg (s.mbox.messages ++ ·) (State.letter_refused _)
  · split <;> rfl

end

/-- A row whose slot holds a command refuses it at once. -/
theorem State.serve_busy {s : State} {m : Nat} (hruns : s.mcRuns = true) (hm : m < 8) (hbusy : (s.slot m).busy = true)
    (q : Cmd) (k : CmdSpec) (body : State → State × Reply) : s.serve m q k body = s.slotBusy m q.seq := by
  simp only [State.serve, hruns, Nat.not_le.mpr hm, hbusy, Bool.not_true, decide_false, Bool.or_self, Bool.false_eq_true,
    if_false, if_true]

/-- Settles O26. -/
theorem busySlotRefuses : Obligations.BusySlotRefuses := by
  intro s m q hruns hm hbusy i hi
  have hserve := State.serve_busy hruns hm hbusy q
  have hread : execMemRead m q s = quiet s (s.slotBusy m q.seq) := by
    simp only [execMemRead, hruns, Nat.not_le.mpr hm, hbusy, Bool.not_true, decide_false, Bool.or_self, Bool.false_eq_true,
      if_false, if_true]
  obtain ⟨hside, hpath, hmbox⟩ := State.slotBusy_leaves (s := s) (m := m) q.seq
  have hpending : (s.slotBusy m q.seq).pending = s.pending := by rw [hmbox]
  have hquiet : quiet s (s.slotBusy m q.seq) = .next (s.slotBusy m q.seq) := quiet_eq hpending (by rw [hmbox])
  have hexec : exec i s = .next (s.slotBusy m q.seq) := by
    rcases hi with rfl | rfl | rfl | rfl | rfl | rfl | rfl
    case inr.inr.inr.inr.inl => exact hread.trans hquiet
    case inr.inr.inr.inr.inr.inl => exact (congrArg (done s) (hserve ..)).trans (done_eq hpending)
    all_goals exact (congrArg (quiet s) (hserve ..)).trans hquiet
  exact ⟨_, hexec, State.slotBusy_slot q.seq, hside, hpath, hmbox⟩

/-! ### The lease -/

section
variable {s : State} {m : Nat} {q : Cmd}

/-- The start of service of a command of the owner's slot restarts the lease, of any other leaves it (13 R358). -/
theorem State.entered_leaseEnd (h : ∀ o, s.mbox.owner = some o → s.now < s.mbox.leaseEnd) (op : Nat) :
    (s.entered m q op).mbox.leaseEnd = if s.mbox.owner = some m then s.now + 2000000000 else s.mbox.leaseEnd := by
  have howner : s.isOwner m = decide (s.mbox.owner = some m) := by rw [State.isOwner, State.owner_of_lease h]
  have hposted : ((s.post m (cmdBytes q op)).modSlot m (fun v => { v with posted := false })).isOwner m = s.isOwner m := rfl
  unfold State.entered State.renew
  rw [hposted, howner]
  by_cases ho : s.mbox.owner = some m
  · rw [if_pos (decide_eq_true ho), if_pos ho]
    rfl
  · rw [if_neg (by simpa using ho), if_neg ho]
    rfl

/-- Outside ROM recovery only the owner passes the gate of the owner's commands (13 R361). -/
theorem Serves.isOwner {k : CmdSpec} (h : Serves s m q k) (hk : k.who = .owner) (hrom : s.boot.rom = false) :
    s.mbox.owner = some m := by
  rw [← State.owner_of_lease h.lease]
  refine Classical.byContradiction fun howner => ?_
  have hserved : s.servedFor m k.who = false := by simp [State.servedFor, hk, hrom, State.isOwner, howner]
  have hgate := h.gate
  simp only [State.gate, hrom, hserved, Bool.not_false, Bool.false_eq_true, if_true, if_false] at hgate
  repeat' split at hgate
  all_goals exact absurd hgate (by decide)

end

/-- An event that is raised leaves the others of its tick in the ring, some under another number (13 R385). -/
theorem mem_eventInsert_of_mem (ack : Nat) (e : Event) {v : Event} {l : List Event} (hv : v ∈ l) :
    ∃ n, { v with seq := n } ∈ eventInsert ack e l := by
  induction l generalizing e with
  | nil => cases hv
  | cons h r ih =>
    unfold eventInsert
    split
    · rcases List.mem_cons.mp hv with rfl | hr
      · exact ⟨e.seq, List.mem_cons_self⟩
      · obtain ⟨n, hn⟩ := ih { e with seq := h.seq } hr
        exact ⟨n, List.mem_cons_of_mem _ hn⟩
    · exact ⟨v.seq, List.mem_cons_of_mem _ hv⟩

/-- A ring with room for the events of the tick keeps those it has of it. -/
theorem EventRing.Newest.keeps {r : EventRing} {e v : Event} {k : Nat} (h : r.Newest e.tick k) (hk : k < 256)
    (hv : v ∈ r.held) (ht : v.tick = e.tick) : ∃ n, { v with seq := n } ∈ (r.add e).held := by
  obtain ⟨new, older, hheld, hlen, hold⟩ := h
  have hnew : v ∈ new := by
    rcases List.mem_append.mp (hheld ▸ List.mem_reverse.mpr hv) with h | h
    · exact h
    · exact absurd ht (hold v h)
  obtain ⟨n, hn⟩ := mem_eventInsert_of_mem r.ackSeq e hnew
  have hroom : (eventInsert r.ackSeq e new).length ≤ 256 := by rw [length_eventInsert]; omega
  refine ⟨n, List.mem_reverse.mpr ?_⟩
  simp only [hheld, eventInsert_append _ _ _ hold, List.take_append, List.take_of_length_le hroom]
  exact List.mem_append_left _ hn

section
variable {s : State} {o : Nat}

/-- A ring with room for the events of the tick keeps those it has of it as another is raised. -/
theorem State.held_raise {e : Event} {k : Nat} (h : s.events.Newest s.now k) (hk : k < 256) (he : e ∈ s.events.held)
    (ht : e.tick = s.now) (code : Nat) (x : Option Nat) (unit data : Nat) :
    ∃ n, { e with seq := n } ∈ (s.raise code x unit data).events.held :=
  EventRing.Newest.keeps (e := ⟨s.events.nextSeq, code, eventSeverity code, x, s.now, unit % 65536, data % 2 ^ 96⟩) h hk he ht

/-- At the end of its lease the owner loses ownership (13 R360). -/
theorem State.leaseCheck_ends (ho : s.mbox.owner = some o) (h : s.mbox.leaseEnd ≤ s.now) : s.leaseCheck =
    (State.raise { s with mbox := { s.mbox with owner := none } } 3 none o 0).rollBack o 2 := by
  unfold State.leaseCheck
  simp only [ho, Nat.not_lt.mpr h, if_false]

/-- What the loss of ownership leaves. -/
theorem State.leaseCheck_gives (ho : s.mbox.owner = some o) (h : s.mbox.leaseEnd ≤ s.now) :
    s.leaseCheck.mbox.owner = none ∧ s.leaseCheck.mbox.txn = none ∧
    s.leaseCheck.events.nextSeq = s.events.nextSeq + (if s.mbox.txn.isSome then 2 else 1) := by
  rw [State.leaseCheck_ends ho h]
  refine ⟨State.rollBack_same _ _ _ (fun u => u.mbox.owner) (fun _ => rfl), State.rollBack_txn .., ?_⟩
  rw [State.rollBack_nextSeq, State.nextSeq_raise]
  change s.events.nextSeq + 1 + (if s.mbox.txn.isSome then 1 else 0) = _
  split <;> rfl

/-- OWNER_LOST is held as an event of the tick, for the slot of the owner (13 R360, R390). -/
theorem State.leaseCheck_held (ho : s.mbox.owner = some o) (h : s.mbox.leaseEnd ≤ s.now)
    (hold : ∀ v ∈ s.events.held, v.tick < s.now) :
    ∃ e ∈ s.leaseCheck.events.held, e.code = 3 ∧ e.tick = s.now ∧ e.unit = o % 65536 := by
  rw [State.leaseCheck_ends ho h]
  have hring : ({ s with mbox := { s.mbox with owner := none } } : State).events.Newest s.now 0 :=
    EventRing.newest_of_lt hold
  obtain ⟨e, he, hcode, htick, hunit⟩ := State.exists_held_raise _ 3 none o 0 hring (by decide)
  have hnewest := State.newest_raise _ 3 none o 0 hring (by decide)
  have hnow : (State.raise { s with mbox := { s.mbox with owner := none } } 3 none o 0).now = s.now := rfl
  generalize State.raise { s with mbox := { s.mbox with owner := none } } 3 none o 0 = u at he hnewest hnow ⊢
  cases ht : u.mbox.txn with
  | none => exact ⟨e, by rwa [State.rollBack_none _ _ _ ht], hcode, htick, hunit⟩
  | some l =>
    rw [State.rollBack_some _ _ _ ht]
    obtain ⟨n, hn⟩ := State.held_raise (s := { u with mbox := { u.mbox with txn := none } }) (k := 1)
      (by exact hnow ▸ hnewest) (by decide) he (htick.trans hnow.symm) 5 none o 2
    exact ⟨_, hn, hcode, htick, hunit⟩

end

/-- Settles O29. -/
theorem ownerKeepsLease : Obligations.OwnerKeepsLease := by
  refine ⟨fun s m q => ⟨fun h hrom => ?renew, fun h => ?nop, fun h => ?read⟩,
    fun s t => ⟨fun ho => ?none, fun o ho => ⟨fun hdue => ?ends, fun hearly => ?stands⟩⟩⟩
  case renew =>
    have ho := h.isOwner rfl hrom
    refine (h.completes okay (i := .renew m q) rfl rfl (fun _ => rfl) (fun _ => rfl) (fun _ => rfl)).mono
      (fun t ht => ⟨ht, ?_, ?_⟩)
    · rw [ht, State.respond_owner]
      exact (State.entered_mbox_owner ..).trans ho
    · rw [ht, State.respond_leaseEnd]
      exact (State.entered_leaseEnd h.lease _).trans (if_pos ho)
  case nop =>
    refine (h.completes okay (i := .nopCmd m q) rfl rfl (fun _ => rfl) (fun _ => rfl) (fun _ => rfl)).mono
      (fun t ht => ⟨ht, fun ho => ?_, fun ho => ?_⟩) <;> rw [ht, State.respond_leaseEnd]
    · exact (State.entered_leaseEnd h.lease _).trans (if_pos ho)
    · exact (State.entered_leaseEnd h.lease _).trans (if_neg ho)
  case read => exact h.replies _ rfl (by simp only [State.entered_owner h.lease])
  case none =>
    have hidle : (s.atTick t).leaseCheck = s.atTick t :=
      State.leaseCheck_idle (fun o h => absurd (ho.symm.trans h) (by simp))
    exact ⟨_, (congrArg (quiet s) hidle).trans (quiet_eq rfl rfl), rfl⟩
  case ends =>
    obtain ⟨howner, htxn, hseq⟩ := State.leaseCheck_gives (s := s.atTick t) ho hdue
    exact ⟨_, rfl, howner, htxn, hseq, State.leaseCheck_held (s := s.atTick t) ho hdue⟩
  case stands =>
    have hidle : (s.atTick t).leaseCheck = s.atTick t :=
      State.leaseCheck_idle (fun o' h => by rwa [Option.some.inj (h.symm.trans ho)] at *)
    exact ⟨_, (congrArg (quiet s) hidle).trans (quiet_eq rfl rfl), rfl⟩

/-- Settles O32: every row is a report. -/
theorem recordsRead : Obligations.RecordsRead := by
  intro s m q
  have report {i : Instr} {q : Cmd} {op arg : Nat} {early : Bool} {payload : State → List Byte}
      (hi : exec i s = s.report m q op arg early payload) (h : Serves s m q { op, who := .all, early, arg }) :
      Completes i s (Answered s m q op (Reads payload)) := ⟨_, hi.trans (h.report payload), rfl⟩
  exact ⟨report rfl, report rfl, report rfl, report rfl, report rfl, report rfl, report rfl, report rfl, report rfl⟩

section
variable (s : State)

/-- What no setting of a pace domain changes, clearing them leaves. -/
theorem State.get_clearPace {β : Type} (get : State → β) (h : ∀ (u : State) d v, get (u.setDomain d v) = get u) :
    get s.clearPace = get s :=
  foldl_get_same (get := get) (fun _ _ _ => h _ _ _) s

@[simp] theorem State.clearPace_slot (m : Nat) : s.clearPace.slot m = s.slot m :=
  s.get_clearPace (State.slot · m) (fun _ _ _ => rfl)
@[simp] theorem State.clearPace_pending : s.clearPace.pending = s.pending := s.get_clearPace State.pending (fun _ _ _ => rfl)
@[simp] theorem State.clearPace_mem : s.clearPace.mem = s.mem := s.get_clearPace State.mem (fun _ _ _ => rfl)

end

/-- Settles O33. -/
theorem listsRead : Obligations.ListsRead := by
  intro s m q
  refine ⟨fun h => ?events, fun h => ?fuses, fun l hl h => ?txn, fun hc h => ?pace, fun hc h => ?clear⟩
  case events =>
    intro l
    exact h.replies _ rfl (by simp only [State.entered_events]; rfl)
  case fuses =>
    intro l
    have hentries : (s.entered m q 0x93).repairEntries = s.repairEntries :=
      State.get_entered s m q 0x93 State.repairEntries (fun _ _ => rfl)
    exact h.replies _ rfl (by simp only [hentries]; rfl)
  case txn =>
    intro b
    have htxn : (s.entered m q 0x26).mbox.txn = some l := by rw [State.entered_txn, hl]
    exact h.replies _ rfl (by simp only [htxn]; rfl)
  case pace =>
    have hi : exec (.paceStatus m q) s = quiet s (s.serve m q { op := 0x63, who := .all, early := true, arg := 1 } (fun u =>
        (u, { payload := (List.range 20).flatMap (fun d => (u.domain d).record) ++ u.timeRecord }))) := by
      simp only [exec, execPaceStatus, hc]
      rfl
    exact h.replies _ hi rfl
  case clear =>
    have hi : exec (.paceStatus m q) s = quiet s (s.serve m q { op := 0x63, who := .owner, early := true, arg := 1 } (fun u =>
        (u.clearPace, { payload := (List.range 20).flatMap (fun d => (u.domain d).record) ++ u.timeRecord }))) := by
      simp only [exec, execPaceStatus, hc]
      rfl
    exact h.completes _ hi rfl (fun u => u.clearPace_slot m) (fun u => u.clearPace_pending) (fun u => u.clearPace_mem)

/-- Settles O34. -/
theorem contextsRead : Obligations.ContextsRead := by
  intro s m q
  refine ⟨fun hs h => ?setting, fun hs h => ?unknown, fun i hx hi h => ?slots, fun hx h => ?halo,
    fun hx hp hh hn hr h => ?vregs, fun hx hp hh => ?unbound, fun g hx hp hh => ?queue⟩
  case setting =>
    obtain ⟨v, hv⟩ := Option.isSome_iff_exists.mp hs
    exact h.replies _ rfl (by simp only [State.entered_variant, hv])
  case unknown => exact h.replies _ rfl (by simp only [State.entered_variant, hs]; rfl)
  case slots =>
    intro n l
    exact h.replies _ rfl (by simp only [State.needCtx_entered hx, State.entered_ctx, hi]; rfl)
  case halo => exact h.replies _ rfl (State.needCtx_entered hx ..)
  case vregs =>
    have hbad : (decide ((s.ctx q.ctx).ncores ≤ argFld q 0 11) || decide (argFld q 24 2 = 0) ||
        decide (64 < argFld q 16 6 + argFld q 24 2)) = false := by
      simp [Nat.not_le.mpr hp, hn, hr]
    exact h.replies _ rfl (by
      simp only [State.needCtx_entered hx, State.entered_ctx, hbad, hh, Bool.not_true, Bool.false_eq_true, if_false])
  case unbound =>
    intro he h
    exact h.replies _ rfl (by
      simp only [State.needCtx_entered hx, State.entered_ctx, State.entered_core, if_neg (Nat.not_le.mpr hp), hh, he, if_true,
        Bool.not_true, Bool.false_eq_true, if_false])
  case queue =>
    intro e he hg h
    have hep : (s.core ⟨q.ctx, argFld q 0 11⟩).recvEps.get {} (argFld q 16 4) = e := rfl
    exact h.replies _ rfl (by
      simp only [State.needCtx_entered hx, State.entered_ctx, State.entered_core, if_neg (Nat.not_le.mpr hp), hh, hep, if_neg he, hg,
        Bool.not_true, Bool.false_eq_true, if_false])

end Sys2Proof.Machine
end

section
/-! Memory over the mailbox (13 R354, R365) and debugging (01 R34; 10 R271): what an intervention and a write at a tick leave
alone, the service of a row that writes memory, then the obligations O35 and O36. -/
namespace Sys2Proof.Machine
open Sys2Proof

/-! ### What an intervention leaves alone -/

/-- A change of one context: what it keeps of each context, it keeps of all. -/
theorem State.get_modCtx {β : Type} (p : Ctx → β) {f : Ctx → Ctx} (hf : ∀ c, p (f c) = p c) (s : State) (x y : Nat) :
    p ((s.modCtx x f).ctx y) = p (s.ctx y) := by
  by_cases h : y = x
  · rw [h, State.ctx_modCtx_self, hf]
  · rw [State.ctx_modCtx_other _ _ h]

/-- The close of a batch changes the ledger alone (14 R417). -/
theorem State.get_closeBatch {β : Type} (get : State → β) (hledger : ∀ (u : State) l, get { u with ledger := l } = get u) (s : State)
    (k : Nat) : get (s.closeBatch k) = get s := by
  unfold State.closeBatch
  dsimp only
  split
  · rfl
  · exact (hledger _ _).trans (hledger _ _)

section
variable {β : Type} (get : State → β) (hhalo : ∀ (u : State) (y : Nat) (f : Halo → Halo),
  get (u.modCtx y (fun c => { c with halo := f c.halo })) = get u) (hledger : ∀ (u : State) l, get { u with ledger := l } = get u)
include hhalo

/-- What the pairing of no context changes, an item of the mirror stream leaves. -/
theorem State.get_mirror (s : State) (x : Nat) (i : MirrorItem) : get (s.mirror x i) = get s := by
  unfold State.mirror
  split
  · exact hhalo s x (fun h => { h with out := h.out ++ [i] })
  · rfl

include hledger

/-- An entry of the ledger changes the ledger and the mirror stream alone (14 R410). -/
theorem State.get_logEntry (s : State) (kind k orbit step pcore : Nat) (pl : List (Nat × List Byte)) :
    get (s.logEntry kind k orbit step pcore pl) = get s := by
  unfold State.logEntry State.addEntry
  dsimp only
  split
  · rw [apply_ite get, State.get_closeBatch get hledger, ite_self, apply_ite get, State.get_mirror get hhalo, ite_self]
    exact (hledger _ _).trans (hledger _ _)
  · rfl

end

/-- What no context and no ledger changes, an intervention leaves. -/
theorem State.get_intervene {β : Type} (get : State → β) (hctxs : ∀ (u : State) l, get { u with ctxs := l } = get u)
    (hledger : ∀ (u : State) l, get { u with ledger := l } = get u) (s : State) (x kind p : Nat)
    (pl : List (Nat × List Byte)) : get (s.intervene x kind p pl) = get s := by
  have hhalo (u : State) (y : Nat) (f : Halo → Halo) : get (u.modCtx y (fun c => { c with halo := f c.halo })) = get u :=
    hctxs _ _
  unfold State.intervene
  exact (hctxs _ _).trans ((State.get_mirror get hhalo _ _ _).trans (State.get_logEntry get hhalo hledger _ _ _ _ _ _ _))

section
variable (s : State) (x kind p : Nat) (pl : List (Nat × List Byte))

@[simp] theorem State.intervene_mem : (s.intervene x kind p pl).mem = s.mem :=
  State.get_intervene State.mem (fun _ _ => rfl) (fun _ _ => rfl) ..
@[simp] theorem State.intervene_pending : (s.intervene x kind p pl).pending = s.pending :=
  State.get_intervene State.pending (fun _ _ => rfl) (fun _ _ => rfl) ..
@[simp] theorem State.intervene_slot (m : Nat) : (s.intervene x kind p pl).slot m = s.slot m :=
  State.get_intervene (State.slot · m) (fun _ _ => rfl) (fun _ _ => rfl) ..
@[simp] theorem State.intervene_coreAt (l : Nat) : (s.intervene x kind p pl).coreAt l = s.coreAt l :=
  State.get_intervene (State.coreAt · l) (fun _ _ => rfl) (fun _ _ => rfl) ..

/-- An intervention is flagged in its context's record and counted (01 R35). -/
theorem State.intervene_ctx : ((s.intervene x kind p pl).ctx x).flags.toNat.testBit fIntervened = true ∧
    ((s.intervene x kind p pl).ctx x).interventions = (s.ctx x).interventions + 1 := by
  unfold State.intervene
  rw [State.ctx_modCtx_self]
  have hflag (c : Ctx) : (c.flag fIntervened).flags.toNat.testBit fIntervened = true :=
    Ctx.testBit_flag_self c (by decide)
  refine ⟨hflag _, ?_⟩
  have hhalo (u : State) (y : Nat) (f : Halo → Halo) :
      ((u.modCtx y (fun c => { c with halo := f c.halo })).ctx x).interventions = (u.ctx x).interventions :=
    State.get_modCtx Ctx.interventions (f := fun c => { c with halo := f c.halo }) (fun _ => rfl) u y x
  refine congrArg (· + 1) ((State.get_mirror (fun u => (u.ctx x).interventions) hhalo _ x _).trans ?_)
  exact State.get_logEntry (fun u => (u.ctx x).interventions) hhalo (fun _ _ => rfl) s kind x _ _ p pl

end

/-! ### What a write at a tick leaves alone -/

section
variable {β : Type} (get : State → β) (hmem : ∀ (u : State) v, get { u with mem := v } = get u)
  (hctxs : ∀ (u : State) v, get { u with ctxs := v } = get u) (hcores : ∀ (u : State) v, get { u with cores := v } = get u)
  (hdrams : ∀ (u : State) v, get { u with drams := v } = get u) (hledger : ∀ (u : State) v, get { u with ledger := v } = get u)
include hmem hctxs hcores hdrams

/-- A line written at a tick changes memory, and what waits to be written (07 R177; 08 R216). -/
theorem State.get_placeLine (s : State) (a : Nat) (b : List Byte) : get (s.placeLine a b) = get s := by
  have hsettle : get (s.settleLine a) = get s := by
    unfold State.settleLine
    split
    · exact foldl_get_same (get := get) (fun r _ u => (hmem _ _).trans (hdrams u _)) s
    · exact (hmem _ _).trans (hctxs _ _)
    · exact (hmem _ _).trans (hcores _ _)
    · rfl
  have hdrop (u : State) : get (u.dropPending a) = get u := by
    unfold State.dropPending
    split
    · exact hctxs _ _
    · exact hcores _ _
    · rfl
  exact (hmem _ _).trans ((hdrop _).trans hsettle)

include hledger

/-- A line written over the mailbox changes no more than that, beside the record of an intervention. -/
theorem State.get_writeLine (s : State) (a : Nat) (b : List Byte) : get (s.writeLine a b) = get s := by
  have hplace := State.get_placeLine get hmem hctxs hcores hdrams s a b
  unfold State.writeLine
  dsimp only
  split
  · rw [apply_ite get, State.get_intervene get hctxs hledger, hplace, ite_self]
  · exact hplace

end

section
variable (s : State) (m n : Nat) (r : Reply)

/-- An answer changes the mailbox alone. -/
theorem State.get_respond {β : Type} (get : State → β) (h : ∀ u b, get { u with mbox := b } = get u) :
    get (s.respond m n r) = get s := by
  unfold State.respond State.message
  split
  · exact (h _ _).trans (h _ _)
  · exact (h _ _).trans (h _ _)

@[simp] theorem State.respond_ctx (x : Nat) : (s.respond m n r).ctx x = s.ctx x :=
  State.get_respond s m n r (State.ctx · x) (fun _ _ => rfl)

end

/-! ### The service of a row, at the state it starts from -/

section
variable {s : State} {m : Nat} {q : Cmd} {k : CmdSpec} {i : Instr} {body : State → State × Reply}

/-- A served row that writes no memory, whose effect leaves its slot's agent and path (13 R353, R362). -/
theorem Serves.answersQuiet (f : State → State × Reply) (h : Serves s m q k)
    (hi : exec i s = Machine.quiet s (s.serve m q k body)) (hf : body (s.entered m q k.op) = f (s.entered m q k.op))
    (hagent : ((f (s.entered m q k.op)).1.slot m).agent = ((s.entered m q k.op).slot m).agent)
    (hbound : ((f (s.entered m q k.op)).1.slot m).bound = ((s.entered m q k.op).slot m).bound)
    (hpending : (f (s.entered m q k.op)).1.pending = s.pending) (hmem : (f (s.entered m q k.op)).1.mem = s.mem) :
    Completes i s (Answered s m q k.op f) := by
  rw [← hf] at hagent hbound hpending hmem
  refine ⟨_, hi.trans (h.quiet body hagent hbound hpending hmem), ?_⟩
  rw [Answered, hf]

/-- A served row whose effect leaves its slot's agent and path, and the queue. -/
theorem Serves.answersDone (f : State → State × Reply) (h : Serves s m q k)
    (hi : exec i s = Machine.done s (s.serve m q k body)) (hf : body (s.entered m q k.op) = f (s.entered m q k.op))
    (hagent : ((f (s.entered m q k.op)).1.slot m).agent = ((s.entered m q k.op).slot m).agent)
    (hbound : ((f (s.entered m q k.op)).1.slot m).bound = ((s.entered m q k.op).slot m).bound)
    (hpending : (f (s.entered m q k.op)).1.pending = s.pending) : Completes i s (Answered s m q k.op f) := by
  rw [← hf] at hagent hbound hpending
  refine ⟨_, hi.trans (congrArg (Machine.done s) (h.serve body hagent hbound) |>.trans (done_eq ?_)), ?_⟩
  · rw [State.respond_pending, hpending]
  · rw [Answered, hf]

/-- A served row of those that may write memory that only answers. -/
theorem Serves.repliesDone (r : State → Reply) (h : Serves s m q k) (hi : exec i s = Machine.done s (s.serve m q k body))
    (hbody : body (s.entered m q k.op) = (s.entered m q k.op, r (s.entered m q k.op))) :
    Completes i s (Answered s m q k.op (fun u => (u, r u))) :=
  h.answersDone _ hi hbody rfl rfl (State.entered_pending ..)

/-- The gate has seen that the payload's length is one the command takes (13 R365). -/
theorem Serves.len (h : Serves s m q k) : k.len q.payload.length = true := by
  refine Classical.byContradiction fun hlong => ?_
  have hlen : k.len q.payload.length = false := by simpa using hlong
  have hgate := h.gate
  simp only [State.gate, hlen, Bool.not_false, if_true] at hgate
  repeat' split at hgate
  all_goals exact absurd hgate (by decide)

/-- The slot of a command at the start of its service: its bytes stand, and no answer (13 R350). -/
theorem State.entered_slot (s : State) (m : Nat) (q : Cmd) (op : Nat) : (s.entered m q op).slot m =
    { s.slot m with command := cmdBytes q op, posted := false, respValid := false, assembling := none } := by
  have hrenew (u : State) : (u.renew m).slot m = u.slot m := by
    unfold State.renew
    split <;> rfl
  rw [State.entered, hrenew, State.slot_modSlot_self, State.post, State.slot_modSlot_self]

@[simp] theorem State.entered_messages (s : State) (m : Nat) (q : Cmd) (op : Nat) :
    (s.entered m q op).mbox.messages = s.mbox.messages := by
  unfold State.entered State.renew
  split <;> rfl

end

/-! ### Reads -/

section
variable {s : State} {m : Nat} {q : Cmd}

/-- MEM_READ in a free slot comes to its own service. -/
theorem Serves.exec_memRead (h : Serves s m q memReadSpec) :
    exec (.memRead m q) s = Machine.quiet s ((s.entered m q 0x50).memReadServe m q) := by
  have hentered : (((s.post m (cmdBytes q 0x50)).modSlot m (fun v => { v with posted := false })).mboxTimers).renew m =
      s.entered m q 0x50 := by
    rw [State.mboxTimers_idle (by exact h.lease) (by exact h.election)]
    rfl
  have hserved : (s.post m (cmdBytes q 0x50)).servesSlot m = true := by rw [State.servesSlot_post]; exact h.served
  unfold exec execMemRead
  simp only [h.runs, Nat.not_le.mpr h.slot, h.free, hserved, hentered, Bool.not_true, decide_false, Bool.or_false,
    Bool.false_eq_true, if_false]

/-- ARG as address and byte count. -/
theorem readSpan_arg (q : Cmd) : readSpan q.arg.toNat = (q.arg.toNat % 2 ^ 48, q.arg.toNat / 2 ^ 48) := by
  have := q.arg.isLt
  simp only [readSpan, fld, Nat.shiftRight_eq_div_pow, Nat.pow_zero, Nat.div_one]
  refine Prod.ext rfl ?_
  dsimp only
  omega

/-- What MEM_READ does once the gate accepts it (02 R55; 13 R354). -/
theorem Serves.memReadServe (h : Serves s m q memReadSpec) : (s.entered m q 0x50).memReadServe m q =
    let u := s.entered m q 0x50
    let a := q.arg.toNat % 2 ^ 48
    let n := q.arg.toNat / 2 ^ 48
    if n = 0 ∨ 4080 < n then u.respond m q.seq { status := stBadArg }
    else if u.spanCheck a n ≠ stOK then u.respond m q.seq { status := u.spanCheck a n }
    else if u.readable a n = true then u.respond m q.seq { payload := u.readBytes a n }
    else u.modSlot m (fun v => { v with inService := true, parked := some u.now }) := by
  unfold State.memReadServe
  simp only [State.gate_entered, h.gate, readSpan_arg, ne_eq, not_true_eq_false, if_false, Bool.or_eq_true, decide_eq_true_eq]

/-- MEM_READ that is answered at once. -/
theorem Serves.memRead_answers (h : Serves s m q memReadSpec) (r : State → Reply)
    (hr : (s.entered m q 0x50).memReadServe m q = (s.entered m q 0x50).respond m q.seq (r (s.entered m q 0x50))) :
    Completes (.memRead m q) s (Answered s m q 0x50 (fun u => (u, r u))) := by
  refine ⟨_, ?_, rfl⟩
  rw [h.exec_memRead, hr]
  exact quiet_eq (by simp) (by simp)

end

/-- A parked read is answered where its owners stand, and waits elsewhere (13 R354). -/
theorem exec_parkedReadServed (s : State) (m : Nat) : exec (.parkedReadServed m) s =
    let p := readSpan (leAt (s.slot m).command 8 8)
    .next (if s.mcRuns && (s.slot m).parked.isSome && s.readable p.1 p.2 then
      s.respond m (leAt (s.slot m).command 2 1) { payload := s.readBytes p.1 p.2 } else s) := by
  refine quiet_eq ?_ ?_ <;> split <;> simp

/-- A parked read ends after 100 ms (13 R354). -/
theorem exec_parkedReadTimeout (s : State) (m t : Nat) : exec (.parkedReadTimeout m t) s =
    .next (match (s.slot m).parked with
    | some k => if k + 100000000 ≤ (s.atTick t).now then
        (s.atTick t).respond m (leAt (s.slot m).command 2 1) { status := stContextRunning } else s.atTick t
    | none => s.atTick t) := by
  refine quiet_eq ?_ ?_ <;> split <;> try split
  all_goals simp [State.atTick]

/-! ### Writes -/

/-- What IMEM_OVERRIDE leaves: the bundle in the bank its core fetches from, every other byte, and an intervention of its
context (03 R94). -/
theorem Serves.imemOverride {s : State} {m : Nat} {q : Cmd} (hx : (s.ctx q.ctx).phase ≠ .free)
    (hp : argFld q 0 11 < (s.ctx q.ctx).ncores) (hheld : (s.ctx q.ctx).held = true)
    (h : Serves s m q { op := 0x58, who := .owner, ctx := true, arg := 0x03FF07FF, len := fun n => n = 64 }) :
    Completes (.imemOverride m q) s (Answered s m q 0x58 (fun u =>
      okay (({ u with mem := Memory.write u.mem (imemAddr ((s.ctx q.ctx).logical (argFld q 0 11))
        (s.coreAt ((s.ctx q.ctx).logical (argFld q 0 11))).seq.bank (argFld q 16 10)) q.payload } : State).intervene
          q.ctx 3 (argFld q 0 11) [(40, bytesOf 2 (argFld q 16 10)), (64, q.payload)]))) := by
  refine h.answersDone _ rfl ?_ ?_ ?_ ?_
  · simp only [State.needCtx_entered hx, State.entered_ctx, State.entered_coreAt,
      Nat.not_le.mpr hp, hheld, Bool.not_true, Bool.false_eq_true, if_false]
  · exact congrArg Slot.agent (State.intervene_slot ..)
  · exact congrArg Slot.bound (State.intervene_slot ..)
  · exact (State.intervene_pending ..).trans (State.entered_pending ..)

/-- Settles O35. -/
theorem memoryOverTheMailbox : Obligations.MemoryOverTheMailbox := by
  refine ⟨fun s m t k q => ?_, fun s m q => ⟨?_, fun hx hp h => ⟨fun hheld => ?free, fun hheld => ?held⟩⟩⟩
  · intro a n p l
    refine ⟨fun h => ⟨fun hn => ?bad, fun h0 hn hst => ?check, fun h0 hn hst hr => ?now, fun h0 hn hst hr => ?parked⟩,
      fun hnone => ⟨?_, ?_⟩, fun hk => ⟨fun hr => ?waits, fun hruns hr => ?served, fun hlate => ?late, fun hearly => ?early⟩⟩
    case bad => exact h.memRead_answers _ (h.memReadServe.trans (if_pos hn))
    case check =>
      have hsize : ¬ (n = 0 ∨ 4080 < n) := by omega
      exact h.memRead_answers _ (h.memReadServe.trans ((if_neg hsize).trans (if_pos hst)))
    case now =>
      have hsize : ¬ (n = 0 ∨ 4080 < n) := by omega
      exact h.memRead_answers _ (h.memReadServe.trans ((if_neg hsize).trans ((if_neg (not_not_intro hst)).trans (if_pos hr))))
    case parked =>
      have hsize : ¬ (n = 0 ∨ 4080 < n) := by omega
      have hserve := h.memReadServe.trans ((if_neg hsize).trans ((if_neg (not_not_intro hst)).trans
        (if_neg (by rw [hr]; decide))))
      refine ⟨_, h.exec_memRead.trans ((congrArg (quiet s) hserve).trans
        (quiet_eq (State.entered_pending ..) (State.entered_mem ..))), ?_⟩
      dsimp only
      rw [State.slot_modSlot_self, State.entered_slot, State.entered_now]
      exact ⟨rfl, rfl, rfl, State.entered_messages ..⟩
    · exact ⟨_, exec_parkedReadServed s m, if_neg (by simp [hnone])⟩
    · exact ⟨_, exec_parkedReadTimeout s m t, by simp only [hnone]⟩
    case waits => exact ⟨_, exec_parkedReadServed s m, if_neg (by simp [p, l] at hr; simp [hr])⟩
    case served => exact ⟨_, exec_parkedReadServed s m, if_pos (by simp only [hruns, hk]; exact hr)⟩
    case late => exact ⟨_, exec_parkedReadTimeout s m t, by simp only [hk, hlate, if_true]⟩
    case early => exact ⟨_, exec_parkedReadTimeout s m t, by simp only [hk, Nat.not_le.mpr hearly, if_false]⟩
  · intro u a h
    refine ⟨fun hst => ?_, fun hst hwr => ?_, fun hst hwr hunit => ?_, fun hst hwr hunit => ?_⟩
    · exact h.repliesDone _ rfl (if_pos hst)
    · exact h.repliesDone _ rfl ((if_neg (not_not_intro hst)).trans (if_pos hwr))
    · exact h.repliesDone _ rfl ((if_neg (not_not_intro hst)).trans ((if_neg (not_not_intro hwr)).trans (if_pos hunit)))
    · have hkeeps {β : Type} (get : State → β) (hmem : ∀ (u : State) v, get { u with mem := v } = get u)
          (hctxs : ∀ (u : State) v, get { u with ctxs := v } = get u) (hcores : ∀ (u : State) v, get { u with cores := v } = get u)
          (hdrams : ∀ (u : State) v, get { u with drams := v } = get u)
          (hledger : ∀ (u : State) v, get { u with ledger := v } = get u) (v : State) :
          get ((List.range (q.payload.length / 64)).foldl (fun v i =>
            v.writeLine (a + 64 * i) ((q.payload.drop (64 * i)).take 64)) v) = get v :=
        foldl_get_same (get := get) (fun _ _ _ => State.get_writeLine get hmem hctxs hcores hdrams hledger _ _ _) v
      have hslot := hkeeps (State.slot · m) (fun _ _ => rfl) (fun _ _ => rfl) (fun _ _ => rfl) (fun _ _ => rfl) (fun _ _ => rfl) u
      refine h.answersDone _ rfl ((if_neg (not_not_intro hst)).trans ((if_neg (not_not_intro hwr)).trans (if_neg hunit)))
        (congrArg Slot.agent hslot) (congrArg Slot.bound hslot) ?_
      exact (hkeeps State.pending (fun _ _ => rfl) (fun _ _ => rfl) (fun _ _ => rfl) (fun _ _ => rfl) (fun _ _ => rfl) u).trans
        (State.entered_pending ..)
  case free =>
    exact h.repliesDone _ rfl (by
      simp only [State.needCtx_entered hx, State.entered_ctx, Nat.not_le.mpr hp,
        hheld, Bool.not_false, if_false, if_true]
      rfl)
  case held =>
    have hlen : q.payload.length = 64 := by simpa using h.len
    refine (Serves.imemOverride hx hp hheld h).mono (fun t ht => ?_)
    intro l at_
    have hmem : t.mem = Memory.write s.mem at_ q.payload := by
      rw [ht, State.respond_mem]
      exact (State.intervene_mem ..).trans (congrArg (Memory.write · at_ q.payload) (State.entered_mem ..))
    obtain ⟨hflag, hcount⟩ := State.intervene_ctx { s.entered m q 0x58 with mem := Memory.write (s.entered m q 0x58).mem at_ q.payload }
      q.ctx 3 (argFld q 0 11) [(40, bytesOf 2 (argFld q 16 10)), (64, q.payload)]
    have hctx : t.ctx q.ctx = _ := (congrArg (State.ctx · q.ctx) ht).trans (State.respond_ctx ..)
    refine ⟨by rw [hctx]; exact hflag, by rw [hctx]; exact hcount.trans (congrArg (·.interventions + 1) (State.entered_ctx ..)), fun i hi => ?_, fun b hb => ?_⟩
    · rw [hmem, Memory.byte_write_self _ _ _ i (by rw [hlen]; exact hi)]
      simp [hlen, hi]
    · rw [hmem]
      exact Memory.byte_write_other _ _ _ _ (by rw [hlen]; exact hb)

end Sys2Proof.Machine
end

section
/-! Deferred commands (13 R355): how one is accepted, what it changes, and how the one just accepted ends; then the
obligation O36. -/
namespace Sys2Proof.Machine
open Sys2Proof

/-! ### Acceptance of a deferred command -/

/-- A change of a slot that keeps what is read of it. -/
theorem State.get_modSlot {β : Type} (p : Slot → β) {f : Slot → Slot} (hf : ∀ v, p (f v) = p v) (s : State) (n m : Nat) :
    p ((s.modSlot n f).slot m) = p (s.slot m) := by
  by_cases h : m = n
  · rw [h, State.slot_modSlot_self, hf]
  · simp [State.modSlot, State.setSlot, State.slot, Tab.get_set_other _ _ _ h]

section
variable (s : State) (m : Nat) (q : Cmd) (op key aux : Nat) (data : List Byte)

/-- A command deferred changes the mailbox alone. -/
theorem State.get_defer {β : Type} (get : State → β) (h : ∀ u b, get { u with mbox := b } = get u) :
    get (s.defer m q op key aux data).1 = get s := (h _ _).trans ((h _ _).trans (h _ _))

theorem State.defer_ticket : (s.defer m q op key aux data).2 = s.mbox.tickets + 1 := rfl

/-- The record of what a deferred command waits for. -/
def State.deferral : Deferred :=
  { ticket := s.mbox.tickets + 1, slot := m, ctx := if q.ctxValid then some q.ctx else none, opcode := op, key, aux, data,
    started := s.now }

theorem State.defer_deferred : (s.defer m q op key aux data).1.mbox.deferred =
    s.mbox.deferred ++ [s.deferral m q op key aux data] := rfl

theorem State.defer_slot {β : Type} (p : Slot → β) (hp : ∀ v : Slot, p { v with outstanding := v.outstanding + 1 } = p v)
    (n : Nat) : p ((s.defer m q op key aux data).1.slot n) = p (s.slot n) :=
  State.get_modSlot (f := fun v => { v with outstanding := v.outstanding + 1 }) p hp _ m n

/-- Room for deferred commands is as before the service. -/
@[simp] theorem State.entered_cmdRoom (n x : Nat) : (s.entered n q op).cmdRoom x = s.cmdRoom x := by
  unfold State.entered State.renew
  split <;> rfl

/-- A command that the context has room for is deferred (13 R355, R374). -/
theorem Roomy.accept {s : State} {q : Cmd} (h : Roomy s q) (m op key aux : Nat) (data : List Byte)
    (go : State → Nat → State) : (s.entered m q op).accept m q op key aux data go =
      Defers m q op key aux data go (s.entered m q op) := by
  have hroom : (q.ctxValid && !(s.entered m q op).cmdRoom q.ctx) = false := by
    rw [State.entered_cmdRoom]
    cases hv : q.ctxValid with
    | false => rfl
    | true => rw [h.room hv]; rfl
  rw [State.accept, hroom]
  rfl

end

/-! ### The end of the command just deferred -/

section
variable {s : State} {m : Nat} {q : Cmd} {op key aux : Nat} {data : List Byte}

/-- The record of a ticket that no other command has is the one found. -/
theorem find_deferral (h : ∀ d ∈ s.mbox.deferred, d.ticket ≠ s.mbox.tickets + 1) :
    (s.mbox.deferred ++ [s.deferral m q op key aux data]).find? (fun d => d.ticket = s.mbox.tickets + 1) =
      some (s.deferral m q op key aux data) := by
  rw [List.find?_append, List.find?_eq_none.mpr (fun d hd => by simpa using h d hd)]
  simp [State.deferral]

/-- The end of the command just deferred takes it off the list and raises its event (13 R355). -/
theorem State.finish_deferred {u : State} (hd : u.mbox.deferred = s.mbox.deferred ++ [s.deferral m q op key aux data])
    (h : ∀ d ∈ s.mbox.deferred, d.ticket ≠ s.mbox.tickets + 1) (st detail : Nat) :
    (u.finish (s.mbox.tickets + 1) st detail).mbox.deferred = s.mbox.deferred ∧
    (u.finish (s.mbox.tickets + 1) st detail).events.nextSeq = u.events.nextSeq + 1 := by
  have hnew : s.deferral m q op key aux data ∉ s.mbox.deferred := fun hin => h _ hin rfl
  have hfind := find_deferral (m := m) (q := q) (op := op) (key := key) (aux := aux) (data := data) h
  rw [← hd] at hfind
  unfold State.finish
  rw [hfind]
  refine ⟨?_, rfl⟩
  change u.mbox.deferred.erase _ = _
  rw [hd, List.erase_append_right _ hnew]
  simp

/-- What neither the mailbox nor the events change, the end of a command leaves. -/
theorem State.get_finish {β : Type} (get : State → β) (hmbox : ∀ (u : State) b, get { u with mbox := b } = get u)
    (hevents : ∀ (u : State) e, get { u with events := e } = get u) (u : State) (ticket st detail : Nat) :
    get (u.finish ticket st detail) = get u := by
  unfold State.finish
  split
  · rfl
  · exact (hmbox _ _).trans ((hevents _ _).trans ((hmbox _ _).trans (hmbox _ _)))

/-- A slot keeps all but its count of outstanding commands as one ends. -/
theorem State.finish_slot {β : Type} (p : Slot → β) (hp : ∀ (v : Slot) n, p { v with outstanding := n } = p v)
    (u : State) (ticket st detail n : Nat) : p ((u.finish ticket st detail).slot n) = p (u.slot n) := by
  unfold State.finish
  split
  · rfl
  next d _ => exact State.get_modSlot (f := fun v => { v with outstanding := v.outstanding - 1 }) p (fun v => hp v _) _ d.slot n

end

/-! ### What a served row leaves -/

section
variable {s : State} {m : Nat} {q : Cmd} {k : CmdSpec} {i : Instr} {body : State → State × Reply}

/-- A served row that leaves its slot's agent and path: its effect, its answer, and the queue and memory as before. -/
theorem Serves.leaves (h : Serves s m q k) (hi : exec i s = Machine.quiet s (s.serve m q k body)) {u : State} {r : Reply}
    (hbody : body (s.entered m q k.op) = (u, r)) (hagent : (u.slot m).agent = ((s.entered m q k.op).slot m).agent)
    (hbound : (u.slot m).bound = ((s.entered m q k.op).slot m).bound) :
    Completes i s (fun t => t = { u.respond m q.seq r with pending := s.pending, mem := s.mem }) := by
  have hserve := h.serve body (by rw [hbody, hagent]) (by rw [hbody, hbound])
  rw [hbody] at hserve
  exact ⟨_, hi.trans (congrArg (Machine.quiet s) hserve), rfl⟩

/-- A served row of those that may write memory. -/
theorem Serves.leavesDone (h : Serves s m q k) (hi : exec i s = Machine.done s (s.serve m q k body)) {u : State} {r : Reply}
    (hbody : body (s.entered m q k.op) = (u, r)) (hagent : (u.slot m).agent = ((s.entered m q k.op).slot m).agent)
    (hbound : (u.slot m).bound = ((s.entered m q k.op).slot m).bound) :
    Completes i s (fun t => t = { u.respond m q.seq r with pending := s.pending }) := by
  have hserve := h.serve body (by rw [hbody, hagent]) (by rw [hbody, hbound])
  rw [hbody] at hserve
  exact ⟨_, hi.trans (congrArg (Machine.done s) hserve), rfl⟩

end

/-- What an answer leaves of the mailbox beside the slot and its path. -/
@[simp] theorem State.respond_deferred (s : State) (m n : Nat) (r : Reply) :
    (s.respond m n r).mbox.deferred = s.mbox.deferred := by
  unfold State.respond State.message
  split <;> rfl
@[simp] theorem State.respond_core (s : State) (m n : Nat) (r : Reply) (c : CoreRef) : (s.respond m n r).core c = s.core c :=
  State.get_respond s m n r (State.core · c) (fun _ _ => rfl)

/-! ### Debugging -/

/-- A debug hold is in place where the context stands or does not run (01 R34). -/
theorem Ctx.debugHeld_iff (x : Ctx) (h : x.holds.debug = true) : x.debugHeld = true ↔ x.frozen = true ∨ x.active = false := by
  simp [Ctx.debugHeld, h]

/-- The state that DEBUG_HOLD asks for the hold in: its command deferred, the hold set. -/
def State.askHold (s : State) (m : Nat) (q : Cmd) : State :=
  ((s.entered m q 0x52).defer m q 0x52 q.ctx 0 []).1.modCtx q.ctx (fun c => { c with holds := { c.holds with debug := true } })

section
variable (s : State) (m : Nat) (q : Cmd)

theorem State.askHold_ctx : (s.askHold m q).ctx q.ctx =
    { s.ctx q.ctx with holds := { (s.ctx q.ctx).holds with debug := true } } := by
  rw [State.askHold, State.ctx_modCtx_self, State.get_defer _ _ _ _ _ _ _ (State.ctx · q.ctx) (fun _ _ => rfl),
    State.entered_ctx]

theorem State.askHold_deferred : (s.askHold m q).mbox.deferred =
    (s.entered m q 0x52).mbox.deferred ++ [(s.entered m q 0x52).deferral m q 0x52 q.ctx 0 []] := rfl

theorem State.askHold_slot {β : Type} (p : Slot → β) (hp : ∀ v : Slot, p { v with outstanding := v.outstanding + 1 } = p v) :
    p ((s.askHold m q).slot m) = p ((s.entered m q 0x52).slot m) :=
  State.defer_slot (s.entered m q 0x52) m q 0x52 q.ctx 0 [] p hp m

end

/-- DEBUG_HOLD asks for the hold, and is done at once where the hold is in place (01 R34). -/
theorem Serves.debugHold {s : State} {m : Nat} {q : Cmd} (hx : (s.ctx q.ctx).phase ≠ .free) (hroom : Roomy s q)
    (h : Serves s m q { op := 0x52, who := .owner, ctx := true }) :
    Completes (.debugHold m q) s (fun t => t = { (if ((s.askHold m q).ctx q.ctx).debugHeld
      then (s.askHold m q).finish (s.mbox.tickets + 1) stOK 0 else s.askHold m q).respond m q.seq
        { status := stAccepted, ticket := s.mbox.tickets + 1 } with pending := s.pending, mem := s.mem }) := by
  have hticket : ((s.entered m q 0x52).defer m q 0x52 q.ctx 0 []).2 = s.mbox.tickets + 1 := by
    rw [State.defer_ticket, State.entered_tickets]
  have hslot {β : Type} (p : Slot → β) (hp : ∀ (v : Slot) n, p { v with outstanding := n } = p v) :
      p ((if ((s.askHold m q).ctx q.ctx).debugHeld then (s.askHold m q).finish (s.mbox.tickets + 1) stOK 0
        else s.askHold m q).slot m) = p ((s.entered m q 0x52).slot m) := by
    rw [apply_ite (fun u : State => p (u.slot m)), State.finish_slot p hp, ite_self]
    exact State.askHold_slot s m q p (fun v => hp v _)
  refine h.leaves rfl ?_ ?_ ?_
  · rw [State.needCtx_entered hx, hroom.accept, Defers, hticket]
    rfl
  · exact hslot Slot.agent (fun _ _ => rfl)
  · exact hslot Slot.bound (fun _ _ => rfl)

/-- Every deferred command of an opcode and key ends; what neither the mailbox nor the events change stays. -/
theorem State.get_finishAll {β : Type} (get : State → β) (hmbox : ∀ (u : State) b, get { u with mbox := b } = get u)
    (hevents : ∀ (u : State) e, get { u with events := e } = get u) (u : State) (op key st detail : Nat) :
    get (u.finishAll op key st detail) = get u :=
  foldl_get_same (get := get) (fun _ _ _ => State.get_finish get hmbox hevents ..) u

theorem State.finishAll_slot {β : Type} (p : Slot → β) (hp : ∀ (v : Slot) n, p { v with outstanding := n } = p v) (u : State)
    (op key st detail n : Nat) : p ((u.finishAll op key st detail).slot n) = p (u.slot n) :=
  foldl_get_same (get := fun v : State => p (v.slot n)) (fun _ _ _ => State.finish_slot p hp ..) u

/-- DEBUG_RELEASE gives the hold up; away from its boundary the context goes no further by it (13 R363). -/
theorem Serves.debugRelease {s : State} {m : Nat} {q : Cmd} (hx : (s.ctx q.ctx).phase ≠ .free)
    (h : Serves s m q { op := 0x53, who := .owner, ctx := true }) (hitem : (s.ctx q.ctx).item = 0) :
    Completes (.debugRelease m q) s (fun t =>
      t.ctx q.ctx = { s.ctx q.ctx with holds := { (s.ctx q.ctx).holds with debug := false } } ∧
      (t.slot m).response = ({} : Reply).bytes q.seq) := by
  have hctx : (((s.entered m q 0x53).modCtx q.ctx (fun c => { c with holds := { c.holds with debug := false } })).finishAll
      0x52 q.ctx stNotHeld 0).ctx q.ctx = { s.ctx q.ctx with holds := { (s.ctx q.ctx).holds with debug := false } } := by
    rw [State.get_finishAll (State.ctx · q.ctx) (fun _ _ => rfl) (fun _ _ => rfl), State.ctx_modCtx_self, State.entered_ctx]
  have hslot {β : Type} (p : Slot → β) (hp : ∀ (v : Slot) n, p { v with outstanding := n } = p v) :=
    State.finishAll_slot p hp ((s.entered m q 0x53).modCtx q.ctx (fun c => { c with holds := { c.holds with debug := false } }))
      0x52 q.ctx stNotHeld 0 m
  refine (h.leavesDone rfl ((State.needCtx_entered hx _ _).trans
    (congrArg okay (if_pos (by rw [hctx]; exact hitem)))) ?_ ?_).mono (fun t ht => ?_)
  · exact hslot Slot.agent (fun _ _ => rfl)
  · exact hslot Slot.bound (fun _ _ => rfl)
  · rw [ht]
    exact ⟨(State.respond_ctx ..).trans hctx, (State.respond_slot ..).1⟩

/-- What an intervention leaves of a core. -/
@[simp] theorem State.intervene_core (s : State) (x kind p : Nat) (pl : List (Nat × List Byte)) (c : CoreRef) :
    (s.intervene x kind p pl).core c = s.core c := by
  have hsites : ((s.intervene x kind p pl).ctx c.ctx).sites = (s.ctx c.ctx).sites := by
    have hhalo (u : State) (y : Nat) (f : Halo → Halo) :
        ((u.modCtx y (fun c => { c with halo := f c.halo })).ctx c.ctx).sites = (u.ctx c.ctx).sites :=
      State.get_modCtx Ctx.sites (f := fun c => { c with halo := f c.halo }) (fun _ => rfl) u y c.ctx
    unfold State.intervene
    refine (State.get_modCtx Ctx.sites (f := fun c => { c.flag fIntervened with interventions := c.interventions + 1 })
      (fun _ => rfl) _ x c.ctx).trans ((State.get_mirror (fun u => (u.ctx c.ctx).sites) hhalo _ x _).trans ?_)
    exact State.get_logEntry (fun u => (u.ctx c.ctx).sites) hhalo (fun _ _ => rfl) s kind x _ _ p pl
  rw [State.core, logical_of_sites hsites, State.intervene_coreAt]
  rfl

/-- What SEM_SET leaves where its context stands or is held (10 R271). -/
theorem Serves.semSet {s : State} {m : Nat} {q : Cmd} (hx : (s.ctx q.ctx).phase ≠ .free)
    (h : Serves s m q { op := 0x55, who := .owner, ctx := true, arg := 0x7FFFFFFF003F07FF })
    (hp : argFld q 0 11 < (s.ctx q.ctx).ncores) (hn : argFld q 16 6 < 48)
    (hstands : ((s.ctx q.ctx).active = true ∧ (s.ctx q.ctx).frozen = true) ∨ (s.ctx q.ctx).held = true) :
    Completes (.semSet m q) s (Answered s m q 0x55 (fun u => okay ((u.modCoreOf q.ctx (argFld q 0 11) (fun k =>
      { k with sems := k.sems.modify {} (argFld q 16 6) (fun e => { e with value := argFld q 32 31 }) })).intervene q.ctx 2
        (argFld q 0 11) [(40, bytesOf 1 (argFld q 16 6)), (44, bytesOf 4 (argFld q 32 31)), (48, bytesOf 1 m)]))) := by
  have hbad : (decide ((s.ctx q.ctx).ncores ≤ argFld q 0 11) || decide (48 ≤ argFld q 16 6)) = false := by
    simp [Nat.not_le.mpr hp, Nat.not_le.mpr hn]
  have hstand : (!((s.ctx q.ctx).active && (s.ctx q.ctx).frozen) && !(s.ctx q.ctx).held) = false := by
    rcases hstands with ⟨ha, hf⟩ | hh
    · simp [ha, hf]
    · simp [hh]
  refine h.answersQuiet _ rfl ?_ ?_ ?_ ?_ ?_
  · simp only [State.needCtx_entered hx, State.entered_ctx, hbad, hstand, Bool.false_eq_true, if_false]
  · exact congrArg Slot.agent (State.intervene_slot ..)
  · exact congrArg Slot.bound (State.intervene_slot ..)
  · exact (State.intervene_pending ..).trans (State.entered_pending ..)
  · exact (State.intervene_mem ..).trans (State.entered_mem ..)

/-- Settles O36. -/
theorem debugCommands : Obligations.DebugCommands := by
  intro s m q hx
  refine ⟨fun hroom h hnew => ?hold, fun h hitem => Serves.debugRelease hx h hitem, fun h => ?arm, fun h => ?disarm,
    fun h hp hn => ⟨fun hstands => ?moves, fun hstands => ?stands⟩⟩
  case hold =>
    have hdebug : ((s.askHold m q).ctx q.ctx).holds.debug = true := by rw [State.askHold_ctx]
    have hheld : ((s.askHold m q).ctx q.ctx).debugHeld = true ↔ (s.ctx q.ctx).frozen = true ∨ (s.ctx q.ctx).active = false := by
      rw [Ctx.debugHeld_iff _ hdebug, State.askHold_ctx]
      exact Iff.rfl
    obtain ⟨hdone, hevent⟩ := State.finish_deferred (State.askHold_deferred s m q) (by simpa using hnew) stOK 0
    rw [State.entered_tickets, State.entered_deferred] at hdone
    rw [State.entered_tickets] at hevent
    have hevents : (s.askHold m q).events = s.events := State.entered_events ..
    refine (Serves.debugHold hx hroom h).mono (fun t ht => ?_)
    subst ht
    refine ⟨?_, (State.respond_slot ..).1, fun hstands => ?_, fun hf ha => ?_⟩
    · refine (congrArg (fun c : Ctx => c.holds.debug) (State.respond_ctx ..)).trans ?_
      rw [apply_ite (fun u : State => (u.ctx q.ctx).holds.debug),
        State.get_finish (fun u => (u.ctx q.ctx).holds.debug) (fun _ _ => rfl) (fun _ _ => rfl), ite_self, hdebug]
    · rw [if_pos (hheld.mpr hstands)]
      exact ⟨(State.respond_deferred ..).trans hdone,
        (congrArg EventRing.nextSeq (State.respond_events ..)).trans (by rw [hevent, hevents])⟩
    · rw [if_neg (fun hh => by rcases hheld.mp hh with h | h <;> simp [hf, ha] at h)]
      exact ⟨(State.respond_events ..).trans hevents, _,
        (State.respond_deferred ..).trans ((State.askHold_deferred s m q).trans (by rw [State.entered_deferred])), rfl, rfl⟩
  case arm =>
    refine h.answersQuiet _ rfl ?_ rfl rfl (State.entered_pending ..) (State.entered_mem ..)
    exact State.needCtx_entered (m := m) (q := withArg q 0 1 1) hx ..
  case disarm =>
    refine h.answersQuiet _ rfl ?_ rfl rfl (State.entered_pending ..) (State.entered_mem ..)
    exact State.needCtx_entered (m := m) (q := withArg q 0 1 0) hx ..
  case moves =>
    have hbad : (decide ((s.ctx q.ctx).ncores ≤ argFld q 0 11) || decide (48 ≤ argFld q 16 6)) = false := by
      simp [Nat.not_le.mpr hp, Nat.not_le.mpr hn]
    have hmoves : (!((s.ctx q.ctx).active && (s.ctx q.ctx).frozen) && !(s.ctx q.ctx).held) = true := by
      obtain ⟨hf, hh⟩ := not_or.mp hstands
      simp only [not_and, Bool.not_eq_true] at hf hh
      cases ha : (s.ctx q.ctx).active <;> simp_all
    exact h.replies _ rfl (by
      simp only [State.needCtx_entered hx, State.entered_ctx, hbad, hmoves, Bool.false_eq_true, if_false, if_true]
      rfl)
  case stands =>
    refine (Serves.semSet hx h hp hn hstands).mono (fun t ht => ?_)
    obtain ⟨hflag, hcount⟩ := State.intervene_ctx ((s.entered m q 0x55).modCoreOf q.ctx (argFld q 0 11) (fun k =>
      { k with sems := k.sems.modify {} (argFld q 16 6) (fun e => { e with value := argFld q 32 31 }) })) q.ctx 2
        (argFld q 0 11) [(40, bytesOf 1 (argFld q 16 6)), (44, bytesOf 4 (argFld q 32 31)), (48, bytesOf 1 m)]
    have hctx : t.ctx q.ctx = _ := (congrArg (State.ctx · q.ctx) ht).trans (State.respond_ctx ..)
    have hcore : t.core ⟨q.ctx, argFld q 0 11⟩ = _ :=
      (congrArg (State.core · ⟨q.ctx, argFld q 0 11⟩) ht).trans ((State.respond_core ..).trans (State.intervene_core ..))
    refine ⟨?_, by rw [hctx]; exact hflag,
      by rw [hctx]; exact hcount.trans (congrArg (·.interventions + 1) (State.entered_ctx ..))⟩
    rw [hcore, State.core_modCoreOf (c := ⟨q.ctx, argFld q 0 11⟩), State.entered_core]
    simp

end Sys2Proof.Machine
end

section
/-! The stall, deadline and wait monitors (10 R270; 08 R219-R221): the obligation O41. -/
namespace Sys2Proof.Machine
open Sys2Proof

section
variable {s : State} {x : Nat} {z : Freeze}

/-- A monitor that does not act leaves the state at its tick. -/
theorem completes_atTick {i : Instr} {u : State} {t0 : Nat} (hi : exec i s = quiet s u) (hu : u = s.atTick t0) :
    Completes i s (fun t => t = s.atTick t0) :=
  ⟨_, hi.trans ((congrArg (quiet s) hu).trans (quiet_eq rfl rfl)), rfl⟩

/-- A miss asks for abandonment where RT_ABANDON is set (08 R221). -/
theorem State.askAbandon_ctx (s : State) (x : Nat) : (s.askAbandon x).ctx x = { s.ctx x with rt :=
    { (s.ctx x).rt with abandon := (s.ctx x).rt.abandon || decide (s.setting 0x46 x = 1) } } := by
  unfold State.askAbandon
  split
  next h => simp [h]
  next h => simp [h]

/-- The stall monitor acts past its budget (10 R270). -/
theorem State.stallCheck_eq (hz : (s.ctx x).freeze = some z) (hs : z.settled = true) (hr : z.stallRaised = false)
    (hb : s.setting 0x42 x ≠ 0) : s.stallCheck x = if z.since + s.setting 0x42 x < s.now then
      (s.modCtx x (fun c => { c with stallReport := s.stallBytes x z, freeze := some { z with stallRaised := true } })).raise
        0x20 (some x) 0 (z.step % 2 ^ 48) else s := by
  simp [State.stallCheck, hz, hs, hr, hb]

/-- What a deadline miss leaves of its context, and that none acts before its deadline is past (08 R220, R221). -/
theorem State.deadlineCheck_ctx (ho : (s.ctx x).inOrbit = true) (h3 : s.setting 0x43 x = 1) (h4 : s.setting 0x44 x ≠ 0)
    (hr : (s.ctx x).rt.deadlineRaised = false) :
    ((s.ctx x).entryTick + s.setting 0x44 x < s.now → ((s.deadlineCheck x).ctx x).rt.deadlineRaised = true ∧
      ((s.deadlineCheck x).ctx x).flags.toNat.testBit fDeadlineMiss = true ∧
      ((s.deadlineCheck x).ctx x).rt.deadlineMisses = Nat.min 4294967295 ((s.ctx x).rt.deadlineMisses + 1) ∧
      ((s.deadlineCheck x).ctx x).rt.abandon = ((s.ctx x).rt.abandon || decide (s.setting 0x46 x = 1))) ∧
    (s.now ≤ (s.ctx x).entryTick + s.setting 0x44 x → s.deadlineCheck x = s) := by
  have hflag (c : Ctx) : (c.flag fDeadlineMiss).flags.toNat.testBit fDeadlineMiss = true :=
    Ctx.testBit_flag_self c (by decide)
  unfold State.deadlineCheck
  simp only [ho, h3, h4, hr, ne_eq, not_false_eq_true, decide_true, Bool.not_false, Bool.and_true, Bool.true_and,
    decide_eq_true_eq]
  refine ⟨fun hlate => ?_, fun hearly => if_neg (Nat.not_lt.mpr hearly)⟩
  rw [if_pos hlate, State.askAbandon_ctx, State.ctx_raise, State.ctx_modCtx_self]
  exact ⟨rfl, hflag _, rfl, rfl⟩

/-- What a wait miss leaves of its context, and that none acts before its budget is past (08 R219, R220). -/
theorem State.waitCheck_ctx (hz : (s.ctx x).freeze = some z) (ho : (s.ctx x).inOrbit = true) (hs : z.settled = true)
    (hr : z.waitRaised = false) (h3 : s.setting 0x43 x = 1) (hb : s.waitBudgetOf x ≠ 0) :
    (z.since + s.waitBudgetOf x < s.now → ((s.waitCheck x).ctx x).freeze = some { z with waitRaised := true } ∧
      ((s.waitCheck x).ctx x).flags.toNat.testBit fWaitMiss = true ∧
      ((s.waitCheck x).ctx x).rt.waitMisses = Nat.min 4294967295 ((s.ctx x).rt.waitMisses + 1)) ∧
    (s.now ≤ z.since + s.waitBudgetOf x → s.waitCheck x = s) := by
  have hflag (c : Ctx) : (c.flag fWaitMiss).flags.toNat.testBit fWaitMiss = true := Ctx.testBit_flag_self c (by decide)
  unfold State.waitCheck
  simp only [hz, ho, hs, hr, h3, hb, ne_eq, not_false_eq_true, decide_true, Bool.not_false, Bool.and_true, Bool.true_and,
    decide_eq_true_eq]
  refine ⟨fun hlate => ?_, fun hearly => if_neg (Nat.not_lt.mpr hearly)⟩
  rw [if_pos hlate, State.askAbandon_ctx]
  split
  · rw [State.ctx_modCtx_self]
    exact ⟨rfl, hflag _, rfl⟩
  · rw [State.ctx_raise, State.ctx_modCtx_self]
    exact ⟨rfl, hflag _, rfl⟩

end

/-- Settles O41. -/
theorem monitorsAct : Obligations.MonitorsAct := by
  intro s x t0 z u
  refine ⟨fun hz hs hr hb => ?stall, fun ho h3 h4 hr => ?deadline, fun hz ho hs hr h3 hb => ?wait, fun hz hs hn => ?abandon⟩
  case stall =>
    have heq := State.stallCheck_eq (s := u) (x := x) hz hs hr hb
    refine ⟨fun hlate => ⟨_, rfl, ?_⟩, fun hearly => completes_atTick rfl (heq.trans (if_neg (Nat.not_lt.mpr hearly)))⟩
    dsimp only
    rw [heq.trans (if_pos hlate)]
    have hctx := State.ctx_modCtx_self u x (fun c =>
      { c with stallReport := u.stallBytes x z, freeze := some { z with stallRaised := true } })
    exact ⟨congrArg Ctx.freeze hctx, congrArg Ctx.stallReport hctx, rfl⟩
  case deadline =>
    obtain ⟨hmiss, hidle⟩ := State.deadlineCheck_ctx (s := u) ho h3 h4 hr
    exact ⟨fun hlate => ⟨_, rfl, hmiss hlate⟩, fun hearly => completes_atTick rfl (hidle hearly)⟩
  case wait =>
    obtain ⟨hmiss, hidle⟩ := State.waitCheck_ctx (s := u) hz ho hs hr h3 hb
    exact ⟨fun hlate => ⟨_, rfl, hmiss hlate⟩, fun hearly => completes_atTick rfl (hidle hearly)⟩
  case abandon =>
    have hi : exec (.orbitAbandon x) s = .next (if (s.ctx x).rt.abandon = true then
        s.modCtx x (fun c => { c with freeze := some { z with abandon := true, fence := true } }) else s) := by
      simp [exec, execOrbitAbandon, hz, hs, hn]
    refine ⟨fun ha => ⟨_, hi.trans (congrArg _ (if_pos ha)), ?_⟩,
      fun ha => ⟨_, hi.trans (congrArg _ (if_neg (by rw [ha]; decide))), rfl⟩⟩
    dsimp only
    rw [State.ctx_modCtx_self]

end Sys2Proof.Machine
end

section
/-! What leaves on a bundle (12 R304-R312): the send operations change ports and bundles alone. Then time alignment between
modules (11 R295, R296; 12 R341): the obligation O44. -/
namespace Sys2Proof.Machine
open Sys2Proof

/-! ### What a flit that leaves changes -/

section
variable {β : Type} (get : State → β)
  (hsends : ∀ (u : State) p fseq ftype m beat, get (u.modPort p (fun q => q.sends fseq ftype m beat)) = get u)
  (hbundle : ∀ (u : State) b v, get (u.setBundle b v) = get u)
include hsends hbundle

theorem State.get_sendGroup (s : State) (p fseq ftype run : Nat) : get (s.sendGroup p fseq ftype run) = get s := by
  have hport (b : Nat) : get (s.modPort p (fun q => q.sends fseq ftype (s.mapFlit p (s.beatDue p) run)
      (if s.beatDue p then b else q.beat))) = get s := by
    cases s.beatDue p
    · have hown : s.modPort p (fun q => q.sends fseq ftype (s.mapFlit p false run) q.beat) =
          s.modPort p (fun q => q.sends fseq ftype (s.mapFlit p false run) (s.port p).beat) := rfl
      exact (congrArg get hown).trans (hsends ..)
    · exact hsends ..
  exact (hbundle _ _ _).trans (hport _)

/-- What neither the last group of a port nor a bundle's record changes, a flit that leaves keeps (12 R309-R312). -/
theorem State.get_pump (s : State) (b : Nat) : get (s.pump b) = get s := by
  have hnext (u : State) (p : Nat) (t : Tagged) : get (u.sendNext b p t) = get u := by
    have hgroup (v : Bundle) (fseq run : Nat) : get ((u.setBundle b v).sendGroup p fseq 0 run) = get u :=
      (State.get_sendGroup get hsends hbundle ..).trans (hbundle ..)
    have hfree (v : State) (o vl : Nat) : get (v.freeFlit o vl) = get v := hbundle ..
    unfold State.sendNext
    dsimp only
    split
    · rw [hfree, hgroup]
    · rw [hgroup]
  have hmany (n : Nat) (u : State) : get (State.pumpMany b n u) = get u := by
    induction n generalizing u with
    | zero => rfl
    | succ n ih =>
      unfold State.pumpMany
      split
      · rfl
      · exact (ih _).trans (hnext ..)
  exact hmany _ s

theorem State.get_queueFlit (s : State) (b : Nat) (t : Tagged) : get (s.queueFlit b t) = get s :=
  (State.get_pump get hsends hbundle _ b).trans (hbundle _ _ _)

theorem State.get_sendFlit (s : State) (p vl : Nat) (ctl : Bool) (tag : Nat) (f : Flit) :
    get (s.sendFlit p vl ctl tag f) = get s := State.get_queueFlit get hsends hbundle ..

theorem State.get_sendCtl (s : State) (p vl : Nat) (l : List (Nat × Nat × Nat)) : get (s.sendCtl p vl l) = get s :=
  State.get_sendFlit get hsends hbundle ..

end

section
variable (s : State) (p vl : Nat)

@[simp] theorem State.sendFlit_pending (ctl : Bool) (tag : Nat) (f : Flit) : (s.sendFlit p vl ctl tag f).pending = s.pending :=
  State.get_sendFlit State.pending (fun _ _ _ _ _ _ => rfl) (fun _ _ _ => rfl) ..
@[simp] theorem State.sendFlit_mem (ctl : Bool) (tag : Nat) (f : Flit) : (s.sendFlit p vl ctl tag f).mem = s.mem :=
  State.get_sendFlit State.mem (fun _ _ _ _ _ _ => rfl) (fun _ _ _ => rfl) ..
@[simp] theorem State.sendFlit_time (ctl : Bool) (tag : Nat) (f : Flit) : (s.sendFlit p vl ctl tag f).time = s.time :=
  State.get_sendFlit State.time (fun _ _ _ _ _ _ => rfl) (fun _ _ _ => rfl) ..

/-- A command that sends one flit from a state with the queue and memory of the one before. -/
theorem completes_sendFlit {i : Instr} {s u : State} {ctl : Bool} {tag : Nat} {f : Flit} {P : State → Prop}
    (hi : exec i s = quiet s (u.sendFlit p vl ctl tag f)) (hp : u.pending = s.pending) (hm : u.mem = s.mem)
    (hP : P (u.sendFlit p vl ctl tag f)) : Completes i s P :=
  ⟨_, hi.trans (quiet_eq (by simp [hp]) (by simp [hm])), hP⟩

end

/-! ### Time state -/

/-- A new time state, with its event, changes the time record by it alone (11 R296). -/
theorem State.timeState_time (s : State) (st : Nat) : (s.timeState st).time = { s.time with state := st } := by
  unfold State.timeState
  split
  next h => rw [← h]
  next => rfl

/-- HOLDOVER of a follower that has measured a parent (11 R296). -/
theorem State.holdover_time (s : State) : s.holdover.time =
    if s.time.state = 2 ∨ s.time.state = 3 then { s.time with good := 0, state := 4 } else s.time := by
  unfold State.holdover
  simp only [Bool.or_eq_true, decide_eq_true_eq]
  split
  · exact State.timeState_time ..
  · rfl

section
variable {s : State} {ps : Nat} {off : Int}

/-- An offset is loaded once, while no context exists and it exceeds 1 µs (11 R295). -/
def State.loads (s : State) (off : Int) : Prop :=
  s.time.loaded = false ∧ (∀ x, x < 16 → (s.ctx x).phase = .free) ∧ 1000000 < off.natAbs

theorem State.loads_iff (s : State) (off : Int) : ((List.range 16).all (fun x => decide ((s.ctx x).phase = .free)) &&
    decide (1000000 < off.natAbs) && !s.time.loaded) = true ↔ s.loads off := by
  simp only [State.loads, Bool.and_eq_true, List.all_eq_true, List.mem_range, decide_eq_true_eq, Bool.not_eq_true']
  exact ⟨fun ⟨⟨hfree, hfar⟩, hloaded⟩ => ⟨hloaded, hfree, hfar⟩, fun ⟨hloaded, hfree, hfar⟩ => ⟨⟨hfree, hfar⟩, hloaded⟩⟩

/-- A measured offset that is not loaded is slewed away (11 R296). -/
theorem State.measured_slews {t1 : Nat} (h : ¬ s.loads off) (ha : s.time.asked.map (fun a => a.2.1) = some t1) :
    (s.measured ps off).time = { s.time with
      offset := -off, lastSync := s.time.now, asked := none, askedAt := some t1
      good := if 250 < off.natAbs then 0 else if s.time.askedAt.map (· + 10000) = some t1 then s.time.good + 1 else 1
      state := if 8 ≤ (if 250 < off.natAbs then 0
        else if s.time.askedAt.map (· + 10000) = some t1 then s.time.good + 1 else 1) then 2 else 3 } := by
  have hspaced : (s.time.askedAt.isSome && decide (some t1 = s.time.askedAt.map (· + 10000))) =
      decide (s.time.askedAt.map (· + 10000) = some t1) := by
    cases s.time.askedAt with
    | none => simp
    | some n => simp [eq_comm]
  have hloads : ((List.range 16).all (fun x => decide ((s.ctx x).phase = .free)) &&
      decide (1000000 < off.natAbs) && !s.time.loaded) = false := by
    rw [Bool.eq_false_iff, ne_eq, State.loads_iff]
    exact h
  unfold State.measured
  dsimp only
  rw [ha, hspaced]
  simp only [decide_eq_true_eq]
  exact (congrArg State.time (if_neg (by rw [Bool.eq_false_iff] at hloads; exact hloads))).trans (State.timeState_time ..)

end


/-- The fields of the time record after an offset is slewed away. -/
theorem State.slewed_fields {t : State} {v : TimeBase} {off : Int} {back : Option Nat} {good : Nat}
    (h : t.time = { v with
      offset := -off, lastSync := v.now, asked := none, askedAt := back, good
      state := if 8 ≤ good then 2 else 3 }) :
    t.time.offset = -off ∧ t.time.asked = none ∧ t.time.askedAt = back ∧ t.time.lastSync = v.now ∧ t.time.good = good ∧
    t.time.state = if 8 ≤ t.time.good then 2 else 3 := by
  rw [h]
  exact ⟨rfl, rfl, rfl, rfl, rfl, rfl⟩

section
variable {s : State}

/-- A measured offset that is loaded sets the counter to this module's time with the offset (11 R295). -/
theorem State.measured_loads {ps : Nat} {off : Int} (h : s.loads off) :
    (s.measured ps off).time.loaded = true ∧ (s.measured ps off).time.state = 3 ∧ (s.measured ps off).time.good = 0 ∧
    (s.measured ps off).time.now = ((((1000 * s.now + ps : Nat) : Int) + off).toNat / 1000) % 2 ^ 64 := by
  have hm : s.measured ps off = _ := if_pos ((State.loads_iff s off).mpr h)
  rw [hm, State.timeState_time]
  exact ⟨rfl, rfl, rfl, rfl⟩

/-! ### The rows -/

theorem completes_relay {p t0 ps : Nat} {f : Flit} (h : flitAt f 56 3 ≠ s.code) {row : Instr}
    (hrow : row = .timeReq p f t0 ps ∨ row = .timeResp p f t0 ps) :
    exec row s = quiet s ((s.atTick t0).relayTime f) := by
  rcases hrow with rfl | rfl
  · exact congrArg (quiet s) (if_pos h)
  · exact congrArg (quiet s) (if_pos h)

/-- The parent notes that the asker takes its time from it, where its partner asks (log 68). -/
def State.notesAsker (s : State) (p src : Nat) : State :=
  if src = (s.port p).partner then s.modPort p (fun q => { q with asks := some s.now }) else s

theorem State.notesAsker_power (p src : Nat) : (s.notesAsker p src).power = s.power := by
  unfold State.notesAsker
  split <;> rfl

/-- The parent answers a request with the times of arrival and departure (12 R341). -/
theorem completes_answer {p t0 ps : Nat} {f : Flit} (h : flitAt f 56 3 = s.code) :
    Completes (.timeReq p f t0 ps) s (fun t =>
      let out := 1000 * t0 + ps + Config.residencePs s.power.draws
      let v := (s.atTick t0).notesAsker p (flitAt f 60 3)
      t = { v with power := { v.power with draws := v.power.draws + 1 } }.sendCtl p 2
        (timeFlit 8 (flitAt f 1 1) (flitAt f 8 8) (flitAt f 16 2) t0 ps (out / 1000) (out % 1000) (flitAt f 52 4)
          (flitAt f 60 3) s.code)) := by
  have hpend (u : State) (src : Nat) : (u.notesAsker p src).pending = u.pending ∧ (u.notesAsker p src).mem = u.mem := by
    unfold State.notesAsker
    split <;> exact ⟨rfl, rfl⟩
  have hdraws : Config.residencePs ((s.atTick t0).notesAsker p (flitAt f 60 3)).power.draws = Config.residencePs s.power.draws :=
    congrArg (fun q : Power => Config.residencePs q.draws) (State.notesAsker_power ..)
  rw [← hdraws]
  have hcode : ((s.atTick t0).notesAsker p (flitAt f 60 3)).code = s.code := by
    unfold State.notesAsker
    split <;> rfl
  rw [← hcode]
  refine completes_sendFlit p 2 (congrArg (quiet s) (if_neg (fun hne => hne h))) ?_ ?_ rfl
  · exact (hpend ..).1
  · exact (hpend ..).2

theorem State.measures {p t0 ps seq t1 ps1 : Nat} {f : Flit} (h : flitAt f 56 3 = s.code) (hrole : s.setting 0x03 0 ≠ 1)
    (hp : s.time.parent = some p) (ha : s.time.asked = some (seq, t1, ps1)) (hq : flitAt f 1 1 = seq) :
    exec (.timeResp p f t0 ps) s = quiet s ((s.atTick t0).measured ps
      (timeOffset ((1000 * t1 + ps1 : Nat) : Int) ((1000 * flitAt f 24 8 + flitAt f 32 2 : Nat) : Int)
        ((1000 * flitAt f 40 8 + flitAt f 48 2 : Nat) : Int) ((1000 * t0 + ps : Nat) : Int) (flitAt f 52 4 : Int))) := by
  have hcode : ¬ flitAt f 56 3 ≠ (s.atTick t0).code := fun hne => hne h
  have hasked : (s.atTick t0).time.asked = some (seq, t1, ps1) := ha
  have hmine : ¬ (decide ((s.atTick t0).setting 0x03 0 = 1) || decide ((s.atTick t0).time.parent ≠ some p) ||
      decide (flitAt f 1 1 ≠ seq)) = true := by
    have hrole' : ¬ (s.atTick t0).setting 0x03 0 = 1 := hrole
    have hp' : (s.atTick t0).time.parent = some p := hp
    simp [hrole', hp', hq]
  show execTimeResp p f t0 ps s = _
  unfold execTimeResp
  dsimp only
  rw [if_neg hcode, hasked]
  exact congrArg (quiet s) (if_neg hmine)

theorem State.ignores {p t0 ps : Nat} {f : Flit} (h : flitAt f 56 3 = s.code)
    (hi : s.time.asked = none ∨ s.setting 0x03 0 = 1 ∨ s.time.parent ≠ some p ∨
        (∀ a, s.time.asked = some a → flitAt f 1 1 ≠ a.1)) :
    exec (.timeResp p f t0 ps) s = quiet s (s.atTick t0) := by
  have hcode : ¬ flitAt f 56 3 ≠ (s.atTick t0).code := fun hne => hne h
  show execTimeResp p f t0 ps s = _
  unfold execTimeResp
  dsimp only
  rw [if_neg hcode]
  split
  · rfl
  next seq t1 ps1 ha =>
    have ha' : s.time.asked = some (seq, t1, ps1) := ha
    have hskip : (decide ((s.atTick t0).setting 0x03 0 = 1) || decide ((s.atTick t0).time.parent ≠ some p) ||
        decide (flitAt f 1 1 ≠ seq)) = true := by
      rcases hi with h0 | h0 | h0 | h0
      · simp [h0] at ha'
      · have h1 : (s.atTick t0).setting 0x03 0 = 1 := h0
        simp [h1]
      · have h1 : (s.atTick t0).time.parent ≠ some p := h0
        simp [h1]
      · simp [h0 _ ha']
    exact congrArg (quiet s) (if_pos hskip)

end

/-- Settles O44: a request and an answer are the message of the rule's fields, a message for another module is relayed, and
a measured offset is loaded or slewed away. -/
theorem timeFollows : Obligations.TimeFollows := by
  intro s t0 ps u
  refine ⟨fun h => completes_atTick rfl (if_pos h), fun p dst hr hp => ?_, fun hr hp => ?_, fun p f h => ?_,
    fun p f h row hrow => ⟨fun hq => ?_, fun q hq => ?_⟩, fun p f h hi => completes_atTick (State.ignores h hi) rfl,
    fun p f seq t1 ps1 h hrole hp ha hq => ⟨fun hl => ?_, fun hl => ?_⟩, fun hst hdue => ?_, fun hnot => ?_⟩
  case refine_1 =>
    have hi : exec (.timeReqSend t0 ps) s = quiet s (State.sendCtl { u with time := { u.time with
        parent := some p, seq := (s.time.seq + 1) % 256, asked := some ((s.time.seq + 1) % 256, t0, ps) } } p 2
          (timeFlit 7 ((s.time.seq + 1) % 256) t0 ps 0 0 0 0 0 dst s.code)) := by
      refine congrArg (quiet s) ((if_neg hr).trans ?_)
      rw [show (s.atTick t0).parentNow = some (p, dst) from hp] <;> rfl
    have htime := State.sendFlit_time { u with time := { u.time with
        parent := some p, seq := (s.time.seq + 1) % 256, asked := some ((s.time.seq + 1) % 256, t0, ps) } } p 2 true 0
          (ctlFlit (timeFlit 7 ((s.time.seq + 1) % 256) t0 ps 0 0 0 0 0 dst s.code))
    refine completes_sendFlit p 2 hi rfl rfl ⟨htime, ?_⟩
    rw [htime] <;> rfl
  case refine_2 =>
    have hi : exec (.timeReqSend t0 ps) s = quiet s (u.modTime (fun v => { v with parent := none, asked := none })).holdover := by
      refine congrArg (quiet s) ((if_neg hr).trans ?_)
      rw [show (s.atTick t0).parentNow = none from hp] <;> rfl
    have htime := State.holdover_time (u.modTime (fun v => { v with parent := none, asked := none }))
    refine ⟨_, hi, ?_⟩
    show (State.holdover _).time.parent = none ∧ (State.holdover _).time.state = _
    rw [htime]
    have hstate : (u.modTime (fun v => { v with parent := none, asked := none })).time.state = s.time.state := rfl
    rw [hstate]
    split
    · exact ⟨rfl, rfl⟩
    · exact ⟨rfl, rfl⟩
  case refine_3 => exact completes_answer h
  case refine_4 =>
    refine completes_atTick (completes_relay h hrow) ?_
    unfold State.relayTime
    rw [hq] <;> rfl
  case refine_5 =>
    refine completes_sendFlit q 2 ((completes_relay h hrow).trans (congrArg (quiet s) ?_)) ?_ ?_ rfl
    · unfold State.relayTime
      rw [hq] <;> rfl
    · rfl
    · rfl
  case refine_6 =>
    refine ⟨_, State.measures h hrole hp ha hq, ?_⟩
    have ht := State.measured_slews (s := u) (ps := ps) hl (t1 := t1) (congrArg (Option.map _) ha)
    exact State.slewed_fields ht
  case refine_7 => exact ⟨_, State.measures h hrole hp ha hq, State.measured_loads (s := u) hl⟩
  case refine_8 =>
    refine ⟨_, congrArg (quiet s) (if_pos hdue), ?_⟩
    show (State.holdover u).time.state = 4 ∧ (State.holdover u).time.good = 0
    have ht : u.holdover.time = { u.time with good := 0, state := 4 } := (State.holdover_time u).trans (if_pos hst)
    rw [ht]
    exact ⟨rfl, rfl⟩
  case refine_9 =>
    refine completes_atTick rfl ?_
    rcases hnot with ⟨h2, h3⟩ | hearly
    · have hheld : (s.atTick t0).holdover = s.atTick t0 := if_neg (by
        have h2' : (s.atTick t0).time.state ≠ 2 := h2
        have h3' : (s.atTick t0).time.state ≠ 3 := h3
        simp [h2', h3'])
      exact (ite_congr rfl (fun _ => hheld) (fun _ => rfl)).trans (ite_self _)
    · exact if_neg (Nat.not_le.mpr hearly)

end Sys2Proof.Machine
end

section
/-! The training of link ports (12 R314-R317, R319): the obligation O45. -/
namespace Sys2Proof.Machine
open Sys2Proof

/-! ### One port's record -/

section
variable (s : State) (p : Nat)

@[simp] theorem State.port_modPort_self (f : Port → Port) : (s.modPort p f).port p = f (s.port p) :=
  Tab.get_set_self ..

theorem State.port_modPort_other {p' : Nat} (f : Port → Port) (h : p' ≠ p) : (s.modPort p f).port p' = s.port p' :=
  Tab.get_set_other _ _ _ h

/-- What a change of a port keeps of it stands in every port's record. -/
theorem State.get_modPort {β : Type} (get : Port → β) {f : Port → Port} (hf : ∀ v, get (f v) = get v) (p' : Nat) :
    get ((s.modPort p f).port p') = get (s.port p') := by
  by_cases h : p' = p
  · rw [h, State.port_modPort_self, hf]
  · rw [State.port_modPort_other s p f h]

/-- What no flit that leaves changes of a port stands as flits leave. -/
theorem State.pump_port {β : Type} (get : Port → β)
    (hsends : ∀ (v : Port) fseq ftype m beat, get (v.sends fseq ftype m beat) = get v) (b : Nat) :
    get ((s.pump b).port p) = get (s.port p) :=
  State.get_pump (fun u => get (u.port p))
    (fun u p' fseq ftype m beat => u.get_modPort p' get (fun v => hsends v fseq ftype m beat) p) (fun _ _ _ => rfl) s b

@[simp] theorem State.finishAll_port (op key st detail : Nat) : (s.finishAll op key st detail).port p = s.port p :=
  State.get_finishAll (State.port · p) (fun _ _ => rfl) (fun _ _ => rfl) ..

end

/-! ### Training, service and its end -/

section
variable {s : State} {p : Nat}

/-- A port that may train begins with the signal stage (12 R314). -/
theorem State.trainPort_port (h : s.mayTrain p = true) : ((s.trainPort p).port p).phase = .training ∧
    ((s.trainPort p).port p).train = .signal ∧ ((s.trainPort p).port p).width = 0 := by
  have hrole : s.role p ≠ 0 := by simp [State.mayTrain] at h; exact h.1.1.2
  have hcode : s.setting 0x11 0 ≠ 16777215 := by simp [State.mayTrain] at h; exact h.1.2
  unfold State.trainPort
  rw [if_neg (by simp [hrole, hcode]), State.port_modPort_self]
  exact ⟨rfl, rfl, rfl⟩

/-- A port that reaches UP keeps the width and the active lanes that its dwell gave (12 R316). -/
theorem State.portUp_port : ((s.portUp p).port p).phase = .up ∧ ((s.portUp p).port p).upSince = s.now ∧
    ((s.portUp p).port p).width = (s.port p).width ∧ ((s.portUp p).port p).active = (s.port p).active := by
  have hrestart (b : Nat) : (if (s.members p).isEmpty then s.restart b else s).port p = s.port p ∧
      (if (s.members p).isEmpty then s.restart b else s).now = s.now := by
    split <;> exact ⟨rfl, rfl⟩
  have hport {β : Type} (get : Port → β)
      (hsends : ∀ (v : Port) fseq ftype m beat, get (v.sends fseq ftype m beat) = get v) :
      get ((s.portUp p).port p) = get { s.port p with
        phase := .up, upSince := s.now, heard := s.now, watch := true, silent := false, returnBy := none, planned := false
        fails := 0, groups := 0, sentGroups := 0 } := by
    unfold State.portUp
    dsimp only
    rw [State.finishAll_port, State.pump_port _ _ get hsends, State.port_modPort_self, (hrestart _).1, (hrestart _).2]
  exact ⟨hport Port.phase (fun _ _ _ _ _ => rfl), hport Port.upSince (fun _ _ _ _ _ => rfl),
    hport Port.width (fun _ _ _ _ _ => rfl), hport Port.active (fun _ _ _ _ _ => rfl)⟩

/-- A port that leaves service names its phase and its tick (12 R319). -/
theorem State.portOff_port (ph : PortPhase) : (s.portOff p ph).port p = { s.port p with
    phase := ph, since := s.now, watch := false, active := [], width := 0, swap := [], fails := 0 } := by
  have hset (u : State) (b : Nat) (v : Bundle) : (u.setBundle b v).port p = u.port p := rfl
  unfold State.portOff
  dsimp only
  rw [hset, State.port_modPort_self]

theorem State.mayTrain_atTick (t0 : Nat) : (s.atTick t0).mayTrain p = s.mayTrain p := rfl

/-- What a command leaves of one port. -/
theorem completes_port {i : Instr} {u : State} (hi : exec i s = quiet s u) {P : Port → Prop} (hP : P (u.port p)) :
    Completes i s (fun t => P (t.port p)) := ⟨_, hi, hP⟩

/-- A training stage of a port that stands in it (12 R314). -/
theorem completes_stage {i : Instr} {f : Port → Port} {c : Prop} [Decidable c]
    (hi : exec i s = quiet s (if c then s.modPort p f else s)) (hc : c) {P : Port → Prop} (hP : P (f (s.port p))) :
    Completes i s (fun t => P (t.port p)) := by
  refine ⟨_, hi.trans (congrArg (quiet s) (if_pos hc)), ?_⟩
  show P ((s.modPort p f).port p)
  rwa [State.port_modPort_self]

end

/-! ### The end of the dwell -/

section
variable {s : State} {p t0 : Nat} {own : List Nat} {partner : List (BitVec 8)}

/-- The state at the end of a dwell, with the classes of the lanes. -/
def State.dwelt (s : State) (p : Nat) (own : List Nat) (partner : List (BitVec 8)) : State :=
  s.modPort p (fun q => q.select (laneDead s.boot.merged p) own partner)

theorem State.dwelt_port : (s.dwelt p own partner).port p = (s.port p).select (laneDead s.boot.merged p) own partner :=
  State.port_modPort_self ..

/-- The end of a dwell: MISWIRED, FAILED or UP (12 R315-R317). -/
theorem exec_dwellEnd (h : (s.port p).phase = .dwell) : exec (.dwellEnd p own partner t0) s =
    quiet s (if (s.port p).miswired then
      (((s.atTick t0).dwelt p own partner).modPort p (fun q => { q with phase := .miswired, heard := (s.atTick t0).now, watch := true })).finishAll
        0x74 p stOK 0
    else if ((s.port p).select (laneDead s.boot.merged p) own partner).width = 0 then
      (((s.atTick t0).dwelt p own partner).portOff p .failed).finishAll 0x74 p stOK 0
    else ((s.atTick t0).dwelt p own partner).portUp p) := by
  have hport : ((s.atTick t0).dwelt p own partner).port p = (s.port p).select (laneDead s.boot.merged p) own partner :=
    State.dwelt_port
  have hmis : (((s.atTick t0).dwelt p own partner).port p).miswired = (s.port p).miswired := by rw [hport]; rfl
  rw [← hmis, ← hport]
  exact congrArg (quiet s) (if_pos h)

end

/-- Settles O45: each stage gives way to the next, and the end of the dwell to UP, FAILED or MISWIRED. -/
theorem portsTrain : Obligations.PortsTrain := by
  intro s p t0 u
  refine ⟨fun h hd hs => ?_, fun h ha => ?_, fun h hph hs => ⟨fun hdue => ?_, fun hearly => ?_⟩,
    fun lanes hph => ⟨fun htr => ?_, fun htr => ?_, fun code far htr => ?_⟩, fun own partner hph => ?_⟩
  case refine_1 => exact ⟨_, congrArg (quiet s) (if_pos (by simp [h, hd, hs])), State.trainPort_port h⟩
  case refine_2 =>
    have ht := State.trainPort_port h
    exact ⟨_, congrArg (quiet s) (if_pos (by simp [h, ha])), ht.1, ht.2.1⟩
  case refine_3 =>
    have ht := State.trainPort_port (s := u) (p := p) h
    have hc : (u.mayTrain p && (decide ((u.port p).phase = .failed) || decide ((u.port p).phase = .down) ||
        decide ((u.port p).phase = .lost)) && decide ((u.port p).since ≠ 0) &&
        decide ((u.port p).since + 10000000000 ≤ u.now)) = true := by
      have hdue' : (u.port p).since + 10000000000 ≤ u.now := hdue
      have hs' : (u.port p).since ≠ 0 := hs
      have h' : u.mayTrain p = true := h
      have hph' : (u.port p).phase = .failed ∨ (u.port p).phase = .down ∨ (u.port p).phase = .lost := hph
      simpa [hdue', hs', h', or_assoc] using hph'
    exact ⟨_, congrArg (quiet s) (if_pos hc), ht.1, ht.2.1⟩
  case refine_4 =>
    refine completes_atTick rfl (if_neg ?_)
    have hearly' : ¬ (u.port p).since + 10000000000 ≤ u.now := Nat.not_le.mpr hearly
    simp only [Bool.and_eq_true, decide_eq_true_eq]
    exact fun hc => hearly' hc.2
  case refine_5 =>
    exact completes_stage (P := fun q => q = { s.port p with lanes := lanes.toNat, train := .equalise }) rfl
      (by simp [hph, htr]) rfl
  case refine_6 =>
    exact completes_stage (P := fun q => q = { s.port p with
      lanes := Nat.land (s.port p).lanes lanes.toNat, train := .frameLock }) rfl (by simp [hph, htr]) rfl
  case refine_7 =>
    exact completes_stage (P := fun q => q.phase = .dwell ∧ q.partner = code.toNat ∧ q.partnerPort = far.toNat ∧
      q.miswired = !s.partnerOk p code.toNat far.toNat) rfl (by simp [hph, htr]) ⟨rfl, rfl, rfl, rfl⟩
  case refine_8 =>
    have hd : (u.dwelt p own partner).port p = (s.port p).select (laneDead s.boot.merged p) own partner := State.dwelt_port
    refine ⟨fun hm => ⟨_, (exec_dwellEnd hph).trans (congrArg (quiet s) (if_pos hm)), ?_⟩,
      fun hm hw => ⟨_, (exec_dwellEnd hph).trans (congrArg (quiet s) ((if_neg (by simp [hm])).trans (if_pos hw))), ?_⟩,
      fun hm hw => completes_port (P := fun v => v.phase = .up ∧ v.upSince = u.now ∧ v.width = _ ∧ v.active = _)
        ((exec_dwellEnd hph).trans (congrArg (quiet s) ((if_neg (by simp [hm])).trans (if_neg hw)))) ?_⟩
    · show ((State.finishAll _ _ _ _ _).port p).phase = _
      rw [State.finishAll_port, State.port_modPort_self]
    · show ((State.finishAll _ _ _ _ _).port p).phase = _ ∧ ((State.finishAll _ _ _ _ _).port p).since = _
      rw [State.finishAll_port, State.portOff_port]
      exact ⟨rfl, rfl⟩
    · obtain ⟨hup, hsince, hwidth, hactive⟩ := State.portUp_port (s := u.dwelt p own partner) (p := p)
      rw [hd] at hwidth hactive
      exact ⟨hup, hsince, hwidth, hactive⟩

end Sys2Proof.Machine
end

section
/-! Pace domains (11 R273-R299; 16 R484, R488): beats and router steps, the calibration calendar, profile changes, targets and
the reference clock; the obligations O42 and O43. -/
namespace Sys2Proof.Machine
open Sys2Proof

/-! ### Domains one by one -/

/-- A fold over different places updates each of them once. -/
theorem foldl_get_of_nodup {σ α β : Type} {get : σ → β} {put : σ → α → σ} {upd : β → β} {r : α}
    (hhit : ∀ t, get (put t r) = upd (get t)) (hmiss : ∀ t a, a ≠ r → get (put t a) = get t) {l : List α} (hl : l.Nodup)
    (hr : r ∈ l) (s : σ) : get (l.foldl put s) = upd (get s) := by
  induction l generalizing s with
  | nil => cases hr
  | cons a l ih =>
    obtain ⟨hal, hl⟩ := List.nodup_cons.mp hl
    rw [List.foldl_cons]
    by_cases ha : a = r
    · subst ha
      rw [foldl_get_same (fun b hb t => hmiss t b (ne_of_mem_of_not_mem hb hal)), hhit]
    · rw [ih hl ((List.mem_cons.mp hr).resolve_left (Ne.symm ha)), hmiss _ _ ha]

section
variable (s : State) (d : Nat)

@[simp] theorem State.domain_setDomain_self (v : Domain) : (s.setDomain d v).domain d = v := Tab.get_set_self ..

theorem State.domain_setDomain_other {e : Nat} (v : Domain) (h : e ≠ d) : (s.setDomain d v).domain e = s.domain e :=
  Tab.get_set_other _ _ _ h

/-- An update of every domain. -/
def State.eachDomain (s : State) (f : Domain → Domain) : State :=
  (List.range 20).foldl (fun s d => s.setDomain d (f (s.domain d))) s

theorem State.domain_eachDomain (f : Domain → Domain) {e : Nat} (he : e < 20) : (s.eachDomain f).domain e = f (s.domain e) :=
  foldl_get_of_nodup (get := (State.domain · e)) (r := e) (upd := f) (fun t => State.domain_setDomain_self t e _)
    (fun t a ha => State.domain_setDomain_other t a _ (Ne.symm ha)) List.nodup_range (List.mem_range.mpr he) s

/-- What the domains do not change stands as they are all updated. -/
theorem State.get_eachDomain {β : Type} (get : State → β) (h : ∀ (u : State) v, get { u with domains := v } = get u)
    (f : Domain → Domain) : get (s.eachDomain f) = get s :=
  foldl_get_same (get := get) (fun _ _ _ => h _ _) s

/-- What the events do not change, an event leaves. -/
theorem State.get_raise {β : Type} (get : State → β) (hmbox : ∀ (u : State) b, get { u with mbox := b } = get u)
    (hevents : ∀ (u : State) e, get { u with events := e } = get u) (code : Nat) (x : Option Nat) (unit data : Nat) :
    get (s.raise code x unit data) = get s :=
  (hmbox { s with events := (s.raise code x unit data).events } (s.raise code x unit data).mbox).trans (hevents s _)

/-- A conditional is one of its branches. -/
theorem ite_or {α : Type} (c : Prop) [Decidable c] (a b : α) : (if c then a else b) = b ∨ (if c then a else b) = a :=
  if h : c then .inr (if_pos h) else .inl (if_neg h)

/-- A margin warning changes the domains' last warning and raises an event (11 R278). -/
theorem State.marginWarn_or : s.marginWarn d = s ∨ s.marginWarn d =
    (s.setDomain d { s.domain d with lastWarn := some s.now }).raise 0x40 none d (BitVec.ofInt 16 (s.domain d).margin).toNat :=
  ite_or _ _ _

theorem State.get_marginWarn {β : Type} (get : State → β) (hdomains : ∀ (u : State) v, get { u with domains := v } = get u)
    (hmbox : ∀ (u : State) b, get { u with mbox := b } = get u)
    (hevents : ∀ (u : State) e, get { u with events := e } = get u) : get (s.marginWarn d) = get s := by
  rcases State.marginWarn_or (s := s) (d := d) with h | h <;> rw [h]
  exact (State.get_raise _ get hmbox hevents ..).trans (hdomains _ _)

theorem State.marginWarn_beats : ((s.marginWarn d).domain d).beats = (s.domain d).beats := by
  rcases State.marginWarn_or (s := s) (d := d) with h | h <;> rw [h]
  show ((s.setDomain d _).domain d).beats = _
  rw [State.domain_setDomain_self]

end

/-! ### Beats -/

section
variable {s : State} {d r : Nat}

/-- A domain with its beat counted and its margin watched (11 R273, R278). -/
def State.beaten (s : State) (d r : Nat) : State := (s.setDomain d ((s.domain d).beat d r)).marginWarn d

theorem State.get_beaten {β : Type} (get : State → β) (hdomains : ∀ (u : State) v, get { u with domains := v } = get u)
    (hmbox : ∀ (u : State) b, get { u with mbox := b } = get u)
    (hevents : ∀ (u : State) e, get { u with events := e } = get u) : get (s.beaten d r) = get s :=
  (State.get_marginWarn _ d get hdomains hmbox hevents).trans (hdomains _ _)

@[simp] theorem State.beaten_pending : (s.beaten d r).pending = s.pending :=
  State.get_beaten State.pending (fun _ _ => rfl) (fun _ _ => rfl) (fun _ _ => rfl)
@[simp] theorem State.beaten_ctx (x : Nat) : (s.beaten d r).ctx x = s.ctx x :=
  State.get_beaten (State.ctx · x) (fun _ _ => rfl) (fun _ _ => rfl) (fun _ _ => rfl)
@[simp] theorem State.beaten_holderOf (e : Nat) : (s.beaten d r).holderOf e = s.holderOf e :=
  State.get_beaten (State.holderOf · e) (fun _ _ => rfl) (fun _ _ => rfl) (fun _ _ => rfl)

theorem State.beaten_beats : ((s.beaten d r).domain d).beats = ((s.domain d).beats + 1) % 2 ^ 64 := by
  unfold State.beaten
  rw [State.marginWarn_beats, State.domain_setDomain_self]
  rfl

/-- A domain that has power and is attached holds or beats (11 R273, R281). -/
theorem exec_beat (hp : s.paced = true) (hd : (s.domain d).detached = false) (h : d < 20) : exec (.beat d r) s =
    done s (if s.domainHolds d then s.setDomain d ((s.domain d).hold d r)
      else if d < 16 then (s.beaten d r).siteBeat d else (s.beaten d r).routerStep (d - 16)) :=
  congrArg (done s) (if_neg (by simp [hp, hd, Nat.not_le.mpr h]))

/-! ### Router steps -/

/-- What a router step of phase `phase` makes of a context that waits for it (01 R29, R36; 09 R230). -/
def beginAt (q phase now : Nat) (c : Ctx) : Ctx :=
  match c.resume with
  | none => c
  | some (since, n) =>
    if c.quads.headD 4 = q && (n + c.img.delta) % 16 = phase then
      if c.item = 10 then { c with step := n, freeze := none, resume := none, item := 0, entryTick := now, ahead := [] }
      else { c with step := n, freeze := none, resume := none, freezeTicks := c.freezeTicks + (now - since), ahead := [] }
    else c

/-- A context that waits for its phase begins in it and in no other. -/
theorem beginAt_waiting {q phase now since n : Nat} {c : Ctx} (hres : c.resume = some (since, n))
    (hquads : c.quads.headD 4 = q) :
    ((n + c.img.delta) % 16 = phase → (beginAt q phase now c).step = n ∧ (beginAt q phase now c).freeze = none ∧
      (beginAt q phase now c).resume = none) ∧
    ((n + c.img.delta) % 16 ≠ phase → beginAt q phase now c = c) := by
  unfold beginAt
  rw [hres]
  refine ⟨fun h => ?_, fun h => ?_⟩
  · simp only [hquads, h, decide_true, Bool.and_self, if_true]
    split <;> exact ⟨rfl, rfl, rfl⟩
  · simp [h]

/-- A router step of one context. -/
def State.routerOne (q phase : Nat) (s : State) (x : Nat) : State :=
  match (s.ctx x).resume with
  | none => s
  | some (since, n) =>
    if (s.ctx x).quads.headD 4 = q && (n + (s.ctx x).img.delta) % 16 = phase then s.beginStep x since n else s

theorem State.routerStep_eq (u : State) (q : Nat) :
    u.routerStep q = (List.range 16).foldl (State.routerOne q ((u.domain (16 + q)).beats % 16)) u := rfl

section
variable (u : State) (q phase : Nat)

theorem State.routerOne_self (x : Nat) : (u.routerOne q phase x).ctx x = beginAt q phase u.now (u.ctx x) := by
  unfold State.routerOne beginAt
  split
  · rfl
  · split
    · rw [State.beginStep, State.ctx_modCtx_self]
    · rfl

theorem State.routerOne_other {x y : Nat} (h : y ≠ x) : (u.routerOne q phase y).ctx x = u.ctx x := by
  unfold State.routerOne
  split
  · rfl
  · split
    · rw [State.beginStep, State.ctx_modCtx_other _ _ (Ne.symm h)]
    · rfl

theorem State.get_routerOne {β : Type} (get : State → β) (h : ∀ (u : State) l, get { u with ctxs := l } = get u) (x : Nat) :
    get (u.routerOne q phase x) = get u := by
  unfold State.routerOne
  split
  · rfl
  · split
    · exact h _ _
    · rfl

/-- A router step begins the contexts that wait for its phase, each alone. -/
theorem State.routerStep_ctx {x : Nat} (hx : x < 16) :
    (u.routerStep q).ctx x = beginAt q ((u.domain (16 + q)).beats % 16) u.now (u.ctx x) := by
  have hfold := foldl_get_of_nodup (get := fun t : State => (t.ctx x, t.now)) (r := x) (l := List.range 16)
    (upd := fun v => (beginAt q ((u.domain (16 + q)).beats % 16) v.2 v.1, v.2))
    (put := State.routerOne q ((u.domain (16 + q)).beats % 16))
    (fun t => Prod.ext (t.routerOne_self ..) (t.get_routerOne q _ State.now (fun _ _ => rfl) x))
    (fun t a ha => Prod.ext (t.routerOne_other _ _ ha) (t.get_routerOne q _ State.now (fun _ _ => rfl) a))
    List.nodup_range (List.mem_range.mpr hx) u
  have hctx := congrArg Prod.fst hfold
  dsimp only at hctx
  rw [State.routerStep_eq, hctx]

theorem State.routerStep_domain (e : Nat) : (u.routerStep q).domain e = u.domain e :=
  foldl_get_same (get := (State.domain · e)) (fun x _ t => t.get_routerOne q _ (State.domain · e) (fun _ _ => rfl) x) u

end

/-! ### Site beats -/

/-- A site that no context holds only beats. -/
theorem State.siteBeat_free (u : State) (h : u.holderOf d = none) : u.siteBeat d = u := by
  unfold State.siteBeat
  rw [h]

/-- A site of a context whose wave moves counts its beat, and takes the context one step on with the last (log 12). -/
theorem State.siteBeat_held (u : State) {x k : Nat} (h : u.holderOf d = some (x, k)) (ha : (u.ctx x).active = true)
    (hf : (u.ctx x).frozen = false) : u.siteBeat d =
      if (u.ctx x).sites.all (fun e => decide (0 < ((u.ctx x).ahead.modify 0 d (· + 1)).get 0 e)) then
        (u.modCtx x (fun c => { c with
          ahead := (u.ctx x).sites.foldl (fun (v : Tab Nat) e => v.modify 0 e (· - 1)) ((u.ctx x).ahead.modify 0 d (· + 1)) })).stepCtx x
      else u.modCtx x (fun c => { c with ahead := (u.ctx x).ahead.modify 0 d (· + 1) }) := by
  unfold State.siteBeat
  rw [h]
  exact if_neg (by simp [ha, hf])

end

/-- Settles O42: a beat is counted or held back, and what it begins is the router step's or the site's. -/
theorem domainsBeat : Obligations.DomainsBeat := by
  intro s d r hp hd hlt w
  have hexec := exec_beat (r := r) hp hd hlt
  refine ⟨fun hh => ?_, fun hh => ⟨fun h16 => ?_, fun h16 hfree => ?_, fun x k h16 hheld ha hf => ⟨fun hlag => ?_, fun hall => ?_⟩⟩⟩
  case refine_1 => exact ⟨_, hexec.trans ((congrArg (done s) (if_pos hh)).trans (done_eq rfl)), rfl⟩
  all_goals rw [if_neg (by simp [hh])] at hexec
  case refine_2 =>
    rw [if_neg (Nat.not_lt.mpr h16)] at hexec
    have hq : 16 + (d - 16) = d := by omega
    have hbeats : ((s.beaten d r).domain (16 + (d - 16))).beats = ((s.domain d).beats + 1) % 2 ^ 64 := by
      rw [hq, State.beaten_beats]
    generalize hv : (s.beaten d r).routerStep (d - 16) = v at hexec
    have hctx {x : Nat} (hx : x < 16) :
        v.ctx x = beginAt (d - 16) (((s.domain d).beats + 1) % 2 ^ 64 % 16) (s.beaten d r).now (s.ctx x) := by
      rw [← hv, State.routerStep_ctx _ _ hx, hbeats, State.beaten_ctx]
    refine ⟨_, hexec, ?_, fun x since n hx hres hquads => ?_⟩
    · show (v.domain d).beats = _
      rw [← hv, State.routerStep_domain, State.beaten_beats]
    · show (_ → (v.ctx x).step = n ∧ (v.ctx x).freeze = none ∧ (v.ctx x).resume = none) ∧ (_ → v.ctx x = s.ctx x)
      rw [hctx hx]
      exact beginAt_waiting hres hquads
  case refine_3 =>
    rw [if_pos h16, State.siteBeat_free _ (by simpa using hfree)] at hexec
    exact ⟨_, hexec.trans (done_eq (State.beaten_pending ..)), rfl⟩
  case refine_4 =>
    rw [if_pos h16, State.siteBeat_held _ (by simpa using hheld) (by simpa using ha) (by simpa using hf)] at hexec
    have hsome : ¬ ((s.beaten d r).ctx x).sites.all
        (fun e => decide (0 < (((s.beaten d r).ctx x).ahead.modify 0 d (· + 1)).get 0 e)) = true := by
      obtain ⟨e, he, h0⟩ := hlag
      rw [State.beaten_ctx, List.all_eq_true]
      exact fun hall => by simpa [h0] using hall e he
    rw [if_neg hsome, State.beaten_ctx] at hexec
    exact ⟨_, hexec.trans (done_eq (State.beaten_pending ..)), rfl⟩
  case refine_5 =>
    rw [if_pos h16, State.siteBeat_held _ (by simpa using hheld) (by simpa using ha) (by simpa using hf)] at hexec
    have hevery : ((s.beaten d r).ctx x).sites.all
        (fun e => decide (0 < (((s.beaten d r).ctx x).ahead.modify 0 d (· + 1)).get 0 e)) = true := by
      rw [State.beaten_ctx, List.all_eq_true]
      exact fun e he => decide_eq_true (hall e he)
    rw [if_pos hevery, State.beaten_ctx] at hexec
    exact ⟨_, hexec, rfl⟩

/-! ### The calendar -/

/-- The committed transaction's effective tick, tested again (11 R298). -/
def State.retestTxn (s : State) : State :=
  match s.mbox.committed with
  | some c => match c.tick with
    | some t =>
      if s.deferred t = t || s.time.pend.isSome then
        { s with mbox := { s.mbox with committed := some { c with tick := some (s.deferred t) } } }
      else
        { s with mbox := { s.mbox with committed := some { c with tick := some (s.deferred t) } } }.raise 0x42 none 0 (s.deferred t)
    | none => s
  | none => s

/-- The tick of a pending profile change, tested again (11 R298). -/
def State.retestPace (s : State) : State :=
  match s.time.pend with
  | none => s
  | some p =>
    if s.deferred p.tick = p.tick then s
    else
      { s with time := { s.time with pend := some { p with tick := s.deferred p.tick, deferred := true } } }.raise 0x42 none 0
        (s.deferred p.tick)

theorem State.retestTicks_eq (s : State) : s.retestTicks = s.retestTxn.retestPace := rfl

section
variable {β : Type} (get : State → β) (htime : ∀ (u : State) p, get { u with time := { u.time with pend := p } } = get u)
  (hmbox : ∀ (u : State) b, get { u with mbox := b } = get u) (hevents : ∀ (u : State) e, get { u with events := e } = get u)
include htime hmbox hevents

/-- What pending ticks, the mailbox and the events do not change, a test of the pending ticks leaves (11 R298). -/
theorem State.get_retestTicks (s : State) : get s.retestTicks = get s := by
  have htxn : get s.retestTxn = get s := by
    unfold State.retestTxn
    dsimp only
    split
    · split
      · split
        · exact hmbox _ _
        · exact (State.get_raise _ get hmbox hevents ..).trans (hmbox _ _)
      · rfl
    · rfl
  refine Eq.trans ?_ htxn
  rw [State.retestTicks_eq]
  unfold State.retestPace
  dsimp only
  split
  · rfl
  · split
    · rfl
    · exact (State.get_raise _ get hmbox hevents ..).trans (htime _ _)

variable (hcalendar : ∀ (u : State) l, get { u with calendar := l } = get u)
include hcalendar

theorem State.get_announce (s : State) (kind unit start len : Nat) : get (s.announce kind unit start len) = get s :=
  (State.get_retestTicks get htime hmbox hevents _).trans (hcalendar _ _)

theorem State.get_nextWindow (s : State) (kind n start : Nat) : get (s.nextWindow kind n start) = get s := by
  unfold State.nextWindow
  split
  · exact State.get_announce get htime hmbox hevents hcalendar ..
  · exact State.get_announce get htime hmbox hevents hcalendar ..
  · split
    · exact State.get_announce get htime hmbox hevents hcalendar ..
    · rfl

theorem State.get_openCalendar (s : State) : get s.openCalendar = get s := by
  refine foldl_get_same (get := get) (fun k _ t => ?_) s
  split
  · rfl
  · exact State.get_nextWindow get htime hmbox hevents hcalendar ..

end

section
variable {s : State} {e : CalEntry}

theorem State.retestTicks_calendar (s : State) : s.retestTicks.calendar = s.calendar :=
  State.get_retestTicks State.calendar (fun _ _ => rfl) (fun _ _ => rfl) (fun _ _ => rfl) s

@[simp] theorem State.nextWindow_now (kind n start : Nat) : (s.nextWindow kind n start).now = s.now :=
  State.get_nextWindow State.now (fun _ _ => rfl) (fun _ _ => rfl) (fun _ _ => rfl) (fun _ _ => rfl) ..

/-- A window is in the calendar once it is announced, where there is room (11 R298). -/
theorem State.mem_announce_self (kind unit start len : Nat) {stop : Nat} (hstop : stop = start + len)
    (hroom : (s.calendar.filter (fun e => decide (s.now < e.stop))).length < 64) :
    { kind, unit, start, stop : CalEntry } ∈ (s.announce kind unit start len).calendar := by
  subst hstop
  unfold State.announce
  rw [State.retestTicks_calendar]
  simp [Nat.not_le.mpr hroom]

/-- A window that is still to end stays in the calendar as another is announced. -/
theorem State.mem_announce (he : e ∈ s.calendar) (hstop : s.now < e.stop) (kind unit start len : Nat) :
    e ∈ (s.announce kind unit start len).calendar := by
  have hmem : e ∈ s.calendar.filter (fun e => decide (s.now < e.stop)) := List.mem_filter.mpr ⟨he, decide_eq_true hstop⟩
  unfold State.announce
  rw [State.retestTicks_calendar]
  dsimp only
  split
  · exact hmem
  · simp [he, hstop]

/-- As the next window of a kind is announced, those still to end stay. -/
theorem State.mem_nextWindow (he : e ∈ s.calendar) (hstop : s.now < e.stop) (kind n start : Nat) :
    e ∈ (s.nextWindow kind n start).calendar := by
  unfold State.nextWindow
  split
  · exact State.mem_announce he hstop ..
  · exact State.mem_announce he hstop ..
  · split
    · exact State.mem_announce he hstop ..
    · exact he

theorem State.mem_openCalendar (he : e ∈ s.calendar) (hstop : s.now < e.stop) : e ∈ s.openCalendar.calendar := by
  refine (List.foldlRecOn (motive := fun t : State => e ∈ t.calendar ∧ t.now < e.stop) _ _ ⟨he, hstop⟩ fun t ht k _ => ?_).1
  split
  · exact ht
  · exact ⟨State.mem_nextWindow ht.1 ht.2 .., by simpa using ht.2⟩

/-- The state in which the work of a window is done: the window is used up. -/
def State.using (s : State) (e : CalEntry) : State :=
  { s with calendar := s.calendar.map (fun v => if v = e then { v with used := true } else v) }

theorem State.using_room : ((s.using e).calendar.filter (fun v => decide ((s.using e).now < v.stop))).length =
    (s.calendar.filter (fun v => decide (s.now < v.stop))).length := by
  have hstop (v : CalEntry) : (if v = e then { v with used := true } else v).stop = v.stop := by split <;> rfl
  change ((s.calendar.map _).filter _).length = _
  rw [List.filter_map, List.length_map]
  congr 2
  funext v
  exact congrArg (fun n => decide (s.now < n)) (hstop v)

/-- What the time base, the mailbox, the events and the calendar do not change is what the work of a window leaves. -/
theorem State.get_inWindow {β : Type} (get : State → β)
    (htime : ∀ (u : State) p, get { u with time := { u.time with pend := p } } = get u)
    (hmbox : ∀ (u : State) b, get { u with mbox := b } = get u) (hevents : ∀ (u : State) e, get { u with events := e } = get u)
    (hcalendar : ∀ (u : State) l, get { u with calendar := l } = get u) {kind n next : Nat} {work : State → State}
    (hw : s.windowNow kind n = some e) : get (s.inWindow kind n next work) = get (work (s.using e)) := by
  unfold State.inWindow
  rw [hw]
  exact (State.get_openCalendar get htime hmbox hevents hcalendar _).trans
    (State.get_nextWindow get htime hmbox hevents hcalendar ..)

/-- In a unit's window its work is done, and the next window of the kind is announced (11 R298). -/
theorem State.mem_inWindow {kind n next : Nat} {work : State → State} {u : State} {f : CalEntry}
    (hw : s.windowNow kind n = some e) (hu : work (s.using e) = u) (hf : f ∈ (u.nextWindow kind n (e.start + next)).calendar)
    (hstop : u.now < f.stop) : f ∈ (s.inWindow kind n next work).calendar := by
  unfold State.inWindow
  rw [hw]
  dsimp only
  have hwork : work { s with calendar := s.calendar.map (fun v => if v = e then { v with used := true } else v) } = u := hu
  rw [hwork]
  exact State.mem_openCalendar hf (by rwa [State.nextWindow_now])

end

/-! ### Profiles and targets -/

section
variable {s : State}

/-- The profile change of a transaction applies through PACE_SWITCH alone (11 R290): its part changes the mailbox. -/
theorem State.get_applyPart_pace {β : Type} (get : State → β) (hmbox : ∀ (u : State) b, get { u with mbox := b } = get u)
    {q : Staged} (h : q.sid = 1) : get (s.applyPart q) = get s := by
  have hset (u : State) : u.applySetting q.sid q.value = u := if_pos (by rw [h]; rfl)
  unfold State.applyPart
  split
  · rfl
  · dsimp only
    rw [hset]
    exact hmbox _ _

theorem State.get_applyParts_pace {β : Type} (get : State → β) (hmbox : ∀ (u : State) b, get { u with mbox := b } = get u)
    (hevents : ∀ (u : State) e, get { u with events := e } = get u) : get (s.applyParts (fun q => q.sid = 1)) = get s := by
  unfold State.applyParts
  split
  · rfl
  next c _ =>
    dsimp only
    have hdone (u : State) : get u.txnDone = get u := by
      unfold State.txnDone
      split
      · rfl
      · split
        · exact (State.get_raise _ get hmbox hevents ..).trans (hmbox _ _)
        · rfl
    rw [hdone, foldl_get_same (get := get) (fun q hq t => State.get_applyPart_pace get hmbox ?_), hmbox]
    simpa using (List.mem_filter.mp hq).2

/-- POWER_CAP keeps within the new profile's maximum (16 R484). -/
def State.capWithin (s : State) (profile : Nat) : State :=
  match s.settingRaw 0x80 with
  | some v => if maxInput profile < v then s.setSetting 0x80 (maxInput profile) else s
  | none => s

theorem State.get_capWithin {β : Type} (get : State → β) (hmbox : ∀ (u : State) b, get { u with mbox := b } = get u)
    (profile : Nat) : get (s.capWithin profile) = get s := by
  unfold State.capWithin
  split
  · split
    · exact hmbox _ _
    · rfl
  · rfl

/-- The domains with a new profile. -/
def State.profiled (s : State) (profile : Nat) : State :=
  s.eachDomain (fun v => { v with profile := profile, target := targetMhz profile })

theorem State.switchPace_eq (p : PacePend) : s.switchPace p =
    ({ (s.profiled p.profile).capWithin p.profile with
      time := { ((s.profiled p.profile).capWithin p.profile).time with pend := none } }.raise 0x41 none 0
        (pack [(64, p.tick), (8, p.profile)])).applyParts (fun q => q.sid = 1) := rfl

/-- A profile change switches every domain and is pending no more (11 R290). -/
theorem State.switchPace_domain (p : PacePend) {e : Nat} (he : e < 20) :
    (s.switchPace p).domain e = { s.domain e with profile := p.profile, target := targetMhz p.profile } := by
  rw [State.switchPace_eq, State.get_applyParts_pace (State.domain · e) (fun _ _ => rfl) (fun _ _ => rfl)]
  show ((s.profiled p.profile).capWithin p.profile).domain e = _
  rw [State.get_capWithin (State.domain · e) (fun _ _ => rfl)]
  exact State.domain_eachDomain s (fun v => { v with profile := p.profile, target := targetMhz p.profile }) he

theorem State.switchPace_pend (p : PacePend) : (s.switchPace p).time.pend = none := by
  rw [State.switchPace_eq, State.get_applyParts_pace State.time (fun _ _ => rfl) (fun _ _ => rfl)]
  rfl

/-- Above the cap every target falls (16 R484). -/
theorem State.capControl_lowers {watts : Nat} (h : s.settingNow 0x80 0 < watts)
    (hlow : s.atLowEnd = false) : s.capControl watts = (s.modPower (fun p => { p with watts })).lowerTargets := by
  unfold State.capControl
  dsimp only
  rw [if_pos h]
  exact if_pos (by rw [show (s.modPower (fun p => { p with watts })).atLowEnd = false from hlow]; rfl)

/-- Well below the cap every target rises (16 R484). -/
theorem State.capControl_raises {watts : Nat} (h : watts * 100 < s.settingNow 0x80 0 * 95) : s.capControl watts =
    (s.modPower (fun p => { p with watts, capSince := none, capRaised := false })).raiseTargets := by
  unfold State.capControl
  dsimp only
  rw [if_neg (by omega)]
  exact if_pos h

/-- The tick of a change of targets is kept (log 63). -/
def State.paces (s : State) : State := { s with power := { s.power with paced := some s.now } }

theorem State.paces_watts : s.paces.power.watts = s.power.watts := rfl
theorem State.paces_domain (e : Nat) : s.paces.domain e = s.domain e := rfl

/-- Every domain with another target, and the tick of it. -/
def State.retarget (s : State) (f : Domain → Nat) : State := (s.eachDomain (fun v => { v with target := f v })).paces

theorem State.retarget_watts (f : Domain → Nat) : (s.retarget f).power.watts = s.power.watts :=
  State.paces_watts.trans (State.get_eachDomain s (fun u => u.power.watts) (fun _ _ => rfl) _)

theorem State.retarget_target (f : Domain → Nat) {e : Nat} (he : e < 20) : ((s.retarget f).domain e).target = f (s.domain e) := by
  rw [State.retarget, State.paces_domain, State.domain_eachDomain _ _ he]

theorem State.lowerTargets_eq (h : s.mayPace = true) :
    s.lowerTargets = s.retarget (fun v => Nat.max (lowMhz v.profile) (v.target - 25)) := if_neg (by simp [h])

theorem State.raiseTargets_eq (h : s.mayPace = true) (ht : s.power.throttled = []) :
    s.raiseTargets = s.retarget (fun v => Nat.min (targetMhz v.profile) (v.target + 25)) := if_neg (by simp [h, ht])

theorem State.timeState_power (st : Nat) : (s.timeState st).power = s.power := by
  unfold State.timeState
  split <;> rfl

/-- Without the reference clock the time base holds over (16 R488). -/
def State.holdsOver (s : State) : State :=
  (s.modPower (fun p => { p with refclkLost := true })).raise 0x205 none 0 0
    |>.modTime (fun v => { v with good := 0 }) |>.timeState 4

/-- The loss of the reference clock takes every port DOWN (16 R488). -/
theorem State.portsDown_port {p : Nat} (hp : p < 20) : (s.portsDown.port p).phase = .down := by
  have hset (u : State) (b : Nat) (v : Bundle) : (u.setBundle b v).port p = u.port p := rfl
  have hoff (t : State) (a : Nat) (ha : a ≠ p) : (t.portOff a .down).port p = t.port p := by
    unfold State.portOff
    dsimp only
    rw [hset, State.port_modPort_other t a _ (Ne.symm ha)]
  refine foldl_get_of_nodup (get := fun t : State => (t.port p).phase) (upd := fun _ => .down) (r := p) (fun t => ?_)
    (fun t a ha => ?_) List.nodup_range (List.mem_range.mpr hp) s
  · split
    next h => exact h
    next => rw [State.portOff_port]
  · split
    · rfl
    · rw [hoff t a ha]

theorem State.get_portsDown {β : Type} (get : State → β) (h : ∀ (u : State) l, get { u with links := l } = get u) :
    get s.portsDown = get s := by
  refine foldl_get_same (get := get) (fun p _ t => ?_) s
  split
  · rfl
  · exact (h _ _).trans (h _ _)

end

/-- In its domain's window a trim moves the code by at most one unit (11 R299). -/
def State.trims (d : Nat) (move : Option Bool) (s : State) : State :=
  s.setDomain d { s.domain d with trim := match move with
    | none => (s.domain d).trim
    | some true => Nat.min 255 ((s.domain d).trim + 1)
    | some false => (s.domain d).trim - 1 }

/-- A command that gives every domain another target. -/
theorem completes_retarget {i : Instr} {s u : State} {f : Domain → Nat} (hi : exec i s = quiet s (u.retarget f)) :
    Completes i s (fun t => t.power.watts = u.power.watts ∧ ∀ e, e < 20 → (t.domain e).target = f (u.domain e)) := by
  have hwatts := State.retarget_watts (s := u) f
  have htarget (e : Nat) (he : e < 20) := State.retarget_target (s := u) f he
  generalize u.retarget f = v at hi hwatts htarget
  exact ⟨_, hi, hwatts, htarget⟩

/-- Settles O43: a pending change switches every domain, a window's work is done in it alone and announces the next, and
targets and ports follow the cap and the clock. -/
theorem paceChanges : Obligations.PaceChanges := by
  intro s d t0 u
  refine ⟨fun p hp => ⟨fun hdue => ?_, fun hearly => ?_⟩, fun move => ⟨fun hw => ?_, fun e hw => ?_⟩,
    ⟨fun e hw hroom hend => ?_, fun e q hw hq hroom hend => ?_⟩,
    fun watts hpace => ⟨fun hcap hlow => ?_, fun hcap ht => ?_⟩, fun hlost hmc => ?_⟩
  case refine_1 =>
    have hi : exec (.paceSwitch t0) s = quiet s (u.switchPace p) := by
      refine congrArg (quiet s) ?_
      rw [show (s.atTick t0).time.pend = some p from hp]
      exact if_pos hdue
    have hpend := State.switchPace_pend (s := u) p
    have hdomain (e : Nat) (he : e < 20) := State.switchPace_domain (s := u) p he
    generalize u.switchPace p = v at hi hpend hdomain
    exact ⟨_, hi, hpend, fun e he => ⟨congrArg Domain.profile (hdomain e he), congrArg Domain.target (hdomain e he)⟩⟩
  case refine_2 =>
    refine completes_atTick rfl ?_
    rw [show (s.atTick t0).time.pend = some p from hp]
    exact if_neg (Nat.not_le.mpr hearly)
  case refine_3 =>
    refine ⟨_, rfl, ?_⟩
    show (s.inWindow 0 d 5000000 _).domains = s.domains
    unfold State.inWindow
    rw [hw]
    exact State.get_openCalendar State.domains (fun _ _ => rfl) (fun _ _ => rfl) (fun _ _ => rfl) (fun _ _ => rfl) s
  case refine_4 =>
    have hi : exec (.oscTrim d move) s = quiet s (s.inWindow 0 d 5000000 (State.trims d move)) := rfl
    refine ⟨_, hi, ?_, fun hroom hend => ?_⟩
    · show ((s.inWindow 0 d 5000000 (State.trims d move)).domain d).trim = _
      rw [State.get_inWindow (State.domain · d) (fun _ _ => rfl) (fun _ _ => rfl) (fun _ _ => rfl) (fun _ _ => rfl) hw]
      exact congrArg Domain.trim (State.domain_setDomain_self ..)
    · have hroom' : (((s.using e).trims d move).calendar.filter
          (fun v => decide (((s.using e).trims d move).now < v.stop))).length < 64 := 
        (Nat.lt_of_le_of_lt (Nat.le_of_eq (State.using_room (s := s) (e := e))) hroom :)
      exact State.mem_inWindow hw rfl (State.mem_announce_self 0 _ _ 20000 (by omega) hroom') hend
  case refine_5 =>
    refine ⟨_, rfl, ?_⟩
    have hroom' : ((u.using e).calendar.filter (fun v => decide ((u.using e).now < v.stop))).length < 64 := by
      rw [State.using_room]
      exact hroom
    exact State.mem_inWindow hw rfl (State.mem_announce_self 1 _ _ 100000 (by omega) hroom') hend
  case refine_6 =>
    refine ⟨_, rfl, ?_⟩
    have hroom' : ((u.using e).calendar.filter (fun v => decide ((u.using e).now < v.stop))).length < 64 := by
      rw [State.using_room]
      exact hroom
    refine State.mem_inWindow hw rfl ?_ hend
    have hnext : (u.using e).nextTrained d = some q := hq
    show _ ∈ (State.nextWindow _ 2 d _).calendar
    unfold State.nextWindow
    rw [hnext]
    exact State.mem_announce_self 2 q _ 50000 (by omega) hroom'
  case refine_7 =>
    have hi : exec (.powerCapControl watts t0) s = quiet s _ :=
      congrArg (quiet s) ((State.capControl_lowers (s := u) hcap hlow).trans (State.lowerTargets_eq hpace))
    exact completes_retarget hi
  case refine_8 =>
    have hi : exec (.powerCapControl watts t0) s = quiet s _ :=
      congrArg (quiet s) ((State.capControl_raises (s := u) hcap).trans (State.raiseTargets_eq hpace ht))
    exact completes_retarget hi
  case refine_9 =>
    have hi : exec (.refclkLoss t0) s = quiet s u.holdsOver.portsDown := congrArg (quiet s) (if_neg (by
      rw [show (s.atTick t0).power.refclkLost = false from hlost, show (s.atTick t0).mcRuns = true from hmc]
      decide))
    have hport {p : Nat} (hp : p < 20) := State.portsDown_port (s := u.holdsOver) hp
    have hpower := State.get_portsDown (s := u.holdsOver) State.power (fun _ _ => rfl)
    have htime := State.get_portsDown (s := u.holdsOver) State.time (fun _ _ => rfl)
    generalize u.holdsOver.portsDown = v at hi hport hpower htime
    refine ⟨_, hi, (congrArg Power.refclkLost hpower).trans ?_, (congrArg TimeBase.state htime).trans ?_, fun p hp => hport hp⟩
    · rw [State.holdsOver, State.timeState_power]
      rfl
    · rw [State.holdsOver, State.timeState_time]

end Sys2Proof.Machine
end

section
/-! Freezes and boundaries (01 R29-R36; 10 R262, R263): views of the state through its contexts and cores, what a release and
the items of a boundary leave of them, then the obligations O37 and O38. -/
namespace Sys2Proof.Machine
open Sys2Proof

/-! ### Views of contexts and cores -/

/-- `get` reads contexts through `kc` and cores through `kk`, and nothing else of the state. -/
structure Views {β γ δ : Type} (get : State → β) (kc : Ctx → γ) (kk : Core → δ) : Prop where
  ctx : ∀ (u : State) x f, (∀ c, kc (f c) = kc c) → get (u.modCtx x f) = get u
  core : ∀ (u : State) l f, (∀ k, kk (f k) = kk k) → get (u.modCore l f) = get u
  rest : ∀ u v : State, v.ctxs = u.ctxs → v.cores = u.cores → get v = get u

/-- Fields of one context. -/
theorem Views.ofCtx {γ δ : Type} (kc : Ctx → γ) (kk : Core → δ) (y : Nat) : Views (fun u => kc (u.ctx y)) kc kk where
  ctx u x f hf := State.get_modCtx kc hf u x y
  core _ _ _ _ := rfl
  rest u v h _ := by simp only [State.ctx, h]

/-- Fields of one core, found by the sites of its context. -/
theorem Views.ofCore {γ δ : Type} {kc : Ctx → γ} (hsites : ∀ a b, kc a = kc b → a.sites = b.sites) (kk : Core → δ) (c : CoreRef) :
    Views (fun u => kk (u.core c)) kc kk where
  ctx u x f hf := by
    have h := hsites _ _ (State.get_modCtx kc hf u x c.ctx)
    show kk ((u.modCtx x f).coreAt _) = _
    rw [logical_of_sites h]
    rfl
  core u l f hf := by
    show kk ((u.modCore l f).coreAt _) = kk (u.coreAt _)
    by_cases h : (u.ctx c.ctx).logical c.core = l
    · subst h
      exact (congrArg kk (State.coreAt_modCore_self ..)).trans (hf _)
    · exact congrArg kk (State.coreAt_modCore_other _ _ h)
  rest u v h g := by simp only [State.core, State.coreAt, State.ctx, h, g]

section
variable {β γ δ : Type} {get : State → β} {kc : Ctx → γ} {kk : Core → δ} (hv : Views get kc kk)
include hv

theorem Views.modCoreOf (u : State) (x p : Nat) {f : Core → Core} (hf : ∀ k, kk (f k) = kk k) :
    get (u.modCoreOf x p f) = get u := hv.core _ _ _ hf

theorem Views.mapCores (u : State) (x : Nat) {f : Nat → Core → Core} (hf : ∀ p k, kk (f p k) = kk k) :
    get (u.mapCores x f) = get u := foldl_get_same (get := get) (fun p _ t => hv.modCoreOf t x p (hf p)) u

variable (hout : ∀ (c : Ctx) l, kc { c with halo := { c.halo with out := l } } = kc c)
include hout

theorem Views.mirror (u : State) (x : Nat) (i : MirrorItem) : get (u.mirror x i) = get u := by
  unfold State.mirror
  split
  · exact hv.ctx _ _ _ (fun c => hout c _)
  · rfl

theorem Views.logEntry (u : State) (kind k orbit step pcore : Nat) (pl : List (Nat × List Byte)) :
    get (u.logEntry kind k orbit step pcore pl) = get u := by
  have hclose (t : State) (n : Nat) : get (t.closeBatch n) = get t :=
    State.get_closeBatch get (fun _ _ => hv.rest _ _ rfl rfl) t n
  unfold State.logEntry State.addEntry
  dsimp only
  split
  · rw [apply_ite get, hclose, ite_self, apply_ite get, Views.mirror hv hout, ite_self]
    exact hv.rest _ _ rfl rfl
  · rfl

variable (hflags : ∀ (c : Ctx) v n, kc { c with flags := v, interventions := n } = kc c)
include hflags

theorem Views.intervene (u : State) (x kind p : Nat) (pl : List (Nat × List Byte)) :
    get (u.intervene x kind p pl) = get u := by
  unfold State.intervene
  exact (hv.ctx _ _ _ (fun c => hflags c _ _)).trans ((Views.mirror hv hout _ _ _).trans
    (Views.logEntry hv hout _ _ _ _ _ _ _))

variable (hwrites : ∀ (c : Ctx) w, kc { c with baseWrites := w } = kc c)
  (hmemWrites : ∀ (k : Core) w, kk { k with memWrites := w } = kk k)
include hwrites hmemWrites

omit hout hflags in
theorem Views.placeLine (u : State) (a : Nat) (b : List Byte) : get (u.placeLine a b) = get u := by
  have hcommit (t : State) (d : Nat) (r : DramReq) : get (t.commitOne d r) = get t := hv.rest t _ rfl rfl
  have hbase (t : State) (y n : Nat) : get (t.landBaseWrites y n) = get t := by
    refine Eq.trans ?_ (hv.ctx t y (fun c => { c with
      baseWrites := (t.ctx y).baseWrites.filter (fun v => !decide (v.1 + 3 ≤ n)) }) (fun c => hwrites c _))
    exact hv.rest _ _ rfl rfl
  have hcore (t : State) (l n : Nat) : get (t.landMem l n) = get t := by
    refine Eq.trans ?_ (hv.core t l (fun k => { k with
      memWrites := (t.coreAt l).memWrites.filter (fun w => !w.visible n) }) (fun k => hmemWrites k _))
    exact hv.rest _ _ rfl rfl
  have hsettle : get (u.settleLine a) = get u := by
    unfold State.settleLine
    split
    · exact foldl_get_same (get := get) (fun r _ t => hcommit t _ r) u
    · exact hbase ..
    · exact hcore ..
    · rfl
  have hdrop (t : State) : get (t.dropPending a) = get t := by
    unfold State.dropPending
    split
    · exact hv.ctx _ _ _ (fun c => hwrites c _)
    · exact hv.core t _ (fun k => { k with
        memWrites := (t.coreAt _).memWrites.filter (fun w => decide (coreAddr _ w.line ≠ a)) }) (fun k => hmemWrites k _)
    · rfl
  have hplace : get (u.placeLine a b) = get ((u.settleLine a).dropPending a) := hv.rest _ _ rfl rfl
  exact hplace.trans ((hdrop _).trans hsettle)

variable (hsems : ∀ (k : Core) w, kk { k with sems := w } = kk k)
include hsems

/-- A recorded intervention changes semaphores, memory and the record of interventions (14 R415). -/
theorem Views.applyEntry (u : State) (x : Nat) (b : List Byte) : get (u.applyEntry x b) = get u := by
  have hint := Views.intervene hv hout hflags u x (leAt b 0 1) (fld (leAt b 30 2) 0 11) [(40, (b.drop 40).take 216)]
  unfold State.applyEntry
  dsimp only
  split
  · exact (hv.core _ _ _ (fun k => hsems k _)).trans hint
  · refine Eq.trans ?_ hint
    exact hv.rest _ _ rfl rfl
  · exact (Views.placeLine hv hwrites hmemWrites _ _ _).trans hint
  · exact hint

theorem Views.replayEntries (u : State) (x : Nat) : get (u.replayEntries x) = get u :=
  foldl_get_same (get := get) (fun b _ t => Views.applyEntry hv hout hflags hwrites hmemWrites hsems t x b) u

end

/-! ### What a boundary's items keep -/

/-- The fields of a context by which its cores are found, and those that an entry step leaves. -/
def Ctx.entryKey (c : Ctx) : List Nat × Nat × Nat × Nat × Bool := (c.sites, c.ncores, c.orbit, c.step, c.halo.catchUp)

/-- The registers that a boundary leaves. -/
def Core.regs (k : Core) : Tab W64 × Tab W64 := (k.sr, k.par)

theorem Views.entry (x : Nat) : Views (fun u => (u.ctx x).entryKey) Ctx.entryKey Core.regs := Views.ofCtx _ _ x

theorem Views.regs (c : CoreRef) : Views (fun u => (u.core c).regs) Ctx.entryKey Core.regs :=
  Views.ofCore (fun _ _ h => congrArg Prod.fst h) _ c

section
variable {β γ δ : Type} {get : State → β} {kc : Ctx → γ} {kk : Core → δ} {s : State} {x : Nat}

/-- Cells that a forced reset removed mark the flags and the transit report (09 R243, R244). -/
theorem Views.transitCheck (hv : Views get kc kk) (hflags : ∀ (c : Ctx) v, kc { c with flags := v } = kc c)
    (hrep : ∀ (k : Core) v, kk { k with rep := v } = kk k) (u : State) (x : Nat) : get (u.transitCheck x) = get u := by
  unfold State.transitCheck
  dsimp only
  split
  · rfl
  · refine (hv.mapCores _ _ fun p k => ?_).trans (hv.ctx _ _ _ (fun c => hflags c _))
    split
    · exact hrep _ _
    · rfl

/-- The cores of a context are found as they were while each is changed in turn. -/
theorem State.mapCores_ctx (u : State) (x y : Nat) (f : Nat → Core → Core) : (u.mapCores x f).ctx y = u.ctx y :=
  foldl_get_same (get := (State.ctx · y)) (fun p _ t => State.ctx_modCoreOf t x p y (f p)) u

/-- What every change of a core leaves true of it is true of every core of the context. -/
theorem State.mapCores_core {P : Core → Prop} {f : Nat → Core → Core} (hf : ∀ p k, P (f p k)) (u : State) {p : Nat}
    (hp : p < (u.ctx x).ncores) : P ((u.mapCores x f).core ⟨x, p⟩) := by
  have hmod (t : State) (q : Nat) (h : P (t.core ⟨x, p⟩)) : P ((t.modCoreOf x q (f q)).core ⟨x, p⟩) := by
    show P ((t.modCore ((t.ctx x).logical q) (f q)).coreAt ((t.ctx x).logical p))
    by_cases he : (t.ctx x).logical p = (t.ctx x).logical q
    · rw [he, State.coreAt_modCore_self]
      exact hf ..
    · rw [State.coreAt_modCore_other _ _ he]
      exact h
  have hself (t : State) : P ((t.modCoreOf x p (f p)).core ⟨x, p⟩) := by
    rw [State.core_modCoreOf (c := ⟨x, p⟩)]
    exact hf ..
  have hall : ∀ (l : List Nat) (t : State), p ∈ l ∨ P (t.core ⟨x, p⟩) →
      P ((l.foldl (fun s p => s.modCoreOf x p (f p)) t).core ⟨x, p⟩) := by
    intro l
    induction l with
    | nil => exact fun t h => h.resolve_left List.not_mem_nil
    | cons q l ih =>
      refine fun t h => ih _ ?_
      rcases h with h | h
      · rcases List.mem_cons.mp h with rfl | h
        · exact .inr (hself t)
        · exact .inl h
      · exact .inr (hmod t q h)
  exact hall _ u (.inl (List.mem_range.mpr hp))

end

/-! ### From the counters to the entry step -/

/-- The item of a boundary that is under way (01 R36). -/
def State.boundaryItem (s : State) (x : Nat) : State × Bool :=
  match (s.ctx x).item with
  | 0 => (s, false)
  | 1 => s.itemRecord x
  | 2 => s.itemStatus x
  | 3 => s.itemSettings x
  | 4 => s.itemWeights x
  | 5 => s.itemBanks x
  | 6 => s.itemPatch x
  | 7 => s.itemCount x
  | 8 => s.itemCheckpoint x
  | 9 => s.itemLag x
  | _ => s.itemEnter x

section
variable {s : State} {x : Nat}

/-- An item of a boundary that is done gives way to the next. -/
theorem State.boundaryItems_succ (n : Nat) (s : State) : State.boundaryItems x (n + 1) s =
    if (s.boundaryItem x).2 then State.boundaryItems x n (s.boundaryItem x).1 else (s.boundaryItem x).1 := rfl

/-- The counters of the next orbit (01 R36). -/
def Ctx.counted (c : Ctx) : Ctx := { c with orbit := c.nextOrbit, startOrbit := none, step := 0, item := 8 }

/-- The entry intervals of an array from step 0 of the next orbit (04 R123). -/
def Core.intervalsFrom (n : Nat) (k : Core) : Core :=
  { k with arrays := k.arrays.foldl (fun t u => t.set {} u.1 { u.2 with busyTo := u.2.busyTo - n }) k.arrays }

/-- The state after item 7. -/
def State.counted (s : State) (x : Nat) : State :=
  (s.mapCores x (fun _ k => k.intervalsFrom (s.ctx x).step)).modCtx x Ctx.counted

theorem State.counted_ctx : (s.counted x).ctx x = (s.ctx x).counted := by
  rw [State.counted, State.ctx_modCtx_self, State.mapCores_ctx]

/-- The state in which the entry step is to be made ready: nothing of a checkpoint or a lag is waited for. -/
def State.lagged (s : State) (x : Nat) : State :=
  ((s.counted x).modCtx x (fun c => { c with item := 9 })).modCtx x (fun c => { c with
    item := 10, holds := { c.holds with mirrorLag := false } })

theorem State.lagged_ctx : (s.lagged x).ctx x =
    { (s.ctx x).counted with item := 10, holds := { (s.ctx x).holds with mirrorLag := false } } := by
  rw [State.lagged, State.ctx_modCtx_self, State.ctx_modCtx_self, State.counted_ctx]
  rfl

theorem Views.lagged {β δ : Type} {get : State → β} {kk : Core → δ} (hv : Views get Ctx.sites kk)
    (harrays : ∀ n (k : Core), kk (k.intervalsFrom n) = kk k) : get (s.lagged x) = get s := by
  unfold State.lagged State.counted
  rw [hv.ctx, hv.ctx, hv.ctx, hv.mapCores _ _ (fun _ k => harrays _ k)]
  · exact fun _ => rfl
  · exact fun _ => rfl
  · exact fun _ => rfl

theorem State.lagged_regs (c : CoreRef) : ((s.lagged x).core c).regs = (s.core c).regs :=
  Views.lagged (Views.ofCore (fun _ _ h => h) Core.regs c) (fun _ _ => rfl)

theorem State.lagged_now : (s.lagged x).now = s.now := by
  have hctx (u : State) (f : Ctx → Ctx) : (u.modCtx x f).now = u.now := rfl
  have hcore (u : State) (p : Nat) (f : Core → Core) : (u.modCoreOf x p f).now = u.now := rfl
  have hmap (f : Nat → Core → Core) : (s.mapCores x f).now = s.now :=
    foldl_get_same (get := State.now) (fun p _ t => hcore t p (f p)) s
  rw [State.lagged, hctx, hctx, State.counted, hctx, hmap]

theorem State.itemCheckpoint_unmirrored (u : State) (h : u.mirrored x = false) :
    u.itemCheckpoint x = (u.modCtx x (fun c => { c with item := 9 }), true) := if_pos (by simp [h])

theorem State.itemLag_unmirrored (u : State) (h : u.mirrored x = false) :
    u.itemLag x = (u.modCtx x (fun c => { c with item := 10, holds := { c.holds with mirrorLag := false } }), true) :=
  if_neg (by simp [h])

theorem State.itemEnter_free (u : State) (he : (u.ctx x).holds.eclipse = false) (hd : (u.ctx x).holds.debug = false)
    (hr : (u.ctx x).resume = none) : u.itemEnter x = ((u.replayEntries x).enterOrbit x, false) :=
  if_neg (by simp [he, hd, hr])

/-- From its counters a context that is neither mirrored nor held makes its entry step ready. -/
theorem State.boundaryItems_counted (hitem : (s.ctx x).item = 7) (hm : s.mirrored x = false)
    (he : (s.ctx x).holds.eclipse = false) (hd : (s.ctx x).holds.debug = false) (hr : (s.ctx x).resume = none) (n : Nat) :
    State.boundaryItems x (n + 4) s = ((s.lagged x).replayEntries x).enterOrbit x := by
  have h7 : s.boundaryItem x = (s.counted x, true) := by
    unfold State.boundaryItem
    rw [hitem]
    rfl
  have hm8 : (s.counted x).mirrored x = false := by rw [State.mirrored, State.counted_ctx]; exact hm
  have h8 : (s.counted x).boundaryItem x = ((s.counted x).modCtx x (fun c => { c with item := 9 }), true) := by
    unfold State.boundaryItem
    rw [State.counted_ctx]
    exact State.itemCheckpoint_unmirrored _ hm8
  have hm9 : ((s.counted x).modCtx x (fun c => { c with item := 9 })).mirrored x = false := by
    rw [State.mirrored, State.ctx_modCtx_self, State.counted_ctx]
    exact hm
  have h9 : ((s.counted x).modCtx x (fun c => { c with item := 9 })).boundaryItem x = (s.lagged x, true) := by
    unfold State.boundaryItem
    rw [State.ctx_modCtx_self]
    exact State.itemLag_unmirrored _ hm9
  have h10 : (s.lagged x).boundaryItem x = (((s.lagged x).replayEntries x).enterOrbit x, false) := by
    unfold State.boundaryItem
    rw [State.lagged_ctx]
    exact State.itemEnter_free _ (by rw [State.lagged_ctx]; exact he) (by rw [State.lagged_ctx]; exact hd)
      (by rw [State.lagged_ctx]; exact hr)
  rw [State.boundaryItems_succ, h7, if_pos rfl, State.boundaryItems_succ, h8, if_pos rfl, State.boundaryItems_succ, h9,
    if_pos rfl, State.boundaryItems_succ, h10, if_neg Bool.false_ne_true]

/-! ### The entry step -/

/-- The cores at the entry step, and the staging of the context's stacks emptied. -/
def State.restarted (s : State) (x : Nat) : State :=
  ((s.mapCores x (fun p c => c.enterOrbit (s.ctx x).img p)).ctx x).sites.foldl
    (fun s d => s.modStack d (fun q => { q with staging := {} })) (s.mapCores x (fun p c => c.enterOrbit (s.ctx x).img p))

/-- What an entry step sets in its context (01 R36). -/
theorem State.enterOrbit_form (s : State) (x : Nat) : ∃ f : Ctx → Ctx,
    s.enterOrbit x = (((s.restarted x).modCtx x f).transitCheck x).supplyAll x ∧
    ∀ c, (f c).entryKey = c.entryKey ∧ (f c).resume = some ((s.restarted x).now, 0) ∧ (f c).flights = [] ∧ (f c).wire = [] ∧
      (f c).interventions = 0 := ⟨_, rfl, fun _ => ⟨rfl, rfl, rfl, rfl, rfl⟩⟩

/-- What neither the cores nor the stacks change, the start of a new orbit leaves. -/
theorem State.get_restarted {β : Type} (get : State → β) (hcores : ∀ (u : State) l v, get (u.setCore l v) = get u)
    (hstacks : ∀ (u : State) d v, get (u.setStack d v) = get u) : get (s.restarted x) = get s := by
  have hmap : get (s.mapCores x (fun p c => c.enterOrbit (s.ctx x).img p)) = get s :=
    foldl_get_same (get := get) (fun _ _ t => hcores t _ _) s
  exact (foldl_get_same (get := get) (fun _ _ t => hstacks t _ _) _).trans hmap

theorem State.restarted_now : (s.restarted x).now = s.now :=
  State.get_restarted State.now (fun _ _ _ => rfl) (fun _ _ _ => rfl)

/-- The catch-up orbits of a takeover alone are supplied with mirrored entries (15 R465). -/
theorem State.supplyAll_none (h : (s.ctx x).halo.catchUp = false) : s.supplyAll x = s := if_pos (by rw [h]; rfl)

/-- What an entry step leaves of its context. -/
theorem State.enterOrbit_ctx (h : (s.ctx x).halo.catchUp = false) : ((s.enterOrbit x).ctx x).orbit = (s.ctx x).orbit ∧
    ((s.enterOrbit x).ctx x).step = (s.ctx x).step ∧ ((s.enterOrbit x).ctx x).resume = some (s.now, 0) ∧
    ((s.enterOrbit x).ctx x).flights = [] ∧ ((s.enterOrbit x).ctx x).wire = [] ∧
    ((s.enterOrbit x).ctx x).interventions = 0 := by
  obtain ⟨f, hf, hkey⟩ := s.enterOrbit_form x
  have hctx : (s.restarted x).ctx x = s.ctx x :=
    State.get_restarted (State.ctx · x) (fun _ _ _ => rfl) (fun _ _ _ => rfl)
  have hcheck {γ : Type} (kc : Ctx → γ) (hflags : ∀ (c : Ctx) v, kc { c with flags := v } = kc c) (u : State) :
      kc ((u.transitCheck x).ctx x) = kc (u.ctx x) :=
    Views.transitCheck (Views.ofCtx kc (fun _ => ()) x) hflags (fun _ _ => rfl) u x
  obtain ⟨hk, hres, hfl, hw, hint⟩ := hkey (s.ctx x)
  have hcatch : (f (s.ctx x)).halo.catchUp = false := by
    rw [← h]
    exact congrArg (fun k : List Nat × Nat × Nat × Nat × Bool => k.2.2.2.2) hk
  rw [hf, State.supplyAll_none (by
    rw [hcheck (·.halo.catchUp) (fun _ _ => rfl), State.ctx_modCtx_self, hctx, hcatch])]
  rw [hcheck Ctx.orbit (fun _ _ => rfl), hcheck Ctx.step (fun _ _ => rfl), hcheck Ctx.resume (fun _ _ => rfl),
    hcheck Ctx.flights (fun _ _ => rfl), hcheck Ctx.wire (fun _ _ => rfl), hcheck Ctx.interventions (fun _ _ => rfl),
    State.ctx_modCtx_self, hctx]
  exact ⟨congrArg (fun k : List Nat × Nat × Nat × Nat × Bool => k.2.2.1) hk,
    congrArg (fun k : List Nat × Nat × Nat × Nat × Bool => k.2.2.2.1) hk, hres.trans (by rw [State.restarted_now]), hfl, hw, hint⟩

theorem State.restarted_core (c : CoreRef) :
    (s.restarted x).core c = (s.mapCores x (fun p c => c.enterOrbit (s.ctx x).img p)).core c := by
  have hstack (t : State) (d : Nat) (f : Stack → Stack) : (t.modStack d f).core c = t.core c := rfl
  exact foldl_get_same (get := (State.core · c)) (fun d _ t => hstack t d _) _

/-- What of a core an entry step sets or leaves, beside its semaphores and ends. -/
def Core.fresh (k : Core) : Prop := k.pipe = [] ∧ k.vregs = [] ∧ k.masks = [] ∧ k.ring = {}

/-- What an entry step leaves of a core of its context (01 R36). -/
theorem State.enterOrbit_core (h : (s.ctx x).halo.catchUp = false) {p : Nat} (hp : p < (s.ctx x).ncores) :
    ((s.enterOrbit x).core ⟨x, p⟩).fresh ∧ ((s.enterOrbit x).core ⟨x, p⟩).regs = (s.core ⟨x, p⟩).regs := by
  obtain ⟨f, hf, hkey⟩ := s.enterOrbit_form x
  have hstep {γ : Type} (kk : Core → γ) (hrep : ∀ (k : Core) v, kk { k with rep := v } = kk k) :
      kk ((s.enterOrbit x).core ⟨x, p⟩) = kk ((s.mapCores x (fun p c => c.enterOrbit (s.ctx x).img p)).core ⟨x, p⟩) := by
    have hv := Views.ofCore (kc := Ctx.sites) (fun _ _ h => h) kk ⟨x, p⟩
    have hsites (c : Ctx) : (f c).sites = c.sites := congrArg Prod.fst (hkey c).1
    have hcatch (c : Ctx) : (f c).halo.catchUp = c.halo.catchUp :=
      congrArg (fun k : List Nat × Nat × Nat × Nat × Bool => k.2.2.2.2) (hkey c).1
    have hnone : ((((s.restarted x).modCtx x f).transitCheck x).ctx x).halo.catchUp = false := by
      have hflags := Views.transitCheck (Views.ofCtx (·.halo.catchUp) (fun _ => ()) x) (fun _ _ => rfl) (fun _ _ => rfl)
        ((s.restarted x).modCtx x f) x
      refine hflags.trans ?_
      rw [State.ctx_modCtx_self, hcatch]
      exact (State.get_restarted (fun u => (u.ctx x).halo.catchUp) (fun _ _ _ => rfl) (fun _ _ _ => rfl)).trans h
    rw [hf, State.supplyAll_none hnone]
    refine (Views.transitCheck hv (fun _ _ => rfl) hrep _ x).trans ((hv.ctx _ _ _ hsites).trans ?_)
    exact congrArg kk (State.restarted_core ⟨x, p⟩)
  refine ⟨?_, ?_⟩
  · have hfresh := hstep Core.fresh (fun _ _ => rfl)
    rw [hfresh]
    exact State.mapCores_core (P := Core.fresh) (fun _ _ => ⟨rfl, rfl, rfl, rfl⟩) s hp
  · refine (hstep Core.regs (fun _ _ => rfl)).trans ?_
    exact (Views.ofCore (kc := Ctx.sites) (fun _ _ h => h) Core.regs ⟨x, p⟩).mapCores s x (fun _ _ => rfl)

end

/-- What an intervention that is applied again does not change. -/
theorem State.replayEntries_now (s : State) (x : Nat) : (s.replayEntries x).now = s.now := by
  refine foldl_get_same (get := State.now) (fun b _ t => ?_) s
  have hint := State.get_intervene State.now (fun _ _ => rfl) (fun _ _ => rfl) t x (leAt b 0 1) (fld (leAt b 30 2) 0 11)
    [(40, (b.drop 40).take 216)]
  unfold State.applyEntry
  dsimp only
  split
  · exact hint
  · exact hint
  · exact (State.get_placeLine State.now (fun _ _ => rfl) (fun _ _ => rfl) (fun _ _ => rfl) (fun _ _ => rfl) ..).trans hint
  · exact hint

/-- Settles O38: nothing waits for the mirror or a hold from the counters on, and the entry step empties the cores. -/
theorem boundariesEnterOrbits : Obligations.BoundariesEnterOrbits := by
  intro s x hitem hsettled hm he hd hr hcatch
  have hsettle : s.settleFreeze x = s := by
    unfold State.settleFreeze
    split
    · rfl
    next z hz => rw [if_pos (hsettled z hz)]
  have hgo : s.tryBoundary x = ((s.lagged x).replayEntries x).enterOrbit x := by
    unfold State.tryBoundary
    rw [hsettle, if_pos (by rw [hitem]; decide), State.boundaryGo, State.boundaryItems_counted hitem hm he hd hr 7]
  have hkey : (((s.lagged x).replayEntries x).ctx x).entryKey = ((s.lagged x).ctx x).entryKey :=
    Views.replayEntries (Views.entry x) (fun _ _ => rfl) (fun _ _ _ => rfl) (fun _ _ => rfl) (fun _ _ => rfl) (fun _ _ => rfl) _ x
  have hregs (c : CoreRef) : (((s.lagged x).replayEntries x).core c).regs = (s.core c).regs :=
    (Views.replayEntries (Views.regs c) (fun _ _ => rfl) (fun _ _ _ => rfl) (fun _ _ => rfl) (fun _ _ => rfl)
      (fun _ _ => rfl) _ x).trans (State.lagged_regs c)
  have hnow : ((s.lagged x).replayEntries x).now = s.now := (State.replayEntries_now ..).trans State.lagged_now
  rw [State.lagged_ctx] at hkey
  generalize (s.lagged x).replayEntries x = v at hgo hkey hregs hnow
  have hncores : (v.ctx x).ncores = (s.ctx x).ncores := congrArg (fun k : List Nat × Nat × Nat × Nat × Bool => k.2.1) hkey
  have hnone : (v.ctx x).halo.catchUp = false :=
    (congrArg (fun k : List Nat × Nat × Nat × Nat × Bool => k.2.2.2.2) hkey).trans hcatch
  obtain ⟨horbit, hstep, hres, hfl, hwire, hint⟩ := State.enterOrbit_ctx hnone
  have hcore {p : Nat} (hp : p < (s.ctx x).ncores) := State.enterOrbit_core hnone (hncores.symm ▸ hp)
  rw [hnow] at hres
  generalize v.enterOrbit x = w at hgo horbit hstep hres hfl hwire hint hcore
  refine ⟨_, congrArg (done s) hgo, horbit.trans ?_, hstep.trans ?_, hres, hfl, hwire, hint, fun p hp => ?_⟩
  · exact congrArg (fun k : List Nat × Nat × Nat × Nat × Bool => k.2.2.1) hkey
  · exact congrArg (fun k : List Nat × Nat × Nat × Nat × Bool => k.2.2.2.1) hkey
  · obtain ⟨⟨hpipe, hvregs, hmasks, hring⟩, hr⟩ := hcore hp
    have hsame := hr.trans (hregs ⟨x, p⟩)
    exact ⟨hpipe, hvregs, hmasks, hring, congrArg Prod.fst hsame, congrArg Prod.snd hsame⟩

/-! ### Releases -/

section
variable {s : State} {x : Nat} {z : Freeze}

/-- Every listed condition holds where none is unmet (10 R262). -/
theorem State.unmet_isEmpty : (s.unmet x z).isEmpty = true ↔ ∀ c ∈ z.conds, s.condMet x c = true := by
  have hmem (c : Cond) : c ∈ s.unmet x z ↔ c ∈ z.conds ∧ s.condMet x c = false := by simp [State.unmet]
  rw [List.isEmpty_iff, List.eq_nil_iff_forall_not_mem]
  simp only [hmem, not_and, Bool.not_eq_false]

/-- A settled freeze of an orbit that goes on may release exactly when its conditions and its fence hold and no hold is
present (01 R29-R33). -/
theorem State.mayRelease_iff (hs : z.settled = true) (ha : z.abandon = false) (hr : (s.ctx x).resume = none) :
    s.mayRelease x z = true ↔ (s.ctx x).holds.any = false ∧ (∀ c ∈ z.conds, s.condMet x c = true) ∧
      (z.fence = true → s.fenceHolds x = true) := by
  rw [← State.unmet_isEmpty]
  cases hf : z.fence <;> simp [State.mayRelease, hs, ha, hr, hf, and_assoc]

/-- The release of a settled freeze that ends no orbit. -/
theorem State.tryRelease_eq (rdv : Bool) (hz : (s.ctx x).freeze = some z) (hs : z.settled = true) (he : z.endBy = [])
    (ha : z.abandon = false) (hi : (s.ctx x).item = 0) (hra : (s.ctx x).rt.abandon = false) (hrdv : rdv = !z.rdvBy.isEmpty) :
    s.tryRelease x (Freeze.inner rdv) = if s.mayRelease x z then s.release x z else s := by
  have hsettle : s.settleFreeze x = s := by
    unfold State.settleFreeze
    rw [hz]
    exact if_pos hs
  have hinner : Freeze.inner rdv z = true := by
    rw [hrdv]
    cases h : z.rdvBy <;> simp [Freeze.inner, he, ha, h]
  have hreleasing : s.releasing x (Freeze.inner rdv) = if s.mayRelease x z then some z else none := by
    unfold State.releasing
    rw [hz]
    simp [hinner, hi, hra]
  unfold State.tryRelease
  rw [hsettle]
  dsimp only
  rw [hreleasing]
  by_cases hm : s.mayRelease x z = true
  · simp [hm]
  · simp [hm]

theorem State.release_resume : ((s.release x z).ctx x).resume = some (z.since, z.step + 1) := by
  unfold State.release
  exact congrArg Ctx.resume (State.ctx_modCtx_self ..)

/-- A value within a semaphore's range is not clamped (10 R247). -/
theorem clampSem_get (k : Core) (n : Nat) (v : Int) (pend : Bool) : (k.clampSem n v pend).sems.get {} n =
    if pend then { k.sems.get {} n with pending := (max 0 (min 2147483647 v)).toNat }
    else { k.sems.get {} n with value := (max 0 (min 2147483647 v)).toNat } := by
  unfold Core.clampSem
  dsimp only
  split
  · rw [Tab.get_modify_self]
  · rw [Tab.get_modify_self]

/-- Counts moved from PENDING to VALUE within the range of both. -/
theorem moveCounts_get {k : Core} {n m : Nat} (hm : m ≤ (k.sems.get {} n).pending) (hp : (k.sems.get {} n).pending < 2 ^ 31)
    (hv : (k.sems.get {} n).value + m < 2 ^ 31) : (k.moveCounts n m).sems.get {} n = { k.sems.get {} n with
      value := (k.sems.get {} n).value + m, pending := (k.sems.get {} n).pending - m } := by
  have hpend : (max 0 (min 2147483647 (((k.sems.get {} n).pending : Int) - m))).toNat = (k.sems.get {} n).pending - m := by
    omega
  have hvalue : (max 0 (min 2147483647 (((k.sems.get {} n).value : Int) + m))).toNat = (k.sems.get {} n).value + m := by
    omega
  unfold Core.moveCounts
  dsimp only
  rw [clampSem_get, clampSem_get]
  simp only [if_true, Bool.false_eq_true, if_false, hpend, hvalue]

variable {c : Cond}

/-- Admission from PENDING alone feeds VALUE up to the threshold. -/
theorem State.admission_sem (hel : (s.core ⟨x, c.core⟩).elasticAsem c.sem = none) (hthr : c.thr < 1024)
    (hp : ((s.core ⟨x, c.core⟩).sems.get {} c.sem).pending < 2 ^ 31) :
    ((s.admission x c).core ⟨x, c.core⟩).sems.get {} c.sem = { (s.core ⟨x, c.core⟩).sems.get {} c.sem with
      value := ((s.core ⟨x, c.core⟩).sems.get {} c.sem).value + min ((s.core ⟨x, c.core⟩).sems.get {} c.sem).pending
        (c.thr - ((s.core ⟨x, c.core⟩).sems.get {} c.sem).value)
      pending := ((s.core ⟨x, c.core⟩).sems.get {} c.sem).pending - (c.thr - ((s.core ⟨x, c.core⟩).sems.get {} c.sem).value) } := by
  unfold State.admission
  dsimp only
  rw [hel]
  dsimp only
  split
  next hle => simp [Nat.sub_eq_zero_of_le hle]
  next hlt =>
    rw [State.core_modCoreOf (c := ⟨x, c.core⟩)]
    refine (moveCounts_get (m := min _ _) (Nat.min_le_left ..) hp (by omega)).trans ?_
    rw [Sem.mk.injEq]
    exact ⟨rfl, by omega, rfl⟩

/-- Nothing broken is released, and the threshold of a consuming condition is taken off. -/
theorem State.subtraction_sem (hcons : c.consume = true) (hthr : c.thr < 1024)
    (hv : ((s.core ⟨x, c.core⟩).sems.get {} c.sem).value < 2 ^ 31) :
    ((s.subtraction x c).core ⟨x, c.core⟩).sems.get {} c.sem = { (s.core ⟨x, c.core⟩).sems.get {} c.sem with
      value := ((s.core ⟨x, c.core⟩).sems.get {} c.sem).value - c.thr } := by
  have hvalue : (max 0 (min 2147483647 ((((s.core ⟨x, c.core⟩).sems.get {} c.sem).value : Int) - c.thr))).toNat =
      ((s.core ⟨x, c.core⟩).sems.get {} c.sem).value - c.thr := by omega
  unfold State.subtraction
  rw [if_pos hcons, State.core_modCoreOf (c := ⟨x, c.core⟩), clampSem_get, hvalue]
  rfl

theorem State.brokenRelease_none (h : ((s.core ⟨x, c.core⟩).sems.get {} c.sem).brk = false) : s.brokenRelease x c = s :=
  if_pos (by simp [h])

/-- A consuming condition alone takes its threshold from VALUE, fed from PENDING (10 R263). -/
theorem State.releaseConds_alone (hc : z.conds = [c]) (hcons : c.consume = true)
    (hel : (s.core ⟨x, c.core⟩).elasticAsem c.sem = none) (hthr : c.thr < 1024)
    (hbrk : ((s.core ⟨x, c.core⟩).sems.get {} c.sem).brk = false)
    (hv : ((s.core ⟨x, c.core⟩).sems.get {} c.sem).value < 2 ^ 31)
    (hp : ((s.core ⟨x, c.core⟩).sems.get {} c.sem).pending < 2 ^ 31) :
    ((s.releaseConds x z).core ⟨x, c.core⟩).sems.get {} c.sem = { (s.core ⟨x, c.core⟩).sems.get {} c.sem with
      value := ((s.core ⟨x, c.core⟩).sems.get {} c.sem).value - c.thr
      pending := ((s.core ⟨x, c.core⟩).sems.get {} c.sem).pending - (c.thr - ((s.core ⟨x, c.core⟩).sems.get {} c.sem).value) } := by
  have hadm := State.admission_sem hel hthr hp
  have hlisted (u : State) (f : Ctx → Ctx) (hf : ∀ k, (f k).sites = k.sites) :
      ((u.modCtx x f).core ⟨x, c.core⟩).sems.get {} c.sem = (u.core ⟨x, c.core⟩).sems.get {} c.sem :=
    (Views.ofCore (kc := Ctx.sites) (fun _ _ h => h) (fun k => k.sems.get {} c.sem) ⟨x, c.core⟩).ctx u x f hf
  have hone : s.releaseConds x z = (State.subtraction (State.brokenRelease (s.admission x c) x c) x c).modCtx x
      (fun k => { k with listed := [(z.step + 1, c.core, c.sem)] }) := by
    unfold State.releaseConds
    rw [hc]
    rfl
  rw [hone, hlisted]
  case hf => exact fun _ => rfl
  rw [State.brokenRelease_none (by rw [hadm]; exact hbrk), State.subtraction_sem hcons hthr (by rw [hadm]; dsimp only; omega), hadm, Sem.mk.injEq]
  exact ⟨by dsimp only; omega, rfl, rfl⟩

end

/-- Settles O37: a release sets the step that waits for its router phase, and else the freeze stands. -/
theorem freezesRelease : Obligations.FreezesRelease := by
  intro s x z hz hs he ha hi hra hr go row hrow
  have hexec : exec row s = done s (if s.mayRelease x z then s.release x z else s) := by
    rcases hrow with ⟨rfl, hrdv⟩ | ⟨rfl, hrdv⟩
    · exact congrArg (done s) (State.tryRelease_eq true hz hs he ha hi hra (by simpa using hrdv))
    · exact congrArg (done s) (State.tryRelease_eq false hz hs he ha hi hra (by simp [hrdv]))
  have hiff : s.mayRelease x z = true ↔ go := State.mayRelease_iff hs ha hr
  refine ⟨fun hgo => ⟨_, hexec.trans (congrArg (done s) (if_pos (hiff.mpr hgo))), State.release_resume⟩,
    fun hgo => ⟨_, hexec.trans ((congrArg (done s) (if_neg (fun h => hgo (hiff.mp h)))).trans (done_eq rfl)), rfl⟩, ?_⟩
  intro c hgo hc hcons hel hthr q hbrk hv hp
  refine ⟨_, hexec.trans (congrArg (done s) (if_pos (hiff.mpr hgo))), ?_⟩
  have hview := Views.ofCore (kc := Ctx.sites) (fun _ _ h => h) (fun k => k.sems.get {} c.sem) ⟨x, c.core⟩
  have hrelease : ((s.release x z).core ⟨x, c.core⟩).sems.get {} c.sem =
      ((s.releaseConds x z).core ⟨x, c.core⟩).sems.get {} c.sem := by
    unfold State.release
    dsimp only
    refine (hview.ctx _ _ _ ?_).trans ?_
    · exact fun _ => rfl
    · split
      · rfl
      · exact Views.transitCheck hview (fun _ _ => rfl) (fun _ _ => rfl) _ x
  exact hrelease.trans (State.releaseConds_alone hc hcons hel hthr hbrk hv hp)

end Sys2Proof.Machine
end

section
/-! Link ports in service (12 R304-R312, R318, R322): what a map flit says, the checks of lanes, heartbeats and groups; the
obligation O46. -/
namespace Sys2Proof.Machine
open Sys2Proof

/-! ### Packed fields -/

section
variable (w v : Nat) (r : List (Nat × Nat))

theorem pack_shiftRight : pack ((w, v) :: r) >>> w = pack r := by
  rw [pack, Nat.shiftRight_eq_div_pow, Nat.shiftLeft_eq, Nat.add_mul_div_right _ _ (Nat.two_pow_pos w),
    Nat.div_eq_of_lt (Nat.mod_lt _ (Nat.two_pow_pos w)), Nat.zero_add]

/-- The first field packed. -/
theorem fld_pack : fld (pack ((w, v) :: r)) 0 w = v % 2 ^ w := by
  rw [fld, pack, Nat.shiftRight_zero, Nat.shiftLeft_eq, Nat.add_mul_mod_self_right, Nat.mod_mod]

/-- A field above the first. -/
theorem fld_pack_above (lo len : Nat) : fld (pack ((w, v) :: r)) (w + lo) len = fld (pack r) lo len := by
  rw [fld, Nat.shiftRight_add, pack_shiftRight, fld]

theorem bit_pack_above (i : Nat) : bit (pack ((w, v) :: r)) (w + i) = bit (pack r) i := by
  rw [bit, ← Nat.testBit_shiftRight, pack_shiftRight, bit]

theorem bit_pack_flag (b : Bool) : bit (pack ((1, b2n b) :: r)) 0 = b := by
  rw [bit, Nat.testBit_zero, pack, Nat.shiftLeft_eq, Nat.add_mul_mod_self_right]
  cases b <;> rfl

end

/-- A field of a number that a word holds. -/
theorem fld_ofNat {n lo len : Nat} (h : lo + len ≤ n) (v : Nat) : fld (BitVec.ofNat n v).toNat lo len = fld v lo len := by
  refine Nat.eq_of_testBit_eq fun i => ?_
  rw [testBit_fld, testBit_fld, BitVec.toNat_ofNat, Nat.testBit_mod_two_pow]
  by_cases hi : i < len
  · simp [hi, show lo + i < n by omega]
  · simp [hi]

section
variable (s : State) (p : Nat) (hb : Bool) (run : Nat)

/-- A map flit acknowledges the last group received (12 R307). -/
theorem State.fld_mapFlit : fld (s.mapFlit p hb run).toNat 0 12 = (s.bundle (s.bundleOf p)).got % 4096 := by
  rw [State.mapFlit, fld_ofNat (by decide)]
  exact fld_pack ..

/-- A map flit asks again for what is missing (12 R307). -/
theorem State.bit_mapFlit : bit (s.mapFlit p hb run).toNat 12 = (s.bundle (s.bundleOf p)).nak := by
  rw [State.mapFlit, bit_ofNat (by decide)]
  exact (bit_pack_above 12 _ _ 0).trans (bit_pack_flag ..)

end

/-! ### Folds with one effect -/

section
variable {σ α : Type} {put : σ → α → σ} {s : σ} {l : List α}

theorem foldl_stays (h : ∀ a ∈ l, put s a = s) : l.foldl put s = s := by
  induction l with
  | nil => rfl
  | cons a l ih => rw [List.foldl_cons, h a List.mem_cons_self, ih (fun b hb => h b (List.mem_cons_of_mem a hb))]

/-- A fold of which one place alone has an effect. -/
theorem foldl_once {t : σ} {r : α} (hl : l.Nodup) (hr : r ∈ l) (hbefore : ∀ a ∈ l, a ≠ r → put s a = s) (hput : put s r = t)
    (hafter : ∀ a ∈ l, a ≠ r → put t a = t) : l.foldl put s = t := by
  induction l with
  | nil => cases hr
  | cons a l ih =>
    obtain ⟨hal, hl⟩ := List.nodup_cons.mp hl
    rw [List.foldl_cons]
    by_cases ha : a = r
    · subst ha
      rw [hput]
      exact foldl_stays (fun b hb => hafter b (List.mem_cons_of_mem _ hb) (ne_of_mem_of_not_mem hb hal))
    · rw [hbefore a List.mem_cons_self ha]
      exact ih hl ((List.mem_cons.mp hr).resolve_left (Ne.symm ha)) (fun b hb => hbefore b (List.mem_cons_of_mem _ hb))
        (fun b hb => hafter b (List.mem_cons_of_mem _ hb))

end

/-! ### Lanes -/

/-- The check of one lane of a port (12 R318). -/
def State.laneCheck (p : Nat) (u : State) (k : Nat) : State :=
  if u.isUp p && (u.port p).active.contains k && decide ((u.port p).ber.getD k 0 < 50) &&
    !((u.port p).swap.map (·.1)).contains k then u.laneFails p k else u

section
variable {s : State} {p : Nat} {code : Nat → Nat}

/-- The codes of the active lanes over the second past (12 R318). -/
def State.measuredLanes (s : State) (p : Nat) (code : Nat → Nat) : State :=
  s.modPort p (fun q => { q with ber := (List.range 9).map (fun k => if q.active.contains k then code k else q.ber.getD k 0) })

theorem State.measuredLanes_ber {k : Nat} (hk : k < 9) (ha : (s.port p).active.contains k = true) :
    ((s.measuredLanes p code).port p).ber.getD k 0 = code k := by
  rw [State.measuredLanes, State.port_modPort_self]
  simp only [List.getD_eq_getElem?_getD, List.getElem?_map, List.getElem?_range hk]
  exact if_pos ha

/-- A lane whose code has not fallen stays, and so does one already promised a spare. -/
theorem State.laneCheck_stays {u : State} {k : Nat} (h : (u.port p).active.contains k = true → 50 ≤ (u.port p).ber.getD k 0) :
    u.laneCheck p k = u := by
  refine if_neg fun hc => ?_
  simp only [Bool.and_eq_true, decide_eq_true_eq] at hc
  exact absurd hc.1.2 (Nat.not_lt.mpr (h hc.1.1.2))

theorem exec_laneBerCheck (h : s.isUp p = true) (errors : List Nat) (t0 : Nat) : exec (.laneBerCheck p errors t0) s =
    quiet s ((List.range 9).foldl (State.laneCheck p)
      ((s.atTick t0).measuredLanes p (fun i => berCode (dwellBits / 2) (errors.getD i 0)))) :=
  congrArg (quiet s) (if_pos h)

/-- A failing lane is to be replaced by the lowest ready spare (12 R318). -/
theorem State.laneCheck_swaps {u : State} {k j : Nat} (hup : u.isUp p = true) (ha : (u.port p).active.contains k = true)
    (hber : (u.port p).ber.getD k 0 < 50) (hswap : (u.port p).swap = [])
    (hj : (bitsUp 9 (if (u.port p).ready.testBit k then (u.port p).ready - 2 ^ k else (u.port p).ready)).find?
      (fun i => !(u.port p).active.contains i) = some j) :
    ((u.laneCheck p k).port p).swap = [(k, j)] ∧ ((u.laneCheck p k).port p).active = (u.port p).active ∧
    ((u.laneCheck p k).port p).width = (u.port p).width ∧ ((u.laneCheck p k).port p).ber = (u.port p).ber := by
  have hcheck : u.laneCheck p k = u.laneFails p k := if_pos (by
    rw [hup, ha, hswap, decide_eq_true hber]
    rfl)
  rw [hcheck]
  unfold State.laneFails
  simp only [State.port_modPort_self, hswap, List.map_nil, List.contains_nil, Bool.not_false, Bool.and_true]
  rw [hj]
  simp only [State.port_modPort_self, hswap, List.nil_append, and_self]

end

/-- Ready lanes as they stood, or without one that fails. -/
theorem PortsServe.laneBerCheck (s : State) (p t0 : Nat) (errors : List Nat) (hup : s.isUp p = true) :
    let code := fun i => berCode (dwellBits / 2) (errors.getD i 0)
    ((∀ i, i < 9 → (s.port p).active.contains i = true → 50 ≤ code i) → Completes (.laneBerCheck p errors t0) s (fun t =>
      (t.port p).swap = (s.port p).swap ∧ (t.port p).active = (s.port p).active ∧
      (t.port p).width = (s.port p).width)) ∧
    (∀ k j, k < 9 → (s.port p).active.contains k = true → (s.port p).swap = [] → code k < 50 →
      (∀ i, i < 9 → i ≠ k → (s.port p).active.contains i = true → 50 ≤ code i) →
      (bitsUp 9 (if (s.port p).ready.testBit k then (s.port p).ready - 2 ^ k else (s.port p).ready)).find?
        (fun i => !(s.port p).active.contains i) = some j →
      Completes (.laneBerCheck p errors t0) s (fun t => (t.port p).swap = [(k, j)] ∧
        (t.port p).active = (s.port p).active ∧ (t.port p).width = (s.port p).width)) := by
  intro code
  have hexec := exec_laneBerCheck hup errors t0
  have hport : ((s.atTick t0).measuredLanes p code).port p = { s.port p with ber := (List.range 9).map (fun k =>
      if (s.port p).active.contains k then code k else (s.port p).ber.getD k 0) } := State.port_modPort_self ..
  have hber {k : Nat} (hk : k < 9) (ha : (s.port p).active.contains k = true) :
      (((s.atTick t0).measuredLanes p code).port p).ber.getD k 0 = code k := State.measuredLanes_ber hk ha
  change _ = quiet s (List.foldl (State.laneCheck p) ((s.atTick t0).measuredLanes p code) _) at hexec
  generalize (s.atTick t0).measuredLanes p code = v at hexec hport hber
  refine ⟨fun hall => ?_, fun k j hk ha hswap hcode hothers hj => ?_⟩
  · rw [foldl_stays (s := v) (fun i hi => State.laneCheck_stays fun hact => ?_)] at hexec
    · refine ⟨_, hexec, ?_⟩
      show (v.port p).swap = _ ∧ (v.port p).active = _ ∧ (v.port p).width = _
      rw [hport]
      exact ⟨rfl, rfl, rfl⟩
    · have hact' : (s.port p).active.contains i = true := by rw [hport] at hact; exact hact
      rw [hber (List.mem_range.mp hi) hact']
      exact hall i (List.mem_range.mp hi) hact'
  · have hv : (v.port p).active = (s.port p).active ∧ (v.port p).width = (s.port p).width ∧ (v.port p).swap = (s.port p).swap ∧
        (v.port p).ready = (s.port p).ready ∧ v.isUp p = s.isUp p := by
      rw [State.isUp, hport]
      exact ⟨rfl, rfl, rfl, rfl, rfl⟩
    obtain ⟨hactive, hwidth, hsw, hready, hisUp⟩ := hv
    have hcodes {i : Nat} (hi : i < 9) (hik : i ≠ k) (hact : (v.port p).active.contains i = true) :
        50 ≤ (v.port p).ber.getD i 0 := by
      have hact' : (s.port p).active.contains i = true := hactive ▸ hact
      rw [hber hi hact']
      exact hothers i hi hik hact'
    obtain ⟨hswaps, hactive', hwidth', hber'⟩ := State.laneCheck_swaps (u := v) (hisUp.trans hup) (by rw [hactive]; exact ha)
      (by rw [hber hk ha]; exact hcode) (hsw.trans hswap) (j := j) (by rw [hready, hactive]; exact hj)
    rw [foldl_once (t := v.laneCheck p k) List.nodup_range (List.mem_range.mpr hk)
      (fun i hi hik => State.laneCheck_stays (hcodes (List.mem_range.mp hi) hik)) rfl
      (fun i hi hik => State.laneCheck_stays (by rw [hactive', hber']; exact hcodes (List.mem_range.mp hi) hik))] at hexec
    exact ⟨_, hexec, hswaps, hactive'.trans hactive, hwidth'.trans hwidth⟩

/-! ### Groups that leave, and map flits that arrive -/

section
variable {s : State} {p : Nat}

@[simp] theorem State.bundle_setBundle_self (s : State) (b : Nat) (v : Bundle) : (s.setBundle b v).bundle b = v :=
  Tab.get_set_self ..

theorem State.sendGroup_port (fseq ftype run : Nat) : (s.sendGroup p fseq ftype run).port p = (s.port p).sends fseq ftype
    (s.mapFlit p (s.beatDue p) run) (if s.beatDue p then s.now / 1000 * 1000 else (s.port p).beat) := by
  have hset (u : State) (b : Nat) (v : Bundle) : (u.setBundle b v).port p = u.port p := rfl
  unfold State.sendGroup
  dsimp only
  rw [hset, State.port_modPort_self]

theorem State.sendGroup_bundle (fseq ftype run : Nat) : (s.sendGroup p fseq ftype run).bundle (s.bundleOf p) =
    { s.bundle (s.bundleOf p) with freed := [0, 0, 0, 0, 0], nak := false } := State.bundle_setBundle_self ..

/-- A port that asks for a group again sends an idle group at once (12 R306, R312). -/
theorem State.sendIdle_nak (hup : s.isUp p = true) (hn : (s.bundle (s.bundleOf p)).nak = true) :
    s.sendIdle p = s.sendGroup p (s.bundle (s.bundleOf p)).sent 1 0 := by
  unfold State.sendIdle
  dsimp only
  rw [hup, hn]
  rfl

/-- What a port that asks for a group again says, and what it leaves of its bundle. -/
theorem State.asksAgain (hup : s.isUp p = true) (hn : (s.bundle (s.bundleOf p)).nak = true) :
    bit ((s.sendIdle p).port p).mapSent.toNat 12 = true ∧ ((s.sendIdle p).port p).fails = (s.port p).fails ∧
    (s.sendIdle p).bundle (s.bundleOf p) = { s.bundle (s.bundleOf p) with freed := [0, 0, 0, 0, 0], nak := false } := by
  rw [State.sendIdle_nak hup hn, State.sendGroup_port, State.sendGroup_bundle]
  exact ⟨(State.bit_mapFlit ..).trans hn, rfl, rfl⟩

/-- The state in which a group is to be asked for again (12 R312). -/
def State.naks (s : State) (p : Nat) : State := s.setBundle (s.bundleOf p) { s.bundle (s.bundleOf p) with nak := true }

theorem State.naks_bundle : (s.naks p).bundle (s.bundleOf p) = { s.bundle (s.bundleOf p) with nak := true } :=
  State.bundle_setBundle_self ..
theorem State.naks_bundleOf : (s.naks p).bundleOf p = s.bundleOf p := rfl
theorem State.naks_port : (s.naks p).port p = s.port p := rfl
theorem State.naks_now : (s.naks p).now = s.now := rfl
theorem State.naks_isUp : (s.naks p).isUp p = s.isUp p := rfl

/-- A group in error counts against its port and is asked for again; the 16th in a row takes the port DOWN (12 R311). -/
def State.failed (s : State) (p : Nat) : State :=
  (s.naks p).modPort p (fun q => { q with fails := q.fails + 1, groups := q.groups + 1 })

theorem State.badGroup_eq : s.badGroup p =
    if 16 ≤ ((s.failed p).port p).fails then (s.failed p).portOff p .down else (s.failed p).sendIdle p := rfl

theorem State.failed_fields : (s.failed p).isUp p = s.isUp p ∧ ((s.failed p).port p).fails = (s.port p).fails + 1 ∧
    (s.failed p).bundleOf p = s.bundleOf p ∧ (s.failed p).now = s.now ∧
    (s.failed p).bundle (s.bundleOf p) = { s.bundle (s.bundleOf p) with nak := true } := by
  have hb (u : State) (f : Port → Port) (k : Nat) : (u.modPort p f).bundle k = u.bundle k := rfl
  unfold State.failed
  rw [State.isUp, State.port_modPort_self, hb, State.naks_bundle, State.naks_port]
  exact ⟨rfl, rfl, rfl, rfl, rfl⟩

theorem State.portOff_bundle (ph : PortPhase) : (s.portOff p ph).bundle (s.bundleOf p) = { s.bundle (s.bundleOf p) with
    waiting := (s.bundle (s.bundleOf p)).waiting.filter (fun t => t.on ≠ some p) } := State.bundle_setBundle_self ..

/-- Nothing leaves a bundle on which nothing waits. -/
theorem State.pump_idle {b : Nat} (h : (s.bundle b).waiting = []) : s.pump b = s := by
  unfold State.pump
  rw [h]
  rfl

/-- The record of a port that has taken a map flit (12 R307, R322). -/
def Port.took (q : Port) (m : Flit) (now : Nat) : Port := ({ q with groups := q.groups + 1 } : Port).heartbeat m now

theorem Port.took_phase (q : Port) (m : Flit) (now : Nat) : (q.took m now).phase = q.phase ∧ (q.took m now).width = q.width ∧
    (q.took m now).mapSent = q.mapSent := by
  unfold Port.took Port.heartbeat
  dsimp only
  split <;> exact ⟨rfl, rfl, rfl⟩

/-- The map flit of a group at a port that is UP, nothing waiting to leave (12 R307, R310, R312). -/
theorem State.takeMap_up (hup : s.isUp p = true) (hw : (s.bundle (s.bundleOf p)).waiting = []) (m : Flit) :
    s.takeMap p m = (s.modPort p (fun q => q.took m s.now)).setBundle (s.bundleOf p) ((s.bundle (s.bundleOf p)).mapped m) := by
  have hup' : (s.modPort p (fun q => q.took m s.now)).isUp p = true := by
    rw [State.isUp, State.port_modPort_self, (Port.took_phase ..).1]
    exact hup
  refine (if_pos hup').trans (State.pump_idle ?_)
  rw [State.bundle_setBundle_self]
  exact hw

end

/-! ### Data groups in order -/

section
variable {s : State} {p t b tag : Nat} {c : Circuit}

/-- The first element a test accepts, changed in place, is found as changed. -/
theorem find?_map_ite {α : Type} {test : α → Bool} {f : α → α} (hf : ∀ a, test a = true → test (f a) = true) (l : List α) :
    (l.map (fun a => if test a then f a else a)).find? test = (l.find? test).map f := by
  induction l with
  | nil => rfl
  | cons a l ih =>
    rw [List.map_cons]
    by_cases ha : test a = true
    · rw [if_pos ha, List.find?_cons_of_pos (hf a ha), List.find?_cons_of_pos ha]
      rfl
    · rw [if_neg ha, List.find?_cons_of_neg ha, List.find?_cons_of_neg ha, ih]

/-- A circuit whose record changes is found as changed. -/
theorem State.circuit_modCircuit (f : Circuit → Circuit) (hf : ∀ k, (f k).port = k.port ∧ (f k).tag = k.tag)
    (h : s.circuit b tag = some c) : (s.modCircuit b tag f).circuit b tag = some (f c) :=
  (find?_map_ite (test := fun k : Circuit => k.port = b && k.tag = tag) (fun k hk => by rwa [(hf k).1, (hf k).2]) _).trans
    (congrArg (Option.map f) h)

/-- A line of a circuit that ends here waits for its entry's end, its buffer's credit returned (12 R308, R310). -/
theorem State.takeFlit_line {q : Tagged} (hctl : q.ctl = false) (hc : s.circuit (s.bundleOf p) q.tag = some c)
    (hd : ∀ o n, c.dest ≠ .through o n) : s.takeFlit p t q = (s.freeFlit (s.bundleOf p) q.vl).modCircuit (s.bundleOf p) q.tag
      (fun k => { k with lines := k.lines ++ [q.flit] }) := by
  have hpass : s.passesOn (s.bundleOf p) q = none := by
    have hcirc : q.circuit = q.tag := by simp [Tagged.circuit, hctl]
    unfold State.passesOn
    rw [hcirc, hc]
    split
    · rfl
    · dsimp only
      split
      next h => exact absurd h (hd _ _)
      next => rfl
  have hfree : (s.freeFlit (s.bundleOf p) q.vl).circuit (s.bundleOf p) q.tag = some c := hc
  unfold State.takeFlit
  dsimp only
  rw [hpass]
  dsimp only
  rw [hctl, if_neg Bool.false_ne_true]
  unfold State.dataFlit
  rw [hfree]
  dsimp only
  split
  next h => exact absurd h (hd _ _)
  next => rfl

/-- Nothing is delivered where no group is held. -/
theorem State.deliver_none (h : (s.bundle (s.bundleOf p)).held = []) (n : Nat) : State.deliver p t n s = s := by
  cases n with
  | zero => rfl
  | succ n =>
    unfold State.deliver
    dsimp only
    rw [h]
    rfl

/-- The group that follows in FSEQ order is delivered (12 R311). -/
theorem State.deliver_next {g : Group} (h : (s.bundle (s.bundleOf p)).held = [g])
    (hg : g.fseq = ((s.bundle (s.bundleOf p)).got + 1) % 4096) (n : Nat) : State.deliver p t (n + 1) s =
      State.deliver p t n (g.flits.foldl (fun s q => s.takeFlit g.port t q)
        (s.setBundle (s.bundleOf p) { s.bundle (s.bundleOf p) with got := g.fseq, held := [] })) := by
  conv => lhs; unfold State.deliver
  dsimp only
  rw [h, ← hg]
  simp

/-- What the last group that leaves says is received, whether an idle group had to go or not (12 R306, R307). -/
theorem State.sendIdle_acks (hup : s.isUp p = true) (hg : (s.bundle (s.bundleOf p)).got < 4096) :
    fld ((s.sendIdle p).port p).mapSent.toNat 0 12 = (s.bundle (s.bundleOf p)).got ∧
    ((s.sendIdle p).bundle (s.bundleOf p)).got = (s.bundle (s.bundleOf p)).got ∧
    (s.sendIdle p).circuit b tag = s.circuit b tag := by
  unfold State.sendIdle
  dsimp only
  split
  · refine ⟨?_, ?_, rfl⟩
    · rw [State.sendGroup_port]
      exact (State.fld_mapFlit ..).trans (Nat.mod_eq_of_lt hg)
    · rw [State.sendGroup_bundle]
  next h =>
    refine ⟨?_, rfl, rfl⟩
    simp only [hup, Bool.true_and, Bool.or_eq_true, not_or, decide_eq_true_eq, Decidable.not_not] at h
    exact h.2

/-- What a map flit leaves of its port and bundle where nothing waits to leave (12 R307, R310, R312). -/
theorem State.takeMap_fields (hup : s.isUp p = true) (hw : (s.bundle (s.bundleOf p)).waiting = []) (m : Flit) :
    (s.takeMap p m).isUp p = true ∧ ((s.takeMap p m).port p).width = (s.port p).width ∧
    (s.takeMap p m).bundle (s.bundleOf p) = (s.bundle (s.bundleOf p)).mapped m ∧
    (s.takeMap p m).bundleOf p = s.bundleOf p ∧ (s.takeMap p m).circuit b tag = s.circuit b tag := by
  have hset (u : State) (k : Nat) (v : Bundle) : (u.setBundle k v).port p = u.port p := rfl
  rw [State.takeMap_up hup hw, State.isUp, hset, State.port_modPort_self, (Port.took_phase ..).1, (Port.took_phase ..).2.1,
    State.bundle_setBundle_self]
  exact ⟨hup, rfl, rfl, rfl, rfl⟩

/-- A group joins those held, its flits counted in the buffers (12 R310, R311). -/
def State.hold (s : State) (p : Nat) (g : Group) : State := s.setBundle (s.bundleOf p) { s.bundle (s.bundleOf p) with
  held := (s.bundle (s.bundleOf p)).held ++ [g]
  buffered := g.flits.foldl (fun (l : List Nat) q => l.set q.vl (l.getD q.vl 0 + 1)) (s.bundle (s.bundleOf p)).buffered }

/-- A group that is the next in order, none being held, is delivered at once (12 R311). -/
theorem State.takeGroup_next {frames : List Frame} {x : State}
    (hx : (s.modPort p (fun q => { q with fails := 0 })).takeMap p ((deskew (widthLanes (s.port p).width) frames).headD 0) = x)
    (hwidth : (x.port p).width = (s.port p).width) (hheld : (x.bundle (x.bundleOf p)).held = [])
    (hgot : (x.bundle (x.bundleOf p)).got < 4096)
    (hseq : groupFseq frames = ((x.bundle (x.bundleOf p)).got + 1) % 4096) :
    s.takeGroup p t frames = (State.deliver p t 2 (x.hold p
      ⟨groupFseq frames, groupFlits (s.port p).width (deskew (widthLanes (s.port p).width) frames), p⟩)).sendIdle p := by
  have hahead : ¬ (decide ((groupFseq frames + 4096 - (x.bundle (x.bundleOf p)).got) % 4096 = 0) ||
      decide (512 < (groupFseq frames + 4096 - (x.bundle (x.bundleOf p)).got) % 4096) ||
      (x.bundle (x.bundleOf p)).held.any (fun g => g.fseq = groupFseq frames)) = true := by
    have hone : (groupFseq frames + 4096 - (x.bundle (x.bundleOf p)).got) % 4096 = 1 := by omega
    rw [hone, hheld]
    simp
  unfold State.takeGroup
  dsimp only
  rw [hx, if_neg hahead, hwidth, State.bundle_setBundle_self, hheld]
  unfold State.hold
  rw [hheld]
  rfl

/-- The delivery of one group of one line. -/
theorem State.deliver_line {q : Tagged} {fseq : Nat} (hheld : (s.bundle (s.bundleOf p)).held = [])
    (hseq : fseq = ((s.bundle (s.bundleOf p)).got + 1) % 4096) (hctl : q.ctl = false)
    (hc : s.circuit (s.bundleOf p) q.tag = some c) (hd : ∀ o n, c.dest ≠ .through o n) :
    let v := State.deliver p t 2 (s.hold p ⟨fseq, [q], p⟩)
    v.isUp p = s.isUp p ∧ v.bundleOf p = s.bundleOf p ∧ (v.bundle (s.bundleOf p)).got = fseq ∧
    v.circuit (s.bundleOf p) q.tag = some { c with lines := c.lines ++ [q.flit] } := by
  have hy : (s.hold p ⟨fseq, [q], p⟩).bundle (s.bundleOf p) = _ := State.bundle_setBundle_self ..
  have hyof : (s.hold p ⟨fseq, [q], p⟩).bundleOf p = s.bundleOf p := rfl
  have hyup : (s.hold p ⟨fseq, [q], p⟩).isUp p = s.isUp p := rfl
  have hyc : (s.hold p ⟨fseq, [q], p⟩).circuit (s.bundleOf p) q.tag = some c := hc
  rw [hheld] at hy
  intro v
  have hv : v = State.deliver p t 1 (State.takeFlit ((s.hold p ⟨fseq, [q], p⟩).setBundle (s.bundleOf p)
      { (s.hold p ⟨fseq, [q], p⟩).bundle (s.bundleOf p) with got := fseq, held := [] }) p t q) :=
    State.deliver_next (s := s.hold p ⟨fseq, [q], p⟩) (g := ⟨fseq, [q], p⟩) (by rw [hyof, hy]; rfl) (by rw [hyof, hy]; exact hseq) 1
  rw [hv]
  generalize s.hold p ⟨fseq, [q], p⟩ = y at hy hyof hyup hyc
  generalize hz : y.setBundle (s.bundleOf p) { y.bundle (s.bundleOf p) with got := fseq, held := [] } = z
  have hzb : z.bundle (s.bundleOf p) = { y.bundle (s.bundleOf p) with got := fseq, held := [] } := by
    rw [← hz, State.bundle_setBundle_self]
  have hzof : z.bundleOf p = s.bundleOf p := by rw [← hz]; exact hyof
  have hzup : z.isUp p = s.isUp p := by rw [← hz]; exact hyup
  have hzc : z.circuit (s.bundleOf p) q.tag = some c := by rw [← hz]; exact hyc
  rw [State.takeFlit_line hctl (by rw [hzof]; exact hzc) hd, hzof]
  have hfb : ((z.freeFlit (s.bundleOf p) q.vl).modCircuit (s.bundleOf p) q.tag
      (fun k => { k with lines := k.lines ++ [q.flit] })).bundle (s.bundleOf p) = _ := State.bundle_setBundle_self ..
  have hfc := State.circuit_modCircuit (s := z.freeFlit (s.bundleOf p) q.vl) (fun k => { k with lines := k.lines ++ [q.flit] })
    (fun _ => ⟨rfl, rfl⟩) hzc
  have hfof : ((z.freeFlit (s.bundleOf p) q.vl).modCircuit (s.bundleOf p) q.tag
      (fun k => { k with lines := k.lines ++ [q.flit] })).bundleOf p = s.bundleOf p := hzof
  rw [State.deliver_none (by rw [hfof, hfb, hzb])]
  refine ⟨hzup, hzof, ?_, hfc⟩
  rw [hfb, hzb]

end

/-- A data group of one flit in order: its line waits at its circuit, and the group is acknowledged (12 R308, R311, R312). -/
theorem PortsServe.dataFrameGroup (s : State) (p t0 : Nat) (heads : List (BitVec 20)) (payloads : List (List Flit)) (q : Tagged)
    (c : Circuit) :
    let b := s.bundleOf p
    let frames := framesOf heads payloads
    s.isUp p = true → (s.bundle b).held = [] → (s.bundle b).waiting = [] → (s.bundle b).got < 4096 →
      groupFseq frames = ((s.bundle b).got + 1) % 4096 →
      groupFlits (s.port p).width (deskew (widthLanes (s.port p).width) frames) = [q] → q.ctl = false →
      s.circuit b q.tag = some c → (∀ o n, c.dest ≠ .through o n) →
      Completes (.dataFrameGroup p true heads payloads t0) s (fun t => (t.bundle b).got = groupFseq frames ∧
        fld (t.port p).mapSent.toNat 0 12 = groupFseq frames ∧
        t.circuit b q.tag = some { c with lines := c.lines ++ [q.flit] }) := by
  intro b frames hup hheld hwait hgot hseq hflits hctl hc hd
  obtain ⟨hxup, hxwidth, hxb, hxof, hxc⟩ := State.takeMap_fields (s := (s.atTick t0).modPort p (fun q => { q with fails := 0 })) (p := p)
    (b := b) (tag := q.tag) (by rw [State.isUp, State.port_modPort_self]; exact hup) hwait
    ((deskew (widthLanes ((s.atTick t0).port p).width) frames).headD 0)
  have hi : exec (.dataFrameGroup p true heads payloads t0) s = done s ((s.atTick t0).takeGroup p t0 frames) :=
    congrArg (done s) ((if_pos hup).trans (if_pos rfl))
  generalize hx : ((s.atTick t0).modPort p (fun q => { q with fails := 0 })).takeMap p
    ((deskew (widthLanes ((s.atTick t0).port p).width) frames).headD 0) = x at hxup hxwidth hxb hxof hxc
  have hb : x.bundleOf p = b := hxof
  have hxgot : (x.bundle (x.bundleOf p)).got = (s.bundle b).got := by rw [hb]; exact (congrArg Bundle.got hxb :)
  have hxheld : (x.bundle (x.bundleOf p)).held = [] := by rw [hb]; exact (congrArg Bundle.held hxb :).trans hheld
  have hw : (x.port p).width = ((s.atTick t0).port p).width := by
    rw [hxwidth, State.port_modPort_self]
  rw [State.takeGroup_next hx hw hxheld (by rw [hxgot]; exact hgot) (by rw [hxgot]; exact hseq)] at hi
  have hflits' : groupFlits ((s.atTick t0).port p).width (deskew (widthLanes ((s.atTick t0).port p).width) frames) = [q] := hflits
  rw [hflits'] at hi
  obtain ⟨hvup, hvof, hvgot, hvc⟩ := State.deliver_line (s := x) (p := p) (t := t0) (q := q) (fseq := groupFseq frames) (c := c) hxheld
    (by rw [hxgot]; exact hseq) hctl (by rw [hb]; exact hxc.trans hc) hd
  generalize State.deliver p t0 2 (x.hold p ⟨groupFseq frames, [q], p⟩) = v at hi hvup hvof hvgot hvc
  rw [hb] at hvof hvgot hvc
  have hlt : (v.bundle (v.bundleOf p)).got < 4096 := by
    rw [hvof, hvgot, hseq]
    exact Nat.mod_lt _ (by decide)
  obtain ⟨hmap, hgot', hcirc⟩ := State.sendIdle_acks (s := v) (p := p) (b := b) (tag := q.tag) (hvup.trans hxup) hlt
  rw [hvof, hvgot] at hmap hgot'
  generalize v.sendIdle p = w at hi hmap hgot' hcirc
  exact ⟨_, hi, hgot', hmap, hcirc.trans hvc⟩

/-- Settles O46: a lane falls to the lowest spare, and groups, heartbeats and map flits act on their port and bundle alone. -/
theorem portsServe : Obligations.PortsServe := by
  intro s p t0 u b
  refine ⟨fun errors hup => PortsServe.laneBerCheck s p t0 errors hup, fun hph => ⟨fun hg => ?_, fun hg => ?_, fun hbeat => ?_, fun hbeat => ?_⟩,
    fun head m hup hcode hport hbeat hw => ?_, fun hup => ⟨fun hgap => ?_, fun hgap => ?_⟩,
    fun heads payloads hup => ⟨fun hf => ?_, fun hf => ?_⟩, ?_⟩
  case refine_1 =>
    refine ⟨_, rfl, ?_⟩
    show (State.modPort s p _).port p = s.port p
    rw [State.port_modPort_self]
    exact if_neg (by simp [hg])
  case refine_2 =>
    refine ⟨_, rfl, ?_⟩
    have hc : ((decide ((s.port p).phase = .up) || decide ((s.port p).phase = .miswired)) &&
        decide ((s.port p).groups % 256 = 255)) = true := by simpa [hg] using hph
    show ((State.modPort s p _).port p).swap = [] ∧ ((State.modPort s p _).port p).groups = _ ∧
      ((State.modPort s p _).port p).width = _ ∧ (∀ k j, _ → ((State.modPort s p _).port p).active = _)
    rw [State.port_modPort_self, if_pos hc]
    refine ⟨rfl, rfl, rfl, fun k j hswap => ?_⟩
    simp only [Port.swapped, hswap, List.foldl_cons, List.foldl_nil]
  case refine_3 => 
    have hdue : u.beatDue p = true := decide_eq_true hbeat
    have hc : ((decide ((u.port p).phase = .up) || decide ((u.port p).phase = .miswired)) && u.beatDue p) = true := by
      have hph' : (u.port p).phase = .up ∨ (u.port p).phase = .miswired := hph
      rw [hdue]
      simpa using hph'
    have hp := State.sendGroup_port (s := u) (p := p) (u.bundle (u.bundleOf p)).sent 1 0
    rw [hdue, if_pos rfl] at hp
    have hi : exec (.heartbeatSend p t0) s = quiet s (u.sendGroup p (u.bundle (u.bundleOf p)).sent 1 0) :=
      congrArg (quiet s) (if_pos hc)
    have hb := State.sendGroup_bundle (s := u) (p := p) (u.bundle (u.bundleOf p)).sent 1 0
    generalize u.sendGroup p (u.bundle (u.bundleOf p)).sent 1 0 = v at hi hp hb
    exact ⟨_, hi, (congrArg Port.beat hp :), (congrArg Port.mapSent hp :), (congrArg Port.heads hp :), hb⟩
  case refine_4 =>
    have hbeat' : u.now / 1000 * 1000 ≤ (u.port p).beat := hbeat
    have hdue : u.beatDue p = false := by
      rw [State.beatDue, decide_eq_false_iff_not]
      omega
    have hc : ¬ ((decide ((u.port p).phase = .up) || decide ((u.port p).phase = .miswired)) && u.beatDue p) = true := by
      rw [hdue]
      simp
    exact completes_atTick (congrArg (quiet s) (if_neg hc)) rfl
  case refine_5 =>
    have hs : (u.setBundle b { u.bundle b with seen := bvf head 0 12 }).isUp p = true := hup
    have hb : (u.setBundle b { u.bundle b with seen := bvf head 0 12 }).bundle b = { u.bundle b with seen := bvf head 0 12 } :=
      State.bundle_setBundle_self ..
    have hi : exec (.idleFrameGroup p ⟨head, m⟩ t0) s = quiet s ((u.setBundle b { u.bundle b with seen := bvf head 0 12 }).takeMap p m) := by
      have hin : u.inService p = true := by
        have hup' : u.isUp p = true := hup
        rw [State.inService, hup']
        rfl
      have hsee : u.seeFseq p head = u.setBundle b { u.bundle b with seen := bvf head 0 12 } := if_pos hup
      exact congrArg (quiet s) ((if_pos hin).trans (by rw [hsee]))
    generalize hv : u.setBundle b { u.bundle b with seen := bvf head 0 12 } = v at hi hs hb
    have hvb : v.bundleOf p = b := by rw [← hv]; rfl
    have hvp : v.port p = s.port p := by rw [← hv]; rfl
    have hvn : v.now = u.now := by rw [← hv]; rfl
    rw [State.takeMap_up hs (by rw [hvb, hb]; exact hw), hvb] at hi
    have hport' : ((v.modPort p (fun q => q.took m v.now)).setBundle b ((v.bundle b).mapped m)).port p = (s.port p).took m u.now := by
      rw [← hvp, ← hvn]
      exact State.port_modPort_self v p (fun q => q.took m v.now)
    have hbundle : ((v.modPort p (fun q => q.took m v.now)).setBundle b ((v.bundle b).mapped m)).bundle b = (v.bundle b).mapped m :=
      State.bundle_setBundle_self ..
    generalize (v.modPort p (fun q => q.took m v.now)).setBundle b ((v.bundle b).mapped m) = w at hi hport' hbundle
    have htook : (s.port p).took m u.now = { s.port p with groups := (s.port p).groups + 1, tdepth := fld m.toNat 466 4, heard := u.now } := by
      have hpartner : (decide (fld m.toNat 472 24 = (s.port p).partner) && decide (fld m.toNat 496 5 = (s.port p).partnerPort)) = true := by
        simp [hcode, hport]
      exact (if_pos hpartner).trans (by rw [hbeat]; rfl)
    rw [hb] at hbundle
    refine ⟨_, hi, ?_, ?_, hbundle⟩
    · exact congrArg Port.heard (hport'.trans htook)
    · exact congrArg Port.tdepth (hport'.trans htook)
  case refine_6 =>
    have hi : exec (.fseqGapTimeout p) s = quiet s ((s.naks p).sendIdle p) :=
      congrArg (quiet s) (if_pos (by rw [hup, hgap]; rfl))
    obtain ⟨hmap, -, hbundle⟩ := State.asksAgain (s := s.naks p) (p := p) hup
      (by rw [State.naks_bundleOf, State.naks_bundle])
    rw [State.naks_bundleOf, State.naks_bundle] at hbundle
    generalize (s.naks p).sendIdle p = v at hi hmap hbundle
    exact ⟨_, hi, hmap, hbundle⟩
  case refine_7 =>
    exact ⟨_, (congrArg (quiet s) (if_neg (by rw [hgap]; simp))).trans (quiet_eq rfl rfl), rfl⟩
  case refine_8 =>
    obtain ⟨hfup, hfails, hof, -, hnak⟩ := State.failed_fields (s := u) (p := p)
    have hi : exec (.dataFrameGroup p false heads payloads t0) s = done s ((u.failed p).sendIdle p) := by
      refine congrArg (done s) ((if_pos hup).trans ((if_neg Bool.false_ne_true).trans ?_))
      have hf' : (u.port p).fails < 15 := hf
      exact State.badGroup_eq.trans (if_neg (by rw [hfails]; omega))
    obtain ⟨hmap, hsame, hbundle⟩ := State.asksAgain (s := u.failed p) (p := p) (hfup.trans hup) (by rw [hof, hnak])
    rw [hof, hnak] at hbundle
    rw [hfails] at hsame
    generalize (u.failed p).sendIdle p = v at hi hmap hsame hbundle
    exact ⟨_, hi, hmap, hsame, (congrArg Bundle.got hbundle :)⟩
  case refine_9 =>
    obtain ⟨-, hfails, hof, hnow, hnak⟩ := State.failed_fields (s := u) (p := p)
    have hi : exec (.dataFrameGroup p false heads payloads t0) s = done s ((u.failed p).portOff p .down) := by
      refine congrArg (done s) ((if_pos hup).trans ((if_neg Bool.false_ne_true).trans ?_))
      have hf' : 15 ≤ (u.port p).fails := hf
      exact State.badGroup_eq.trans (if_pos (by rw [hfails]; omega))
    have hport := State.portOff_port (s := u.failed p) (p := p) .down
    have hbundle := State.portOff_bundle (s := u.failed p) (p := p) .down
    rw [hof, hnak] at hbundle
    rw [hnow] at hport
    generalize (u.failed p).portOff p .down = v at hi hport hbundle
    exact ⟨_, hi, (congrArg Port.phase hport :), (congrArg Port.since hport :), (congrArg Bundle.nak hbundle :)⟩
  case refine_10 => exact fun heads payloads q c => PortsServe.dataFrameGroup s p t0 heads payloads q c

end Sys2Proof.Machine
end

section
/-! Partners that leave (12 R323-R326) and management flits (13 R346): the obligation O47. -/
namespace Sys2Proof.Machine
open Sys2Proof

/-! ### Silence -/

section
variable {s : State} {p : Nat}

/-- As a port leaves service every other stays as it is. -/
theorem State.portOff_other {v : Nat} (hv : v ≠ p) (ph : PortPhase) : (s.portOff p ph).port v = s.port v := by
  have hset (u : State) (b : Nat) (w : Bundle) : (u.setBundle b w).port v = u.port v := rfl
  unfold State.portOff
  dsimp only
  rw [hset, State.port_modPort_other s p _ hv]

/-- A member port that has been silent goes DOWN with its event (12 R323). -/
def State.silenced (s : State) (p : Nat) : State :=
  ((s.portOff p .down).modPort p (fun v => { v with silent := true })).raise 0x51 none p (s.port p).partner

/-- What neither the ports nor the bundles change, a port that leaves service leaves. -/
theorem State.get_portOff {β : Type} (get : State → β) (hport : ∀ (u : State) q v, get (u.setPort q v) = get u)
    (hbundle : ∀ (u : State) b v, get (u.setBundle b v) = get u) (ph : PortPhase) : get (s.portOff p ph) = get s :=
  (hbundle _ _ _).trans (hport _ _ _)

theorem State.silenced_bundleOf (v : Nat) : (s.silenced p).bundleOf v = s.bundleOf v := by
  have hraise (u : State) (c : Nat) (x : Option Nat) (n d : Nat) : (u.raise c x n d).bundleOf v = u.bundleOf v := rfl
  have hmod (u : State) (f : Port → Port) : (u.modPort p f).bundleOf v = u.bundleOf v := rfl
  rw [State.silenced, hraise, hmod, State.get_portOff (State.bundleOf · v) (fun _ _ _ => rfl) (fun _ _ _ => rfl)]

theorem State.silenced_other {v : Nat} (hv : v ≠ p) : (s.silenced p).port v = s.port v := by
  have hraise (u : State) (c : Nat) (x : Option Nat) (n d : Nat) : (u.raise c x n d).port v = u.port v := rfl
  rw [State.silenced, hraise, State.port_modPort_other _ _ _ hv, State.portOff_other hv]

theorem State.silenced_port : (s.silenced p).port p = { s.port p with
    phase := .down, since := s.now, watch := false, active := [], width := 0, swap := [], fails := 0, silent := true } := by
  have hraise (u : State) (c : Nat) (x : Option Nat) (n d : Nat) : (u.raise c x n d).port p = u.port p := rfl
  rw [State.silenced, hraise, State.port_modPort_self, State.portOff_port]

/-- Another port of the bundle is in service or to come back. -/
def State.otherMember (s : State) (p : Nat) : Bool :=
  (List.range 20).any (fun v => v ≠ p && s.bundleOf v = s.bundleOf p && (s.isUp v || (s.port v).returnBy.isSome))

/-- What a port that has heard nothing for 3,500 ticks leaves (12 R323). -/
theorem State.portSilent_eq (hwatch : (s.port p).watch = true) (hret : (s.port p).returnBy = none)
    (hlate : (s.port p).heard + 3500 ≤ s.now) (hup : (s.port p).phase = .up) :
    s.portSilent p = if !(s.silenced p).otherMember p then (s.silenced p).partnerLost p else s.silenced p := by
  have hsilent : ((s.port p).watch && (s.port p).returnBy.isNone && decide ((s.port p).heard + 3500 ≤ s.now)) = true := by
    rw [hwatch, hret, decide_eq_true hlate]
    rfl
  have hmember : decide ((s.port p).phase ≠ .miswired) = true := by rw [hup]; rfl
  unfold State.portSilent
  dsimp only
  rw [if_pos hsilent, hmember]
  rfl

theorem State.portSilent_member (hwatch : (s.port p).watch = true) (hret : (s.port p).returnBy = none)
    (hlate : (s.port p).heard + 3500 ≤ s.now) (hup : (s.port p).phase = .up)
    (hother : ∃ v, v < 20 ∧ v ≠ p ∧ s.bundleOf v = s.bundleOf p ∧ s.isUp v = true) : s.portSilent p = s.silenced p := by
  obtain ⟨v, hv, hvp, hvb, hvup⟩ := hother
  have hmem : (s.silenced p).otherMember p = true := by
    rw [State.otherMember, List.any_eq_true]
    refine ⟨v, List.mem_range.mpr hv, ?_⟩
    rw [State.silenced_bundleOf, State.silenced_bundleOf, State.isUp, State.silenced_other hvp, hvb]
    have hvup' : decide ((s.port v).phase = .up) = true := hvup
    simp [hvp, hvup']
  rw [State.portSilent_eq hwatch hret hlate hup, hmem]
  rfl

end

/-! ### Management flits -/

section
variable {s : State} {p tag : Nat} {f : Flit}

/-- The first of several flits of a host bridge's command begins it (13 R346). -/
theorem State.mgmtFlit_first (h1 : 1 ≤ flitAt f 2 1) (h6 : flitAt f 2 1 ≤ 6) (hrole : s.role p = 6)
    (hbound : (s.slot (flitAt f 2 1)).bound = true) (hagent : (s.slot (flitAt f 2 1)).agent = (s.port p).partner)
    (hpartner : (s.port p).partner ≠ 16777215) (hfirst : bit (flitAt f 3 1) 0 = true) (hlast : bit (flitAt f 3 1) 1 = false) :
    s.mgmtFlit p tag f = (s.modSlot (flitAt f 2 1) (fun v => { v with
      bound := true, agent := (s.port p).partner, transport := 1, port := p, tag := 0 })).modSlot (flitAt f 2 1) (fun v => { v with
        assembling := some (((lineBytes f).drop 8).take (Nat.min 56 (flitAt f 4 2))) }) := by
  have hof : s.agentOf p tag = ((s.port p).partner, 1, 0) := if_pos hrole
  have h7 : flitAt f 2 1 ≠ 7 := by omega
  have htakes : s.takesAgent (flitAt f 2 1) p (s.port p).partner 1 = true := by
    unfold State.takesAgent
    rw [if_neg h7, hrole, hbound, hagent]
    simp [h1, h6, hpartner]
  have hhalo : s.haloAgent (flitAt f 2 1) (s.port p).partner = s := if_neg (by simp [h7])
  have hodd : flitAt f 3 1 % 2 = 1 := by simpa [bit, Nat.testBit_zero] using hfirst
  have hmore : ¬ flitAt f 3 1 / 2 % 2 = 1 := by
    have := hlast
    rw [bit, Nat.testBit_succ, Nat.testBit_zero, decide_eq_false_iff_not] at this
    exact this
  have hlen : ¬ (4096 < (([] : List Byte) ++ ((lineBytes f).drop 8).take (Nat.min 56 (flitAt f 4 2))).length) := by
    have h56 : Nat.min 56 (flitAt f 4 2) ≤ 56 := Nat.min_le_left ..
    rw [List.nil_append, List.length_take]
    omega
  have hlen' : ¬ decide (4096 < (([] : List Byte) ++ ((lineBytes f).drop 8).take (Nat.min 56 (flitAt f 4 2))).length) = true := by
    rwa [decide_eq_true_eq]
  unfold State.mgmtFlit
  rw [hof]
  dsimp only
  rw [htakes, hhalo, if_neg (by decide), hodd]
  simp only [if_true]
  rw [if_neg hlen', if_neg hmore]
  rfl

end

/-! ### Absences and fronts -/

section
variable {s : State} {p : Nat} {f : Flit}

section
variable {t : State} (hmbox : t.mbox = s.mbox) (hctxs : t.ctxs = s.ctxs) (hcores : t.cores = s.cores)
  (hcircuits : t.links.circuits = s.links.circuits)
include hmbox

/-- A route between modules is fixed by the settings (12 R333, R335). -/
theorem State.path_eq (n a b : Nat) : t.path n a b = s.path n a b := by
  induction n generalizing a b with
  | zero => rfl
  | succ n ih =>
    have hset (k i : Nat) : t.setting k i = s.setting k i := by rw [State.setting, State.settingRaw, hmbox]; rfl
    have hdims (i : Nat) : t.dims i = s.dims i := by rw [State.dims, hset]; rfl
    have hmode : t.mode = s.mode := hset ..
    have hhop : t.torusHop a b = s.torusHop a b := by unfold State.torusHop; simp only [hdims]
    have hnext : t.torusNeighbour a = s.torusNeighbour a := by funext d; unfold State.torusNeighbour; simp only [hdims]
    unfold State.path
    rw [hmode, hhop, hnext]
    simp only [ih]

include hctxs hcores hcircuits

/-- The connections of a module are those of its ends and its circuits. -/
theorem State.connsBy_eq (code : Nat) : t.connsBy code = s.connsBy code := by
  have hcode : t.code = s.code := by rw [State.code, State.setting, State.settingRaw, hmbox]; rfl
  have hpasses (a b c : Nat) : t.passes a b c = s.passes a b c := by
    unfold State.passes
    rw [State.path_eq hmbox]
  have hctx (x : Nat) : t.ctx x = s.ctx x := by rw [State.ctx, hctxs]; rfl
  have hcore (c : CoreRef) : t.core c = s.core c := by rw [State.core, State.coreAt, hctx, hcores]; rfl
  unfold State.connsBy
  simp only [hcode, hpasses, hctx, hcore, hcircuits]

end

/-- A port is out of service for a planned absence (12 R324). -/
def State.absent (s : State) (p r : Nat) : State := (s.portOff p .absentPlanned).modPort p (fun v => { v with returnBy := some r })

theorem State.absent_port (r : Nat) : (s.absent p r).port p = { s.port p with
    phase := .absentPlanned, since := s.now, watch := false, active := [], width := 0, swap := [], fails := 0, returnBy := some r } := by
  rw [State.absent, State.port_modPort_self, State.portOff_port]

theorem State.get_absent {β : Type} (get : State → β) (hport : ∀ (u : State) q v, get (u.setPort q v) = get u)
    (hbundle : ∀ (u : State) b v, get (u.setBundle b v) = get u) (r : Nat) : get (s.absent p r) = get s :=
  (hport _ _ _).trans (State.get_portOff get hport hbundle _)

/-- An absence of links alone, or of a module that no circuit ends at or passes, takes its port out (12 R324). -/
theorem State.absenceArrives_eq (hup : s.isUp p = true)
    (hkind : flitAt f 1 1 = 0 ∨ (s.role p ≠ 5 ∧ (flitAt f 1 1 ≠ 2 ∨ s.connsBy (flitAt f 2 3) = []))) :
    s.absenceArrives p f = s.absent p (Nat.min (flitAt f 8 8) (s.now + 60000000000)) := by
  have hconns : (s.absent p (Nat.min (flitAt f 8 8) (s.now + 60000000000))).connsBy (flitAt f 2 3) = s.connsBy (flitAt f 2 3) :=
    State.connsBy_eq (State.get_absent State.mbox (fun _ _ _ => rfl) (fun _ _ _ => rfl) _)
      (State.get_absent State.ctxs (fun _ _ _ => rfl) (fun _ _ _ => rfl) _)
      (State.get_absent State.cores (fun _ _ _ => rfl) (fun _ _ _ => rfl) _)
      (State.get_absent (·.links.circuits) (fun _ _ _ => rfl) (fun _ _ _ => rfl) _) _
  have hrole : (s.absent p (Nat.min (flitAt f 8 8) (s.now + 60000000000))).role p = s.role p :=
    State.get_absent (State.role · p) (fun _ _ _ => rfl) (fun _ _ _ => rfl) _
  have harrives : s.absenceArrives p f =
      let t := if flitAt f 1 1 = 0 then s.absent p (Nat.min (flitAt f 8 8) (s.now + 60000000000))
        else (s.absent p (Nat.min (flitAt f 8 8) (s.now + 60000000000))).partnerResets p
      if flitAt f 1 1 = 2 then (t.connsBy (flitAt f 2 3)).foldl (fun s i => s.breakWith i 2 none) t else t :=
    if_neg (by rw [hup]; decide)
  generalize s.absent p (Nat.min (flitAt f 8 8) (s.now + 60000000000)) = v at hconns hrole harrives
  rw [harrives]
  dsimp only
  rcases hkind with h0 | ⟨h5, h2⟩
  · rw [if_pos h0, if_neg (by omega)]
  · have hreset : v.partnerResets p = v := if_pos (by rwa [hrole])
    rw [hreset, ite_self]
    rcases h2 with h2 | h2
    · rw [if_neg h2]
    · rw [hconns, h2, List.foldl_nil, ite_self]

/-- No entry passes a test that none passes. -/
theorem filter_false {α : Type} (l : List α) : l.filter (fun _ => false) = [] :=
  List.filter_eq_nil_iff.mpr fun _ _ => Bool.false_ne_true

/-- A front about another module does nothing where no context is held and none is paired (12 R326). -/
theorem State.frontOther_none (hfree : ∀ x, (s.ctx x).phase = .free ∧ (s.ctx x).halo.phase = .unpaired ∧ (s.ctx x).job.modules = [])
    (lost job : Nat) : s.frontOther lost job = s := by
  have hjob : s.jobConns job = [] := by
    unfold State.jobConns
    simp [(hfree _).1, filter_false]
  have htake : s.takeOverFor lost (some job) = s := foldl_stays fun x _ => if_neg (by
    rw [(hfree x).2.1]
    simp)
  have hids (l : List Nat) : l.filter (fun i => ([] : List Nat).contains i) = [] := filter_false l
  unfold State.frontOther
  dsimp only
  rw [hjob, hids]
  exact htake

/-- No module takes part in a job that no context names. -/
theorem State.bundlesTo_none (hfree : ∀ x, (s.ctx x).phase = .free ∧ (s.ctx x).halo.phase = .unpaired ∧ (s.ctx x).job.modules = [])
    (job : Nat) : s.bundlesTo (s.jobModules job) = [] := by
  have hmods : s.jobModules job = [] := by
    unfold State.jobModules
    simp [(hfree _).2.2]
  rw [hmods]
  simp [State.bundlesTo, filter_false]

/-- A front that is not known yet is kept and raised (12 R326). -/
def State.fronted (s : State) (p : Nat) (f : Flit) : State :=
  (s.modLinks (fun l => { l with fronts := l.fronts.filter (fun v => decide (s.now < v.tick + 10000000)) ++
    [⟨flitAt f 1 3, flitAt f 16 4, s.now⟩] })).raise 0x53 none p (pack [(24, flitAt f 1 3), (32, flitAt f 16 4), (8, flitAt f 20 1)])

/-- A front about another module, of a job that no context names, does nothing more (12 R326). -/
theorem State.frontArrives_eq (hnew : ∀ v ∈ s.links.fronts, v.lost = flitAt f 1 3 → v.job = flitAt f 16 4 → v.tick + 10000000 ≤ s.now)
    (hcode : flitAt f 1 3 ≠ s.code)
    (hfree : ∀ x, (s.ctx x).phase = .free ∧ (s.ctx x).halo.phase = .unpaired ∧ (s.ctx x).job.modules = []) :
    s.frontArrives p f = s.fronted p f := by
  have hknown : ¬ s.links.fronts.any (fun v => v.lost = flitAt f 1 3 && v.job = flitAt f 16 4 && decide (s.now < v.tick + 10000000)) =
      true := by
    rw [List.any_eq_true]
    rintro ⟨v, hv, hc⟩
    simp only [Bool.and_eq_true, decide_eq_true_eq] at hc
    exact absurd (hnew v hv hc.1.1 hc.1.2) (Nat.not_le.mpr hc.2)
  have hcode' : flitAt f 1 3 ≠ (s.fronted p f).code := hcode
  have hfree' : ∀ x, ((s.fronted p f).ctx x).phase = .free ∧ ((s.fronted p f).ctx x).halo.phase = .unpaired ∧
      ((s.fronted p f).ctx x).job.modules = [] := hfree
  have harrives : s.frontArrives p f =
      let t := if flitAt f 1 3 = (s.fronted p f).code then (s.fronted p f).frontMine p (flitAt f 16 4)
        else (s.fronted p f).frontOther (flitAt f 1 3) (flitAt f 16 4)
      ((t.bundlesTo (t.jobModules (flitAt f 16 4))).filter (fun b => b ≠ t.bundleOf p)).foldl (fun s b =>
        s.sendFront b (flitAt f 1 3) (flitAt f 4 3) (flitAt f 8 8) (flitAt f 16 4) (flitAt f 20 1 + 1)) t := if_neg hknown
  generalize s.fronted p f = v at hcode' hfree' harrives
  rw [harrives, if_neg hcode', State.frontOther_none hfree']
  dsimp only
  rw [State.bundlesTo_none hfree']
  rfl

end

/-- Settles O47: silence, absences and fronts act as their rules say, and the first flit of a command begins it. -/
theorem partnersLeave : Obligations.PartnersLeave := by
  intro s p t0 f u
  refine ⟨fun hwatch hret => ⟨fun hlate hup hother => ?_, fun hearly => ?_⟩, fun r hr hup => ⟨fun hdue => ?_, fun hearly => ?_⟩,
    fun hup hkind => ?_, fun hknown => ?_, fun hnew hcode hfree => ?_, fun tag hthrough hmc h1 h6 hrole hbound hagent hpartner hfirst hlast => ?_⟩
  case refine_1 =>
    have hi : exec (.portSilent p t0) s = done s (u.silenced p) :=
      congrArg (done s) (State.portSilent_member hwatch hret hlate hup hother)
    have hport := State.silenced_port (s := u) (p := p)
    have hseq : (u.silenced p).events.nextSeq = s.events.nextSeq + 1 := rfl
    generalize u.silenced p = v at hi hport hseq
    exact ⟨_, hi, (congrArg Port.phase hport :), (congrArg Port.silent hport :), (congrArg Port.watch hport :), hseq⟩
  case refine_2 =>
    have hquiet : (s.atTick t0).portSilent p = s.atTick t0 := if_neg (by
      have hearly' : ¬ ((s.atTick t0).port p).heard + 3500 ≤ (s.atTick t0).now := Nat.not_le.mpr hearly
      simp [hearly'])
    exact ⟨_, (congrArg (done s) hquiet).trans (done_eq rfl), rfl⟩
  case refine_3 =>
    have hi : exec (.absenceReturnBy p t0) s = quiet s (u.modPort p (fun v => { v with heard := r, returnBy := none, watch := true })) := by
      refine congrArg (quiet s) ?_
      rw [show ((s.atTick t0).port p).returnBy = some r from hr]
      exact if_pos (by
        rw [show (s.atTick t0).isUp p = false from hup, decide_eq_true (show r ≤ (s.atTick t0).now from hdue)]
        rfl)
    have hport := State.port_modPort_self u p (fun v => { v with heard := r, returnBy := none, watch := true })
    generalize u.modPort p (fun v => { v with heard := r, returnBy := none, watch := true }) = v at hi hport
    exact ⟨_, hi, (congrArg Port.watch hport :), (congrArg Port.heard hport :), (congrArg Port.returnBy hport :)⟩
  case refine_4 =>
    refine completes_atTick rfl ?_
    rw [show ((s.atTick t0).port p).returnBy = some r from hr]
    exact if_neg (by
      rw [decide_eq_false (show ¬ r ≤ (s.atTick t0).now from Nat.not_le.mpr hearly)]
      simp)
  case refine_5 =>
    have hi : exec (.absence p f) s = done s (s.absent p (Nat.min (flitAt f 8 8) (s.now + 60000000000))) :=
      congrArg (done s) (State.absenceArrives_eq hup hkind)
    have hport := State.absent_port (s := s) (p := p) (Nat.min (flitAt f 8 8) (s.now + 60000000000))
    generalize s.absent p (Nat.min (flitAt f 8 8) (s.now + 60000000000)) = v at hi hport
    exact ⟨_, hi, (congrArg Port.phase hport :), (congrArg Port.since hport :), (congrArg Port.returnBy hport :)⟩
  case refine_6 =>
    obtain ⟨v, hv, hlost, hjob, htick⟩ := hknown
    have hsame : s.frontArrives p f = s := if_pos (by
      rw [List.any_eq_true]
      exact ⟨v, hv, by simp [hlost, hjob, htick]⟩)
    exact ⟨_, (congrArg (done s) hsame).trans (done_eq rfl), rfl⟩
  case refine_7 =>
    have hi : exec (.faultFront p f) s = done s (s.fronted p f) := congrArg (done s) (State.frontArrives_eq hnew hcode hfree)
    exact ⟨_, hi, rfl, List.mem_append_right _ (List.mem_singleton.mpr rfl)⟩
  case refine_8 =>
    have hm := State.mgmtFlit_first (tag := tag) h1 h6 hrole hbound hagent hpartner hfirst hlast
    have hi : exec (.mgmt p ⟨tag, f⟩) s = quiet s (s.mgmtFlit p tag f) := by
      refine congrArg (quiet s) ?_
      split
      next b n h =>
        obtain ⟨c, hc, hdest⟩ := Option.map_eq_some_iff.mp h
        exact absurd hdest (hthrough c _ _ hc)
      next => exact if_pos hmc
    have hslot := State.slot_modSlot_self (s.modSlot (flitAt f 2 1) (fun v => { v with
      bound := true, agent := (s.port p).partner, transport := 1, port := p, tag := 0 })) (flitAt f 2 1) (fun v => { v with
        assembling := some (((lineBytes f).drop 8).take (Nat.min 56 (flitAt f 4 2))) })
    rw [← hm, State.slot_modSlot_self] at hslot
    generalize s.mgmtFlit p tag f = v at hi hslot
    exact ⟨_, hi, (congrArg Slot.assembling hslot :), (congrArg Slot.transport hslot :), (congrArg Slot.port hslot :)⟩

end Sys2Proof.Machine
end

section
/-! What arrives on circuits (08 R218; 10 R255, R257; 12 R308, R313, R339): the obligation O48. -/
namespace Sys2Proof.Machine
open Sys2Proof

/-! ### Entries and credits at an end here -/

section
variable {s : State} {x core ep : Nat}

/-- What an addition to PENDING leaves of its semaphore (10 R247). -/
theorem addPending_get (k : Core) (n m : Nat) : ((k.addPending n m).sems.get {} n).pending =
    Nat.min 2147483647 ((k.sems.get {} n).pending + m) := by
  have hclamp : (max 0 (min 2147483647 (((k.sems.get {} n).pending : Int) + m))).toNat =
      min 2147483647 ((k.sems.get {} n).pending + m) := by omega
  unfold Core.addPending
  rw [clampSem_get, if_pos rfl]
  exact hclamp

theorem addPending_ends (k : Core) (n m : Nat) : (k.addPending n m).recvEps = k.recvEps ∧ (k.addPending n m).sendEps = k.sendEps := by
  unfold Core.addPending Core.clampSem
  dsimp only
  split <;> exact ⟨rfl, rfl⟩

/-- An entry whose end arrives completes at its receive end, whose semaphore gains the token (10 R255, R260). -/
theorem State.arriveEntry_end {index token : Nat} {lines : List Line}
    (hb : ((s.core ⟨x, core⟩).recvEps.get {} ep).state = .bound) (hel : ((s.core ⟨x, core⟩).recvEps.get {} ep).elastic = true)
    (hk : ((s.core ⟨x, core⟩).recvEps.get {} ep).kind ≠ 2) :
    let e := (s.core ⟨x, core⟩).recvEps.get {} ep
    ((s.arriveEntry x core ep index token lines).core ⟨x, core⟩).recvEps.get {} ep = { e with subs := e.subs.set {} 0 { e.sub 0 with
      entries := (e.sub 0).entries ++ [⟨(e.sub 0).done, token, Nat.min lines.length e.esize, false⟩]
      done := (e.sub 0).done + 1, arrived := 0 } } ∧
    (((s.arriveEntry x core ep index token lines).core ⟨x, core⟩).sems.get {} e.asem).pending =
      Nat.min 2147483647 (((s.core ⟨x, core⟩).sems.get {} e.asem).pending + token) := by
  have hlive : ¬ (((s.core ⟨x, core⟩).recvEps.get {} ep).state ≠ .bound ∨ ¬ ((s.core ⟨x, core⟩).recvEps.get {} ep).elastic = true) := by
    simp [hb, hel]
  have hcomplete (i n : Nat) : ((s.core ⟨x, core⟩).recvEps.get {} ep).complete i token n false = _ := if_neg hk
  intro e
  unfold State.arriveEntry
  rw [State.core_modCoreOf (c := ⟨x, core⟩)]
  dsimp only
  rw [if_neg hlive, if_neg hk, hcomplete]
  dsimp only
  rw [addPending_get, (addPending_ends ..).1, Tab.get_set_self]
  exact ⟨rfl, rfl⟩

/-- A credit frees an elastic send end, whose semaphore gains what every receiver has freed (10 R257, R261). -/
theorem State.arriveCredit_end {i k : Nat} (hb : ((s.core ⟨x, core⟩).sendEps.get {} ep).state ≠ .unbound)
    (hel : ((s.core ⟨x, core⟩).sendEps.get {} ep).elastic = true) :
    let e := (s.core ⟨x, core⟩).sendEps.get {} ep
    ((s.arriveCredit x core ep i k).core ⟨x, core⟩).sendEps.get {} ep = (e.credit i k).1 ∧
    (((s.arriveCredit x core ep i k).core ⟨x, core⟩).sems.get {} e.csem).pending =
      Nat.min 2147483647 (((s.core ⟨x, core⟩).sems.get {} e.csem).pending + (e.credit i k).2) := by
  have hlive : ¬ (((s.core ⟨x, core⟩).sendEps.get {} ep).state = .unbound ∨ ¬ ((s.core ⟨x, core⟩).sendEps.get {} ep).elastic = true) := by
    simp [hb, hel]
  intro e
  unfold State.arriveCredit
  rw [State.core_modCoreOf (c := ⟨x, core⟩)]
  dsimp only
  rw [if_neg hlive, addPending_get, (addPending_ends ..).2, Tab.get_set_self]
  exact ⟨rfl, rfl⟩

end

/-! ### Bulk bytes -/

section
variable {s : State} {connId : Nat} {k : Bulk}

/-- Bytes that arrive where nothing waits for them stay with their connection. -/
theorem State.bulkEvent_quiet (hk : s.bulk connId = some k) (hbroken : k.broken = false)
    (hw : (s.ctx k.ctx).weights.busy = false ∨ (s.ctx k.ctx).weights.conn ≠ connId)
    (hd : ∀ d ∈ s.mbox.deferred, d.key ≠ connId) : s.bulkEvent connId = s := by
  have hbusy : ¬ ((s.ctx k.ctx).weights.busy && (s.ctx k.ctx).weights.conn = connId) = true := by
    rcases hw with h | h <;> simp [h]
  have hnone : s.mbox.deferred.filter (fun d => d.key = connId && [0x40, 0x9A, 0xA0].contains d.opcode) = [] :=
    List.filter_eq_nil_iff.mpr fun d hin => by simp [hd d hin]
  unfold State.bulkEvent
  rw [hk]
  dsimp only
  rw [if_neg hbusy, hnone, hbroken]
  rfl

/-- The bytes of the entry join those of its connection. -/
def Bulk.takes (connId : Nat) (bytes : List Byte) (b : Bulk) : Bulk :=
  if b.connId = connId && !b.broken then { b with bytes := b.bytes ++ bytes } else b

/-- A connection whose record changes is found as changed. -/
theorem State.bulk_modLinks {f : Bulk → Bulk} (hf : ∀ b, (f b).connId = b.connId) (s : State) (connId : Nat) :
    (s.modLinks (fun l => { l with bulks := l.bulks.map f })).bulk connId = (s.bulk connId).map f := by
  have htest : (fun b : Bulk => decide (b.connId = connId)) ∘ f = fun b => decide (b.connId = connId) :=
    funext fun b => congrArg (fun n => decide (n = connId)) (hf b)
  refine (List.find?_map ..).trans ?_
  rw [htest]
  rfl

end

/-! ### An entry's end -/

section
variable {s : State} {b : Nat} {f : Flit} {c : Circuit}

/-- The state once the lines of a circuit's entry have been taken. -/
def State.emptied (s : State) (b tag : Nat) : State := s.modCircuit b tag (fun k => { k with lines := [] })

/-- Bytes that arrive join those of their connection (13 R378). -/
def State.bulkJoins (s : State) (connId : Nat) (bytes : List Byte) : State :=
  s.modLinks (fun l => { l with bulks := l.bulks.map (Bulk.takes connId bytes) })

/-- The place of the entry is owed while the bytes wait, and otherwise returned at once. -/
def State.bulkCredit (s : State) (b : Nat) (c : Circuit) : State :=
  if s.bulkWaits c.connId then
    s.modLinks (fun l => { l with bulks := l.bulks.map (fun k => if k.connId = c.connId then { k with owed := k.owed + 1 } else k) })
  else s.sendCtl b 3 [(0, 1, 2), (2, 2, c.rev), (4, 1, 1)]

theorem State.entryEndOn_bulk {x : Nat} (hc : s.circuit b (flitAt f 2 2) = some c) (hd : c.dest = .bulk x) :
    s.entryEndOn b f = (((s.emptied b (flitAt f 2 2)).bulkJoins c.connId
      ((c.lines.take (flitAt f 6 1)).flatMap lineBytes)).bulkCredit b c).bulkEvent c.connId := by
  unfold State.entryEndOn
  dsimp only
  rw [hc]
  dsimp only
  rw [hd]
  rfl

theorem State.entryEndOn_recv {x core ep i : Nat} (hc : s.circuit b (flitAt f 2 2) = some c) (hd : c.dest = .recv x core ep i) :
    s.entryEndOn b f = (s.emptied b (flitAt f 2 2)).arriveEntry x core ep (flitAt f 7 1) (flitAt f 4 2) (c.lines.take (flitAt f 6 1)) := by
  unfold State.entryEndOn
  dsimp only
  rw [hc]
  dsimp only
  rw [hd]
  rfl

theorem State.entryEndOn_through {q o : Nat} (hc : s.circuit b (flitAt f 2 2) = some c) (hd : c.dest = .through q o) :
    s.entryEndOn b f = (s.emptied b (flitAt f 2 2)).sendFlit q c.vl true 0 (BitVec.ofNat 512 (putFld f.toNat 16 16 o)) := by
  unfold State.entryEndOn
  dsimp only
  rw [hc]
  dsimp only
  rw [hd]
  rfl

theorem State.entryCreditOn_through {q o : Nat} (hc : s.circuit b (flitAt f 2 2) = some c) (hd : c.dest = .through q o) :
    s.entryCreditOn b f = s.sendFlit q 3 true 0 (BitVec.ofNat 512 (putFld f.toNat 16 16 o)) := by
  unfold State.entryCreditOn
  rw [hc]
  dsimp only
  rw [hd]

theorem State.entryCreditOn_send {x core ep i : Nat} (hc : s.circuit b (flitAt f 2 2) = some c) (hd : c.dest = .send x core ep i) :
    s.entryCreditOn b f = s.arriveCredit x core ep i (flitAt f 4 1) := by
  unfold State.entryCreditOn
  rw [hc]
  dsimp only
  rw [hd]

theorem State.entryEndOn_none (hc : s.circuit b (flitAt f 2 2) = none) : s.entryEndOn b f = s ∧ s.entryCreditOn b f = s := by
  unfold State.entryEndOn State.entryCreditOn
  dsimp only
  rw [hc]
  exact ⟨rfl, rfl⟩

/-- A connection that is not broken takes the bytes of an entry that arrives. -/
theorem State.bulkJoins_bulk {connId : Nat} {k : Bulk} {bytes : List Byte} (hk : s.bulk connId = some k) (hbroken : k.broken = false) :
    (s.bulkJoins connId bytes).bulk connId = some { k with bytes := k.bytes ++ bytes } := by
  have hid : k.connId = connId := by simpa using List.find?_some hk
  rw [State.bulkJoins, State.bulk_modLinks (fun v => by unfold Bulk.takes; split <;> rfl), hk, Option.map_some]
  exact congrArg some (if_pos (by simp [hid, hbroken]))

/-- What a connection's record is once an entry's bytes have joined it. -/
theorem State.bulkCredit_bulk {k : Bulk} (hk : s.bulk c.connId = some k) :
    ∃ n, (s.bulkCredit b c).bulk c.connId = some { k with owed := n } := by
  have hid : k.connId = c.connId := by simpa using List.find?_some hk
  unfold State.bulkCredit
  split
  · refine ⟨k.owed + 1, ?_⟩
    rw [State.bulk_modLinks (fun v => by split <;> rfl), hk, Option.map_some, if_pos hid]
  · refine ⟨k.owed, ?_⟩
    rw [State.sendCtl, State.get_sendFlit (State.bulk · c.connId) (fun _ _ _ _ _ _ => rfl) (fun _ _ _ => rfl), hk]

/-- What circuits do not change, the credit of a bulk entry leaves. -/
theorem State.get_bulkCredit {β : Type} (get : State → β) (h : ∀ (u : State) l, get { u with links := l } = get u) :
    get (s.bulkCredit b c) = get s := by
  unfold State.bulkCredit
  split
  · exact h _ _
  · exact State.get_sendCtl get (fun _ _ _ _ _ _ => h _ _) (fun _ _ _ => h _ _) ..

end

/-! ### Remote reads -/

section
variable {s : State} {p x : Nat} {f : Flit}

/-- A remote read that is refused is answered with no lines, and nothing else happens (08 R218). -/
theorem completes_remoteRefused (hi : execRemoteRd p f s = quiet s (s.remoteReply p f [])) :
    Completes (.remoteRd p f) s (fun t => t = s.remoteReply p f []) := by
  have hsent : s.remoteReply p f [] = s.sendCtl p 1 [(0, 1, 1), (2, 2, leAt (lineBytes f) 2 2), (4, 2, 0), (6, 1, 0)] := rfl
  refine ⟨_, Eq.trans hi (quiet_eq ?_ ?_), rfl⟩ <;> rw [hsent, State.sendCtl] <;> simp

/-- The request for line `i` of a remote read that context `x` serves. -/
def State.remoteLine (s : State) (x p : Nat) (f : Flit) (i : Nat) : DramReq :=
  { ctx := x, step := 0, core := 0, j := i, line := (s.ctx x).img.stackLine s.variant (flitAt f 4 1) (flitAt f 8 4 + i),
    ctxLine := flitAt f 8 4 + i, write := false, dest := .remote p f, tick := s.now,
    group := (s.stack ((s.ctx x).stackOf (flitAt f 4 1))).nextGroup, at' := i }

/-- The state with a remote read's requests at their stack. -/
def State.remoteQueued (s : State) (x p : Nat) (f : Flit) : State :=
  let d := (s.ctx x).stackOf (flitAt f 4 1)
  s.modStack d (fun v => { v with
    remote := v.remote ++ (List.range (flitAt f 12 1 % 64 + 1)).map (s.remoteLine x p f)
    nextGroup := (s.stack d).nextGroup + 1 })

end

/-- Settles O48: each kind of circuit end takes what arrives, and through traffic goes on. -/
theorem circuitsCarry : Obligations.CircuitsCarry := by
  intro s p f c b
  refine ⟨?_, ?_, fun x k hc hd hk hbroken hw hdef => ?_, fun q o hc hd => ?_, fun hc => ⟨?_, ?_⟩, fun tag q o hc hd => ?_,
    fun hr => ?_, fun x hr => ?_, ⟨_, rfl, rfl⟩⟩
  case refine_1 =>
    intro x core ep i hc hd e q n q' hb hel hk
    have hi : exec (.entryEnd p f) s = done s _ := congrArg (done s) (State.entryEndOn_recv hc hd)
    obtain ⟨hend, hpend⟩ := State.arriveEntry_end (s := s.emptied b (flitAt f 2 2)) (x := x) (core := core) (ep := ep) (index := flitAt f 7 1)
      (token := flitAt f 4 2) (lines := c.lines.take (flitAt f 6 1)) hb hel hk
    rw [List.length_take] at hend
    exact ⟨_, hi, hend, hpend⟩
  case refine_2 =>
    intro x core ep i hc hd e hb hel
    exact ⟨_, congrArg (quiet s) (State.entryCreditOn_send hc hd), State.arriveCredit_end hb hel⟩
  case refine_3 =>
    have hi : exec (.entryEnd p f) s = done s _ := congrArg (done s) (State.entryEndOn_bulk hc hd)
    obtain ⟨n, hn⟩ := State.bulkCredit_bulk (b := b) (c := c) (State.bulkJoins_bulk (s := s.emptied b (flitAt f 2 2))
      (bytes := (c.lines.take (flitAt f 6 1)).flatMap lineBytes) hk hbroken)
    rw [State.bulkEvent_quiet hn hbroken] at hi
    · exact ⟨_, hi, n, hn⟩
    · rw [State.get_bulkCredit (State.ctx · k.ctx) fun _ _ => rfl]
      exact hw
    · rw [State.get_bulkCredit State.mbox fun _ _ => rfl]
      exact hdef
  case refine_4 =>
    intro g
    exact ⟨⟨_, (congrArg (quiet s) (State.entryCreditOn_through hc hd)).trans (quiet_eq (by simp) (by simp)), rfl⟩,
      ⟨_, (congrArg (done s) (State.entryEndOn_through hc hd)).trans (done_eq (State.sendFlit_pending ..)), rfl⟩⟩
  case refine_5 => exact ⟨_, (congrArg (done s) (State.entryEndOn_none hc).1).trans (done_eq rfl), rfl⟩
  case refine_6 => exact ⟨_, (congrArg (quiet s) (State.entryEndOn_none hc).2).trans (quiet_eq rfl rfl), rfl⟩
  case refine_7 =>
    have hi : exec (.mgmt p ⟨tag, f⟩) s = quiet s (s.queueFlit q { vl := 3, ctl := true, tag := o, flit := f }) := by
      refine congrArg (quiet s) ?_
      dsimp only
      rw [hc, Option.map_some, hd]
    exact ⟨_, hi.trans (quiet_eq (State.get_queueFlit State.pending (fun _ _ _ _ _ _ => rfl) (fun _ _ _ => rfl) ..)
      (State.get_queueFlit State.mem (fun _ _ _ _ _ _ => rfl) (fun _ _ _ => rfl) ..)), rfl⟩
  case refine_8 => exact completes_remoteRefused (by unfold execRemoteRd; dsimp only; rw [hr])
  case refine_9 =>
    refine ⟨fun hclosed => completes_remoteRefused (by unfold execRemoteRd; dsimp only; rw [hr]; exact congrArg (quiet s) (if_pos hclosed)),
      fun hopen => ?_⟩
    have hi : exec (.remoteRd p f) s = quiet s (s.remoteQueued x p f) := by
      unfold exec execRemoteRd
      dsimp only
      rw [hr]
      exact congrArg (quiet s) (if_neg (by rw [hopen]; exact Bool.false_ne_true))
    have hstack : (s.remoteQueued x p f).stack ((s.ctx x).stackOf (flitAt f 4 1)) = _ := Tab.get_set_self ..
    refine ⟨_, hi, ⟨_, (congrArg Stack.remote hstack :), by simp, fun r hin => ?_⟩, (congrArg Stack.waiting hstack :)⟩
    obtain ⟨i, -, rfl⟩ := List.mem_map.mp hin
    exact ⟨rfl, rfl⟩

end Sys2Proof.Machine
end

section
/-! Settings and transactions (11 R288, R295; 13 R367-R373): what a value that takes force leaves, then the obligations O50
and O51. -/
namespace Sys2Proof.Machine
open Sys2Proof

/-! ### What a served row keeps -/

section
variable {s : State} {m : Nat} {q : Cmd} {k : CmdSpec} {i : Instr} {body : State → State × Reply}

/-- A served row comes to its effect, answered or not: a slot that its command unbinds gets no answer (13 R362). -/
theorem Serves.serve_or (h : Serves s m q k) (body : State → State × Reply) :
    s.serve m q k body = (body (s.entered m q k.op)).1 ∨
    s.serve m q k body = (body (s.entered m q k.op)).1.respond m q.seq (body (s.entered m q k.op)).2 := by
  have hentered : (((s.post m (cmdBytes q k.op)).modSlot m (fun v => { v with posted := false })).mboxTimers).renew m =
      s.entered m q k.op := by
    rw [State.mboxTimers_idle (by exact h.lease) (by exact h.election)]
    rfl
  have hserved : (s.post m (cmdBytes q k.op)).servesSlot m = true := by rw [State.servesSlot_post]; exact h.served
  have hm : ¬ 8 ≤ m := by have := h.slot; omega
  unfold State.serve
  simp only [h.runs, h.free, hserved, hm, hentered, State.gate_entered, h.gate, Bool.not_true, decide_false, Bool.or_false,
    Bool.false_eq_true, if_false, if_true]
  split
  · exact .inl rfl
  · exact .inr rfl

/-- What its effect brings about and an answer leaves holds after a served row. -/
theorem Serves.brings {P : State → Prop} (h : Serves s m q k) (hi : exec i s = Machine.quiet s (s.serve m q k body))
    (hbody : P (body (s.entered m q k.op)).1) (hrespond : ∀ u m n r, P u → P (u.respond m n r))
    (hquiet : ∀ u, P u → P { u with pending := s.pending, mem := s.mem }) : Completes i s P := by
  refine ⟨_, hi, hquiet _ ?_⟩
  rcases h.serve_or body with hserve | hserve
  · rwa [hserve]
  · rw [hserve]
    exact hrespond _ _ _ _ hbody

end

/-- What of the mailbox neither the slots nor the lease hold is as it was at the start of a service. -/
theorem State.entered_mail {β : Type} (p : Mbox → β) (hp : ∀ (b : Mbox) l e, p { b with slots := l, leaseEnd := e } = p b) (s : State)
    (m : Nat) (q : Cmd) (op : Nat) : p (s.entered m q op).mbox = p s.mbox := by
  have heq : (s.entered m q op).mbox = { s.mbox with
      slots := (s.entered m q op).mbox.slots
      leaseEnd := (s.entered m q op).mbox.leaseEnd } := by
    unfold State.entered State.renew
    split <;> rfl
  rw [heq, hp]

/-- An answer leaves the mailbox but for its slots and what is to be sent. -/
theorem State.respond_mail {β : Type} (p : Mbox → β) (hp : ∀ (b : Mbox) l n c, p { b with slots := l, messages := n, mctp := c } = p b)
    (s : State) (m n : Nat) (r : Reply) : p (s.respond m n r).mbox = p s.mbox := by
  unfold State.respond State.message
  split
  · exact hp s.mbox _ s.mbox.messages _
  · exact hp s.mbox _ _ s.mbox.mctp

/-! ### What a value that takes force leaves -/

/-- A property that the effects of a setting leave: it rests neither on what they change nor on the events. -/
structure SettingFrame (P : State → Prop) : Prop where
  raise : ∀ u c x n d, P u → P (u.raise c x n d)
  domains : ∀ (u : State) l, P u → P { u with domains := l }
  cores : ∀ (u : State) l, P u → P { u with cores := l }
  ctxs : ∀ (u : State) l, P u → P { u with ctxs := l }
  links : ∀ (u : State) l, P u → P { u with links := l }
  time : ∀ (u : State) b, P u → P { u with time := b }
  boot : ∀ (u : State) b, P u → P { u with boot := b }
  events : ∀ (u : State) e, P u → P { u with events := e }
  slots : ∀ (u : State) l, P u → P { u with mbox := { u.mbox with slots := l } }
  owner : ∀ (u : State) o e, P u → P { u with mbox := { u.mbox with owner := o, leaseEnd := e } }
  rollBack : ∀ u n c, P u → P (u.rollBack n c)

/-- What a setting's new value does beside standing in the registry. -/
def State.settingEffect (s : State) (num inst v : Nat) : State :=
  match num with
  | 0x02 => (List.range 20).foldl (fun s d => s.marginWarn d) s
  | 0x03 => s.timeRole v
  | 0x11 => s.codeWritten
  | 0x20 => s.rebind inst v
  | 0x22 => s.realert
  | 0x40 => (s.ctx inst).cores.foldl (fun s p => s.ceThreshold inst p) s
  | 0x42 => s.stallCheck inst
  | 0x50 => s.quotaSet inst 0
  | 0x51 => s.quotaSet inst 1
  | 0x52 => s.quotaSet inst 2
  | 0x53 => s.quotaSet inst 3
  | 0x54 => s.quotaSet inst 4
  | 0x55 => s.quotaSet inst 5
  | _ => s

theorem State.applySetting_eq (s : State) (sid v : Nat) : s.applySetting sid v =
    if sidNum sid = 0x01 then s else (s.setSetting sid v).settingEffect (sidNum sid) (sidInst sid) v := rfl

namespace SettingFrame
variable {P : State → Prop} (h : SettingFrame P) {s : State} (hs : P s)
include h hs

theorem marginWarn (d : Nat) : P (s.marginWarn d) := by
  rcases State.marginWarn_or (s := s) (d := d) with hwarn | hwarn <;> rw [hwarn]
  · exact hs
  · exact h.raise _ _ _ _ _ (h.domains _ _ hs)

theorem timeState (st : Nat) : P (s.timeState st) := by
  unfold State.timeState
  split
  · exact hs
  · exact h.raise _ _ _ _ _ (h.time _ _ hs)

theorem timeRole (v : Nat) : P (s.timeRole v) := by
  have hrole := h.time s { s.time with good := 0, askedAt := none } hs
  unfold State.timeRole
  dsimp only
  split
  · exact h.timeState (h.time _ _ hrole) _
  · split
    · exact h.timeState hrole _
    · exact hrole

theorem trainPort (p : Nat) : P (s.trainPort p) := by
  unfold State.trainPort
  split
  · exact hs
  · exact h.links _ _ hs

theorem codeWritten : P s.codeWritten := by
  unfold State.codeWritten
  split
  · exact List.foldlRecOn _ _ (h.boot _ _ hs) fun _ hu p _ => h.trainPort hu p
  · exact hs

theorem rebind (m v : Nat) : P (s.rebind m v) := by
  unfold State.rebind
  dsimp only
  split
  · exact hs
  · refine h.slots _ _ ?_
    split
    · exact h.raise _ _ _ _ _ (h.owner _ _ _ (h.rollBack _ _ _ hs))
    · exact hs

theorem ceThreshold (x p : Nat) : P (s.ceThreshold x p) := by
  unfold State.ceThreshold
  dsimp only
  split
  · exact h.raise _ _ _ _ _ (h.cores _ _ hs)
  · exact hs

theorem stallCheck (x : Nat) : P (s.stallCheck x) := by
  unfold State.stallCheck
  split
  · exact hs
  · dsimp only
    split
    · exact h.raise _ _ _ _ _ (h.ctxs _ _ hs)
    · exact hs

theorem quotaSet (x row : Nat) : P (s.quotaSet x row) := by
  unfold State.quotaSet
  split
  · exact h.raise _ _ _ _ _ hs
  · exact hs

theorem settingEffect (num inst v : Nat) : P (s.settingEffect num inst v) := by
  unfold State.settingEffect
  split
  · exact List.foldlRecOn _ _ hs fun _ hu d _ => h.marginWarn hu d
  · exact h.timeRole hs v
  · exact h.codeWritten hs
  · exact h.rebind hs inst v
  · exact h.events _ _ hs
  · exact List.foldlRecOn _ _ hs fun _ hu p _ => h.ceThreshold hu inst p
  · exact h.stallCheck hs inst
  all_goals first | exact h.quotaSet hs inst _ | exact hs

end SettingFrame

/-- The registry holds no more and no less after an effect. -/
theorem settingFrame_settings (t : Tab (Option Nat)) : SettingFrame (fun u => u.mbox.settings = t) where
  raise _ _ _ _ _ h := h
  domains _ _ h := h
  cores _ _ h := h
  ctxs _ _ h := h
  links _ _ h := h
  time _ _ h := h
  boot _ _ h := h
  events _ _ h := h
  slots _ _ h := h
  owner _ _ _ h := h
  rollBack u n c h := (u.rollBack_same n c (fun v => v.mbox.settings) fun _ => rfl).trans h

/-- The registry holds a value that takes force (13 R368). -/
theorem State.settingRaw_applySetting {s : State} {sid : Nat} (h : sidNum sid ≠ 1) (v : Nat) :
    (s.applySetting sid v).settingRaw sid = some v := by
  have hsettings := (settingFrame_settings _).settingEffect (s := s.setSetting sid v) rfl (sidNum sid) (sidInst sid) v
  rw [State.applySetting_eq, if_neg h, State.settingRaw, hsettings]
  exact Tab.get_set_self none s.mbox.settings sid (some v)

/-- The profile is a setting of class T. -/
theorem sidNum_ne_one {variant sid : Nat} {i : Nat × Nat} (h : sidInfo variant sid = some i) (hi : i.1 ≠ 3) : sidNum sid ≠ 1 := by
  intro hnum
  have hrow : settingInfo variant 1 = some (3, 0) := rfl
  unfold sidInfo at h
  rw [hnum, hrow] at h
  dsimp only at h
  split at h
  · exact hi (congrArg Prod.fst (Option.some.inj h)).symm
  · exact absurd h (by simp)

/-! ### Lone writes -/

/-- The write of a setting whose value stands its checks, by class (13 R368). -/
theorem State.writeSetting_eq {s : State} {sid v : Nat} {i : Nat × Nat} (hcheck : s.settingCheck sid v = stOK)
    (hi : sidInfo s.variant sid = some i) : s.writeSetting sid v = match i.1 with
      | 0 => if sidNum sid = 0x54 && s.sealsOver [⟨sid, v, 0⟩] then refuse s stRange else okay (s.applySetting sid v)
      | 1 => if (s.ctx (sidInst sid)).active then (s.stageLone sid v, { status := stPending }) else okay (s.applySetting sid v)
      | 2 => if s.unitRuns sid then refuse s stUnitRunning else okay (s.applySetting sid v)
      | _ => refuse s stPairedField := by
  unfold State.writeSetting
  dsimp only
  rw [if_neg (not_not_intro hcheck), hi]
  rfl

@[simp] theorem State.respond_settings (s : State) (m n : Nat) (r : Reply) : (s.respond m n r).mbox.settings = s.mbox.settings :=
  State.respond_mail Mbox.settings (fun _ _ _ _ => rfl) s m n r
@[simp] theorem State.respond_lone (s : State) (m n : Nat) (r : Reply) : (s.respond m n r).mbox.lone = s.mbox.lone :=
  State.respond_mail Mbox.lone (fun _ _ _ _ => rfl) s m n r
@[simp] theorem State.entered_settings (s : State) (m : Nat) (q : Cmd) (op : Nat) : (s.entered m q op).mbox.settings = s.mbox.settings :=
  State.entered_mail Mbox.settings (fun _ _ _ => rfl) s m q op
@[simp] theorem State.entered_time (s : State) (m : Nat) (q : Cmd) (op : Nat) : (s.entered m q op).time = s.time :=
  State.get_entered s m q op State.time (fun _ _ => rfl)

/-- The start of a service changes nothing of what a load of the counter rests on. -/
theorem State.mayLoad_entered (s : State) (m : Nat) (q : Cmd) (op : Nat) : (s.entered m q op).mayLoad = s.mayLoad := by
  simp only [State.mayLoad, State.setting, State.settingRaw, State.entered_settings, State.entered_time, State.entered_ctx]
  rfl

/-- Settles O50: each class of setting by its own rule (11 R295; 13 R368). -/
theorem settingWrites : Obligations.SettingWrites := by
  intro s m q sid v who u
  refine ⟨fun h => ?_, fun h => ⟨fun hload => ?_, fun hload => ?_⟩⟩
  case refine_1 =>
    have hinfo : sidInfo u.variant sid = sidInfo s.variant sid := by rw [State.entered_variant]
    have hwrite {c : Nat × Nat} (hcheck : u.settingCheck sid v = stOK) (hc : sidInfo s.variant sid = some c) :=
      State.writeSetting_eq hcheck (hinfo.trans hc)
    refine ⟨fun hcheck => h.replies (fun u => { status := u.settingCheck sid v }) rfl (if_pos hcheck), fun c hcheck hc hseal => ?_,
      fun c hcheck hc hactive => ?_, fun c hcheck hc hruns => ?_, fun c hcheck hc => ?_⟩
    case refine_1 =>
      have hbody : u.writeSetting sid v = okay (u.applySetting sid v) := (hwrite hcheck hc).trans (if_neg (by simpa using hseal))
      refine h.brings rfl (P := fun t => t.settingRaw sid = some v) ?_ (fun w n j r hw => ?_) (fun _ hw => hw)
      · exact (congrArg (fun o : State × Reply => o.1.settingRaw sid) hbody).trans
          (State.settingRaw_applySetting (sidNum_ne_one hc (by simp)) v)
      · exact (congrArg (fun t : Tab (Option Nat) => t.get none sid) (State.respond_settings w n j r)).trans hw
    case refine_2 =>
      have hbody : u.writeSetting sid v = (u.stageLone sid v, { status := stPending }) :=
        (hwrite hcheck hc).trans (if_pos (by rw [State.entered_ctx, hactive]))
      refine (h.completes (fun u => (u.stageLone sid v, { status := stPending })) rfl hbody (fun _ => rfl) (fun _ => rfl)
        (fun _ => rfl)).mono fun t ht => ⟨ht, ?_, ?_⟩
      · rw [ht, State.settingRaw, State.respond_settings]
        exact congrArg (fun t : Tab (Option Nat) => t.get none sid) (State.entered_settings ..)
      · rw [ht, State.respond_lone]
        exact ⟨_, List.mem_append_right _ (List.mem_singleton_self _), rfl, rfl⟩
    case refine_3 => exact h.replies (fun _ => { status := stUnitRunning }) rfl ((hwrite hcheck hc).trans (if_pos hruns))
    case refine_4 => exact h.replies (fun _ => { status := stPairedField }) rfl (hwrite hcheck hc)
  case refine_2 =>
    refine h.brings rfl (P := fun t => t.time.now = v % 2 ^ 64 ∧ t.time.loaded = true) ?_ (fun w n j r hw => ?_) (fun _ hw => hw)
    · rw [State.mayLoad_entered, hload]
      exact ⟨rfl, rfl⟩
    · rwa [State.get_respond w n j r State.time fun _ _ => rfl]
  case refine_3 =>
    exact h.replies (fun _ => { status := stTimeInUse }) rfl (if_pos (by rw [State.mayLoad_entered, hload]; rfl))

/-! ### Transactions -/

/-- The SID 2^24 + 1 has the number and the unit of PACE_PROFILE, and a part of it passes for one that takes force at
its tick; its value is in force nowhere. -/
def strayPart : Staged := ⟨16777217, 2, 0⟩

/-- A state with that part committed for tick 0. -/
def strayState : State := { ({} : State) with mbox := { ({} : Mbox) with committed := some ⟨some 0, [strayPart], 0, 0, 0⟩ } }

/-- Its part applies through PACE_SWITCH alone (11 R290): TXN_APPLY_TICK leaves the registry as it was. -/
theorem strayState_applied : ∃ t, exec (.txnApplyTick 0) strayState = .next t ∧ t.settingRaw strayPart.sid = none :=
  ⟨_, rfl, rfl⟩

/-- Refutes O51: bits of a SID above its unit are not part of what PACE_PROFILE is told by, so that a committed part
other than PACE_PROFILE may name it and never take force. No command stages such a SID: the statement takes any state. -/
theorem not_transactionsRun : ¬ Obligations.TransactionsRun := by
  unfold Obligations.TransactionsRun
  intro h
  obtain ⟨-, -, happly⟩ := h strayState 0 ⟨0, 0, false, 0, []⟩
  obtain ⟨t, ht, hraw, -⟩ := (happly 0 ⟨some 0, [strayPart], 0, 0, 0⟩ 0 strayPart (3, 0) rfl rfl rfl (by decide) rfl (by decide)
    rfl).1 (Nat.zero_le _)
  obtain ⟨u, hu, hnone⟩ := strayState_applied
  rw [hu] at ht
  cases ht
  exact absurd (hraw.symm.trans hnone) (by decide)

end Sys2Proof.Machine
end

section
/-! Contexts start and stop (01 R36; 03 R91; 13 R376, R377, R384): a boundary with nothing pending, then the obligation O53. -/
namespace Sys2Proof.Machine
open Sys2Proof

/-! ### A boundary with nothing pending -/

section
variable {s u : State} {x : Nat} {c : Ctx}

/-- An entry step leaves the phase of its context. -/
theorem State.enterOrbit_phase (h : (s.ctx x).halo.catchUp = false) : ((s.enterOrbit x).ctx x).phase = (s.ctx x).phase := by
  obtain ⟨f, hf, hphase, hhalo⟩ : ∃ f : Ctx → Ctx, s.enterOrbit x = (((s.restarted x).modCtx x f).transitCheck x).supplyAll x ∧
      (∀ c, (f c).phase = c.phase) ∧ (∀ c, (f c).halo.catchUp = c.halo.catchUp) := ⟨_, rfl, fun _ => rfl, fun _ => rfl⟩
  have hctx : (s.restarted x).ctx x = s.ctx x :=
    State.get_restarted (State.ctx · x) (fun _ _ _ => rfl) (fun _ _ _ => rfl)
  have hcheck {γ : Type} (kc : Ctx → γ) (hflags : ∀ (c : Ctx) v, kc { c with flags := v } = kc c) (u : State) :
      kc ((u.transitCheck x).ctx x) = kc (u.ctx x) :=
    Views.transitCheck (Views.ofCtx kc (fun _ => ()) x) hflags (fun _ _ => rfl) u x
  rw [hf, State.supplyAll_none (by rw [hcheck (·.halo.catchUp) (fun _ _ => rfl), State.ctx_modCtx_self, hctx, hhalo, h]),
    hcheck Ctx.phase (fun _ _ => rfl), State.ctx_modCtx_self, hctx, hphase]

/-- From its counters a boundary enters the next orbit at step 0 (01 R36). -/
theorem State.boundaryItems_enters (hitem : (s.ctx x).item = 7) (hm : s.mirrored x = false)
    (he : (s.ctx x).holds.eclipse = false) (hd : (s.ctx x).holds.debug = false) (hr : (s.ctx x).resume = none)
    (hcatch : (s.ctx x).halo.catchUp = false) (n : Nat) :
    let t := (State.boundaryItems x (n + 4) s).ctx x
    t.phase = (s.ctx x).phase ∧ t.orbit = (s.ctx x).nextOrbit ∧ t.step = 0 ∧ t.resume = some (s.now, 0) := by
  have hkey : (((s.lagged x).replayEntries x).ctx x).entryKey = ((s.lagged x).ctx x).entryKey :=
    Views.replayEntries (Views.entry x) (fun _ _ => rfl) (fun _ _ _ => rfl) (fun _ _ => rfl) (fun _ _ => rfl) (fun _ _ => rfl) _ x
  have hphase : (((s.lagged x).replayEntries x).ctx x).phase = ((s.lagged x).ctx x).phase :=
    Views.replayEntries (Views.ofCtx Ctx.phase (fun _ => ()) x) (fun _ _ => rfl) (fun _ _ _ => rfl) (fun _ _ => rfl)
      (fun _ _ => rfl) (fun _ _ => rfl) _ x
  have hnow : ((s.lagged x).replayEntries x).now = s.now := (State.replayEntries_now ..).trans State.lagged_now
  rw [State.boundaryItems_counted hitem hm he hd hr n]
  rw [State.lagged_ctx] at hkey hphase
  generalize (s.lagged x).replayEntries x = v at hkey hphase hnow ⊢
  have hnone : (v.ctx x).halo.catchUp = false :=
    (congrArg (fun k : List Nat × Nat × Nat × Nat × Bool => k.2.2.2.2) hkey).trans hcatch
  obtain ⟨horbit, hstep, hres, -, -, -⟩ := State.enterOrbit_ctx hnone
  exact ⟨(State.enterOrbit_phase hnone).trans hphase,
    horbit.trans (congrArg (fun k : List Nat × Nat × Nat × Nat × Bool => k.2.2.1) hkey),
    hstep.trans (congrArg (fun k : List Nat × Nat × Nat × Nat × Bool => k.2.2.2.1) hkey), hres.trans (by rw [hnow])⟩

theorem State.boundaryItem_of (n : Nat) (h : (u.ctx x).item = n) :
    (n = 3 → u.boundaryItem x = u.itemSettings x) ∧ (n = 4 → u.boundaryItem x = u.itemWeights x) ∧
    (n = 5 → u.boundaryItem x = u.itemBanks x) ∧ (n = 6 → u.boundaryItem x = u.itemPatch x) := by
  unfold State.boundaryItem
  rw [h]
  refine ⟨?_, ?_, ?_, ?_⟩ <;>
  · rintro rfl
    rfl

/-- State `u` of a boundary that began in state `s`: context `x` reads `c`, its cores await the banks they awaited. -/
def State.Underway (s u : State) (x : Nat) (c : Ctx) : Prop :=
  u.ctx x = c ∧ u.now = s.now ∧ ∀ p, (u.core ⟨x, p⟩).seq = (s.core ⟨x, p⟩).seq

/-- A change of the context that leaves its sites keeps a boundary under way. -/
theorem State.Underway.modCtx (h : s.Underway u x c) (f : Ctx → Ctx) (hf : ∀ v, (f v).sites = v.sites) :
    s.Underway (u.modCtx x f) x (f c) := by
  obtain ⟨hctx, hnow, hseq⟩ := h
  refine ⟨by rw [State.ctx_modCtx_self, hctx], hnow, fun p => (hseq p).symm ▸ ?_⟩
  exact (Views.ofCore (kc := Ctx.sites) (fun _ _ h => h) Core.seq ⟨x, p⟩).ctx u x f hf

/-- Item 3 with no setting and no binding waiting. -/
theorem State.Underway.settings (h : s.Underway u x c) (hitem : c.item = 3) (hlone : u.mbox.lone = [])
    (hcommitted : u.mbox.committed = none) (hbinds : c.binds = []) :
    ∃ v, u.boundaryItem x = (v, true) ∧ s.Underway v x { c with binds := [], item := 4 } := by
  have hnone : u.boundarySettings x = { u with mbox := { u.mbox with lone := [] } } := by
    unfold State.boundarySettings State.txnRipe
    dsimp only
    rw [hlone, hcommitted]
    rfl
  have hnothing : s.Underway (u.boundarySettings x) x c := by rw [hnone]; exact h
  have hbound : (u.boundarySettings x).applyBinds x = (u.boundarySettings x).modCtx x (fun c => { c with binds := [] }) := by
    unfold State.applyBinds
    dsimp only
    rw [hnothing.1, hbinds]
    rfl
  refine ⟨_, ?_, (hnothing.modCtx (fun c => { c with binds := [] }) fun _ => rfl).modCtx (fun c => { c with item := 4 }) fun _ => rfl⟩
  rw [(State.boundaryItem_of 3 (h.1 ▸ hitem)).1 rfl, State.itemSettings, hbound]

/-- Item 4 with no weight swap. -/
theorem State.Underway.weights (h : s.Underway u x c) (hitem : c.item = 4) (hpending : c.weights.phase ≠ .swapPending)
    (hholds : c.swapHolds = false) : ∃ v, u.boundaryItem x = (v, true) ∧
      s.Underway v x { c with item := 5, holds := { c.holds with weightSwap := false } } := by
  refine ⟨_, ?_, h.modCtx (fun c => { c with item := 5, holds := { c.holds with weightSwap := false } }) fun _ => rfl⟩
  obtain ⟨hctx, -, -⟩ := h
  rw [(State.boundaryItem_of 4 (hctx ▸ hitem)).2.1 rfl, State.itemWeights]
  dsimp only
  rw [hctx, if_neg hpending, hctx, hholds]
  rfl

/-- Item 5 with no image staged on every core. -/
theorem State.Underway.banks (h : s.Underway u x c) (hitem : c.item = 5)
    (hstaged : (c.staged.isSome && c.cores.all (fun p => (s.core ⟨x, p⟩).seq.staged)) = false) (hphase : c.phase ≠ .stopping) :
    ∃ v, u.boundaryItem x = (v, true) ∧ s.Underway v x { c with item := 6 } := by
  refine ⟨_, ?_, h.modCtx (fun c => { c with item := 6 }) fun _ => rfl⟩
  obtain ⟨hctx, -, hseq⟩ := h
  have hnone : u.allStaged x = false := by
    rw [State.allStaged, hctx, ← hstaged]
    simp only [hseq]
  rw [(State.boundaryItem_of 5 (hctx ▸ hitem)).2.2.1 rfl, State.itemBanks, hnone]
  rw [if_neg Bool.false_ne_true, hctx, if_neg hphase]

/-- The patches of a boundary (03 R91). -/
def Ctx.patches (c : Ctx) : List (BitVec 128) :=
  if c.halo.catchUp then mirroredPatch c.nextOrbit c.halo.items
  else if c.patchNew then c.patch else c.patch.filter (fun e => bit e.toNat 8)

/-- The state with the parameters of a context patched. -/
def State.patched (u : State) (x : Nat) : State :=
  (u.mapCores x (fun _ k => { k with par := (u.ctx x).patches.foldl applyPatch k.par })).modCtx x (fun c => { c with
    patchNew := c.patchNew && c.halo.catchUp, item := 7 })

theorem State.now_modCoreOf (u : State) (x p : Nat) (f : Core → Core) : (u.modCoreOf x p f).now = u.now := rfl

/-- Item 6 with no replay armed and no mirror. -/
theorem State.Underway.patch (h : s.Underway u x c) (hitem : c.item = 6) (hreplay : c.replay = {})
    (hhalo : c.halo.phase ≠ .active) : ∃ v n, u.boundaryItem x = (v, true) ∧ v.now = s.now ∧
      v.ctx x = { c with patchNew := n, item := 7, replay := { c.replay with pars := [], ckpt := none } } := by
  obtain ⟨hctx, hnow, -⟩ := h
  have hpatched : (u.patched x).ctx x = { c with patchNew := c.patchNew && c.halo.catchUp, item := 7 } := by
    rw [State.patched, State.ctx_modCtx_self, State.mapCores_ctx, hctx]
  have hpars : (u.patched x).replayPars x =
      (u.patched x).modCtx x (fun c => { c with replay := { c.replay with pars := [], ckpt := none } }) := by
    unfold State.replayPars
    dsimp only
    rw [hpatched]
    dsimp only
    rw [hreplay]
    rfl
  have hmirror : ((u.patched x).replayPars x).mirrored x = false := by
    rw [hpars, State.mirrored, State.ctx_modCtx_self, hpatched]
    simp [hhalo]
  have hitem : u.boundaryItem x = ((u.patched x).replayPars x, true) := by
    have hlast : u.itemPatch x = (((u.patched x).replayPars x).mirror x (.boundary (u.ctx x).nextOrbit (u.ctx x).patches), true) := rfl
    rw [(State.boundaryItem_of 6 (hctx ▸ hitem)).2.2.2 rfl, hlast, State.mirror, hmirror]
    rfl
  refine ⟨_, c.patchNew && c.halo.catchUp, hitem, ?_, by rw [hpars, State.ctx_modCtx_self, hpatched]⟩
  have hmap (f : Nat → Core → Core) : (u.mapCores x f).now = u.now :=
    foldl_get_same (get := State.now) (fun _ _ _ => State.now_modCoreOf ..) u
  have hmod (t : State) (f : Ctx → Ctx) : (t.modCtx x f).now = t.now := rfl
  rw [hpars, hmod, State.patched, hmod, hmap, hnow]

/-- A boundary with nothing pending leads from its settings to step 0 of the next orbit (01 R36; 13 R376). -/
theorem State.boundaryGo_idle (hitem : (s.ctx x).item = 3) (hlone : s.mbox.lone = []) (hcommitted : s.mbox.committed = none)
    (hbinds : (s.ctx x).binds = []) (hpending : (s.ctx x).weights.phase ≠ .swapPending)
    (hswapping : (s.ctx x).weights.phase ≠ .swapping) (hstaged : s.allStaged x = false) (hphase : (s.ctx x).phase = .running)
    (hreplay : (s.ctx x).replay = {}) (hholds : (s.ctx x).holds = {}) (hhalo : (s.ctx x).halo.phase ≠ .active)
    (hcatch : (s.ctx x).halo.catchUp = false) (hresume : (s.ctx x).resume = none) :
    let t := (s.boundaryGo x).ctx x
    t.phase = .running ∧ t.orbit = (s.ctx x).nextOrbit ∧ t.step = 0 ∧ t.resume = some (s.now, 0) := by
  have h3 : s.Underway s x (s.ctx x) := ⟨rfl, rfl, fun _ => rfl⟩
  obtain ⟨s4, hi3, h4⟩ := h3.settings hitem hlone hcommitted hbinds
  obtain ⟨s5, hi4, h5⟩ := h4.weights rfl hpending (by simp [Ctx.swapHolds, hswapping, hholds])
  obtain ⟨s6, hi5, h6⟩ := h5.banks rfl hstaged (by simp [hphase])
  obtain ⟨s7, n, hi6, hnow, hctx⟩ := h6.patch rfl hreplay hhalo
  have hgo : s.boundaryGo x = State.boundaryItems x (3 + 4) s7 := by
    rw [State.boundaryGo, State.boundaryItems_succ, hi3, if_pos rfl, State.boundaryItems_succ, hi4, if_pos rfl,
      State.boundaryItems_succ, hi5, if_pos rfl, State.boundaryItems_succ, hi6, if_pos rfl]
  have hhalo7 : (s7.ctx x).halo = (s.ctx x).halo := (congrArg Ctx.halo hctx :)
  have hphase7 : (s7.ctx x).phase = (s.ctx x).phase := (congrArg Ctx.phase hctx :)
  have hnext : (s7.ctx x).nextOrbit = (s.ctx x).nextOrbit := by
    have hstart : (s7.ctx x).startOrbit = (s.ctx x).startOrbit := (congrArg Ctx.startOrbit hctx :)
    have horbit : (s7.ctx x).orbit = (s.ctx x).orbit := (congrArg Ctx.orbit hctx :)
    have hrun : (s7.ctx x).active = true := by rw [Ctx.active, hphase7, hphase]; rfl
    have hrun' : (s.ctx x).active = true := by rw [Ctx.active, hphase]; rfl
    rw [Ctx.nextOrbit, Ctx.nextOrbit, hstart, horbit, hrun, hrun', if_pos rfl, if_pos rfl]
  have hholds7 : (s7.ctx x).holds = { (s.ctx x).holds with weightSwap := false } := (congrArg Ctx.holds hctx :)
  have henter := State.boundaryItems_enters (s := s7) (congrArg Ctx.item hctx) (by rw [State.mirrored, hhalo7]; simp [hhalo])
    (by rw [hholds7, hholds]) (by rw [hholds7, hholds]) ((congrArg Ctx.resume hctx :).trans hresume) (by rw [hhalo7, hcatch]) 3
  rw [← hgo, hphase7, hphase, hnext, hnow] at henter
  exact henter

end

/-! ### Starts, stops, patches and jobs -/

section
variable {s u : State} {m x : Nat} {q : Cmd}

/-- A context that starts at an orbit now (13 R376). -/
def Ctx.starting (now orbit : Nat) (c : Ctx) : Ctx :=
  { c with
    phase := .running, item := 3, startOrbit := some orbit, rt := {}
    freeze := some { settled := true, since := now }, resume := none
    halo := { c.halo with force := true, mirrorPoint := if c.halo.phase = .active && !c.halo.standby then
      (if orbit = 0 then none else some (orbit - 1)) else c.halo.mirrorPoint } }

theorem State.startCtx_eq (orbit : Nat) : u.startCtx x orbit = (u.modCtx x (Ctx.starting u.now orbit)).boundaryGo x := rfl

/-- Whether an image stands staged on every core of a context rests on its sites, its image and its cores' banks. -/
theorem State.allStaged_modCtx (f : Ctx → Ctx) (hsites : ∀ c, (f c).sites = c.sites) (hstaged : ∀ c, (f c).staged = c.staged)
    (hcores : ∀ c, (f c).cores = c.cores) : (u.modCtx x f).allStaged x = u.allStaged x := by
  have hseq (p : Nat) : ((u.modCtx x f).core ⟨x, p⟩).seq = (u.core ⟨x, p⟩).seq :=
    (Views.ofCore (kc := Ctx.sites) (fun _ _ h => h) Core.seq ⟨x, p⟩).ctx u x f hsites
  rw [State.allStaged, State.allStaged, State.ctx_modCtx_self, hstaged, hcores]
  simp only [hseq]

/-- What a context holds that a start finds with nothing pending. -/
structure Ctx.Rested (c : Ctx) : Prop where
  binds : c.binds = []
  notPending : c.weights.phase ≠ .swapPending
  notSwapping : c.weights.phase ≠ .swapping
  replay : c.replay = {}
  holds : c.holds = {}
  notMirrored : c.halo.phase ≠ .active
  noCatchUp : c.halo.catchUp = false

/-- A context that rests with nothing pending starts at step 0 of the orbit named (13 R376, R377). -/
theorem State.startCtx_rested (hlone : u.mbox.lone = []) (hcommitted : u.mbox.committed = none) (hstaged : u.allStaged x = false)
    (h : (u.ctx x).Rested) (orbit : Nat) :
    let t := (u.startCtx x orbit).ctx x
    t.phase = .running ∧ t.orbit = orbit ∧ t.step = 0 ∧ t.resume = some (u.now, 0) := by
  have hctx : (u.modCtx x (Ctx.starting u.now orbit)).ctx x = (u.ctx x).starting u.now orbit := State.ctx_modCtx_self ..
  have hhalo : ((u.ctx x).starting u.now orbit).halo.phase ≠ .active := h.notMirrored
  have hgo := State.boundaryGo_idle (s := u.modCtx x (Ctx.starting u.now orbit)) (congrArg Ctx.item hctx) hlone hcommitted
    ((congrArg Ctx.binds hctx :).trans h.binds) (by rw [hctx]; exact h.notPending) (by rw [hctx]; exact h.notSwapping)
    ((State.allStaged_modCtx (Ctx.starting u.now orbit) (fun _ => rfl) (fun _ => rfl) (fun _ => rfl)).trans hstaged) (congrArg Ctx.phase hctx)
    ((congrArg Ctx.replay hctx :).trans h.replay) ((congrArg Ctx.holds hctx :).trans h.holds) (by rw [hctx]; exact hhalo)
    (by rw [hctx]; exact h.noCatchUp) (congrArg Ctx.resume hctx)
  rw [hctx] at hgo
  exact hgo

/-- The checks of CONTEXT_START read the contexts, the cores and the committed transaction (13 R376). -/
theorem State.startCheck_entered : (s.entered m q 0x32).startCheck x = s.startCheck x := by
  have hcommitted : (s.entered m q 0x32).mbox.committed = s.mbox.committed :=
    State.entered_mail Mbox.committed (fun _ _ _ => rfl) s m q 0x32
  simp only [State.startCheck, State.pendingS, State.allStaged, State.entered_ctx, State.entered_core, hcommitted]
  rfl

/-- The service of CONTEXT_START. -/
def State.startServe (u : State) (x : Nat) : State × Reply :=
  u.needCtx x (
    let st := u.startCheck x
    if st ≠ stOK then refuse u st
    else
      let o := (u.ctx x).firstOrbit
      okay (((u.beginReplay x o).modCtx x (fun c => { c with replay := { c.replay with orbit := none } })).startCtx x o))

/-- No orbit is left over for a later start (14 R428). -/
def State.unarmed (u : State) (x : Nat) : State := u.modCtx x (fun c => { c with replay := { c.replay with orbit := none } })

/-- A start that passes its checks begins a rested context's first orbit. -/
theorem State.startServe_rested (hx : (u.ctx x).phase ≠ .free) (hcheck : u.startCheck x = stOK) (hlone : u.mbox.lone = [])
    (hcommitted : u.mbox.committed = none) (hstaged : u.allStaged x = false) (h : (u.ctx x).Rested) :
    let t := (u.startServe x).1.ctx x
    t.phase = .running ∧ t.orbit = (u.ctx x).startOrbit.getD 0 ∧ t.step = 0 ∧ t.resume = some (u.now, 0) := by
  have horbit : (u.ctx x).firstOrbit = (u.ctx x).startOrbit.getD 0 := by rw [Ctx.firstOrbit, h.replay]
  have hreplay (o : Nat) : u.beginReplay x o = u := by
    unfold State.beginReplay
    rw [h.replay]
    rfl
  have hserve : u.startServe x = okay ((u.unarmed x).startCtx x ((u.ctx x).startOrbit.getD 0)) := by
    unfold State.startServe State.needCtx
    dsimp only
    rw [if_neg hx, if_neg (not_not_intro hcheck), hreplay, horbit]
    rfl
  have hctx : (u.unarmed x).ctx x = { u.ctx x with replay := { (u.ctx x).replay with orbit := none } } := State.ctx_modCtx_self ..
  have hrested : ((u.unarmed x).ctx x).Rested := by
    rw [hctx, h.replay]
    exact ⟨h.binds, h.notPending, h.notSwapping, rfl, h.holds, h.notMirrored, h.noCatchUp⟩
  have hbanks : (u.unarmed x).allStaged x = false :=
    (State.allStaged_modCtx (fun c => { c with replay := { c.replay with orbit := none } }) (fun _ => rfl) (fun _ => rfl)
      (fun _ => rfl)).trans hstaged
  rw [hserve]
  exact State.startCtx_rested (u := u.unarmed x) hlone hcommitted hbanks hrested _

/-- What its effect brings about and an answer leaves holds after a served row of those that may write memory. -/
theorem Serves.bringsDone {k : CmdSpec} {i : Instr} {body : State → State × Reply} {P : State → Prop} (h : Serves s m q k)
    (hi : exec i s = Machine.done s (s.serve m q k body)) (hbody : P (body (s.entered m q k.op)).1)
    (hrespond : ∀ u m n r, P u → P (u.respond m n r)) (hdone : ∀ u, P u → P { u with pending := s.pending }) :
    Completes i s P := by
  refine ⟨_, hi, hdone _ ?_⟩
  rcases h.serve_or body with hserve | hserve
  · rwa [hserve]
  · rw [hserve]
    exact hrespond _ _ _ _ hbody

end

/-- Settles O53: a boundary with nothing pending lets a context start, and each other row its own answer (13 R376, R384). -/
theorem contextsStartAndStop : Obligations.ContextsStartAndStop := by
  intro s m q hx
  refine ⟨?_, fun h hroom hphase hitem => ?_, fun h => ?_, ?_, fun h => ?_⟩
  case refine_1 =>
    intro c h hcheck hstaged hlone hcommitted hbinds hpending hswapping hreplay hholds hhalo hcatch
    have hrested : ((s.entered m q 0x32).ctx q.ctx).Rested := by
      rw [State.entered_ctx]
      exact ⟨hbinds, hpending, hswapping, hreplay, hholds, by rw [hhalo]; decide, hcatch⟩
    have hstart := State.startServe_rested (u := s.entered m q 0x32) (by rwa [State.entered_ctx])
      (State.startCheck_entered.trans hcheck) ((State.entered_mail Mbox.lone (fun _ _ _ => rfl) s m q 0x32).trans hlone)
      ((State.entered_mail Mbox.committed (fun _ _ _ => rfl) s m q 0x32).trans hcommitted)
      (by simpa only [State.allStaged, State.entered_ctx, State.entered_core] using hstaged) hrested
    have hnow : (s.entered m q 0x32).now = s.now := congrArg (·.now) (State.entered_time ..)
    rw [State.entered_ctx, hnow] at hstart
    refine h.bringsDone (P := fun t => (t.ctx q.ctx).phase = .running ∧ (t.ctx q.ctx).orbit = c.startOrbit.getD 0 ∧
      (t.ctx q.ctx).step = 0 ∧ (t.ctx q.ctx).resume = some (s.now, 0)) rfl hstart (fun u n j r hu => ?_) (fun _ hu => hu)
    rwa [State.respond_ctx]
  case refine_2 =>
    have hstop := h.answersDone (i := .contextStop m q) (Defers m q 0x33 q.ctx 0 [] (fun u _ =>
      u.modCtx q.ctx (fun c => { c with phase := .stopping }))) rfl ?_ ?_ ?_ ?_
    · refine hstop.mono fun t ht => ⟨ht, ?_⟩
      rw [ht, State.respond_ctx]
      exact congrArg Ctx.phase (State.ctx_modCtx_self ..)
    · refine (State.needCtx_entered hx _ _).trans ((if_neg (by rw [State.entered_ctx, hphase]; decide)).trans ?_)
      rw [hroom.accept, Defers, Defers]
      refine congrArg (·, _) (if_neg ?_)
      rw [State.ctx_modCtx_self, State.get_defer _ _ _ _ _ _ _ (State.ctx · q.ctx) (fun _ _ => rfl), State.entered_ctx]
      exact hitem
    · exact State.defer_slot (s.entered m q 0x33) m q 0x33 q.ctx 0 [] Slot.agent (fun _ => rfl) m
    · exact State.defer_slot (s.entered m q 0x33) m q 0x33 q.ctx 0 [] Slot.bound (fun _ => rfl) m
    · exact (State.get_defer (s.entered m q 0x33) m q 0x33 q.ctx 0 [] State.pending (fun _ _ => rfl)).trans (State.entered_pending ..)
  case refine_3 =>
    have hbody := h.completes (i := .patchStage m q) (fun u => okay (u.modCtx q.ctx (fun c => { c with
      patch := (chunksOf 16 65 q.payload).map (fun b => BitVec.ofNat 128 (maskBits patchFields (natOf b)))
      patchNew := true }))) rfl (State.needCtx_entered hx _ _) (fun _ => rfl) (fun _ => rfl) (fun _ => rfl)
    refine hbody.mono fun t ht => ?_
    rw [ht, State.respond_ctx]
    exact ⟨congrArg Ctx.patch (State.ctx_modCtx_self ..), congrArg Ctx.patchNew (State.ctx_modCtx_self ..)⟩
  case refine_4 =>
    intro n layout h hn hmax hid hlayout hjob hcheck
    have hargs : ¬ (n = 0 || decide (1012 < n) || argFld q 0 32 = 0 || layout.any (fun v => decide (3 < v))) = true := by
      simp [Nat.ne_of_gt hn, hmax, hid]
      exact hlayout
    have hlinks : (s.entered m q 0x36).layoutCheck layout = none :=
      (State.get_entered s m q 0x36 (State.layoutCheck · layout) (fun _ _ => rfl)).trans hcheck
    have hopen := h.completes (i := .jobOpen m q) (fun u => okay (u.modCtx q.ctx (fun c => { c with job :=
      { id := argFld q 0 32, layout, modules := (List.range n).map (fun i => leAt q.payload (32 + 4 * i) 3) } }))) rfl
      ((State.needCtx_entered hx _ _).trans ((if_neg hargs).trans ((if_neg (by rw [State.entered_ctx, hjob]; simp)).trans ?_)))
      (fun _ => rfl) (fun _ => rfl) (fun _ => rfl)
    · refine hopen.mono fun t ht => ?_
      rw [ht, State.respond_ctx]
      have hjob := congrArg Ctx.job (State.ctx_modCtx_self (s.entered m q 0x36) q.ctx (fun c => { c with job :=
        { id := argFld q 0 32, layout, modules := (List.range n).map (fun i => leAt q.payload (32 + 4 * i) 3) } }))
      exact ⟨congrArg Job.id hjob, congrArg Job.modules hjob⟩
    · rw [hlinks]
  case refine_5 =>
    refine (h.completes (i := .jobClose m q) (fun u => okay (u.modCtx q.ctx (fun c => { c with job := {} }))) rfl
      (State.needCtx_entered hx _ _) (fun _ => rfl) (fun _ => rfl) (fun _ => rfl)).mono fun t ht => ?_
    rw [ht, State.respond_ctx]
    exact (State.ctx_modCtx_self ..).trans (by rw [State.entered_ctx])

end Sys2Proof.Machine
end

section
/-! Grants, ends, ports and acknowledgement (09 R241; 10 R266, R267; 12 R318; 13 R387): the obligation O55. -/
namespace Sys2Proof.Machine
open Sys2Proof

/-! ### Grants -/

section
variable {s : State}

@[simp] theorem State.respond_grants (m n : Nat) (r : Reply) : (s.respond m n r).grants = s.grants :=
  State.get_respond s m n r State.grants (fun _ _ => rfl)

/-- A grant's place in the table holds it once it is put there. -/
theorem State.putGrant_get {n : Nat} (hn : n ≤ s.grants.length) (g : Grant) : (s.putGrant n g).grants[n]? = some g := by
  unfold State.putGrant
  dsimp only
  split
  next h => exact List.getElem?_set_self h
  next h =>
    obtain rfl : n = s.grants.length := by omega
    simp

/-- An issued grant stands in its place (09 R241). -/
theorem State.issueGrant_get {n : Nat} (hn : n ≤ s.grants.length) (g : Grant) : (s.issueGrant n g).grants[n]? = some g := by
  have hlog (u : State) (k x o st p : Nat) (pl : List (Nat × List Byte)) : (u.logEntry k x o st p pl).grants = u.grants :=
    State.get_logEntry State.grants (fun _ _ _ => rfl) (fun _ _ => rfl) u k x o st p pl
  have hraise (u : State) (c : Nat) (x : Option Nat) (v d : Nat) : (u.raise c x v d).grants = u.grants := rfl
  unfold State.issueGrant
  dsimp only
  rw [hlog, hraise, State.putGrant_get hn]

/-- A grant that ends leaves the table. -/
theorem State.not_mem_endGrant {g : Grant} (hg : g.valid = true) : g ∉ (s.endGrant g).grants := by
  intro hin
  obtain ⟨v, -, hv⟩ := List.mem_map.mp hin
  split at hv
  · rw [← hv] at hg
    exact Bool.false_ne_true hg
  next h => exact h hv

end

/-! ### Commands without a context -/

/-- A command that names no context is deferred whatever the context's room (13 R355). -/
theorem State.accept_noCtx (u : State) (m : Nat) (q : Cmd) (op key aux : Nat) (data : List Byte) (go : State → Nat → State) :
    u.accept m (noCtx q) op key aux data go = Defers m (noCtx q) op key aux data go u := rfl

/-! ### Ports -/

/-- A used port of a module with a code begins to train (12 R314). -/
theorem State.trainPort_used {s : State} {p : Nat} (hrole : s.role p ≠ 0) (hcode : s.setting 0x11 0 ≠ 16777215) :
    ((s.trainPort p).port p).phase = .training ∧ ((s.trainPort p).port p).train = .signal ∧ ((s.trainPort p).port p).width = 0 := by
  unfold State.trainPort
  rw [if_neg (by simp [hrole, hcode]), State.port_modPort_self]
  exact ⟨rfl, rfl, rfl⟩

/-- A retrained port begins to train (12 R318). -/
theorem State.retrain_port {s : State} {p : Nat} (hrole : s.role p ≠ 0) (hcode : s.setting 0x11 0 ≠ 16777215) (ticket : Nat) :
    ((s.retrain p ticket).port p).phase = .training ∧ ((s.retrain p ticket).port p).train = .signal ∧
    ((s.retrain p ticket).port p).width = 0 := by
  have habsence {β : Type} (get : State → β) (hlinks : ∀ (u : State) l, get { u with links := l } = get u) (v : State) :
      get (v.sendAbsence p 0 (s.now + 60000000000)) = get v :=
    (State.get_queueFlit get (fun _ _ _ _ _ _ => hlinks _ _) (fun _ _ _ => hlinks _ _) ..).trans (hlinks _ _)
  have hoff (get : State → Nat) (hlinks : ∀ (u : State) l, get { u with links := l } = get u) :
      get ((if s.isUp p && (s.members p).length = 1 then s.sendAbsence p 0 (s.now + 60000000000) else s).portOff p .down) = get s := by
    rw [State.get_portOff get (fun _ _ _ => hlinks _ _) (fun _ _ _ => hlinks _ _), apply_ite get, habsence get hlinks, ite_self]
  have hrole' : State.role (if s.isUp p && (s.members p).length = 1 then s.sendAbsence p 0 (s.now + 60000000000) else s) p = s.role p := by
    rw [apply_ite (State.role · p), habsence (State.role · p) fun _ _ => rfl, ite_self]
  have hcode' : State.setting (if s.isUp p && (s.members p).length = 1 then s.sendAbsence p 0 (s.now + 60000000000) else s) 0x11 0 =
      s.setting 0x11 0 := by
    rw [apply_ite (State.setting · 0x11 0), habsence (State.setting · 0x11 0) fun _ _ => rfl, ite_self]
  have hkept : s.retrain p ticket = ((if s.isUp p && (s.members p).length = 1
      then s.sendAbsence p 0 (s.now + 60000000000) else s).portOff p .down).trainPort p := by
    unfold State.retrain
    exact if_neg (by rw [hrole', hcode']; simp [hrole, hcode])
  rw [hkept]
  exact State.trainPort_used (by rw [hoff (State.role · p) fun _ _ => rfl]; exact hrole)
    (by rw [hoff (State.setting · 0x11 0) fun _ _ => rfl]; exact hcode)

/-! ### The rows -/

section
variable {s : State} {m : Nat} {q : Cmd}

/-- The peers of a receive end are none (10 R267). -/
theorem Bind.ofBytes_recv {l : List Byte} (h : (Bind.ofBytes l).send = false) : (Bind.ofBytes l).peers = [] := by
  have hpeers : (Bind.ofBytes l).peers = if (Bind.ofBytes l).send then (Bind.ofBytes l).peers else [] := by
    unfold Bind.ofBytes
    dsimp only
    split <;> rfl
  rw [hpeers, h]
  rfl

/-- A receive end that is opened waits to bind at its context's next boundary (10 R266, R267). -/
theorem Serves.connOpen_recv (h : Serves s m q { op := 0x72, who := .owner, ctx := true, len := fun n => n = specLength q.payload })
    (hroom : Roomy s q) (hsend : (Bind.ofBytes q.payload).send = false) (hcore : (Bind.ofBytes q.payload).core ≠ 2047)
    (hstart : (s.entered m q 0x72).openStart q.ctx (Bind.ofBytes q.payload) (fld (leAt q.payload 0 8) 4 4) = stOK) :
    Completes (.connOpen m q) s (fun t => ∃ b' : Bind, (t.ctx q.ctx).binds = (s.ctx q.ctx).binds ++ [b'] ∧ b'.unbind = false ∧
      b'.core = (Bind.ofBytes q.payload).core ∧ b'.ep = (Bind.ofBytes q.payload).ep ∧ b'.connId = (Bind.ofBytes q.payload).connId) := by
  have hpeers : (s.entered m q 0x72).placePeers q.ctx (Bind.ofBytes q.payload) = (s.entered m q 0x72, [], stOK) := by
    rw [State.placePeers, Bind.ofBytes_recv hsend]
    rfl
  have hdefer : ((s.entered m q 0x72).defer m q 0x72 (Bind.ofBytes q.payload).connId 0 []).1.ctx q.ctx = s.ctx q.ctx :=
    (State.get_defer _ _ _ _ _ _ _ (State.ctx · q.ctx) fun _ _ => rfl).trans (State.entered_ctx ..)
  have hopen (v : State) (t : Nat) (b : Bind) (hb : b.core ≠ 2047) : ((v.openRecv q.ctx t b).ctx q.ctx).binds =
      (v.ctx q.ctx).binds ++ [{ b with ticket := t, base := (v.storePlace q.ctx b).getD 0 }] := by
    unfold State.openRecv
    dsimp only
    rw [State.get_finish (State.ctx · q.ctx) (fun _ _ => rfl) (fun _ _ => rfl), if_neg hb, State.ctx_modCtx_self]
  refine h.brings rfl ?_ (fun v _ _ _ hv => by rwa [State.respond_ctx]) (fun _ hv => hv)
  dsimp only
  rw [State.needCtx_entered hroom.held, if_neg (not_not_intro hstart), hpeers]
  dsimp only
  rw [if_neg (not_not_intro rfl), hroom.accept, Defers, hsend]
  dsimp only
  rw [if_neg Bool.false_ne_true, ← hdefer]
  exact ⟨_, hopen _ _ _ hcore, rfl, rfl, rfl, rfl⟩

/-- A retrained port begins to train. -/
theorem Serves.portRetrain (h : Serves s m q { op := 0x74, who := .owner, arg := 31 }) (hp : argFld q 0 5 < 20)
    (hpend : s.pendingS [0x10, 0x11, 0x12, 0x13, 0x14] = false) (hrole : s.role (argFld q 0 5) ≠ 0) (hcode : s.code ≠ 16777215) :
    Completes (.portRetrain m q) s (fun t => (t.port (argFld q 0 5)).phase = .training ∧
      (t.port (argFld q 0 5)).train = .signal ∧ (t.port (argFld q 0 5)).width = 0) := by
  have hmail {β : Type} (get : State → β) (hget : ∀ u v : State, u.mbox.settings = v.mbox.settings → get u = get v) :
      get ((s.entered m q 0x74).defer m (noCtx q) 0x74 (argFld q 0 5) 0 []).1 = get s := hget _ _ (State.entered_settings ..)
  have hready : (s.entered m q 0x74).pendingS [0x10, 0x11, 0x12, 0x13, 0x14] = false := by
    unfold State.pendingS
    rw [State.entered_mail Mbox.committed (fun _ _ _ => rfl)]
    exact hpend
  have hrole' := hmail (State.role · (argFld q 0 5)) fun u v huv => by simp only [State.role, State.settingRaw, State.setting, huv]
  have hcode' := hmail (State.setting · 0x11 0) fun u v huv => by simp only [State.settingRaw, State.setting, huv]
  refine h.brings (P := fun t => (t.port (argFld q 0 5)).phase = .training ∧ (t.port (argFld q 0 5)).train = .signal ∧
    (t.port (argFld q 0 5)).width = 0) rfl ?_
    (fun v n j r hv => by rwa [State.get_respond v n j r (State.port · (argFld q 0 5)) fun _ _ => rfl]) (fun _ hv => hv)
  dsimp only
  rw [if_neg (Nat.not_le.mpr hp), hready, if_neg Bool.false_ne_true, State.accept_noCtx, Defers]
  exact State.retrain_port (by rw [hrole']; exact hrole) (by rw [hcode']; exact hcode) _

end

/-- Settles O55: each row's effect on the record it names (09 R241; 10 R267; 12 R318; 13 R387). -/
theorem grantsAndEndsOpen : Obligations.GrantsAndEndsOpen := by
  intro s m q
  refine ⟨fun n h hx hquad hlanes hroom hn => ?_, fun g h hg hvalid hserves => ?_, ?_, fun b h hx hp hb hbinds => ?_, ?_, fun h => ?_⟩
  case refine_1 =>
    have hfree : (s.entered m q 0x70).grantRoom = some n := (State.get_entered s m q 0x70 State.grantRoom fun _ _ => rfl).trans hroom
    have hgrants : (s.entered m q 0x70).grants = s.grants := State.get_entered s m q 0x70 State.grants fun _ _ => rfl
    refine h.brings (P := fun t => ∃ g, t.grants[n]? = some g ∧ g.valid = true ∧ g.ctx = argFld q 0 4 ∧ g.quad = argFld q 4 2 ∧
      g.seamLanes = argFld q 8 6 ∧ g.linkLanes = argFld q 16 5 ∧ g.master = m) rfl ?_ (fun u _ _ _ hu => by
        rwa [State.respond_grants]) (fun _ hu => hu)
    dsimp only
    rw [State.entered_ctx, if_neg hx, hquad, if_neg (by simp [hlanes]), hfree]
    exact ⟨_, State.issueGrant_get (by rwa [hgrants]) _, rfl, rfl, rfl, rfl, rfl, rfl⟩
  case refine_2 =>
    have hgrant : (s.entered m q 0x71).grants[argFld q 0 6]? = some g :=
      (State.get_entered s m q 0x71 (fun u => u.grants[argFld q 0 6]?) fun _ _ => rfl).trans hg
    refine h.brings (P := fun t => g ∉ t.grants) rfl ?_ (fun u _ _ _ hu => by rwa [State.respond_grants]) (fun _ hu => hu)
    dsimp only
    rw [hgrant]
    dsimp only
    rw [hvalid, hserves]
    exact State.not_mem_endGrant hvalid
  case refine_3 =>
    exact fun h hroom hsend hcore hstart => h.connOpen_recv hroom hsend hcore hstart
  case refine_4 =>
    have hclosing : (s.entered m q 0x73).closing q.ctx (argFld q 0 11) (argFld q 12 4) (bit q.arg.toNat 16) = some b :=
      (State.get_entered s m q 0x73 (State.closing · q.ctx (argFld q 0 11) (argFld q 12 4) (bit q.arg.toNat 16))
        fun _ _ => rfl).trans hb
    have hends : (s.entered m q 0x73).ctx q.ctx = s.ctx q.ctx := State.entered_ctx ..
    refine h.brings (P := fun t => (t.ctx q.ctx).binds = (s.ctx q.ctx).binds ++ [b]) rfl ?_
      (fun v _ _ _ hv => by rwa [State.respond_ctx]) (fun _ hv => hv)
    dsimp only
    rw [State.needCtx_entered hx, hends, if_neg (Nat.not_le.mpr hp), hclosing]
    dsimp only
    rw [if_neg (by simpa using fun o ho hu => absurd (hbinds o ho) (by simp [hu]))]
    exact (congrArg Ctx.binds (State.ctx_modCtx_self _ _ (fun c => { c with binds := c.binds ++ [b] }))).trans (by rw [hends])
  case refine_5 =>
    exact fun h hp hpend hrole hcode => h.portRetrain hp hpend hrole hcode
  case refine_6 =>
    have hevents : (s.entered m q 0x81).events = s.events := State.get_entered s m q 0x81 State.events fun _ _ => rfl
    refine h.brings (P := fun t => t.events.held = s.events.held ∧
      t.events.ackSeq = Nat.min (Nat.max (argFld q 0 32) s.events.ackSeq) (s.events.nextSeq - 1)) rfl ?_
      (fun v _ _ _ hv => by rwa [State.get_respond _ _ _ _ State.events fun _ _ => rfl]) (fun _ hv => hv)
    rw [← hevents]
    exact ⟨rfl, rfl⟩

end Sys2Proof.Machine
end

section
/-! Anchors, repairs, ledger reads, attestation, firmware (14 R399, R425, R430; 15 R438, R441): the obligation O56. -/
namespace Sys2Proof.Machine
open Sys2Proof

section
variable {s : State}

/-! ### Anchors -/

@[simp] theorem State.respond_anchors (m n : Nat) (r : Reply) : (s.respond m n r).anchors = s.anchors :=
  State.get_respond s m n r State.anchors (fun _ _ => rfl)

/-- A change of an anchor is reported and logged; the anchors are as they were set. -/
theorem State.anchorChanged_anchors (n : Nat) (a b : Anchor) (install : Bool) :
    ((s.setAnchor n a).anchorChanged n b install).anchors = s.anchors.set {} n a := by
  have hlog (u : State) (k x o st p : Nat) (pl : List (Nat × List Byte)) : (u.logEntry k x o st p pl).anchors = u.anchors :=
    State.get_logEntry State.anchors (fun _ _ _ => rfl) (fun _ _ => rfl) u k x o st p pl
  have hraise (u : State) (c : Nat) (x : Option Nat) (v d : Nat) : (u.raise c x v d).anchors = u.anchors := rfl
  rw [State.anchorChanged, hlog, hraise]
  rfl

/-- One anchor is set and the others stand. -/
theorem anchors_set (t : Tab Anchor) (n : Nat) (a : Anchor) :
    (t.set {} n a).get {} n = a ∧ ∀ k, k ≠ n → (t.set {} n a).get {} k = t.get {} k :=
  ⟨Tab.get_set_self .., fun _ hk => Tab.get_set_other _ _ _ hk⟩

/-! ### Repairs -/

@[simp] theorem State.respond_repairs (m n : Nat) (r : Reply) : (s.respond m n r).repairs = s.repairs :=
  State.get_respond s m n r State.repairs (fun _ _ => rfl)

/-- The field repair list is as its last change leaves it (15 R441). -/
theorem State.repairs_store (l : List (BitVec 64)) : (s.store (.repairs l)).repairs = l := by
  show (s.flash.storing.toList ++ (s.flash.waiting ++ [FlashStore.repairs l])).foldl _ _ = l
  rw [← List.append_assoc, List.foldl_append]
  rfl

/-! ### Reads of the ledger and attestation -/

/-- A read with nothing held for it stands as it is, but for the batches it passes over (14 R430). -/
theorem State.serveRead_empty (r : LRead) (hspill : s.flash.spill = []) (hheld : s.ledger.held = []) :
    (s.serveRead r).1 = s ∧ (s.serveRead r).2.conn = r.conn ∧ (s.serveRead r).2.stream = r.stream ∧
    (s.serveRead r).2.follow = r.follow := by
  unfold State.serveRead
  rw [hspill, hheld]
  dsimp only
  split <;> exact ⟨rfl, rfl, rfl, rfl⟩

/-- A report on the sealed area changes the ledger but for its reads. -/
theorem State.ledgerHigh_reads : s.ledgerHigh.ledger.reads = s.ledger.reads := by
  unfold State.ledgerHigh
  dsimp only
  split
  · rfl
  · split <;> rfl

/-- The one read that stands follows its stream (14 R430). -/
theorem State.serveReads_one {r : LRead} (hspill : s.flash.spill = []) (hheld : s.ledger.held = []) (hreads : s.ledger.reads = [r])
    (hopen : s.bulkOpen r.conn = true) (hfollow : r.follow = true) :
    ∃ v, s.serveReads.ledger.reads = [v] ∧ v.conn = r.conn ∧ v.stream = r.stream ∧ v.follow = true := by
  obtain ⟨-, hconn, hstream, hf⟩ := State.serveRead_empty r hspill hheld
  refine ⟨(s.serveRead r).2, ?_, hconn, hstream, hf.trans hfollow⟩
  unfold State.serveReads
  rw [hreads]
  dsimp only [List.foldl_cons, List.foldl_nil]
  rw [hopen, if_neg (by decide), if_pos hfollow, State.ledgerHigh_reads]
  rfl

/-- A read that follows stands where there was none and nothing is held (14 R430). -/
theorem State.serveReads_added {r : LRead} (hspill : s.flash.spill = []) (hheld : s.ledger.held = []) (hreads : s.ledger.reads = [])
    (hopen : s.bulkOpen r.conn = true) (hfollow : r.follow = true) :
    ∃ v, (s.modLedger (fun l => { l with reads := l.reads ++ [r] })).serveReads.ledger.reads = [v] ∧ v.conn = r.conn ∧
      v.stream = r.stream ∧ v.follow = true :=
  State.serveReads_one hspill hheld (congrArg (· ++ [r]) hreads) hopen hfollow

/-- What neither the ports nor the bundles change, bytes that leave on a bulk connection leave. -/
theorem State.get_sendBulk {β : Type} (get : State → β) (hlinks : ∀ (u : State) l, get { u with links := l } = get u) (connId : Nat)
    (bytes : List Byte) : get (s.sendBulk connId bytes) = get s := by
  have hentry (u : State) (c : Circuit) (l : List Line) : get (u.sendBulkEntry c l) = get u :=
    (State.get_sendCtl get (fun _ _ _ _ _ _ => hlinks _ _) (fun _ _ _ => hlinks _ _) ..).trans
      (foldl_get_same (get := get) (fun _ _ t => State.get_sendFlit get (fun _ _ _ _ _ _ => hlinks _ _) (fun _ _ _ => hlinks _ _) t ..) u)
  unfold State.sendBulk
  split
  · rfl
  · exact foldl_get_same (get := get) (fun _ _ t => hentry t ..) s

/-- An index of the identity key is used (14 R425). -/
theorem State.useIdentityIndex_key :
    s.useIdentityIndex.flash.identityKey = { s.flash.identityKey with next := s.flash.identityKey.next + 1 } := by
  unfold State.useIdentityIndex
  dsimp only
  split <;> rfl

/-- The one attestation that waits is signed under the key's next index (14 R425). -/
theorem State.attestAll_one {d : Deferred} (hd : s.mbox.deferred.filter (fun d => d.opcode = 0x46) = [d])
    (hready : s.flash.identityKey.ready (2 ^ 40) = true) (hopen : s.bulkOpen d.key = true) :
    s.attestAll.flash.identityKey = { s.flash.identityKey with next := s.flash.identityKey.next + 1 } := by
  have hnext : ¬ 2 ^ 40 ≤ s.flash.identityKey.next := by
    simp only [SignKey.ready, Bool.and_eq_true, decide_eq_true_eq] at hready
    exact Nat.not_le.mpr hready.1
  unfold State.attestAll
  rw [hd]
  dsimp only [List.foldl_cons, List.foldl_nil]
  rw [if_neg hnext, hready, hopen, if_neg (by decide), if_neg (by decide),
    State.get_finish (fun u => u.flash.identityKey) (fun _ _ => rfl) (fun _ _ => rfl),
    State.get_sendBulk (fun u => u.flash.identityKey) (fun _ _ => rfl), State.useIdentityIndex_key]

end

/-! ### The rows -/

section
variable {s : State} {m : Nat} {q : Cmd}

/-- The anchor that ANCHOR_INSTALL brings (14 R399). -/
def newAnchor (q : Cmd) (now : Nat) : Anchor :=
  { id := leAt q.payload 0 4, mask := leAt q.payload 4 2, valid := true, key := q.payload.drop 8, installed := now }

/-- An anchor takes the lowest free place (14 R399). -/
theorem Serves.anchorInstall (h : Serves s m q { op := 0x43, who := .owner, len := fun n => n = 76 }) {n : Nat}
    (hn : s.anchorRoom = some n) (hoid : oidOk (keyOid (q.payload.drop 8)) = true) : Completes (.anchorInstall m q) s (fun t =>
      t.anchors.get {} n = newAnchor q s.now ∧ ∀ k, k ≠ n → t.anchors.get {} k = s.anchors.get {} k) := by
  have hroom : (s.entered m q 0x43).anchorRoom = some n := (State.get_entered s m q 0x43 State.anchorRoom fun _ _ => rfl).trans hn
  have hnow : (s.entered m q 0x43).now = s.now := State.get_entered s m q 0x43 State.now fun _ _ => rfl
  have hanchors : (s.entered m q 0x43).anchors = s.anchors := State.get_entered s m q 0x43 State.anchors fun _ _ => rfl
  refine h.brings (P := fun t => t.anchors.get {} n = newAnchor q s.now ∧ ∀ k, k ≠ n → t.anchors.get {} k = s.anchors.get {} k) rfl ?_
    (fun v n j r hv => by rwa [State.respond_anchors]) (fun _ hv => hv)
  dsimp only
  rw [hroom, hoid, hnow]
  dsimp only
  rw [if_neg (by decide), okay, State.anchorChanged_anchors, hanchors]
  exact anchors_set ..

/-- An anchor that no weights use is removed (14 R399). -/
theorem Serves.anchorRemove (h : Serves s m (withArg q 0 1 1) { op := 0x44, who := .owner, arg := 0xF01 })
    (hvalid : (s.anchors.get {} (argFld (withArg q 0 1 1) 8 4)).valid = true)
    (hunused : ∀ x, x < 16 → (s.ctx x).weights.usesAnchor (argFld (withArg q 0 1 1) 8 4) = false) :
    Completes (.anchorRemove m q) s (fun t => t.anchors.get {} (argFld (withArg q 0 1 1) 8 4) = {} ∧
      ∀ k, k ≠ argFld (withArg q 0 1 1) 8 4 → t.anchors.get {} k = s.anchors.get {} k) := by
  generalize hq : withArg q 0 1 1 = q' at h hvalid hunused ⊢
  have hanchors : (s.entered m q' 0x44).anchors = s.anchors := State.get_entered s m q' 0x44 State.anchors fun _ _ => rfl
  have hnone : ((List.range 16).any fun x => ((s.entered m q' 0x44).ctx x).weights.usesAnchor (argFld q' 8 4)) = false := by
    simpa using fun x hx => hunused x hx
  subst hq
  refine h.brings (P := fun t => t.anchors.get {} (argFld (withArg q 0 1 1) 8 4) = {} ∧
    ∀ k, k ≠ argFld (withArg q 0 1 1) 8 4 → t.anchors.get {} k = s.anchors.get {} k) rfl ?_
    (fun v n j r hv => by rwa [State.respond_anchors]) (fun _ hv => hv)
  dsimp only
  rw [hanchors, hvalid, hnone, if_neg (by decide), if_neg Bool.false_ne_true, okay, State.anchorChanged_anchors, hanchors]
  exact anchors_set ..

/-- A firmware copy waits for more bytes than have arrived, while its connection stands (15 R438). -/
theorem State.bulkDeferred_waits {b : Bulk} {d : Deferred} (hop : d.opcode = 0xA0) (hlen : b.bytes.length < d.aux)
    (hbroken : b.broken = false) : s.bulkDeferred b d = s := by
  unfold State.bulkDeferred
  rw [hop, if_neg (Nat.ne_of_gt (Nat.zero_lt_of_lt hlen)), if_neg (Nat.not_le.mpr hlen), hbroken, if_neg Bool.false_ne_true]
  rfl

/-- A firmware copy whose bytes have not all arrived waits for them (15 R438). -/
theorem Serves.fwStageBulk {b : Bulk} (h : Serves s m (withArg q 0 1 0)
      { op := 0xA0, who := .owner, early := true, arg := 2 ^ 64 - 2 ^ 32 + 1, len := fun n => n = 8 })
    (hm : m ≠ 0) (hb : s.bulk (argFld (withArg q 0 1 0) 32 32) = some b) (hbroken : b.broken = false)
    (hlen : b.bytes.length < leAt q.payload 0 8) (hfresh : ∀ d ∈ s.mbox.deferred, d.ticket ≠ s.mbox.tickets + 1) :
    Completes (.fwStageBulk m q) s (Answered s m (withArg q 0 1 0) 0xA0 (Defers m (noCtx (withArg q 0 1 0)) 0xA0
      (argFld (withArg q 0 1 0) 32 32) (leAt q.payload 0 8) [] (fun u _ => u))) := by
  have hpayload : (withArg q 0 1 0).payload = q.payload := rfl
  have hexec : exec (.fwStageBulk m q) s = execFwStageBulk m q s := rfl
  unfold execFwStageBulk at hexec
  dsimp only at hexec
  rw [hpayload] at hexec
  generalize withArg q 0 1 0 = q' at h hb hexec ⊢
  have hbulk : (s.entered m q' 0xA0).bulk (argFld q' 32 32) = some b :=
    (State.get_entered s m q' 0xA0 (State.bulk · (argFld q' 32 32)) fun _ _ => rfl).trans hb
  have hopen : (s.entered m q' 0xA0).bulkOpen (argFld q' 32 32) = true := by
    rw [State.bulkOpen, hbulk]
    simp [hbroken]
  have hdefer : ((s.entered m q' 0xA0).defer m (noCtx q') 0xA0 (argFld q' 32 32) (leAt q.payload 0 8) []).1.bulk (argFld q' 32 32) =
      some b := (State.get_defer _ _ _ _ _ _ _ (State.bulk · (argFld q' 32 32)) fun _ _ => rfl).trans hbulk
  have hfind := find_deferral (s := s.entered m q' 0xA0) (m := m) (q := noCtx q') (op := 0xA0) (key := argFld q' 32 32)
    (aux := leAt q.payload 0 8) (data := []) (by rwa [State.entered_deferred, State.entered_tickets])
  refine h.answersQuiet _ hexec ?_ ?_ ?_ ?_ ?_
  · dsimp only
    rw [if_neg hm, hopen, if_neg (by decide), State.accept_noCtx, Defers, Defers]
    refine congrArg (·, _) ?_
    rw [hdefer, State.defer_ticket, State.defer_deferred, hfind]
    dsimp only
    rw [if_neg (Nat.ne_of_gt (Nat.zero_lt_of_lt hlen))]
    exact State.bulkDeferred_waits rfl hlen hbroken
  · exact State.defer_slot _ m _ 0xA0 _ _ [] Slot.agent (fun _ => rfl) m
  · exact State.defer_slot _ m _ 0xA0 _ _ [] Slot.bound (fun _ => rfl) m
  · exact (State.get_defer _ _ _ _ _ _ _ State.pending fun _ _ => rfl).trans (State.entered_pending ..)
  · exact (State.get_defer _ _ _ _ _ _ _ State.mem fun _ _ => rfl).trans (State.entered_mem ..)

end

/-- Settles O56: each row's effect on what it names (14 R399, R425, R430; 15 R438, R441). -/
theorem trustCommands : Obligations.TrustCommands := by
  intro s m q
  refine ⟨fun n h hn hoid => h.anchorInstall hn hoid, fun h hvalid hunused => h.anchorRemove hvalid hunused, fun h hlen => ?_,
    fun h hbit hin => ?_, fun h hg hm hk hopen hreads hheld hspill hfollow => ?_, fun h hm hopen hfresh hready => ?_,
    fun b h hm hb hbroken hlen hfresh => ?_, fun h hlen hlast => ?_⟩
  case refine_1 =>
    have hlist : (s.entered m (withArg q 0 1 1) 0x94).repairs = s.repairs := State.get_entered s m _ 0x94 State.repairs fun _ _ => rfl
    refine h.brings (P := fun t => t.repairs = s.repairs ++ [repairEntry (BitVec.ofNat 64 (leAt q.payload 0 8)) 0]) rfl ?_
      (fun v n j r hv => by rwa [State.respond_repairs]) (fun _ hv => hv)
    dsimp only
    rw [hlist, if_neg (Nat.not_le.mpr hlen), okay, State.repairs_store]
    rfl
  case refine_2 =>
    have hlist : (s.entered m (withArg q 0 1 0) 0x94).repairs = s.repairs := State.get_entered s m _ 0x94 State.repairs fun _ _ => rfl
    have hpayload : (withArg q 0 1 0).payload = q.payload := rfl
    refine h.brings (P := fun t => t.repairs = s.repairs.erase (BitVec.ofNat 64 (leAt q.payload 0 8))) rfl ?_
      (fun v n j r hv => by rwa [State.respond_repairs]) (fun _ hv => hv)
    dsimp only
    rw [hlist, hpayload, hbit, hin, if_neg (by decide), okay, State.repairs_store]
  case refine_3 =>
    have hkept {β : Type} (get : State → β) (hmbox : ∀ (u : State) b, get { u with mbox := b } = get u) :
        get ((s.entered m q 0x45).defer m (noCtx q) 0x45 (argFld q 0 32) 0 []).1 = get s :=
      (State.get_defer _ _ _ _ _ _ _ get hmbox).trans (State.get_entered s m q 0x45 get hmbox)
    refine h.brings (P := fun t => ∃ r : LRead, t.ledger.reads = [r] ∧ r.conn = argFld q 0 32 ∧ r.stream = argFld q 32 5 ∧
      r.follow = true) rfl ?_ (fun v n j r hv => by rwa [State.get_respond v n j r State.ledger fun _ _ => rfl]) (fun _ hv => hv)
    dsimp only
    rw [State.get_entered s m q 0x45 State.isG fun _ _ => rfl, hg,
      State.get_entered s m q 0x45 (State.bulkOpen · (argFld q 0 32)) fun _ _ => rfl, hopen]
    rw [if_neg (by decide), if_neg hm, if_neg (Nat.not_lt.mpr hk), if_neg (by decide), State.accept_noCtx, Defers]
    exact State.serveReads_added ((hkept (·.flash.spill) fun _ _ => rfl).trans hspill)
      ((hkept (·.ledger.held) fun _ _ => rfl).trans hheld) ((hkept (·.ledger.reads) fun _ _ => rfl).trans hreads)
      ((hkept (State.bulkOpen · (argFld q 0 32)) fun _ _ => rfl).trans hopen) hfollow
  case refine_4 =>
    have hkept {β : Type} (get : State → β) (hmbox : ∀ (u : State) b, get { u with mbox := b } = get u) :
        get ((s.entered m q 0x46).defer m (noCtx q) 0x46 (argFld q 0 32) (argFld q 32 5) q.payload).1 = get s :=
      (State.get_defer _ _ _ _ _ _ _ get hmbox).trans (State.get_entered s m q 0x46 get hmbox)
    have hone : ((s.entered m q 0x46).defer m (noCtx q) 0x46 (argFld q 0 32) (argFld q 32 5) q.payload).1.mbox.deferred.filter
        (fun d => d.opcode = 0x46) = [(s.entered m q 0x46).deferral m (noCtx q) 0x46 (argFld q 0 32) (argFld q 32 5) q.payload] := by
      rw [State.defer_deferred, State.entered_deferred, List.filter_append,
        List.filter_eq_nil_iff.mpr fun d hd => by simpa using hfresh d hd]
      rfl
    refine h.brings (P := fun t => t.flash.identityKey = { s.flash.identityKey with next := s.flash.identityKey.next + 1 }) rfl ?_
      (fun v n j r hv => by rwa [State.get_respond v n j r State.flash fun _ _ => rfl]) (fun _ hv => hv)
    dsimp only
    rw [if_neg hm, State.get_entered s m q 0x46 (State.bulkOpen · (argFld q 0 32)) fun _ _ => rfl, hopen, if_neg (by decide),
      State.accept_noCtx, Defers]
    dsimp only
    rw [State.attestAll_one hone, hkept (·.flash.identityKey) fun _ _ => rfl]
    · exact (congrArg (SignKey.ready · (2 ^ 40)) (hkept (·.flash.identityKey) fun _ _ => rfl)).trans hready
    · exact (hkept (State.bulkOpen · (argFld q 0 32)) fun _ _ => rfl).trans hopen
  case refine_5 =>
    exact h.fwStageBulk hm hb hbroken hlen hfresh
  case refine_6 =>
    refine h.brings (P := fun t => t.boot.staging = putBytes (padTo (Nat.max s.boot.staging.length
      (leAt q.payload 0 8 + (q.payload.length - 8))) s.boot.staging) (leAt q.payload 0 8) (q.payload.drop 8)) rfl ?_
      (fun v n j r hv => by rwa [State.get_respond v n j r State.boot fun _ _ => rfl]) (fun _ hv => hv)
    have hpayload : (withArg q 0 1 1).payload = q.payload := rfl
    have hboot : ((s.entered m (withArg q 0 1 1) 0xA0).defer m (noCtx (withArg q 0 1 1)) 0xA0 (2 ^ 32) 0 []).1.boot = s.boot :=
      (State.get_defer _ _ _ _ _ _ _ State.boot fun _ _ => rfl).trans (State.get_entered s m _ 0xA0 State.boot fun _ _ => rfl)
    dsimp only
    rw [State.get_entered s m _ 0xA0 (fun u => u.boot.staging.length) fun _ _ => rfl, hpayload, if_neg (Nat.not_lt.mpr hlen),
      State.accept_noCtx, Defers]
    dsimp only
    rw [hlast, if_neg Bool.false_ne_true, State.get_finish State.boot (fun _ _ => rfl) (fun _ _ => rfl), hboot]

end Sys2Proof.Machine
end

section
/-! Batches, seals, flash stores, the TAP and side messages (13 R345; 14 R417, R418, R422, R423; 16 R489): the obligation O60. -/
namespace Sys2Proof.Machine
open Sys2Proof

/-! ### Batches and seals -/

section
variable {s : State} {k : Nat}

/-- A batch with entries closes at the tick now (14 R417). -/
theorem State.closeBatch_some {e : LEntry} {l : List LEntry} (h : (s.lstream k).opened = e :: l) :
    ((s.closeBatch k).lstream k).opened = [] ∧ ((s.closeBatch k).lstream k).lastClose = s.now ∧
    (s.closeBatch k).ledger.closed = s.ledger.closed ++ [{ stream := k, entries := e :: l, closeTick := s.now }] := by
  have hclose : s.closeBatch k = State.modLedger (s.setStream k { s.lstream k with opened := [], lastClose := s.now })
      (fun v => { v with closed := v.closed ++ [{ stream := k, entries := (s.lstream k).opened, closeTick := s.now }] }) := by
    unfold State.closeBatch
    dsimp only
    rw [if_neg (by simp [h])]
    rfl
  have hstream : ((s.closeBatch k).lstream k) = { s.lstream k with opened := [], lastClose := s.now } := by
    rw [hclose]
    exact Tab.get_set_self ..
  rw [hstream, hclose, h]
  exact ⟨rfl, rfl, rfl⟩

/-- The use of an index of the ledger key. -/
theorem State.useLedgerIndex_key : s.useLedgerIndex.flash.ledgerKey.next = s.flash.ledgerKey.next + 1 := by
  unfold State.useLedgerIndex
  dsimp only
  split <;> rfl

theorem State.get_useLedgerIndex {β : Type} (get : State → β) (hflash : ∀ (u : State) f, get { u with flash := f } = get u) :
    get s.useLedgerIndex = get s := by
  unfold State.useLedgerIndex
  dsimp only
  split
  · exact (hflash _ _).trans (hflash _ _)
  · exact hflash _ _

/-- A report on the sealed area changes one flag of the ledger and the events. -/
theorem State.get_ledgerHigh {β : Type} (get : State → β)
    (hhigh : ∀ (u : State) b, get (u.modLedger (fun l => { l with highRaised := b })) = get u)
    (hraise : ∀ (u : State) c x n d, get (u.raise c x n d) = get u) (s : State) : get s.ledgerHigh = get s := by
  unfold State.ledgerHigh
  dsimp only
  split
  · exact hhigh _ _
  · split
    · rfl
    · exact (hraise _ _ _ _ _).trans (hhigh _ _)

/-- With no read standing, what is done with leaves the store. -/
theorem State.serveReads_none (h : s.ledger.reads = []) : s.serveReads = State.ledgerHigh { s with
    flash := { s.flash with spill := s.flash.spill.filter (fun b => !s.batchDone b) }
    ledger := { s.ledger with reads := [], held := s.ledger.held.filter (fun b => !s.batchDone b) } } := by
  unfold State.serveReads
  rw [h]
  rfl

/-- With no context waiting for room, room in the unsealed area changes one flag of the ledger (14 R416). -/
theorem State.get_ledgerRoom {β : Type} (get : State → β)
    (hfull : ∀ (u : State) b, get (u.modLedger (fun l => { l with fullRaised := b })) = get u)
    (h : ∀ x, (s.ctx x).holds.ledger = false) : get s.ledgerRoom = get s := by
  unfold State.ledgerRoom
  split
  · rfl
  · have hnone (l : List Nat) (u : State) (hu : ∀ x, (u.ctx x).holds.ledger = false) :
        l.foldl (fun s x => if (s.ctx x).holds.ledger then s.boundaryGo x else s) u = u := by
      induction l with
      | nil => rfl
      | cons x l ih => rw [List.foldl_cons, hu x, if_neg Bool.false_ne_true, ih]
    rw [hnone]
    · exact hfull _ _
    · exact h

/-- The batch as it is signed under the next index of the ledger key (14 R418). -/
theorem State.signBatch_batch (b : Batch) : (s.signBatch b).2.entries = b.entries ∧ (s.signBatch b).2.delivered = b.delivered ∧
    (s.signBatch b).2.sealNo = (s.lstream b.stream).sealNo ∧ (s.signBatch b).2.sigIndex = s.flash.ledgerKey.next :=
  ⟨rfl, rfl, rfl, rfl⟩

/-- What neither the context's mirror nor the ledger and the flash change, a signature leaves. -/
theorem State.get_signBatch {β : Type} (get : State → β) (hhalo : ∀ (u : State) (y : Nat) (f : Halo → Halo),
      get (u.modCtx y (fun c => { c with halo := f c.halo })) = get u) (b : Batch) :
    ∃ v, get (s.signBatch b).1 = get (s.useLedgerIndex.setStream b.stream { s.lstream b.stream with
      sealNo := (s.lstream b.stream).sealNo + 1, prev := v }) := by
  refine ⟨digest 6 (b.sealHeader (s.lstream b.stream) s.flash.ledgerKey.next), ?_⟩
  unfold State.signBatch
  dsimp only
  split
  · exact (hhalo _ _ (fun h => { h with lastSeal := (s.lstream b.stream).sealNo })).trans (State.get_mirror get hhalo ..)
  · rfl

/-- The state with its first closed batch signed. -/
def State.signedFirst (s : State) (l : List Batch) (b : Batch) : State := ((s.modLedger (fun v => { v with closed := l })).signBatch b).1

/-- The first closed batch as signed. -/
def State.firstSigned (s : State) (l : List Batch) (b : Batch) : Batch := ((s.modLedger (fun v => { v with closed := l })).signBatch b).2

/-- What of the state the delivery of a sealed batch leaves. -/
def State.sealKey (u : State) (k : Nat) : List Batch × Nat × Nat × List LRead :=
  (u.ledger.closed, u.flash.ledgerKey.next, (u.lstream k).sealNo, u.ledger.reads)

theorem State.signedFirst_key (l : List Batch) (b : Batch) : (s.signedFirst l b).sealKey b.stream =
    (l, s.flash.ledgerKey.next + 1, (s.lstream b.stream).sealNo + 1, s.ledger.reads) := by
  obtain ⟨v, hv⟩ := State.get_signBatch (s := s.modLedger (fun v => { v with closed := l })) (State.sealKey · b.stream)
    (fun _ _ _ => rfl) b
  refine hv.trans ?_
  have hclosed := State.get_useLedgerIndex (s := s.modLedger (fun v => { v with closed := l })) State.ledger (fun _ _ => rfl)
  have hkey := State.useLedgerIndex_key (s := s.modLedger (fun v => { v with closed := l }))
  have hstream (u : State) (w : LStream) : (u.setStream b.stream w).sealKey b.stream =
      (u.ledger.closed, u.flash.ledgerKey.next, w.sealNo, u.ledger.reads) := by
    refine congrArg (fun n => (u.ledger.closed, u.flash.ledgerKey.next, n, u.ledger.reads)) ?_
    exact congrArg LStream.sealNo (Tab.get_set_self ..)
  rw [hstream, hclosed, hkey]
  rfl

theorem State.signedFirst_holds (l : List Batch) (b : Batch) (x : Nat) :
    ((s.signedFirst l b).ctx x).holds = (s.ctx x).holds := by
  obtain ⟨v, hv⟩ := State.get_signBatch (s := s.modLedger (fun v => { v with closed := l })) (fun u => (u.ctx x).holds)
    (fun u y f => State.get_modCtx Ctx.holds (f := fun c => { c with halo := f c.halo }) (fun _ => rfl) u y x) b
  exact hv.trans (State.get_useLedgerIndex (s := s.modLedger (fun v => { v with closed := l })) (fun u => (u.ctx x).holds) (fun _ _ => rfl))

/-- The first closed batch is signed and held (14 R418). -/
theorem State.sealNext_signs {b : Batch} {l : List Batch} (hc : s.ledger.closed = b :: l) (hg : s.isG = true)
    (hready : s.flash.ledgerKey.ready (2 ^ 60) = true) (hroom : s.sealedUse + b.size ≤ sealedArea) :
    s.sealNext = ((((s.signedFirst l b).modLedger (fun v => { v with held := v.held ++ [s.firstSigned l b] })).ledgerHigh).serveReads).ledgerRoom := by
  unfold State.sealNext
  rw [hc]
  dsimp only
  rw [hg, hready, if_neg (by simpa using hroom)]
  rfl

end

/-- A sealed batch that is not delivered stays held, with no read standing and no context waiting for room. -/
theorem State.sealed_held {s v : State} {b : Batch} (hv : v = (s.modLedger (fun v => { v with held := v.held ++ [b] })).ledgerHigh) (hreads : s.ledger.reads = []) (hb : b.delivered = false)
    (hholds : ∀ x, (s.ctx x).holds.ledger = false) (k : Nat) :
    (v.serveReads.ledgerRoom).sealKey k = s.sealKey k ∧ b ∈ (v.serveReads.ledgerRoom).ledger.held := by
  have hkey : v.sealKey k = s.sealKey k := by
    rw [hv]
    exact State.get_ledgerHigh (State.sealKey · k) (fun _ _ => rfl) (fun _ _ _ _ _ => rfl) _
  have hheld : v.ledger.held = s.ledger.held ++ [b] := by
    rw [hv]
    exact State.get_ledgerHigh (fun u => u.ledger.held) (fun _ _ => rfl) (fun _ _ _ _ _ => rfl) _
  have hnone : v.ledger.reads = [] := (congrArg (fun k : List Batch × Nat × Nat × List LRead => k.2.2.2) hkey).trans hreads
  have hwait (x : Nat) : (v.ctx x).holds.ledger = false := by
    rw [hv]
    exact (State.get_ledgerHigh (fun u => (u.ctx x).holds.ledger) (fun _ _ => rfl) (fun _ _ _ _ _ => rfl) _).trans (hholds x)
  have hfree (x : Nat) : (v.serveReads.ctx x).holds.ledger = false := by
    rw [State.serveReads_none hnone]
    exact (State.get_ledgerHigh (fun u => (u.ctx x).holds.ledger) (fun _ _ => rfl) (fun _ _ _ _ _ => rfl) _).trans (hwait x)
  have hserved : v.serveReads.sealKey k = v.sealKey k ∧ v.serveReads.ledger.held = v.ledger.held.filter (fun b => !v.batchDone b) := by
    rw [State.serveReads_none hnone]
    refine ⟨(State.get_ledgerHigh (State.sealKey · k) (fun _ _ => rfl) (fun _ _ _ _ _ => rfl) _).trans ?_,
      State.get_ledgerHigh (fun u => u.ledger.held) (fun _ _ => rfl) (fun _ _ _ _ _ => rfl) _⟩
    rw [State.sealKey, State.sealKey, hnone]
    rfl
  have hdone : (!v.batchDone b) = true := by rw [State.batchDone, hb]; rfl
  refine ⟨(State.get_ledgerRoom (State.sealKey · k) (fun _ _ => rfl) hfree).trans (hserved.1.trans hkey), ?_⟩
  rw [State.get_ledgerRoom (fun u => u.ledger.held) (fun _ _ => rfl) hfree, hserved.2, hheld]
  exact List.mem_filter.mpr ⟨List.mem_append_right _ (List.mem_singleton_self b), hdone⟩

/-- The close of a stream's batch waits for its first entry's age and for the stream's gap (14 R417). -/
theorem State.batchCloseTimer_eq {s : State} {k t0 g : Nat} {e : LEntry} {l : List LEntry} (hopened : (s.lstream k).opened = e :: l)
    (hgap : s.sealGap k = some g) (hg : s.isG = true) :
    (e.tick + 1000000 ≤ (s.atTick t0).now → (s.lstream k).lastClose = 0 ∨ (s.lstream k).lastClose + g ≤ (s.atTick t0).now →
      exec (.batchCloseTimer k t0) s = quiet s ((s.atTick t0).closeBatch k)) ∧
    ((s.atTick t0).now < e.tick + 1000000 → exec (.batchCloseTimer k t0) s = quiet s (s.atTick t0)) := by
  have hopened' : ((s.atTick t0).lstream k).opened = e :: l := hopened
  have hgap' : (s.atTick t0).sealGap k = some g := hgap
  have hlast : ((s.atTick t0).lstream k).lastClose = (s.lstream k).lastClose := rfl
  have hg' : (s.atTick t0).isG = true := hg
  have heq : exec (.batchCloseTimer k t0) s = execBatchCloseTimer k t0 s := rfl
  rw [heq]
  unfold execBatchCloseTimer
  dsimp only
  rw [hopened', hgap', hlast, hg']
  dsimp only [List.head?_cons]
  refine ⟨fun hdue hclose => congrArg (quiet s) (if_pos ?_), fun hearly => congrArg (quiet s) (if_neg ?_)⟩
  · simpa [hdue] using hclose.symm
  · simp [Nat.not_le.mpr hearly]

/-! ### Stores and side messages -/

/-- What the monitor reports changes the power state and the events. -/
theorem State.setEnergy_flash (s : State) (energy : Nat) :
    (s.setEnergy energy).flash = s.flash ∧ (s.setEnergy energy).power.energy = energy := by
  unfold State.setEnergy
  dsimp only
  split <;> exact ⟨rfl, rfl⟩

/-- The guard answers the first store that waits, where none is under way (14 R422). -/
theorem State.guardStore_first {s : State} {w : FlashStore} {l : List FlashStore} (hstoring : s.flash.storing = none)
    (hwaiting : s.flash.waiting = w :: l) :
    (w.need ≤ s.power.energy → s.guardStore = s.modFlash (fun f => { f with waiting := l, storing := some w })) ∧
    (s.power.energy < w.need → s.guardStore.flash = s.flash ∧ s.guardStore.power = s.power) := by
  unfold State.guardStore
  rw [hstoring, hwaiting]
  dsimp only
  refine ⟨fun h => if_pos h, fun h => ?_⟩
  rw [if_neg (Nat.not_le.mpr h)]
  split <;> exact ⟨rfl, rfl⟩

/-- A store that ends takes effect (14 R423; 15 R438, R441). -/
def FlashStore.takesEffect (u : State) : FlashStore → State
  | .ledgerIndex b => u.modFlash (fun f => { f with ledgerKey := { f.ledgerKey with bound := Nat.max b f.ledgerKey.bound } })
  | .identityIndex b =>
    (u.modFlash (fun f => { f with identityKey := { f.identityKey with bound := Nat.max b f.identityKey.bound } })).attestAll
  | .bootCount n => u.modFlash (fun f => { f with bootCount := n })
  | .repairs l => u.modFlash (fun f => { f with repairs := l })
  | .firmware n b ticket _ => u.fwStored n b ticket

theorem exec_storeDone {s : State} {w : FlashStore} (h : s.flash.storing = some w) :
    exec .flashStoreDone s = quiet s (w.takesEffect (s.modFlash (fun f => { f with storing := none }))) := by
  have heq : exec .flashStoreDone s = execFlashStoreDone s := rfl
  rw [heq]
  unfold execFlashStoreDone
  rw [h]
  cases w <;> rfl

/-- The TAP takes an instruction while management power stands and TRST_N is high (16 R489). -/
theorem State.tap_eq {s : State} (hmgmt : s.power.management = true) (htrst : s.power.trst = false) (ir : Nat) :
    s.tap ir = s.modPower (fun p => { p with ir }) := if_pos (by rw [hmgmt, htrst]; rfl)

/-- Settles O60. -/
theorem ledgerFlashAndPins : Obligations.LedgerFlashAndPins := by
  intro s k t0 energy u
  refine ⟨fun e l g hopened hgap hg => ⟨fun hdue hlast => ?_, fun hearly => ?_⟩, fun b l hseal hc hb hg hready hroom hreads hholds => ?_,
    fun w l hhalted hsealing hstoring hwaiting => ⟨fun hneed => ?_, fun hneed => ?_⟩, fun n hn => ?_, fun n hn => ?_, fun l hl => ?_,
    fun hmgmt htrst => ⟨?_, ?_, ?_, ?_⟩, fun low => ⟨_, rfl, rfl, fun h => ?_⟩, fun body hruns hfree hmin hmax => ?_,
    fun vendor body hv => ?_, fun hmgmt hhalted => ⟨?_, fun i hi => ?_, fun i hi => ?_⟩⟩
  case refine_1 =>
    obtain ⟨hempty, hclose, hclosed⟩ := State.closeBatch_some (s := u) hopened
    exact ⟨_, (State.batchCloseTimer_eq hopened hgap hg).1 hdue hlast, hempty, hclose, _, hclosed, rfl, rfl, rfl⟩
  case refine_2 => exact ⟨_, ((State.batchCloseTimer_eq hopened hgap hg).2 hearly).trans (quiet_eq rfl rfl), rfl⟩
  case refine_3 =>
    have hi : exec .sealSigned s = done s _ := congrArg (done s) ((if_neg (by rw [hseal]; exact Bool.false_ne_true)).trans
      (State.sealNext_signs hc hg hready hroom))
    have hkey := State.signedFirst_key (s := s) l b
    obtain ⟨hkept, hheld⟩ := State.sealed_held (s := s.signedFirst l b) (b := s.firstSigned l b) rfl
      ((congrArg (fun k : List Batch × Nat × Nat × List LRead => k.2.2.2) hkey).trans hreads) hb
      (fun x => (congrArg Holds.ledger (State.signedFirst_holds l b x)).trans (hholds x)) b.stream
    rw [hkey] at hkept
    generalize (((s.signedFirst l b).modLedger (fun v => { v with held := v.held ++ [s.firstSigned l b] })).ledgerHigh).serveReads.ledgerRoom =
      v at hi hkept hheld
    exact ⟨_, hi, (congrArg Prod.fst hkept :), (congrArg (fun k : List Batch × Nat × Nat × List LRead => k.2.1) hkept :),
      (congrArg (fun k : List Batch × Nat × Nat × List LRead => k.2.2.1) hkept :), _, hheld, rfl, rfl, rfl⟩
  case refine_4 =>
    obtain ⟨hflash, henergy⟩ := s.setEnergy_flash energy
    have hstore := (State.guardStore_first (s := s.setEnergy energy) (w := w) (l := l) (by rw [hflash, hstoring])
      (by rw [hflash, hwaiting])).1 (by rwa [henergy])
    exact ⟨_, (congrArg (quiet s) (if_neg (by simp [hhalted, hsealing]))).trans (congrArg (quiet s) hstore), rfl, rfl, henergy⟩
  case refine_5 =>
    obtain ⟨hflash, henergy⟩ := s.setEnergy_flash energy
    obtain ⟨hkept, hpower⟩ := (State.guardStore_first (s := s.setEnergy energy) (w := w) (l := l) (by rw [hflash, hstoring])
      (by rw [hflash, hwaiting])).2 (by rwa [henergy])
    exact ⟨_, congrArg (quiet s) (if_neg (by simp [hhalted, hsealing])), hkept.trans hflash,
      (congrArg Power.energy hpower).trans henergy⟩
  case refine_6 => exact ⟨_, exec_storeDone hn, rfl, rfl⟩
  case refine_7 => exact ⟨_, exec_storeDone hn, rfl, rfl⟩
  case refine_8 => exact ⟨_, exec_storeDone hl, rfl, rfl⟩
  case refine_9 => exact ⟨_, congrArg (quiet s) (State.tap_eq hmgmt htrst _), rfl⟩
  case refine_10 => exact ⟨_, congrArg (quiet s) (State.tap_eq hmgmt htrst _), rfl⟩
  case refine_11 => exact ⟨_, congrArg (quiet s) (State.tap_eq hmgmt htrst _), rfl⟩
  case refine_12 => exact ⟨_, congrArg (quiet s) (State.tap_eq hmgmt htrst _), rfl⟩
  case refine_13 => exact if_pos h
  case refine_14 =>
    have harrive : s.arrive 0 body = s.post 0 body := by
      unfold State.arrive
      dsimp only
      rw [if_neg (by simp [Slot.takes, hfree]), if_neg (by simp [hmin, hmax])]
    have hslot : (s.post 0 body).slot 0 = { s.slot 0 with command := body, posted := true, respValid := false, assembling := none } :=
      State.slot_modSlot_self ..
    exact ⟨_, congrArg (quiet s) ((if_pos (by simp [hruns])).trans harrive), (congrArg Slot.posted hslot :), (congrArg Slot.command hslot :)⟩
  case refine_15 => exact ⟨_, (congrArg (quiet s) (if_neg (by simp [hv]))).trans (quiet_eq rfl rfl), rfl⟩
  case refine_16 => exact ⟨_, congrArg (quiet s) (if_pos (by rw [hmgmt, hhalted]; rfl)), rfl⟩
  case refine_17 =>
    exact ⟨_, congrArg (quiet s) ((if_pos (by rw [hmgmt, hhalted]; rfl)).trans (if_pos hi)),
      List.mem_append_right _ (List.mem_singleton_self _)⟩
  case refine_18 =>
    exact ⟨_, (congrArg (quiet s) ((if_pos (by rw [hmgmt, hhalted]; rfl)).trans (if_neg (Nat.not_le.mpr hi)))).trans
      (quiet_eq rfl rfl), rfl⟩

end Sys2Proof.Machine
end

section
/-! Bring-up, power and heat (15 R433, R434; 16 R474-R487): the obligation O59. -/
namespace Sys2Proof.Machine
open Sys2Proof

/-! ### Stages of bring-up -/

section
variable {s : State}

/-- A stage that ends gives way to the next; what neither the boot record nor the events change stays (15 R433). -/
theorem State.nextStage_boot (ms : Nat) : (s.nextStage ms).boot.stage = s.boot.stage + 1 ∧
    (s.nextStage ms).boot.unconfigured = s.boot.unconfigured ∧ (s.nextStage ms).domains = s.domains := ⟨rfl, rfl, rfl⟩

theorem State.bringupFails_boot : s.bringupFails.boot.phase = 2 := rfl

/-- No defects found leave the lists as they are. -/
theorem State.foundDefects_nil (cause : Nat) : s.foundDefects [] cause = s := by
  have hadd (u : State) : u.addRepairs [] = u := by
    unfold State.addRepairs
    dsimp only
    rw [List.take_nil]
    rfl
  exact hadd s

/-- The last stage makes the module ready (15 R433, R444). -/
theorem State.endStage5_ready {r : StageReport} (hfailed : r.failed = []) (hdefects : r.defects = []) :
    (s.endStage5 r).boot.phase = 1 ∧ (s.endStage5 r).boot.readyTick = s.now ∧ (s.endStage5 r).cores = [] := by
  have hfuses {β : Type} (get : State → β) (h : ∀ (u : State) f, get { u with fuses := f } = get u) (u : State) :
      get u.advanceFuses = get u := by
    unfold State.advanceFuses
    dsimp only
    split
    · exact h _ _
    · rfl
  have hcalendar {β : Type} (get : State → β) (htime : ∀ (u : State) p, get { u with time := { u.time with pend := p } } = get u)
      (hmbox : ∀ (u : State) b, get { u with mbox := b } = get u) (hevents : ∀ (u : State) e, get { u with events := e } = get u)
      (hcal : ∀ (u : State) l, get { u with calendar := l } = get u) (hf : ∀ (u : State) f, get { u with fuses := f } = get u)
      (u : State) : get u.advanceFuses.openCalendar = get u :=
    (State.get_openCalendar get htime hmbox hevents hcal _).trans (hfuses get hf u)
  unfold State.endStage5
  dsimp only
  rw [hfailed, hdefects, List.foldl_nil, State.foundDefects_nil]
  refine ⟨?_, ?_, ?_⟩
  · exact hcalendar (fun u => u.boot.phase) (fun _ _ => rfl) (fun _ _ => rfl) (fun _ _ => rfl) (fun _ _ => rfl) (fun _ _ => rfl) _
  · exact hcalendar (fun u => u.boot.readyTick) (fun _ _ => rfl) (fun _ _ => rfl) (fun _ _ => rfl) (fun _ _ => rfl) (fun _ _ => rfl) _
  · exact hcalendar State.cores (fun _ _ => rfl) (fun _ _ => rfl) (fun _ _ => rfl) (fun _ _ => rfl) (fun _ _ => rfl) _

/-! ### The compute plane goes -/

/-- What is closed, reported and asked of the guard after a loss of power leaves alone. -/
theorem State.get_closeAll {β : Type} (get : State → β) (hledger : ∀ (u : State) l, get { u with ledger := l } = get u) (s : State) :
    get s.closeAll = get s :=
  foldl_get_same (get := get) (fun k _ t => State.get_closeBatch get hledger t k) s

theorem State.get_sealOrHalt {β : Type} (get : State → β)
    (hpower : ∀ (u : State) h m n, get { u with power := { u.power with halted := h, sealing := n, management := m } } = get u)
    (hraise : ∀ (u : State) c x n d, get (u.raise c x n d) = get u) (s : State) : get s.sealOrHalt = get s := by
  have hhalt (u : State) : get u.halt = get u := hpower _ _ _ _
  unfold State.sealOrHalt
  split
  · exact hhalt _
  · split
    · exact hhalt _
    · split
      · exact (hhalt _).trans (hraise _ _ _ _ _)
      · exact hpower s s.power.halted s.power.management true

theorem State.get_setEnergy {β : Type} (get : State → β)
    (hpower : ∀ (u : State) n b, get { u with power := { u.power with energy := n, holdupOk := b } } = get u)
    (hraise : ∀ (u : State) c x n d, get (u.raise c x n d) = get u) (s : State) (energy : Nat) : get (s.setEnergy energy) = get s := by
  unfold State.setEnergy
  dsimp only
  split
  · exact (hraise _ _ _ _ _).trans (hpower _ _ _)
  · exact hpower _ _ _

/-- What the loss of the compute plane leaves: nothing of it (16 R482). -/
theorem State.computeOff_gone : s.computeOff.power.compute = false ∧ s.computeOff.power.powerGood = false ∧ s.computeOff.cores = [] ∧
    s.computeOff.mem = [] ∧ s.computeOff.drams = [] := ⟨rfl, rfl, rfl, rfl, rfl⟩

end

/-- What the compute plane leaves behind as the part loses its input (16 R477, R482). -/
theorem State.get_inputFails {β : Type} (get : State → β) (hledger : ∀ (u : State) l, get { u with ledger := l } = get u)
    (hseal : ∀ (u : State) h m n, get { u with power := { u.power with halted := h, sealing := n, management := m } } = get u)
    (hpower : ∀ (u : State) n b, get { u with power := { u.power with energy := n, holdupOk := b } } = get u)
    (hraise : ∀ (u : State) c x n d, get (u.raise c x n d) = get u) (s : State) (cause energy : Nat) :
    get (s.inputFails cause energy) = get s.computeOff := by
  unfold State.inputFails
  dsimp only
  rw [State.get_sealOrHalt get hseal hraise, State.get_closeAll get hledger, State.get_setEnergy get hpower hraise, hraise]

theorem State.inputFails_energy (s : State) (cause energy : Nat) : (s.inputFails cause energy).power.energy = energy := by
  unfold State.inputFails
  dsimp only
  rw [State.get_sealOrHalt (fun u => u.power.energy) (fun _ _ _ _ => rfl) (fun _ _ _ _ _ => rfl),
    State.get_closeAll (fun u => u.power.energy) (fun _ _ => rfl), (State.setEnergy_flash _ _).2]

/-- The part loses its input: the compute plane is gone, and the energy left is known. -/
theorem State.inputFails_gone (s : State) (cause energy : Nat) :
    let t := s.inputFails cause energy
    t.power.compute = false ∧ t.power.powerGood = false ∧ t.power.energy = energy ∧ t.cores = [] ∧ t.mem = [] ∧ t.drams = [] := by
  obtain ⟨hcompute, hgood, hcores, hmem, hdrams⟩ := s.computeOff_gone
  have hgone {β : Type} (get : State → β) := State.get_inputFails get (s := s) (cause := cause) (energy := energy)
  refine ⟨(hgone (fun u => u.power.compute) ?_ ?_ ?_ ?_).trans hcompute, (hgone (fun u => u.power.powerGood) ?_ ?_ ?_ ?_).trans hgood,
    s.inputFails_energy cause energy, (hgone State.cores ?_ ?_ ?_ ?_).trans hcores, (hgone State.mem ?_ ?_ ?_ ?_).trans hmem,
    (hgone State.drams ?_ ?_ ?_ ?_).trans hdrams⟩ <;> intros <;> rfl

/-- A trip leaves the compute plane off and its latch set (16 R487). -/
theorem State.trip_gone (s : State) (i temp : Nat) : (s.trip i temp).power.compute = false ∧ (s.trip i temp).power.tripLatch = true ∧
    (s.trip i temp).cores = [] ∧ (s.trip i temp).mem = [] := by
  have hkept {β : Type} (get : State → β) (hledger : ∀ (u : State) l, get { u with ledger := l } = get u)
      (hraise : ∀ (u : State) c x n d, get (u.raise c x n d) = get u) :
      get (s.trip i temp) = get (s.computeOff.modPower (fun p => { p with tripLatch := true, temps := p.temps.set 0 i temp })) :=
    (State.get_closeAll get hledger _).trans ((hraise _ _ _ _ _).trans (hraise _ _ _ _ _))
  exact ⟨hkept (fun u => u.power.compute) (fun _ _ => rfl) (fun _ _ _ _ _ => rfl),
    hkept (fun u => u.power.tripLatch) (fun _ _ => rfl) (fun _ _ _ _ _ => rfl),
    hkept State.cores (fun _ _ => rfl) (fun _ _ _ _ _ => rfl), hkept State.mem (fun _ _ => rfl) (fun _ _ _ _ _ => rfl)⟩

/-! ### Seals and heat -/

/-- The use of an index of the ledger key leaves the spill area. -/
theorem State.useLedgerIndex_spill (s : State) : s.useLedgerIndex.flash.spill = s.flash.spill := by
  unfold State.useLedgerIndex
  dsimp only
  split <;> rfl

/-- With 30 J the bank is charged (16 R481). -/
theorem State.setEnergy_ok (s : State) {energy : Nat} (h : 3000 ≤ energy) : (s.setEnergy energy).power.holdupOk = true := by
  unfold State.setEnergy
  rw [decide_eq_true h]
  dsimp only
  split <;> rfl

/-- The state of an emergency seal that is done, before the next one begins (16 R482). -/
def State.spilled (s : State) (b : Batch) (energy : Nat) : State :=
  let r := (s.modLedger (fun l => { l with closed := l.closed.erase b })).signBatch b
  ((r.1.modFlash (fun f => { f with spill := f.spill ++ [{ r.2 with spilled := true }] })).setEnergy energy).modPower
    (fun p => { p with sealing := false })

theorem State.spilled_seals (s : State) (b : Batch) (energy : Nat) : (s.spilled b energy).ledger.closed = s.ledger.closed.erase b ∧
    (s.spilled b energy).flash.spill = s.flash.spill ++
      [{ ((s.modLedger (fun l => { l with closed := l.closed.erase b })).signBatch b).2 with spilled := true }] := by
  obtain ⟨v, hv⟩ := State.get_signBatch (s := s.modLedger (fun l => { l with closed := l.closed.erase b })) (fun u => u.ledger.closed)
    (fun _ _ _ => rfl) b
  obtain ⟨w, hw⟩ := State.get_signBatch (s := s.modLedger (fun l => { l with closed := l.closed.erase b })) (fun u => u.flash.spill)
    (fun _ _ _ => rfl) b
  have hclosed : ((s.modLedger (fun l => { l with closed := l.closed.erase b })).signBatch b).1.ledger.closed = s.ledger.closed.erase b :=
    hv.trans (congrArg Ledger.closed (State.get_useLedgerIndex (s := s.modLedger _) State.ledger (fun _ _ => rfl)))
  have hspill : ((s.modLedger (fun l => { l with closed := l.closed.erase b })).signBatch b).1.flash.spill = s.flash.spill :=
    hw.trans (State.useLedgerIndex_spill _)
  refine ⟨(State.get_setEnergy (fun u => u.ledger.closed) (fun _ _ _ => rfl) (fun _ _ _ _ _ => rfl) _ _).trans hclosed,
    (State.get_setEnergy (fun u => u.flash.spill) (fun _ _ _ => rfl) (fun _ _ _ _ _ => rfl) _ _).trans ?_⟩
  exact congrArg (· ++ _) hspill

/-- What is put into a rising list is in it. -/
theorem mem_insertNat (a : Nat) (l : List Nat) : a ∈ insertNat a l := by
  induction l with
  | nil => exact List.mem_singleton_self a
  | cons b r ih =>
    unfold insertNat
    split
    · exact List.mem_cons_self
    · split
      next h => rw [h]; exact List.mem_cons_self
      next => exact List.mem_cons_of_mem b ih

/-- Pacing changes the domains and its own tick alone (11 R279). -/
theorem State.get_lowerTargets {β : Type} (get : State → β) (hdomain : ∀ (u : State) d v, get (u.setDomain d v) = get u)
    (hpaced : ∀ (u : State) t, get { u with power := { u.power with paced := t } } = get u) (s : State) : get s.lowerTargets = get s := by
  unfold State.lowerTargets
  split
  · rfl
  · exact (hpaced _ _).trans (foldl_get_same (get := get) (fun d _ t => hdomain t d _) s)

/-- The warning of a reading (16 R486). -/
def State.heatWarned (s : State) (i temp : Nat) : State :=
  if temp < tempWarn i then s.modPower (fun p => { p with warned := p.warned.filter (· ≠ i) })
  else if s.power.warned.contains i then s
  else (s.modPower (fun p => { p with warned := insertNat i p.warned })).raise 0x202 none i (temp % 65536)

/-- The throttling of a reading. -/
def State.heatMarked (s : State) (i temp : Nat) : State :=
  if tempThrottle i ≤ temp then s.modPower (fun p => { p with throttled := insertNat i p.throttled })
  else if temp ≤ tempThrottle i - 8 then s.modPower (fun p => { p with throttled := p.throttled.filter (· ≠ i) })
  else s

/-- The state with a reading taken, before the targets fall. -/
def State.heated (s : State) (i temp : Nat) : State :=
  ((s.modPower (fun p => { p with temps := p.temps.set 0 i temp })).heatWarned i temp).heatMarked i temp

theorem State.heatSample_eq (s : State) (i temp : Nat) : s.heatSample i temp =
    if (s.heated i temp).power.throttled.isEmpty then s.heated i temp else (s.heated i temp).lowerTargets := rfl

theorem State.get_heatWarned {β : Type} (get : Power → β) (h : ∀ (p : Power) w, get { p with warned := w } = get p) (s : State)
    (i temp : Nat) : get (s.heatWarned i temp).power = get s.power := by
  unfold State.heatWarned
  split
  · exact h _ _
  · split
    · rfl
    · exact h _ _

/-- A sensor is marked throttled from its threshold on, and no more from 2 °C below it (16 R486). -/
theorem State.heatMarked_sensor (s : State) (i temp : Nat) : (s.heatMarked i temp).power.temps = s.power.temps ∧
    (tempThrottle i ≤ temp → i ∈ (s.heatMarked i temp).power.throttled) ∧
    (temp ≤ tempThrottle i - 8 → i ∉ (s.heatMarked i temp).power.throttled) := by
  have hfloor : 8 < tempThrottle i := by unfold tempThrottle; split <;> decide
  unfold State.heatMarked
  split
  next h => exact ⟨rfl, fun _ => mem_insertNat _ _, fun hlow => by omega⟩
  next h =>
    refine ⟨?_, fun hhigh => absurd hhigh h, fun hlow => ?_⟩
    · split <;> rfl
    · rw [if_pos hlow]
      exact fun hin => of_decide_eq_true (List.mem_filter.mp hin).2 rfl

/-- A reading stands and marks its sensor. -/
theorem State.heatSample_sensor (s : State) (i temp : Nat) : (s.heatSample i temp).power.temps.get 0 i = temp ∧
    (tempThrottle i ≤ temp → i ∈ (s.heatSample i temp).power.throttled) ∧
    (temp ≤ tempThrottle i - 8 → i ∉ (s.heatSample i temp).power.throttled) := by
  have hlow {β : Type} (get : Power → β) (h : ∀ (p : Power) t, get { p with paced := t } = get p) :
      get (s.heatSample i temp).power = get (s.heated i temp).power := by
    rw [State.heatSample_eq]
    split
    · rfl
    · exact State.get_lowerTargets (fun v => get v.power) (fun _ _ _ => rfl) (fun _ _ => h _ _) _
  obtain ⟨htemps, hmark, hclear⟩ := State.heatMarked_sensor ((s.modPower (fun p => { p with temps := p.temps.set 0 i temp })).heatWarned i temp) i temp
  rw [hlow Power.temps fun _ _ => rfl, hlow Power.throttled fun _ _ => rfl]
  refine ⟨?_, hmark, hclear⟩
  rw [State.heated, htemps, State.get_heatWarned Power.temps fun _ _ => rfl]
  exact Tab.get_set_self ..

/-- A stage in progress ends (15 R433). -/
theorem State.exec_stageEnd {s : State} {r : StageReport} (hup : s.bringingUp = true) :
    exec (.bringupStageEnd r) s = done s (s.endStage r) := congrArg (done s) (if_pos hup)

/-- Each stage ends by its own rule. -/
theorem State.endStage_of {s : State} (r : StageReport) :
    (s.boot.stage = 2 → s.endStage r = s.endStage2 r) ∧
    (s.boot.stage = 4 → s.endStage r = if s.code = 16777215 then s else s.nextStage r.ms) ∧
    (s.boot.stage = 5 → s.endStage r = s.endStage5 r) := by
  unfold State.endStage
  refine ⟨fun h => ?_, fun h => ?_, fun h => ?_⟩ <;> rw [h] <;> rfl

/-- Settles O59. -/
theorem powerAndBringUp : Obligations.PowerAndBringUp := by
  intro s r e t0 u
  refine ⟨fun hup => ⟨fun hstage hok => ?_, fun hstage hok => ?_, fun hstage hcode => ?_, fun hstage hfailed hdefects => ?_, fun hstage => ?_,
    fun hstage hcode => ?_⟩, fun sel hreset => ?_, fun hreset hmgmt hseal => ?_, fun hpwr => ⟨fun hmgmt => ?_, fun hmgmt => ?_⟩,
    fun cause hcause hmgmt hhalted hseal => ?_, fun b hseal hb => ?_, fun hmgmt hhalted he => ?_,
    fun i temp hi => ⟨fun hruns => ?_, fun hcompute => ⟨fun htrip => ?_, fun htrip => ?_⟩⟩⟩
  case refine_1 =>
    have hi := (State.exec_stageEnd hup).trans (congrArg (done s) (((State.endStage_of r).1 hstage).trans (if_neg (by rw [hok]; decide))))
    exact ⟨_, hi, congrArg (· + 1) hstage, rfl⟩
  case refine_2 =>
    have hi := (State.exec_stageEnd hup).trans (congrArg (done s) (((State.endStage_of r).1 hstage).trans (if_pos (by rw [hok]; rfl))))
    exact ⟨_, hi, rfl⟩
  case refine_3 =>
    have hi := (State.exec_stageEnd hup).trans (congrArg (done s) (((State.endStage_of r).2.1 hstage).trans (if_neg hcode)))
    exact ⟨_, hi, congrArg (· + 1) hstage⟩
  case refine_4 =>
    have hi := (State.exec_stageEnd hup).trans (congrArg (done s) ((State.endStage_of r).2.2 hstage))
    have hready := State.endStage5_ready (s := s) hfailed hdefects
    exact ⟨_, hi, hready⟩
  case refine_5 =>
    exact ⟨_, congrArg (done s) ((if_neg (by rw [hup]; decide)).trans (if_pos hstage)), rfl⟩
  case refine_6 =>
    exact ⟨_, congrArg (quiet s) (if_pos (by simp [hup, hstage, hcode])), congrArg (· + 1) hstage, rfl⟩
  case refine_7 =>
    have hi : exec (.modResetNRelease sel e) s = done s _ := congrArg (done s) (if_neg (by rw [hreset]; decide))
    refine ⟨_, hi, ?_⟩
    have hkept (u : State) : (u.hardReset.setEnergy e).power.modReset = u.power.modReset ∧ (u.hardReset.setEnergy e).power.sbI3c = u.power.sbI3c :=
      ⟨State.get_setEnergy (fun u => u.power.modReset) (fun _ _ _ => rfl) (fun _ _ _ _ _ => rfl) _ _,
        State.get_setEnergy (fun u => u.power.sbI3c) (fun _ _ _ => rfl) (fun _ _ _ _ _ => rfl) _ _⟩
    dsimp only
    split
    · exact hkept _
    · exact ⟨rfl, rfl⟩
  case refine_8 =>
    exact ⟨_, congrArg (done s) ((if_neg (by rw [hreset]; exact Bool.false_ne_true)).trans
      (congrArg (State.modPower · _) (if_pos (by rw [hmgmt, hseal]; rfl)))), rfl, rfl, rfl, rfl⟩
  case refine_9 =>
    exact ⟨_, (congrArg (done s) ((if_neg (by rw [hpwr]; exact Bool.false_ne_true)).trans (if_pos hmgmt))).trans (done_eq rfl), rfl⟩
  case refine_10 =>
    exact ⟨_, congrArg (done s) ((if_neg (by rw [hpwr]; exact Bool.false_ne_true)).trans
      (if_neg (by rw [hmgmt]; exact Bool.false_ne_true))), rfl, rfl, rfl, rfl, rfl⟩
  case refine_11 =>
    obtain ⟨v, hv, hvm, hvh, hvs⟩ : ∃ v : State, v = (if cause.toNat = 1 then u.modPower (fun p => { p with
        pwrEn := false, tripLatch := false }) else u) ∧ v.power.management = true ∧ v.power.halted = false ∧ v.power.sealing = false := by
      refine ⟨_, rfl, ?_⟩
      split <;> exact ⟨hmgmt, hhalted, hseal⟩
    have hi : exec (.inputPowerFail cause e t0) s = done s (v.inputFails cause.toNat e) := by
      rw [hv]
      refine congrArg (done s) ((if_neg (Nat.not_lt.mpr hcause)).trans (if_neg ?_))
      rw [← hv, hvm, hvh, hvs]
      decide
    obtain ⟨hcompute, hgood, henergy, hcores, hmem, hdrams⟩ := v.inputFails_gone cause.toNat e
    generalize v.inputFails cause.toNat e = w at hi hcompute hgood henergy hcores hmem hdrams
    exact ⟨_, hi, hcompute, hgood, henergy, hcores, hmem, hdrams⟩
  case refine_12 =>
    have hi : exec (.emergencySealDone e) s = done s (s.spilled b e).sealOrHalt := by
      refine congrArg (done s) ?_
      rw [hb]
      exact if_neg (by rw [hseal]; decide)
    obtain ⟨hclosed, hspill⟩ := s.spilled_seals b e
    refine ⟨_, hi, (State.get_sealOrHalt (fun u => u.ledger.closed) (fun _ _ _ _ => rfl) (fun _ _ _ _ _ => rfl) _).trans hclosed, _,
      (State.get_sealOrHalt (fun u => u.flash.spill) (fun _ _ _ _ => rfl) (fun _ _ _ _ _ => rfl) _).trans hspill, rfl, rfl, rfl, rfl⟩
  case refine_13 =>
    refine ⟨_, congrArg (quiet s) (if_pos (by rw [hmgmt, hhalted, decide_eq_true he]; rfl)), (s.setEnergy_flash e).2, ?_⟩
    exact s.setEnergy_ok he
  case refine_14 =>
    have hruns' : u.mcRuns = true := hruns
    exact ⟨_, congrArg (quiet s) (if_pos (by rw [hruns', decide_eq_true hi]; rfl)), u.heatSample_sensor i temp⟩
  case refine_15 =>
    have hcompute' : u.power.compute = true := hcompute
    have hi' : exec (.thermalTrip i temp t0) s = done s (u.trip i temp) :=
      congrArg (done s) (if_pos (by rw [hcompute', decide_eq_true hi, decide_eq_true htrip]; rfl))
    obtain ⟨hoff, hlatch, hcores, hmem⟩ := u.trip_gone i temp
    generalize u.trip i temp = v at hi' hoff hlatch hcores hmem
    exact ⟨_, hi', hoff, hlatch, hcores, hmem⟩
  case refine_16 =>
    exact ⟨_, (congrArg (done s) (if_neg (by simp [Nat.not_le.mpr htrip]))).trans (done_eq rfl), rfl⟩

end Sys2Proof.Machine
end

section
/-! Memory and arrivals (07 R190-R193; 08 R196-R217; 09 R240; 10 R259): what a channel, a bank and a flight that is due change,
then the obligations O39 and O40. -/
namespace Sys2Proof.Machine
open Sys2Proof

/-! ### Stacks, base memories and hubs one by one -/

section
variable (s : State) (d : Nat)

@[simp] theorem State.stack_modStack_self (f : Stack → Stack) : (s.modStack d f).stack d = f (s.stack d) := Tab.get_set_self ..

@[simp] theorem State.baseOf_modBase_self (f : BaseMem → BaseMem) : (s.modBase d f).baseOf d = f (s.baseOf d) :=
  Tab.get_set_self ..

@[simp] theorem State.hub_modHub_self (f : Hub → Hub) : (s.modHub d f).hub d = f (s.hub d) := Tab.get_set_self ..

theorem State.stack_raise (code : Nat) (x : Option Nat) (unit data : Nat) : (s.raise code x unit data).stack d = s.stack d := rfl
theorem State.baseOf_raise (code : Nat) (x : Option Nat) (unit data : Nat) : (s.raise code x unit data).baseOf d = s.baseOf d := rfl

/-- What the check bits show on a line read changes of its stack nothing but the counts of errors (08 R217). -/
theorem State.get_dramFound {β : Type} (get : Stack → β) (hue : ∀ k v, get { k with ue := v } = get k)
    (line core step : Nat) (x : Option Nat) (e : Ecc) : get ((s.dramFound d line core step x e).stack d) =
      get { s.stack d with ce := satAdd 4294967295 (s.stack d).ce e.ce } := by
  refine (foldl_get_same (get := fun u : State => get (u.stack d)) (fun a _ u => ?_) _).trans
    (congrArg get (State.stack_modStack_self ..))
  show get ((u.dramUe d line a.2 core step x).stack d) = get (u.stack d)
  rw [State.dramUe, State.stack_raise, State.stack_modStack_self]
  exact hue (u.stack d) _

variable {β : Type} (get : BaseMem → β)
  (hue : ∀ (b : BaseMem) n l w v, get { b with ue := n, ueLine := l, ueWord := w, ueByScrub := v } = get b)
include hue

theorem State.get_baseUe (x : Option Nat) (line word core step : Nat) (scrub : Bool) :
    get ((s.baseUe x d line word core step scrub).baseOf d) = get (s.baseOf d) := by
  rw [State.baseUe, State.baseOf_raise, State.baseOf_modBase_self]
  exact hue (s.baseOf d) _ _ _ _

/-- What the check bits show on a scrubbed line of base memory changes nothing of the scrub's position and count. -/
theorem State.get_baseUes (l : List (Nat × Nat)) (x : Option Nat) (line core step : Nat) (scrub : Bool) :
    get ((l.foldl (fun s u => s.baseUe x d line u.2 core step scrub) s).baseOf d) = get (s.baseOf d) :=
  by
  induction l generalizing s with
  | nil => rfl
  | cons a l ih => rw [List.foldl_cons, ih, State.get_baseUe _ _ get hue]

end

/-! ### Channels and base memory's scrub (08 R196-R200; 07 R192) -/

section
variable {s : State} {d ch : Nat}

theorem State.coming_modStack (f : Stack → Stack) : (s.modStack d f).coming d = s.coming d := rfl

/-- A pattern slot without a request to serve passes. -/
theorem State.serveSlot_none {e : Ecc}
    (h : (s.stack d).choose (s.coming d) (slotClass (s.splitOf d) ((s.stack d).slots.get 0 ch % 16)) ch = none) :
    s.serveSlot d ch e =
      s.modStack d (fun k => { k with slots := k.slots.set 0 ch (((s.stack d).slots.get 0 ch + 1) % 240) }) := by
  unfold State.serveSlot
  dsimp only
  rw [State.coming_modStack, h]

/-- The state from which a pattern slot serves its request: the slot is used and the request has left its queue. -/
def State.slotTaken (s : State) (d ch : Nat) (r : DramReq) (remote : Bool) : State :=
  (s.modStack d (fun k => { k with slots := k.slots.set 0 ch (((s.stack d).slots.get 0 ch + 1) % 240) })).modStack d (fun k =>
    if remote then { k with remote := removeOne r k.remote } else { k with waiting := removeOne r k.waiting })

/-- A pattern slot with a request to serve: a write becomes unsettled, a read is served with its line. -/
theorem State.serveSlot_some {e : Ecc} {r : DramReq} {b : Bool}
    (h : (s.stack d).choose (s.coming d) (slotClass (s.splitOf d) ((s.stack d).slots.get 0 ch % 16)) ch = some (r, b)) :
    s.serveSlot d ch e =
      if r.write then (s.slotTaken d ch r b).modStack d (fun k => { k with unsettled := k.unsettled ++ [r] })
      else ((s.slotTaken d ch r b).modStack d (fun k => { k with
        served := k.served ++ [{ r with data := some ((s.slotTaken d ch r b).dramRead d r.line), ue := e.bad }] })).dramEcc d r e := by
  unfold State.serveSlot
  dsimp only
  rw [State.coming_modStack, h]
  rfl

theorem State.slotTaken_stack (r : DramReq) (b : Bool) : ((s.slotTaken d ch r b).stack d).unsettled = (s.stack d).unsettled ∧
    ((s.slotTaken d ch r b).stack d).served = (s.stack d).served ∧ ((s.slotTaken d ch r b).stack d).ce = (s.stack d).ce := by
  rw [State.slotTaken, State.stack_modStack_self, State.stack_modStack_self]
  cases b <;> exact ⟨rfl, rfl, rfl⟩

/-- A line reads as it stood before the request left its queue. -/
theorem State.slotTaken_dramRead (r : DramReq) (b : Bool) (line : Nat) :
    (s.slotTaken d ch r b).dramRead d line = s.dramRead d line := by
  unfold State.dramRead
  rw [(State.slotTaken_stack r b).1]
  rfl

/-- Patrol scrub of a channel takes its next line (08 R217). -/
theorem State.get_scrubDram {β : Type} (get : Stack → β) (hue : ∀ k v, get { k with ue := v } = get k)
    (hce : ∀ k v, get { k with ce := v } = get k) (hpasses : ∀ k v, get { k with scrubPasses := v } = get k) (e : Ecc)
    (h : s.setting 0x61 d ≠ 0) : get ((s.scrubDram d ch e).stack d) =
      get { s.stack d with scrubPos := (s.stack d).scrubPos.set 0 ch ((s.stack d).scrubPos.get 0 ch + 1) } := by
  unfold State.scrubDram
  dsimp only
  rw [if_neg h, State.get_dramFound _ _ get hue, hce, State.stack_modStack_self]
  exact hpasses { s.stack d with scrubPos := (s.stack d).scrubPos.set 0 ch ((s.stack d).scrubPos.get 0 ch + 1) } _

/-- Base memory's scrub, where it is on, takes its next line and counts the corrected words (07 R192). -/
theorem State.get_scrubBase {β : Type} {q bank : Nat} (get : BaseMem → β)
    (hue : ∀ (b : BaseMem) n l w v, get { b with ue := n, ueLine := l, ueWord := w, ueByScrub := v } = get b)
    (hpasses : ∀ (b : BaseMem) v, get { b with scrubPasses := v } = get b) (e : Ecc) (h : s.setting 0x60 q ≠ 0) :
    get ((s.scrubBase q bank e).baseOf q) = get { s.baseOf q with
      scrubPos := (s.baseOf q).scrubPos.set 0 bank ((s.baseOf q).scrubPos.get 0 bank + 1)
      ce := satAdd 4294967295 (s.baseOf q).ce e.ce } := by
  unfold State.scrubBase
  dsimp only
  rw [if_neg h, State.get_baseUes _ _ get hue, State.baseCe, State.baseOf_modBase_self, State.baseOf_modBase_self]
  exact hpasses { s.baseOf q with
    scrubPos := (s.baseOf q).scrubPos.set 0 bank ((s.baseOf q).scrubPos.get 0 bank + 1)
    ce := satAdd 4294967295 (s.baseOf q).ce e.ce } _

end

/-! ### Landings in rings -/

section
variable {β γ δ : Type} {get : State → β} {kc : Ctx → γ} {kk : Core → δ}

/-- A landing fault changes a report and the flags, nothing else (08 R206, R222). -/
theorem Views.landingFault (hv : Views get kc kk) (hflags : ∀ (c : Ctx) v, kc { c with flags := v } = kc c)
    (hrep : ∀ (k : Core) v, kk { k with rep := v } = kk k) (u : State) (x p : Nat) (ovl staging : Bool) (pos step : Nat) :
    get (u.landingFault x p ovl staging pos step) = get u :=
  (hv.modCoreOf _ _ _ (fun k => hrep k _)).trans (hv.ctx _ _ _ (fun c => hflags c _))

theorem Views.overwriteCheck (hv : Views get kc kk) (hflags : ∀ (c : Ctx) v, kc { c with flags := v } = kc c)
    (hrep : ∀ (k : Core) v, kk { k with rep := v } = kk k) (u : State) (x p no : Nat) :
    get (u.overwriteCheck x p no) = get u := by
  unfold State.overwriteCheck
  split
  · exact hv.landingFault hflags hrep ..
  · rfl

theorem State.overwriteCheck_drams (u : State) (x p no : Nat) : (u.overwriteCheck x p no).drams = u.drams := by
  unfold State.overwriteCheck
  split <;> rfl

variable {s : State} {x p no : Nat} {v : Line} {ue : Bool}

/-- A DRAM line lands in a ring: during a step it waits for the step's end (08 R205). -/
theorem State.landDramRing_moving (ha : (s.ctx x).active = true) (hf : (s.ctx x).frozen = false) :
    ((s.landDramRing x p no v ue).core ⟨x, p⟩).ring =
      { (s.core ⟨x, p⟩).ring with fresh := (s.core ⟨x, p⟩).ring.fresh ++ [(no, v, ue)] } := by
  have hring : ((s.overwriteCheck x p no).core ⟨x, p⟩).ring = (s.core ⟨x, p⟩).ring :=
    (Views.ofCore (kc := Ctx.sites) (fun _ _ h => h) Core.ring ⟨x, p⟩).overwriteCheck (fun _ _ => rfl) (fun _ _ => rfl) ..
  unfold State.landDramRing
  dsimp only
  rw [ha, hf, State.core_modCoreOf (c := ⟨x, p⟩)]
  exact congrArg (fun r : Ring => { r with fresh := r.fresh ++ [(no, v, ue)] }) hring

/-- Where the wave stands, the line takes its place at once. -/
theorem State.landDramRing_standing (h : (s.ctx x).active = false ∨ (s.ctx x).frozen = true) :
    ((s.landDramRing x p no v ue).core ⟨x, p⟩).ring = (s.core ⟨x, p⟩).ring.landLine 512 no (some (v, ue)) := by
  have hring : ((s.overwriteCheck x p no).core ⟨x, p⟩).ring = (s.core ⟨x, p⟩).ring :=
    (Views.ofCore (kc := Ctx.sites) (fun _ _ h => h) Core.ring ⟨x, p⟩).overwriteCheck (fun _ _ => rfl) (fun _ _ => rfl) ..
  have hm : ((s.ctx x).active && !(s.ctx x).frozen) = false := by
    rcases h with h | h <;> simp [h]
  unfold State.landDramRing
  dsimp only
  rw [hm, State.core_modCoreOf (c := ⟨x, p⟩)]
  exact congrArg (fun r : Ring => r.landLine 512 no (some (v, ue))) hring

theorem Ring.landLine_lands (r : Ring) (size no : Nat) (data : Option (Line × Bool)) :
    (r.landLine size no data).lines.get 0 (no % size) = (data.map (·.1)).getD (r.lines.get 0 (no % size)) ∧
      no ∉ (r.landLine size no data).unlanded := by
  cases data with
  | none => exact ⟨rfl, by simp [Ring.landLine]⟩
  | some d => exact ⟨Tab.get_set_self .., by simp [Ring.landLine]⟩

end

/-! ### What falls due at a step -/

section
variable (s : State) (x : Nat) (kind : Flight → Bool)

/-- The flights of one kind that are due at the context's step, and those that are not. -/
def State.dueNow : List Flight := (s.ctx x).flights.filter (fun g => kind g && decide (g.due ≤ (s.ctx x).step))
def State.notDue : List Flight := (s.ctx x).flights.filter (fun g => !(kind g && decide (g.due ≤ (s.ctx x).step)))

/-- The state in which they no longer fly. -/
def State.untaken : State := s.modCtx x (fun c => { c with flights := s.notDue x kind })

theorem State.untaken_ctx : (s.untaken x kind).ctx x = { s.ctx x with flights := s.notDue x kind } :=
  State.ctx_modCtx_self ..
theorem State.untaken_core (p : Nat) : (s.untaken x kind).core ⟨x, p⟩ = s.core ⟨x, p⟩ :=
  State.core_modCtx s ⟨x, p⟩ _ (fun _ => rfl)
theorem State.untaken_mem : (s.untaken x kind).mem = s.mem := rfl
theorem State.untaken_stack (d : Nat) : (s.untaken x kind).stack d = s.stack d := rfl

variable {s x kind}

theorem State.takeFlights_one {act : List Flight → State → Flight → State} {f : Flight} (h : s.dueNow x kind = [f]) :
    s.takeFlights x kind act = act [f] (s.untaken x kind) f := by
  have h' : (s.ctx x).flights.filter (fun g => kind g && decide (g.due ≤ (s.ctx x).step)) = [f] := h
  unfold State.takeFlights State.takeFlightsBy
  rw [h']
  rfl

theorem State.takeFlights_none {act : List Flight → State → Flight → State} (h : s.dueNow x kind = []) :
    s.takeFlights x kind act = s.untaken x kind := by
  have h' : (s.ctx x).flights.filter (fun g => kind g && decide (g.due ≤ (s.ctx x).step)) = [] := h
  unfold State.takeFlights State.takeFlightsBy
  rw [h']
  rfl

/-- Where nothing is due, nothing leaves. -/
theorem State.notDue_of_none (h : s.dueNow x kind = []) : s.notDue x kind = (s.ctx x).flights :=
  List.filter_eq_self.mpr fun g hg => by
    have hg' := List.filter_eq_nil_iff.mp h g hg
    cases hk : kind g <;> simp_all

theorem State.untaken_ctx_of_none (h : s.dueNow x kind = []) : (s.untaken x kind).ctx x = s.ctx x := by
  rw [State.untaken_ctx, State.notDue_of_none h]

theorem State.whileMoving_moves {f : State → State} (ha : (s.ctx x).active = true) (hf : (s.ctx x).frozen = false) :
    s.whileMoving x f = f s := if_pos (by simp [ha, hf])

end

/-! ### Base banks (07 R190, R191) -/

section
variable {s : State} {x : Nat}

/-- A write alone at its bank, too young to be read, joins the writes under way. -/
theorem State.arriveBase_write {f : Flight} {quad l : Nat} {v : Line} (hc : f.cargo = .baseWrite quad [(l, v)]) (hl : f.lost = none) :
    s.arriveBase x [f] f = s.modCtx x (fun c => { c with baseWrites := c.baseWrites ++ [(f.due, quad, l, v)] }) := by
  simp [State.arriveBase, hc, hl, sortBy, insertBy]

/-- The line a read sends to a ring, a read of one line alone at its bank (08 R213). -/
def Ctx.ringFlight (c : Ctx) (f : Flight) (sd pos tout : Nat) (v : Line) : Flight :=
  c.onRoute (c.img.covering 2 f.src sd f.step) 0 f.via.reverse (f.due + 4) true
    { due := f.due + 4 + tout + 1, step := f.step, src := f.src, j := 0, cargo := .ringLine pos (some v) }

theorem State.arriveBase_read {f : Flight} {quad l sd tout : Nat} {pos : List Nat} (hl : f.lost = none)
    (hc : f.cargo = .baseRead quad [l] none sd pos tout 3) :
    s.arriveBase x [f] f = s.modCtx x (fun c => { c with
      flights := c.flights ++ [(s.ctx x).ringFlight f sd (pos.getD 0 0) tout (s.baseLineAt x f.due quad l)] }) := by
  simp [State.arriveBase, hc, hl, sortBy, insertBy, bankWinner, baseDataFlights, Ctx.ringFlight]

theorem State.ctx_baseUe (y : Option Nat) (q line word core step : Nat) (scrub : Bool) :
    (s.baseUe y q line word core step scrub).ctx x = s.ctx x := rfl

theorem State.ctx_baseCe (q n : Nat) : (s.baseCe q n).ctx x = s.ctx x := rfl

theorem State.get_contextUes {β : Type} (kc : Ctx → β) (hflags : ∀ (c : Ctx) v, kc { c with flags := v } = kc c)
    (l : List (Nat × Nat)) (q p step : Nat) (lines : List Nat) :
    kc ((l.foldl (fun s u => (s.flagCtx x fEccUe).baseUe (some x) q (lines.getD u.1 0) u.2 p step false) s).ctx x) =
      kc (s.ctx x) := by
  induction l generalizing s with
  | nil => rfl
  | cons a l ih =>
    rw [List.foldl_cons, ih, State.ctx_baseUe, State.ctx_flagCtx]
    exact hflags _ _

/-- What the check bits show on a base read changes neither the flights nor the writes under way (07 R178). -/
theorem State.get_baseEcc {β : Type} (kc : Ctx → β) (hflags : ∀ (c : Ctx) v, kc { c with flags := v } = kc c)
    (f : Flight) (e : Ecc) : kc ((s.baseEcc x f e).ctx x) = kc (s.ctx x) := by
  unfold State.baseEcc
  split
  · exact (State.get_contextUes kc hflags _ _ _ _ _).trans (congrArg kc (State.ctx_baseCe ..))
  · rfl

theorem State.get_baseEccs {β : Type} (kc : Ctx → β) (hflags : ∀ (c : Ctx) v, kc { c with flags := v } = kc c)
    (l : List (Flight × Ecc)) : kc ((l.foldl (fun s f => s.baseEcc x f.1 f.2) s).ctx x) = kc (s.ctx x) :=
  foldl_get_same (get := fun u : State => kc (u.ctx x)) (put := fun (s : State) (f : Flight × Ecc) => s.baseEcc x f.1 f.2)
    (fun _ _ _ => State.get_baseEcc kc hflags _ _) s

/-- The base banks after they have served: the writes that have become readable are in memory, errors are reported. -/
def State.banksServed (u : State) (x : Nat) (l : List (Flight × Ecc)) : State :=
  l.foldl (fun s f => s.baseEcc x f.1 f.2) (u.landBaseWrites x (u.ctx x).step)

theorem State.landBaseWrites_ctx (n : Nat) : (s.landBaseWrites x n).ctx x =
    { s.ctx x with baseWrites := (s.ctx x).baseWrites.filter (fun v => !decide (v.1 + 3 ≤ n)) } :=
  State.ctx_modCtx_self s x (fun c => { c with baseWrites := (s.ctx x).baseWrites.filter (fun v => !decide (v.1 + 3 ≤ n)) })

theorem State.banksServed_flights (l : List (Flight × Ecc)) : ((s.banksServed x l).ctx x).flights = (s.ctx x).flights := by
  rw [State.banksServed, State.get_baseEccs Ctx.flights (fun _ _ => rfl), State.landBaseWrites_ctx]

theorem State.banksServed_writes (l : List (Flight × Ecc)) : ((s.banksServed x l).ctx x).baseWrites =
    (s.ctx x).baseWrites.filter (fun v => !decide (v.1 + 3 ≤ (s.ctx x).step)) := by
  rw [State.banksServed, State.get_baseEccs Ctx.baseWrites (fun _ _ => rfl), State.landBaseWrites_ctx]

/-- The banks serve the one flight that is due, then the writes that have become readable enter memory. -/
theorem exec_baseBankAccess {es : List Ecc} (ha : (s.ctx x).active = true) (hf : (s.ctx x).frozen = false) {f : Flight}
    (h : s.dueNow x Flight.isBank = [f]) : exec (.baseBankAccess x es) s = done s
      (((s.untaken x Flight.isBank).arriveBase x [f] f).banksServed x ((s.ctx x).baseReadsNow.zip es)) := by
  show done s (s.whileMoving x _) = _
  rw [State.whileMoving_moves ha hf, State.takeFlights_one h]
  rfl

/-- A base write alone at its bank (07 R190). -/
theorem ChannelsServe.baseWrite {es : List Ecc} (ha : (s.ctx x).active = true) (hf : (s.ctx x).frozen = false) {f : Flight}
    (h : s.dueNow x Flight.isBank = [f]) {quad l : Nat} {v : Line} (hc : f.cargo = .baseWrite quad [(l, v)]) (hl : f.lost = none)
    (hw : (s.ctx x).baseWrites = []) (hyoung : (s.ctx x).step < f.due + 3) :
    Completes (.baseBankAccess x es) s (fun t => (t.ctx x).baseWrites = [(f.due, quad, l, v)]) := by
  have hwrites := State.banksServed_writes (s := (s.untaken x Flight.isBank).arriveBase x [f] f) (x := x)
    ((s.ctx x).baseReadsNow.zip es)
  have harrive : ((s.untaken x Flight.isBank).arriveBase x [f] f).ctx x =
      { s.ctx x with flights := s.notDue x Flight.isBank, baseWrites := (s.ctx x).baseWrites ++ [(f.due, quad, l, v)] } := by
    rw [State.arriveBase_write hc hl, State.ctx_modCtx_self, State.untaken_ctx]
  rw [harrive] at hwrites
  have hi := exec_baseBankAccess (es := es) ha hf h
  generalize ((s.untaken x Flight.isBank).arriveBase x [f] f).banksServed x _ = u at hi hwrites
  exact ⟨_, hi, (hwrites : (u.ctx x).baseWrites = _).trans (by simp [hw, hyoung])⟩

/-- A base read of one line alone at its bank (08 R213). -/
theorem ChannelsServe.baseRead {es : List Ecc} (ha : (s.ctx x).active = true) (hf : (s.ctx x).frozen = false) {f : Flight}
    (h : s.dueNow x Flight.isBank = [f]) {quad l sd tout : Nat} {pos : List Nat} (hl : f.lost = none)
    (hc : f.cargo = .baseRead quad [l] none sd pos tout 3) :
    Completes (.baseBankAccess x es) s (fun t => ∃ g : Flight, (t.ctx x).flights = s.notDue x Flight.isBank ++ [g] ∧
      g.due = f.due + 5 + tout ∧ g.cargo = .ringLine (pos.getD 0 0) (some (s.baseLineAt x f.due quad l))) := by
  have hline : (s.untaken x Flight.isBank).baseLineAt x f.due quad l = s.baseLineAt x f.due quad l := by
    unfold State.baseLineAt
    rw [State.untaken_ctx]
    rfl
  have hflights := State.banksServed_flights (s := (s.untaken x Flight.isBank).arriveBase x [f] f) (x := x)
    ((s.ctx x).baseReadsNow.zip es)
  have harrive : (((s.untaken x Flight.isBank).arriveBase x [f] f).ctx x).flights = s.notDue x Flight.isBank ++
      [((s.untaken x Flight.isBank).ctx x).ringFlight f sd (pos.getD 0 0) tout (s.baseLineAt x f.due quad l)] := by
    rw [State.arriveBase_read hl hc, State.ctx_modCtx_self, hline]
    exact congrArg (fun c : Ctx => c.flights ++ _) (State.untaken_ctx s x Flight.isBank)
  rw [harrive] at hflights
  have hi := exec_baseBankAccess (es := es) ha hf h
  generalize ((s.untaken x Flight.isBank).arriveBase x [f] f).banksServed x _ = u at hi hflights
  refine ⟨_, hi, _, hflights, ?_, rfl⟩
  show f.due + 4 + tout + 1 = f.due + 5 + tout
  omega

end

/-! ### Landing and commit (08 R206, R216) -/

section
variable {s : State} {d : Nat}

/-- A read lands once its time since issue is counted, which changes no queue and no ring (08 R223). -/
theorem ChannelsServe.lineLands {i t0 x p no : Nat} {r : DramReq} {v : Line} (hr : (s.stack d).served[i]? = some r)
    (hl : r.landed = false) (hx : r.ctx = x) (hd : r.dest = .rings [(p, no)]) (hw : r.xw = 3) (hv : r.data = some v) :
    Completes (.dramLineLands d i t0) s (fun t => (t.stack d).served = removeOne r (s.stack d).served ∧
      ((s.ctx x).active = true → (s.ctx x).frozen = false →
        (t.core ⟨x, p⟩).ring.fresh = (s.core ⟨x, p⟩).ring.fresh ++ [(no, v, r.ue)] ∧
        (t.core ⟨x, p⟩).ring.lines = (s.core ⟨x, p⟩).ring.lines) ∧
      ((s.ctx x).active = false ∨ (s.ctx x).frozen = true → (t.core ⟨x, p⟩).ring.lines.get 0 (no % 512) = v ∧
        no ∉ (t.core ⟨x, p⟩).ring.unlanded)) := by
  subst hx
  obtain ⟨u, hu⟩ : ∃ u, u = ((s.atTick t0).latency d r.tick).modStack d (fun k => { k with served := removeOne r k.served }) :=
    ⟨_, rfl⟩
  have hlands : (s.atTick t0).dramLands d i = u.landDramRing r.ctx p no v r.ue := by
    have hr' : ((s.atTick t0).stack d).served[i]? = some r := hr
    unfold State.dramLands
    rw [hr']
    simp [hl, hd, hw, hv, State.landLine, hu]
  have hctx : u.ctx r.ctx = s.ctx r.ctx := by rw [hu]; rfl
  have hcore : u.core ⟨r.ctx, p⟩ = s.core ⟨r.ctx, p⟩ := by rw [hu]; rfl
  have hserved : (u.stack d).served = removeOne r (s.stack d).served := by
    rw [hu, State.stack_modStack_self, State.latency, State.stack_modStack_self]
    rfl
  have hserved' : ((u.landDramRing r.ctx p no v r.ue).stack d).served = removeOne r (s.stack d).served :=
    (congrArg (fun t : Tab Stack => (Tab.get ({} : Stack) t d).served) (State.overwriteCheck_drams u r.ctx p no)).trans hserved
  have hi : exec (.dramLineLands d i t0) s = quiet s (u.landDramRing r.ctx p no v r.ue) := congrArg (quiet s) hlands
  have hmoving := State.landDramRing_moving (s := u) (x := r.ctx) (p := p) (no := no) (v := v) (ue := r.ue)
  have hstanding := State.landDramRing_standing (s := u) (x := r.ctx) (p := p) (no := no) (v := v) (ue := r.ue)
  rw [hctx, hcore] at hmoving hstanding
  generalize u.landDramRing r.ctx p no v r.ue = w at hi hserved' hmoving hstanding
  refine ⟨_, hi, hserved', fun ha hf => ?_, fun h => ?_⟩
  · exact ⟨(congrArg Ring.fresh (hmoving ha hf) :), (congrArg Ring.lines (hmoving ha hf) :)⟩
  · have hlands := Ring.landLine_lands (s.core ⟨r.ctx, p⟩).ring 512 no (some (v, r.ue))
    rw [← hstanding h] at hlands
    exact hlands

/-- The only unsettled write commits: its line takes it, no other byte changes (08 R216). -/
theorem ChannelsServe.writeCommit {r : DramReq} (h : (s.stack d).unsettled = [r]) :
    Completes (.dramWriteCommit d 0) s (fun t => (t.stack d).unsettled = [] ∧
      (∀ b, b < 64 → Memory.byte t.mem (dramAddr d r.line + b) = (lineBytes (r.data.getD 0)).getD b 0) ∧
      (∀ a, a < dramAddr d r.line ∨ dramAddr d r.line + 64 ≤ a → Memory.byte t.mem a = Memory.byte s.mem a)) := by
  have hcommit : s.dramCommits d 0 = s.commitOne d r := by simp [State.dramCommits, h]
  refine ⟨_, congrArg (done s) hcommit, ?_, fun b hb => ?_, fun a ha => Memory.byte_writeLine_other _ _ _ _ ha⟩
  · have hstack : ((s.commitOne d r).stack d).unsettled = removeOne r (s.stack d).unsettled :=
      congrArg Stack.unsettled (State.stack_modStack_self s d (fun k => { k with unsettled := removeOne r k.unsettled }))
    rw [h] at hstack
    exact hstack.trans (if_pos rfl)
  · have hb' : b < (lineBytes (r.data.getD 0)).length := by rwa [length_lineBytes]
    rw [getD_of_lt _ hb']
    exact Memory.byte_write_self s.mem _ _ b hb'

end

theorem completes_stack {i : Instr} {s u : State} {d : Nat} (hi : exec i s = quiet s u) {P : Stack → Prop}
    (hP : P (u.stack d)) : Completes i s (fun t => P (t.stack d)) := ⟨_, hi, hP⟩

/-- Settles O40: a request served leaves its queue before it takes effect, a line lands after the checks of its ring, which
change no ring, and what the check bits show changes only counts and reports. -/
theorem channelsServe : Obligations.ChannelsServe := by
  intro s d ch e es
  have hslot (u : State) (h : s.serveSlot d ch e = u) : exec (.dramSlot d ch e) s = quiet s u := congrArg (quiet s) h
  refine ⟨⟨fun h => ?_, fun r h hw => ?_, fun r b h hw => ?_⟩, fun w hw => ?_, fun hset => ?_,
    fun i t0 x p no r hr hl hx hd hw v hv => ChannelsServe.lineLands hr hl hx hd hw hv,
    fun i r h hi => hi ▸ ChannelsServe.writeCommit h,
    fun x quad f l v ha hf h hc hl hw hy => ChannelsServe.baseWrite ha hf h hc hl hw hy,
    fun x quad sd l tout pos f ha hf h hc hl => ChannelsServe.baseRead ha hf h hl hc,
    fun q bank => ⟨fun hset => ?_, fun hset => ?_⟩⟩
  case refine_1 =>
    exact completes_stack (P := fun k => k = _) (hslot _ (State.serveSlot_none h)) (State.stack_modStack_self ..)
  case refine_2 =>
    refine completes_stack (P := fun k => k.unsettled = (s.stack d).unsettled ++ [r] ∧ k.waiting = removeOne r (s.stack d).waiting)
      (hslot _ ((State.serveSlot_some h).trans (if_pos hw))) ?_
    rw [State.stack_modStack_self]
    refine ⟨congrArg (· ++ [r]) (State.slotTaken_stack r false).1, ?_⟩
    rw [State.slotTaken, State.stack_modStack_self, State.stack_modStack_self]
    rfl
  case refine_3 =>
    obtain ⟨-, hserved, hce⟩ := State.slotTaken_stack (s := s) (d := d) (ch := ch) r b
    refine completes_stack (P := fun k => k.served = (s.stack d).served ++ [{ r with data := some (s.dramRead d r.line), ue := e.bad }]
        ∧ k.ce = Nat.min 4294967295 ((s.stack d).ce + e.ce))
      (hslot _ ((State.serveSlot_some h).trans (if_neg (by simp [hw])))) ⟨?_, ?_⟩
    · rw [State.dramEcc, State.get_dramFound _ d Stack.served (fun _ _ => rfl), State.stack_modStack_self, State.slotTaken_dramRead]
      exact congrArg (· ++ _) hserved
    · rw [State.dramEcc, State.get_dramFound _ d Stack.ce (fun _ _ => rfl), State.stack_modStack_self]
      exact congrArg (satAdd 4294967295 · e.ce) hce
  case refine_4 =>
    have hframe := State.stack_modStack_self s d (fun k => { k with slots := k.slots.set 0 ch 0 })
    cases w with
    | scrub v => exact absurd rfl (hw v)
    | refresh => exact completes_stack (P := fun k => k = _) rfl hframe
    | mailbox => exact completes_stack (P := fun k => k = _) rfl hframe
    | calibration => exact completes_stack (P := fun k => k = _) rfl hframe
  case refine_5 =>
    obtain ⟨u, hu⟩ : ∃ u, u = s.modStack d (fun k => { k with slots := k.slots.set 0 ch 0 }) := ⟨_, rfl⟩
    have hi : exec (.maintenanceFrame d ch (.scrub e)) s = quiet s (u.scrubDram d ch e) := by rw [hu]; rfl
    have hset' : u.setting 0x61 d ≠ 0 := by rw [hu]; exact hset
    have hstack : u.stack d = { s.stack d with slots := (s.stack d).slots.set 0 ch 0 } := by
      rw [hu, State.stack_modStack_self]
    refine completes_stack (P := fun k => k.slots.get 0 ch = 0 ∧ k.scrubPos.get 0 ch = (s.stack d).scrubPos.get 0 ch + 1) hi
      ⟨?_, ?_⟩
    · rw [State.get_scrubDram (fun k => k.slots.get 0 ch) (fun _ _ => rfl) (fun _ _ => rfl) (fun _ _ => rfl) e hset', hstack]
      exact Tab.get_set_self 0 (s.stack d).slots ch 0
    · rw [State.get_scrubDram (fun k => k.scrubPos.get 0 ch) (fun _ _ => rfl) (fun _ _ => rfl) (fun _ _ => rfl) e hset', hstack]
      exact Tab.get_set_self 0 (s.stack d).scrubPos ch ((s.stack d).scrubPos.get 0 ch + 1)
  case refine_6 =>
    have hpos := State.get_scrubBase (bank := bank) (fun b => b.scrubPos.get 0 bank) (fun _ _ _ _ _ => rfl) (fun _ _ => rfl) e hset
    have hce := State.get_scrubBase (bank := bank) BaseMem.ce (fun _ _ _ _ _ => rfl) (fun _ _ => rfl) e hset
    have hnext := Tab.get_set_self 0 (s.baseOf q).scrubPos bank ((s.baseOf q).scrubPos.get 0 bank + 1)
    have hi : exec (.baseScrubSlot q bank e) s = quiet s (s.scrubBase q bank e) := rfl
    generalize s.scrubBase q bank e = u at hi hpos hce
    exact ⟨_, hi, (hpos.trans hnext :), hce⟩
  case refine_7 =>
    have hscrub : s.scrubBase q bank e = s := if_pos hset
    refine ⟨_, (congrArg (quiet s) hscrub).trans (quiet_eq rfl rfl), rfl⟩

end Sys2Proof.Machine
end

section
/-! Arrivals at steps (08 R213; 09 R240; 10 R259): what a channel line, a header, a credit, a line for a ring, a departure and a
dropped line change, then the obligation O39. -/
namespace Sys2Proof.Machine
open Sys2Proof

section
variable {s : State} {x : Nat} {f : Flight}

/-! ### Channels (10 R259) -/

theorem State.arriveChannel_ctx : (s.arriveChannel x f).ctx x = s.ctx x := by
  unfold State.arriveChannel
  split
  · split <;> rfl
  · rfl
  · rfl
  · rfl

theorem State.arriveChannel_line {dst ep sub no pos : Nat} {data : Line} (hc : f.cargo = .chanLine dst ep sub no pos data)
    (hl : f.lost = none) (hpos : pos < ((s.core ⟨x, dst⟩).recvEps.get {} ep).esize) :
    ((s.arriveChannel x f).core ⟨x, dst⟩).store.get 0 (((s.core ⟨x, dst⟩).recvEps.get {} ep).slotLine sub no pos) = data := by
  unfold State.arriveChannel
  rw [hc]
  dsimp only
  rw [hl, if_neg (by decide), State.core_modCoreOf (c := ⟨x, dst⟩), if_pos hpos]
  exact Tab.get_set_self ..

theorem State.arriveChannel_header {dst ep sub token lines : Nat} (hc : f.cargo = .header dst ep sub token lines)
    (hkind : ((s.core ⟨x, dst⟩).recvEps.get {} ep).kind ≠ 2) (e : RecvEp) (he : (s.core ⟨x, dst⟩).recvEps.get {} ep = e)
    (q : SubQueue) (hq : q = { e.sub sub with
      entries := (e.sub sub).entries ++ [⟨(e.sub sub).done, token, lines, true⟩]
      done := (e.sub sub).done + 1
      arrived := 0 }) :
    ((s.arriveChannel x f).core ⟨x, dst⟩).recvEps.get {} ep = { e with subs := e.subs.set {} sub q } ∧
      ((s.arriveChannel x f).core ⟨x, dst⟩).semIn = (s.core ⟨x, dst⟩).semIn ++ [(e.asem, (token : Int))] := by
  subst he hq
  unfold State.arriveChannel
  rw [hc]
  dsimp only
  rw [State.core_modCoreOf (c := ⟨x, dst⟩)]
  unfold RecvEp.complete
  rw [if_neg hkind]
  exact ⟨Tab.get_set_self .., rfl⟩

theorem State.arriveChannel_credit {src ep : Nat} (hc : f.cargo = .credit src ep) (e : SendEp)
    (he : (s.core ⟨x, src⟩).sendEps.get {} ep = e) :
    ((s.arriveChannel x f).core ⟨x, src⟩).sendEps.get {} ep = { e with inFlight := e.inFlight - 1 } ∧
      ((s.arriveChannel x f).core ⟨x, src⟩).semIn = (s.core ⟨x, src⟩).semIn ++ [(e.csem, 1)] := by
  subst he
  unfold State.arriveChannel
  rw [hc]
  dsimp only
  rw [State.core_modCoreOf (c := ⟨x, src⟩)]
  exact ⟨Tab.get_set_self .., rfl⟩

/-! ### Rings (08 R205, R213) -/

theorem State.landRing_flights (p no : Nat) (data : Option Line) : ((s.landRing x p no data).ctx x).flights = (s.ctx x).flights ∧
    ((s.landRing x p no data).ctx x).step = (s.ctx x).step := by
  have hv {β : Type} (kc : Ctx → β) (hflags : ∀ (c : Ctx) v, kc { c with flags := v } = kc c) :
      kc ((s.landRing x p no data).ctx x) = kc (s.ctx x) := by
    unfold State.landRing
    dsimp only
    rw [State.ctx_modCoreOf]
    split
    · exact (Views.ofCtx kc (fun _ => ()) x).overwriteCheck hflags (fun _ _ => rfl) ..
    · rfl
  exact ⟨hv Ctx.flights (fun _ _ => rfl), hv Ctx.step (fun _ _ => rfl)⟩

theorem State.landRing_ring (p no : Nat) (data : Option Line) : ((s.landRing x p no data).core ⟨x, p⟩).ring =
    (s.core ⟨x, p⟩).ring.landLine 512 no (data.map (·, false)) := by
  unfold State.landRing
  dsimp only
  rw [State.core_modCoreOf (c := ⟨x, p⟩)]
  refine congrArg (fun r : Ring => r.landLine 512 no (data.map (·, false))) ?_
  split
  · exact (Views.ofCore (kc := Ctx.sites) (fun _ _ h => h) Core.ring ⟨x, p⟩).overwriteCheck (fun _ _ => rfl) (fun _ _ => rfl) ..
  · rfl

/-! ### Staging (08 R213) -/

theorem Ring.pass_of_moves {r : Ring} (h : r.u ∉ r.skip) (n : Nat) : (Ring.pass n r).u = r.u + 1 := by
  cases n with
  | zero => rfl
  | succ n =>
    unfold Ring.pass
    rw [if_neg (by simpa using h)]

/-- The reports of a departing staging entry: one that has not landed, one with an uncorrectable error. -/
def State.departReports (s : State) (x k no : Nat) (f : Flight) : State :=
  let st := (s.stack k).staging
  let s := if st.unlanded.contains no then s.landingFault x f.src false true (no % 1024) (f.due % 2 ^ 48) else s
  if st.bad.contains (no % 1024) then s.flagCtx x fEccUe else s

theorem State.departReports_stack (k no : Nat) : (s.departReports x k no f).stack k = s.stack k := by
  unfold State.departReports
  dsimp only
  split <;> split <;> rfl

theorem State.departReports_flights (k no : Nat) : ((s.departReports x k no f).ctx x).flights = (s.ctx x).flights := by
  unfold State.departReports
  dsimp only
  have hfault : ((if (s.stack k).staging.unlanded.contains no then
      s.landingFault x f.src false true (no % 1024) (f.due % 2 ^ 48) else s).ctx x).flights = (s.ctx x).flights := by
    split
    · exact (Views.ofCtx Ctx.flights (fun _ => ()) x).landingFault (fun _ _ => rfl) (fun _ _ => rfl) ..
    · rfl
  split
  · exact (congrArg Ctx.flights (State.ctx_flagCtx _ x fEccUe)).trans hfault
  · exact hfault

/-- The write on its way from the staging of stack `k` to base memory. -/
def Ctx.stagedWrite (c : Ctx) (f : Flight) (k quad line sd : Nat) (data : Line) : Flight :=
  c.onRoute (c.img.covering 4 f.src sd f.step) f.j
    (c.hubs (quadOfSite k) quad (((c.img.covering 4 f.src sd f.step).map (·.via)).getD 0)) (f.due + 2) true
    { due := f.due + 2 + hubT (quadOfSite k) quad, step := f.step, src := f.src, j := f.j, cargo := .baseWrite quad [(line, data)] }

/-- Its line leaves on its way to base memory, and its place in the staging ring is passed. -/
theorem State.depart_sends {k no quad line sd : Nat} (hc : f.cargo = .departure k no quad line sd) :
    ((s.depart x f).stack k).staging = Ring.pass (s.stack k).staging.skip.length (s.stack k).staging ∧
      ∃ g : Flight, ((s.depart x f).ctx x).flights = (s.ctx x).flights ++ [g] ∧ g.due = f.due + 2 + hubT (quadOfSite k) quad ∧
        g.cargo = .baseWrite quad [(line, (s.stack k).staging.lines.get 0 (no % 1024))] := by
  have hform : s.depart x f =
      ((s.departReports x k no f).modStack k (fun q => { q with staging := Ring.pass q.staging.skip.length q.staging })).modCtx x
        (fun c => { c with flights := c.flights ++
          [c.stagedWrite f k quad line sd ((s.stack k).staging.lines.get 0 (no % 1024))] }) := by
    unfold State.depart
    rw [hc]
    rfl
  have hstack := State.departReports_stack (s := s) (x := x) (f := f) k no
  have hflights := State.departReports_flights (s := s) (x := x) (f := f) k no
  rw [hform]
  generalize s.departReports x k no f = u at hstack hflights
  refine ⟨?_, (u.ctx x).stagedWrite f k quad line sd ((s.stack k).staging.lines.get 0 (no % 1024)), ?_, rfl, rfl⟩
  · have h := State.stack_modStack_self u k (fun q => { q with staging := Ring.pass q.staging.skip.length q.staging })
    rw [hstack] at h
    exact (congrArg Stack.staging h :)
  · rw [State.ctx_modCtx_self]
    exact congrArg (· ++ _) hflights

/-! ### Dropped lines (09 R240, R244) -/

theorem Ctx.testBit_flag_mono (c : Ctx) {b n : Nat} (h : c.flags.toNat.testBit b = true) :
    (c.flag n).flags.toNat.testBit b = true := by
  simp only [Ctx.flag, BitVec.toNat_or, Nat.testBit_or, h, Bool.true_or]

theorem State.fwDrop_hub (p cause j step quad : Nat) : ((s.fwDrop x p cause j step quad).hub quad).drops =
    Nat.min (2 ^ 32 - 1) ((s.hub quad).drops + 1) := by
  have h (u : State) (hu : u.hubs = (s.modHub quad (fun h => { h with drops := satAdd (2 ^ 32 - 1) h.drops 1 })).hubs) :
      (u.hub quad).drops = Nat.min (2 ^ 32 - 1) ((s.hub quad).drops + 1) := by
    unfold State.hub
    rw [hu]
    exact congrArg Hub.drops (State.hub_modHub_self ..)
  refine h _ ?_
  unfold State.fwDrop
  dsimp only
  split <;> rfl

/-- The context after a drop: its flags are marked, and nothing else changes. -/
theorem State.fwDrop_ctx (p cause j step quad : Nat) : (s.fwDrop x p cause j step quad).ctx x =
    (if cause = 2 then (s.ctx x).flag fTransitLost else s.ctx x).flag fFwDrop := by
  unfold State.fwDrop
  dsimp only
  rw [State.ctx_modCoreOf, State.ctx_flagCtx]
  split
  · rw [State.ctx_flagCtx]
    rfl
  · rfl

/-- The firewall drops the one line whose step has come. -/
theorem State.dropLost_one {drop : Flight → Bool}
    (hd : drop = fun g => g.lost.isSome && !g.counted && decide (g.dropAt ≤ (s.ctx x).step))
    (h : (s.ctx x).flights.filter drop = [f]) {cause : Nat} (hc : f.lost = some cause) :
    s.dropLost x = (s.modCtx x (fun c => { c with
      flights := c.flights.map (fun g => if drop g then { g with counted := true } else g) })).fwDrop x f.src cause f.j f.step
        (if cause = 2 then s.dropQuad x f else f.via.headD ((s.ctx x).quadOf f.src)) := by
  subst hd
  have hquad : (s.modCtx x (fun c => { c with flights := c.flights.map (fun g =>
      if (g.lost.isSome && !g.counted && decide (g.dropAt ≤ (s.ctx x).step)) then { g with counted := true } else g) })).dropQuad x f =
      if cause = 2 then s.dropQuad x f else f.via.headD ((s.ctx x).quadOf f.src) := by
    unfold State.dropQuad
    rw [State.ctx_modCtx_self, hc]
    by_cases h2 : cause = 2
    · subst h2
      rfl
    · rw [if_neg h2, if_neg (fun e => h2 (Option.some.inj e))]
      rfl
  unfold State.dropLost
  dsimp only
  rw [h, ← hquad]
  simp only [sortBy, insertBy, List.foldl_cons, List.foldl_nil, hc, Option.getD_some]

end

/-- A row that acts while the wave of a context moves. -/
theorem completes_moving {i : Instr} {s u : State} {x : Nat} {f : State → State} (ha : (s.ctx x).active = true)
    (hf : (s.ctx x).frozen = false) (hi : exec i s = quiet s (s.whileMoving x f)) (hu : f s = u) : exec i s = quiet s u := by
  rw [hi, State.whileMoving_moves ha hf, hu]

/-- Settles O39: the one flight that is due leaves the list and acts on what its cargo names. -/
theorem arrivalsAct : Obligations.ArrivalsAct := by
  intro s x f ha hf due left
  refine ⟨fun dst ep sub no pos data hc hdue hl hpos => ?_, fun dst ep sub token lines hc hdue hlines hkind => ?_,
    fun src ep hc hdue => ?_, fun no d hc hdue hlines => ?_, fun k no quad line sd hc hdue => ?_, ?_⟩
  case refine_1 =>
    have hi : exec (.chanLinesArrive x) s = quiet s ((s.untaken x Flight.isChanLine).arriveChannel x f) :=
      completes_moving ha hf rfl (State.takeFlights_one hdue)
    have hctx := (State.arriveChannel_ctx (s := s.untaken x Flight.isChanLine) (x := x) (f := f)).trans (State.untaken_ctx ..)
    have hcore := State.untaken_core s x Flight.isChanLine dst
    have hline := State.arriveChannel_line (s := s.untaken x Flight.isChanLine) (x := x) hc hl (hcore ▸ hpos)
    rw [hcore] at hline
    generalize (s.untaken x Flight.isChanLine).arriveChannel x f = u at hi hctx hline
    exact ⟨_, hi, (congrArg Ctx.flights hctx :), hline⟩
  case refine_2 =>
    intro e q q'
    obtain ⟨v, hv⟩ : ∃ v, v = s.untaken x Flight.isChanLine := ⟨_, rfl⟩
    have hvctx : v.ctx x = s.ctx x := hv ▸ State.untaken_ctx_of_none hlines
    have hvcore : v.core ⟨x, dst⟩ = s.core ⟨x, dst⟩ := hv ▸ State.untaken_core ..
    have hvdue : v.dueNow x Flight.isHeader = [f] := by
      unfold State.dueNow
      rw [hvctx]
      exact hdue
    have hvleft : v.notDue x Flight.isHeader = left Flight.isHeader := by
      unfold State.notDue
      rw [hvctx]
    have hi : exec (.entryHeaderArrive x) s = quiet s ((v.untaken x Flight.isHeader).arriveChannel x f) :=
      completes_moving ha hf rfl (by
        rw [State.takeFlights_none hlines, ← hv]
        exact State.takeFlights_one hvdue)
    have hctx := (State.arriveChannel_ctx (s := v.untaken x Flight.isHeader) (x := x) (f := f)).trans (State.untaken_ctx ..)
    rw [hvleft] at hctx
    have hcore := (State.untaken_core v x Flight.isHeader dst).trans hvcore
    have hheader := State.arriveChannel_header (s := v.untaken x Flight.isHeader) (x := x) hc (hcore ▸ hkind) e (by rw [hcore]) q' rfl
    rw [hcore] at hheader
    generalize (v.untaken x Flight.isHeader).arriveChannel x f = u at hi hctx hheader
    exact ⟨_, hi, (congrArg Ctx.flights hctx :), hheader⟩
  case refine_3 =>
    intro e
    have hi : exec (.lockedCreditReturn x) s = quiet s ((s.untaken x Flight.isCredit).arriveChannel x f) :=
      completes_moving ha hf rfl (State.takeFlights_one hdue)
    have hctx := (State.arriveChannel_ctx (s := s.untaken x Flight.isCredit) (x := x) (f := f)).trans (State.untaken_ctx ..)
    have hcore := State.untaken_core s x Flight.isCredit src
    have hcredit := State.arriveChannel_credit (s := s.untaken x Flight.isCredit) (x := x) hc e (by rw [hcore])
    rw [hcore] at hcredit
    generalize (s.untaken x Flight.isCredit).arriveChannel x f = u at hi hctx hcredit
    exact ⟨_, hi, (congrArg Ctx.flights hctx :), hcredit⟩
  case refine_4 =>
    obtain ⟨v, hv⟩ : ∃ v, v = (s.untaken x Flight.isRing).landRing x f.src no (if f.lost.isSome then none else some d) := ⟨_, rfl⟩
    have harrive : (s.untaken x Flight.isRing).arriveRing x f = v := by
      unfold State.arriveRing
      rw [hc, hv]
    have hring : (v.core ⟨x, f.src⟩).ring = (s.core ⟨x, f.src⟩).ring.landLine 512 no
        ((if f.lost.isSome then none else some d).map (·, false)) := by
      rw [hv, State.landRing_ring, State.untaken_core]
    obtain ⟨hflights, hstep⟩ := State.landRing_flights (s := s.untaken x Flight.isRing) (x := x) f.src no
      (if f.lost.isSome then none else some d)
    rw [← hv, State.untaken_ctx] at hflights hstep
    have hnone : v.dueNow x Flight.isDramLine = [] := by
      unfold State.dueNow
      rw [hflights, hstep]
      exact List.filter_eq_nil_iff.mpr fun g hg => List.filter_eq_nil_iff.mp hlines g (List.mem_filter.mp hg).1
    have hi : exec (.baseLineLands x) s = quiet s (v.untaken x Flight.isDramLine) :=
      completes_moving ha hf rfl (by rw [State.takeFlights_one hdue, harrive, State.takeFlights_none hnone])
    have hctx := State.untaken_ctx_of_none hnone
    have hcore := State.untaken_core v x Flight.isDramLine f.src
    obtain ⟨hline, hno⟩ := Ring.landLine_lands (s.core ⟨x, f.src⟩).ring 512 no
      ((if f.lost.isSome then none else some d).map (·, false))
    rw [← hring, ← hcore] at hline hno
    generalize v.untaken x Flight.isDramLine = u at hi hctx hline hno
    refine ⟨_, hi, (congrArg Ctx.flights hctx :).trans hflights, (hline : (u.core ⟨x, f.src⟩).ring.lines.get 0 (no % 512) = _).trans ?_, hno⟩
    cases f.lost <;> rfl
  case refine_5 =>
    have hi : exec (.stagingDeparture x) s = quiet s ((s.untaken x Flight.isDeparture).depart x f) :=
      completes_moving ha hf rfl (State.takeFlights_one hdue)
    obtain ⟨hstack, g, hflights, hg⟩ := State.depart_sends (s := s.untaken x Flight.isDeparture) (x := x) hc
    rw [State.untaken_ctx] at hflights
    rw [State.untaken_stack] at hstack hg
    generalize (s.untaken x Flight.isDeparture).depart x f = u at hi hstack hflights
    exact ⟨_, hi, hstack, fun hu => (congrArg Ring.u hstack).trans (Ring.pass_of_moves hu _), g, hflights, hg⟩
  case refine_6 =>
    intro drop h cause hc q
    obtain ⟨v, hv⟩ : ∃ v, v = s.modCtx x (fun c => { c with
      flights := c.flights.map (fun g => if drop g then { g with counted := true } else g) }) := ⟨_, rfl⟩
    have hi : exec (.transitLineArrival x) s = quiet s (v.fwDrop x f.src cause f.j f.step q) :=
      completes_moving ha hf rfl ((State.dropLost_one rfl h hc).trans (by rw [hv]))
    have hvctx : v.ctx x = { s.ctx x with
        flights := (s.ctx x).flights.map (fun g => if drop g then { g with counted := true } else g) } := by
      rw [hv, State.ctx_modCtx_self]
    have hhub := State.fwDrop_hub (s := v) (x := x) f.src cause f.j f.step q
    have hctx := State.fwDrop_ctx (s := v) (x := x) f.src cause f.j f.step q
    have hvhub : v.hub q = s.hub q := by rw [hv]; rfl
    rw [hvhub] at hhub
    generalize v.fwDrop x f.src cause f.j f.step q = u at hi hhub hctx
    have hdrop : ((u.ctx x).flags.toNat.testBit fFwDrop) = true := by
      rw [hctx]
      exact Ctx.testBit_flag_self _ (by decide)
    refine ⟨_, hi, ?_, hhub, hdrop, fun h2 => ?_⟩
    · show (u.ctx x).flights = _
      rw [hctx, hvctx]
      split <;> rfl
    · show (u.ctx x).flags.toNat.testBit fTransitLost = true
      rw [hctx, if_pos h2]
      exact Ctx.testBit_flag_mono _ (Ctx.testBit_flag_self _ (by decide))

end Sys2Proof.Machine
end

section
/-! Contexts come and go (13 R374-R376, R382; 07 R171): what creation, zeroing, release and eviction leave of a context and its
cores, then the obligation O52. -/
namespace Sys2Proof.Machine
open Sys2Proof

/-- Of a list of writes one settles a value and every one keeps it. -/
theorem foldl_settles {σ α β : Type} {get : σ → β} {put : σ → α → σ} {v : β} (hkeep : ∀ t a, get t = v → get (put t a) = v)
    {r : α} (hhit : ∀ t, get (put t r) = v) {l : List α} (hr : r ∈ l) (s : σ) : get (l.foldl put s) = v := by
  have hstays (l : List α) (s : σ) (h : get s = v) : get (l.foldl put s) = v := by
    induction l generalizing s with
    | nil => exact h
    | cons a l ih => exact ih _ (hkeep s a h)
  obtain ⟨a, b, rfl⟩ := List.append_of_mem hr
  rw [List.foldl_append, List.foldl_cons]
  exact hstays _ _ (hhit _)

section
variable {s : State} {x : Nat}

/-! ### Creation (13 R375) -/

/-- A context being created has its sites and nothing else. -/
def Ctx.created (sites : List Nat) : Ctx := { phase := .creating, sites := programSites sites, quads := programQuads sites }

/-- What of the state neither its settings, contexts, stacks nor cores hold, creation leaves. -/
theorem State.get_createCtx {β : Type} (get : State → β) {v : β} (hset : ∀ (u : State) i n, get (u.setSetting i n) = get u)
    (hstack : ∀ (u : State) d f, get (u.modStack d f) = get u) (hcore : ∀ (u : State) l f, get (u.modCore l f) = get u)
    (sites : List Nat) (h : get ((s.defaultSettings x).setCtx x (Ctx.created sites)) = v) : get (s.createCtx x sites) = v := by
  unfold State.createCtx
  dsimp only
  have hcores (u : State) : get (u.mapCores x (fun _ _ => {})) = get u :=
    foldl_get_same (get := get) (fun _ _ _ => hcore _ _ _) u
  rw [hcores, foldl_get_same (get := get) (fun _ _ _ => hstack _ _ _)]
  split
  · rw [hset, hset]
    exact h
  · rw [hset]
    exact h

theorem State.ctx_setCtx_self (u : State) (c : Ctx) : (u.setCtx x c).ctx x = c := Tab.get_set_self ..

theorem State.createCtx_ctx (sites : List Nat) : (s.createCtx x sites).ctx x = Ctx.created sites :=
  State.get_createCtx (State.ctx · x) (fun _ _ _ => rfl) (fun _ _ _ => rfl) (fun _ _ _ => rfl) sites
    (State.ctx_setCtx_self ..)

/-! ### Zeroing (07 R171) -/

theorem Memory.byte_clear (m : Memory) (a n b : Nat) : Memory.byte (Memory.clear m a n) b =
    if a ≤ b ∧ b < a + n then 0 else Memory.byte m b := by
  unfold Memory.byte Memory.clear
  induction m with
  | nil => simp [Tab.get]
  | cons c m ih =>
    obtain ⟨k, v⟩ := c
    by_cases hin : a ≤ k ∧ k < a + n
    · rw [List.filter_cons_of_neg (by simp [hin]), ih]
      by_cases hk : b = k
      · subst hk
        rw [if_pos hin, if_pos hin]
      · simp only [Tab.get, hk, if_false]
    · rw [List.filter_cons_of_pos (by simpa only [Bool.not_eq_true', Bool.and_eq_false_iff, decide_eq_false_iff_not, ← Decidable.not_and_iff_not_or_not] using hin)]
      by_cases hk : b = k
      · subst hk
        rw [if_neg hin]
        simp only [Tab.get, if_true]
      · simp only [Tab.get, hk, if_false]
        exact ih

/-- A byte of the core memory of a context is zero once every core of it is cleared. -/
theorem State.cleared_byte (c : Ctx) {p a : Nat} (hp : p < c.ncores) (ha : a < 524288) :
    Memory.byte ((c.cores.foldl (fun s p => s.clearCoreMem (c.logical p)) s).mem) (coreAddr (c.logical p) 0 + a) = 0 := by
  refine foldl_settles (get := fun u : State => Memory.byte u.mem (coreAddr (c.logical p) 0 + a))
    (fun t k h => ?_) (r := p) (fun t => ?_) (List.mem_range.mpr hp) s
  · refine (Memory.byte_clear ..).trans ?_
    split
    · rfl
    · exact h
  · exact (Memory.byte_clear ..).trans (if_pos ⟨Nat.le_add_right _ _, Nat.add_lt_add_left ha _⟩)

/-- No program image waits for a context where none did before commands ended. -/
theorem State.loadOf_none {u : State} (hsub : u.mbox.deferred ⊆ s.mbox.deferred) (h : s.loadOf x = none) : u.loadOf x = none :=
  List.find?_eq_none.mpr fun d hd => List.find?_eq_none.mp h d (hsub hd)

theorem State.finish_deferred_subset (ticket st detail : Nat) : (s.finish ticket st detail).mbox.deferred ⊆ s.mbox.deferred := by
  unfold State.finish
  split
  · exact fun _ h => h
  · exact List.erase_subset

theorem State.finishAll_deferred_subset (op key st detail : Nat) :
    (s.finishAll op key st detail).mbox.deferred ⊆ s.mbox.deferred := by
  unfold State.finishAll
  generalize s.mbox.deferred.filter _ = l
  induction l generalizing s with
  | nil => exact fun _ h => h
  | cons d l ih => exact fun e he => State.finish_deferred_subset _ _ _ (ih (s := s.finish d.ticket st detail) he)

theorem State.imageGo_none (h : s.loadOf x = none) : s.imageGo x = s := by
  unfold State.imageGo
  rw [h]

/-! ### Release (13 R376) -/

theorem State.destroyCtx_ctx (ticket : Nat) : ((s.destroyCtx x ticket).ctx x).phase = .destroying ∧
    ((s.destroyCtx x ticket).ctx x).job = {} ∧ ((s.destroyCtx x ticket).ctx x).binds = [] := by
  unfold State.destroyCtx
  dsimp only
  rw [State.ctx_modCtx_self]
  exact ⟨rfl, rfl, rfl⟩

theorem State.freeCtx_core (c : Ctx) (hc : s.ctx x = c) {p : Nat} (hp : p < c.ncores) : (s.freeCtx x).coreAt (c.logical p) = {} := by
  subst hc
  unfold State.freeCtx
  dsimp only
  have hform (u : State) (k l : Nat) : (u.idleCore k).coreAt l = Tab.get ({} : Core) (Tab.set {} u.cores k {}) l := rfl
  have hidle (u : State) (k : Nat) : (u.idleCore k).coreAt k = {} := (hform u k k).trans (Tab.get_set_self ..)
  refine foldl_settles (get := fun u : State => u.coreAt ((s.ctx x).logical p)) (put := fun u k => u.idleCore ((s.ctx x).logical k))
    (fun t k h => ?_) (r := p) (fun t => hidle t _) (List.mem_range.mpr hp) _
  by_cases hk : (s.ctx x).logical p = (s.ctx x).logical k
  · rw [hk]
    exact hidle t _
  · exact (hform ..).trans ((Tab.get_set_other _ _ _ hk).trans h)

/-! ### Eviction (13 R382) -/

/-- The most granules held in one place: no place holds more, and one holds that many where any are held. -/
theorem foldl_max_length (l : List (List Nat)) (m : Nat) : m ≤ l.foldl (fun m g => Nat.max m g.length) m ∧
    (∀ g ∈ l, g.length ≤ l.foldl (fun m g => Nat.max m g.length) m) ∧
    (l.foldl (fun m g => Nat.max m g.length) m = m ∨ ∃ g ∈ l, g.length = l.foldl (fun m g => Nat.max m g.length) m) := by
  induction l generalizing m with
  | nil => exact ⟨Nat.le_refl _, by simp, .inl rfl⟩
  | cons a l ih =>
    obtain ⟨hm, hall, hsome⟩ := ih (Nat.max m a.length)
    rw [List.foldl_cons]
    refine ⟨Nat.le_trans (Nat.le_max_left ..) hm, fun g hg => ?_, ?_⟩
    · rcases List.mem_cons.mp hg with rfl | hg
      · exact Nat.le_trans (Nat.le_max_right ..) hm
      · exact hall g hg
    · rcases hsome with htop | ⟨g, hg, htop⟩
      · rcases Nat.le_total a.length m with hle | hle
        · exact .inl (htop.trans (Nat.max_eq_left hle))
        · exact .inr ⟨a, List.mem_cons_self, (htop.trans (Nat.max_eq_right hle)).symm⟩
      · exact .inr ⟨g, List.mem_cons_of_mem a hg, htop⟩

theorem granuleSum_set {l : List (List Nat)} {k : Nat} (hk : k < l.length) (v : List Nat) :
    granuleSum (l.set k v) + (l.getD k []).length = granuleSum l + v.length := by
  induction l generalizing k with
  | nil => simp at hk
  | cons a l ih =>
    cases k with
    | zero =>
      simp only [granuleSum, List.set_cons_zero, List.map_cons, List.sum_cons, List.getD_cons_zero]
      omega
    | succ k =>
      have h := ih (Nat.lt_of_succ_lt_succ hk)
      simp only [granuleSum, List.set_cons_succ, List.map_cons, List.sum_cons, List.getD_cons_succ] at h ⊢
      omega

theorem granuleSum_eq_zero {l : List (List Nat)} (h : ∀ g ∈ l, g.length ≤ 0) : granuleSum l = 0 := by
  induction l with
  | nil => rfl
  | cons g l ih =>
    have hg := h g List.mem_cons_self
    have hl := ih fun v hv => h v (List.mem_cons_of_mem g hv)
    simp only [granuleSum, List.map_cons, List.sum_cons] at hl ⊢
    omega

/-- One granule is dropped, where any is held. -/
theorem granuleSum_dropTop {l : List (List Nat)} : granuleSum (dropTop l) = granuleSum l - 1 := by
  obtain ⟨-, hall, hsome⟩ := foldl_max_length l 0
  unfold dropTop
  dsimp only
  generalize l.foldl (fun m g => Nat.max m g.length) 0 = top at hall hsome
  split
  next k hk =>
    obtain ⟨hkl, hktop⟩ := List.mem_filter.mp (List.mem_of_getLast? hk)
    have hlen : (l.getD k []).length = top := of_decide_eq_true hktop
    split
    next h0 => rw [granuleSum_eq_zero (h0 ▸ hall)]
    next h0 =>
      have hset := granuleSum_set (List.mem_range.mp hkl) ((l.getD k []).take (top - 1))
      rw [List.length_take, hlen] at hset
      omega
  next hnone =>
    have hfew : ∀ k < l.length, (l.getD k []).length ≠ top := fun k hk hlen =>
      absurd (List.getLast?_eq_none_iff.mp hnone) (List.ne_nil_of_mem (List.mem_filter.mpr ⟨List.mem_range.mpr hk, decide_eq_true hlen⟩))
    have h0 : top = 0 := hsome.resolve_right fun ⟨g, hg, hlen⟩ => by
      obtain ⟨k, hk, rfl⟩ := List.getElem_of_mem hg
      exact hfew k hk (by rw [getD_of_lt _ hk]; exact hlen)
    rw [granuleSum_eq_zero (h0 ▸ hall)]

/-- Granules are dropped until no more than the quota are left. -/
theorem granuleSum_dropTo (n f : Nat) (l : List (List Nat)) (h : granuleSum l ≤ n + f) : granuleSum (dropTo n f l) ≤ n := by
  induction f generalizing l with
  | zero => exact h
  | succ f ih =>
    unfold dropTo
    split
    · assumption
    · refine ih _ ?_
      rw [granuleSum_dropTop]
      omega

theorem State.evictMem_dram : granuleSum ((s.evictMem x true).ctx x).dram ≤ s.settingNow 0x50 x ∧
    ((s.evictMem x true).ctx x).base = (s.ctx x).base := by
  unfold State.evictMem
  dsimp only
  rw [State.ctx_modCtx_self]
  exact ⟨granuleSum_dropTo _ _ _ (Nat.le_add_left ..), rfl⟩

end

/-- The deferral of a command leaves a context's share of DRAM as it was. -/
theorem State.dramQuota_deferred {s : State} {m x op key aux : Nat} {q : Cmd} {data : List Byte} :
    ((s.entered m q op).defer m q op key aux data).1.settingNow 0x50 x = s.settingNow 0x50 x := by
  have hsettings (b : Mbox) (h : b.settings = s.mbox.settings) :
      State.settingNow { s with mbox := b } 0x50 x = s.settingNow 0x50 x := by
    simp only [State.settingNow, State.settingRaw, h]
    rfl
  have hmail := State.entered_mail Mbox.settings (fun _ _ _ => rfl) s m q op
  rw [State.entered_eq] at hmail ⊢
  exact hsettings _ hmail

/-- A served row whose service is known, with what its effect brings about and an answer leaves. -/
theorem Serves.bringsAs {m : Nat} {q : Cmd} {k : CmdSpec} {s : State} {i : Instr} {body : State → State × Reply} {P : State → Prop}
    (r : State × Reply) (h : Serves s m q k) (hi : exec i s = Machine.quiet s (s.serve m q k body))
    (hbody : body (s.entered m q k.op) = r) (hP : P r.1) (hrespond : ∀ u m n r, P u → P (u.respond m n r))
    (hquiet : ∀ u, P u → P { u with pending := s.pending, mem := s.mem }) : Completes i s P :=
  h.brings hi (hbody ▸ hP) hrespond hquiet

/-- Settles O52: creation and release write the whole context; a byte that some core's zeroing clears stays clear; each granule
dropped brings the sum one nearer to the quota. -/
theorem contextsComeAndGo : Obligations.ContextsComeAndGo := by
  intro s m x q
  refine ⟨?_, fun hphase hload => ?_, fun h hroom hphase => ?_, fun hphase => ?_, fun h hroom hphase harg => ?_⟩
  case refine_1 =>
    intro sites h hcheck hquota
    have hcheck' : (s.entered m q 0x30).createCheck q.ctx sites = stOK :=
      (State.get_entered s m q 0x30 (State.createCheck · q.ctx sites) (fun _ _ => rfl)).trans hcheck
    have hroom : (s.entered m q 0x30).accept m q 0x30 q.ctx 0 [] (fun s _ => s.createCtx q.ctx sites) =
        Defers m q 0x30 q.ctx 0 [] (fun u _ => u.createCtx q.ctx sites) (s.entered m q 0x30) := by
      rw [State.accept, State.entered_cmdRoom, hquota, Bool.not_true, Bool.and_false]
      rfl
    have hslot {β : Type} (p : Slot → β) (hp : ∀ v : Slot, p { v with outstanding := v.outstanding + 1 } = p v) :
        p ((Defers m q 0x30 q.ctx 0 [] (fun u _ => u.createCtx q.ctx sites) (s.entered m q 0x30)).1.slot m) =
          p ((s.entered m q 0x30).slot m) :=
      State.get_createCtx (fun u => p (u.slot m)) (fun _ _ _ => rfl) (fun _ _ _ => rfl) (fun _ _ _ => rfl) sites
        (State.defer_slot (s.entered m q 0x30) m q 0x30 q.ctx 0 [] p hp m)
    refine (h.answersQuiet (i := .contextCreate m q) (Defers m q 0x30 q.ctx 0 [] (fun u _ => u.createCtx q.ctx sites)) rfl
      ((if_neg (not_not_intro hcheck')).trans hroom) (hslot Slot.agent (fun _ => rfl)) (hslot Slot.bound (fun _ => rfl))
      ?_ ?_).mono fun t ht => ⟨ht, ?_⟩
    · exact State.get_createCtx State.pending (fun _ _ _ => rfl) (fun _ _ _ => rfl) (fun _ _ _ => rfl) sites
        ((State.get_defer (s.entered m q 0x30) m q 0x30 q.ctx 0 [] State.pending (fun _ _ => rfl)).trans (State.entered_pending ..))
    · exact State.get_createCtx State.mem (fun _ _ _ => rfl) (fun _ _ _ => rfl) (fun _ _ _ => rfl) sites
        ((State.get_defer (s.entered m q 0x30) m q 0x30 q.ctx 0 [] State.mem (fun _ _ => rfl)).trans (State.entered_mem ..))
    · have hctx : t.ctx q.ctx = Ctx.created sites := by
        rw [ht, State.respond_ctx]
        exact State.createCtx_ctx sites
      rw [hctx]
      exact ⟨rfl, rfl, rfl⟩
  case refine_2 =>
    obtain ⟨v, hv⟩ : ∃ v, v = ((s.ctx x).cores.foldl (fun u p => u.clearCoreMem ((s.ctx x).logical p)) s) := ⟨_, rfl⟩
    have hkeeps {β : Type} (get : State → β) (hmem : ∀ (u : State) n, get { u with mem := n } = get u) : get v = get s :=
      hv ▸ foldl_get_same (get := get) (fun _ _ _ => hmem _ _) s
    obtain ⟨w, hw⟩ : ∃ w, w = (v.modCtx x (fun c => { c with phase := .idle })).finishAll 0x30 x stOK 0 := ⟨_, rfl⟩
    have hnone : w.loadOf x = none := by
      refine State.loadOf_none (fun d hd => ?_) hload
      rw [hw] at hd
      rw [← hkeeps (fun u => u.mbox.deferred) (fun _ _ => rfl)]
      exact State.finishAll_deferred_subset (s := v.modCtx x (fun c => { c with phase := .idle })) _ _ _ _ hd
    have hi : exec (.contextZeroed x) s = execContextZeroed x s := rfl
    unfold execContextZeroed at hi
    dsimp only at hi
    rw [if_pos hphase, ← hv, ← hw, State.imageGo_none hnone] at hi
    have hctx : (w.ctx x).phase = .idle := by
      rw [hw, State.get_finishAll (State.ctx · x) (fun _ _ => rfl) (fun _ _ => rfl), State.ctx_modCtx_self]
    have hmem : w.mem = v.mem := by
      rw [hw, State.get_finishAll State.mem (fun _ _ => rfl) (fun _ _ => rfl)]
      rfl
    have hzero (p a : Nat) (hp : p < (s.ctx x).ncores) (ha : a < 524288) :
        Memory.byte w.mem (coreAddr ((s.ctx x).logical p) 0 + a) = 0 := by
      rw [hmem, hv]
      exact State.cleared_byte (s := s) (s.ctx x) hp ha
    exact ⟨_, hi, hctx, hzero⟩
  case refine_3 =>
    exact h.bringsAs (P := fun t => (t.ctx q.ctx).phase = .destroying ∧ (t.ctx q.ctx).job = {} ∧ (t.ctx q.ctx).binds = [])
      (Defers m q 0x31 q.ctx 0 [] (fun s t => s.destroyCtx q.ctx t) (s.entered m q 0x31)) rfl
      ((State.needCtx_entered hroom.held _ _).trans ((if_neg (by rw [State.entered_ctx, hphase]; decide)).trans (hroom.accept ..)))
      (State.destroyCtx_ctx ..) (fun u n j r hu => by rwa [State.respond_ctx]) (fun _ hu => hu)
  case refine_4 =>
    have hi : exec (.resourcesReleased x) s = done s ((s.freeCtx x).finishAll 0x31 x stOK 0) :=
      congrArg (done s) (if_pos hphase)
    have hctx : ((s.freeCtx x).finishAll 0x31 x stOK 0).ctx x = {} :=
      (State.get_finishAll (State.ctx · x) (fun _ _ => rfl) (fun _ _ => rfl) ..).trans (State.ctx_setCtx_self ..)
    have hcore (l : Nat) : ((s.freeCtx x).finishAll 0x31 x stOK 0).coreAt l = (s.freeCtx x).coreAt l :=
      State.get_finishAll (State.coreAt · l) (fun _ _ => rfl) (fun _ _ => rfl) ..
    generalize (s.freeCtx x).finishAll 0x31 x stOK 0 = u at hi hctx hcore
    exact ⟨_, hi, hctx, fun p hp => (hcore _ :).trans (State.freeCtx_core _ rfl hp)⟩
  case refine_5 =>
    have hmask (u : State) : u.evict q.ctx (argFld q 0 8) = u.evictMem q.ctx true := by
      rw [harg]
      rfl
    refine h.bringsAs (P := fun t => granuleSum (t.ctx q.ctx).dram ≤ s.settingNow 0x50 q.ctx ∧
      (t.ctx q.ctx).base = (s.ctx q.ctx).base)
      (Defers m q 0x34 q.ctx 0 [] (fun s t => (s.evict q.ctx (argFld q 0 8)).finish t stOK 0) (s.entered m q 0x34)) rfl
      ((State.needCtx_entered hroom.held _ _).trans ((if_neg (by rw [State.entered_ctx, hphase]; decide)).trans (hroom.accept ..)))
      ?_ (fun u n j r hu => by rwa [State.respond_ctx]) (fun _ hu => hu)
    obtain ⟨u, hu⟩ : ∃ u, u = ((s.entered m q 0x34).defer m q 0x34 q.ctx 0 []).1 := ⟨_, rfl⟩
    have hctx : u.ctx q.ctx = s.ctx q.ctx := by
      rw [hu, State.get_defer _ _ _ _ _ _ _ (State.ctx · q.ctx) (fun _ _ => rfl), State.entered_ctx]
    have hquota : u.settingNow 0x50 q.ctx = s.settingNow 0x50 q.ctx := hu ▸ State.dramQuota_deferred
    show granuleSum (((State.finish _ _ stOK 0).ctx q.ctx).dram) ≤ _ ∧ ((State.finish _ _ stOK 0).ctx q.ctx).base = _
    rw [State.get_finish (State.ctx · q.ctx) (fun _ _ => rfl) (fun _ _ => rfl), hmask, ← hu, ← hctx, ← hquota]
    exact State.evictMem_dram

end Sys2Proof.Machine
end

section
/-! Images, weights and replays (13 R378; 14 R400, R405, R428): what a command that waits for bytes leaves waiting, what staging
leaves of a context and its cores, then the obligation O54. -/
namespace Sys2Proof.Machine
open Sys2Proof

/-- A served row of those that may write memory, with what its effect brings about and an answer leaves. -/
theorem Serves.leadsDone {s u : State} {m : Nat} {q : Cmd} {k : CmdSpec} {i : Instr} {body : State → State × Reply} {P : State → Prop}
    (h : Serves s m q k) (hi : exec i s = Machine.done s (s.serve m q k body)) (hbody : (body (s.entered m q k.op)).1 = u)
    (hP : P u) (hrespond : ∀ u m n r, P u → P (u.respond m n r)) (hdone : ∀ u, P u → P { u with pending := s.pending }) :
    Completes i s P := h.bringsDone hi (hbody ▸ hP) hrespond hdone

/-! ### Commands that wait for bytes (13 R378; 14 R400, R405) -/

section
variable {s : State} {m x : Nat} {q : Cmd} {b : Bulk}

theorem HasBulk.needs (h : HasBulk s m q b) (hx : (s.ctx q.ctx).phase ≠ .free) (op : Nat) (go : Nat → State × Reply) :
    (s.entered m q op).needBulk m q go = go (argFld q 0 32) := by
  have hbulk : (s.entered m q op).bulk (argFld q 0 32) = some b :=
    (State.get_entered s m q op (State.bulk · (argFld q 0 32)) fun _ _ => rfl).trans h.bulk
  unfold State.needBulk
  dsimp only
  rw [if_neg h.link, State.needCtx_entered hx, hbulk]
  exact if_pos h.mine

/-- A load of weights whose bytes have not begun to arrive waits for them. -/
theorem State.weightsAdvance_waits (hb : s.bulk (s.ctx x).weights.conn = some b) (hx : b.ctx = x) (hbytes : b.bytes = [])
    (hbroken : b.broken = false) (hlen : 0 < (s.ctx x).weights.len) (hnext : (s.ctx x).weights.next = none) :
    s.weightsAdvance x = s := by
  have hfind : s.links.bulks.find? (fun k => k.connId = (s.ctx x).weights.conn && k.ctx = x) = some b := by
    obtain ⟨hid, l, r, hl, hbefore⟩ := List.find?_eq_some_iff_append.mp hb
    refine List.find?_eq_some_iff_append.mpr ⟨by simpa [hx] using hid, l, r, hl, fun k hk => ?_⟩
    have := hbefore k hk
    simp_all
  have hheader : headerOk (b.bytes.take 256) (s.ctx x).weights.len = false := by
    rw [hbytes]
    rfl
  have hneed : b.bytes.length < Nat.min 256 (s.ctx x).weights.len := by
    rw [hbytes]
    exact Nat.lt_min.mpr ⟨by decide, hlen⟩
  unfold State.weightsAdvance
  dsimp only
  split
  · rfl
  · rw [hfind]
    dsimp only
    rw [hnext]
    dsimp only
    rw [hheader, if_neg Bool.false_ne_true, if_pos hneed, hbroken, if_neg Bool.false_ne_true, hnext]
    rfl

/-- Nothing goes on where what has arrived takes neither the weights nor a deferred command further. -/
theorem State.bulkEvent_waits {id : Nat} (hb : s.bulk id = some b) (hbroken : b.broken = false)
    (hw : (s.ctx b.ctx).weights.busy = true → s.weightsAdvance b.ctx = s ∧ (s.ctx b.ctx).item ≠ 4)
    (hd : ∀ d ∈ s.mbox.deferred, d.key = id → s.bulkDeferred b d = s) : s.bulkEvent id = s := by
  have hweights : (if (s.ctx b.ctx).weights.busy && decide ((s.ctx b.ctx).weights.conn = id) then
      (if ((s.weightsAdvance b.ctx).ctx b.ctx).item = 4 then (s.weightsAdvance b.ctx).boundaryGo b.ctx else s.weightsAdvance b.ctx)
      else s) = s := by
    split
    next h =>
      obtain ⟨hstays, hitem⟩ := hw (Bool.and_eq_true_iff.mp h).1
      rw [hstays, if_neg hitem]
    next => rfl
  unfold State.bulkEvent
  rw [hb]
  dsimp only
  rw [hweights, hbroken, if_neg Bool.false_ne_true]
  refine foldl_stays fun d hin => ?_
  obtain ⟨hin, hkey⟩ := List.mem_filter.mp hin
  exact hd d hin (of_decide_eq_true (Bool.and_eq_true_iff.mp hkey).1)

/-- An image whose bytes have not all arrived, or whose connection stands, waits. -/
theorem State.bulkDeferred_image {d : Deferred} (hop : d.opcode = 0x40) (hbroken : b.broken = false) : s.bulkDeferred b d = s := by
  unfold State.bulkDeferred
  rw [hop, hbroken]
  rfl

theorem State.bulkDeferred_weights {d : Deferred} (hop : d.opcode = 0x41 ∨ d.opcode = 0x42) : s.bulkDeferred b d = s := by
  unfold State.bulkDeferred
  rcases hop with h | h <;> rw [h] <;> rfl

/-- The state in which a command that names a bulk connection has been deferred. -/
def State.awaiting (s : State) (m : Nat) (q : Cmd) (op : Nat) : State :=
  ((s.entered m q op).defer m q op (argFld q 0 32) (leAt q.payload 0 8) []).1

theorem State.awaiting_bulk (op : Nat) (id : Nat) : (s.awaiting m q op).bulk id = s.bulk id :=
  (State.get_defer _ _ _ _ _ _ _ (State.bulk · id) fun _ _ => rfl).trans
    (State.get_entered s m q op (State.bulk · id) fun _ _ => rfl)

theorem State.awaiting_ctx (op : Nat) : (s.awaiting m q op).ctx x = s.ctx x :=
  (State.get_defer _ _ _ _ _ _ _ (State.ctx · x) fun _ _ => rfl).trans (State.entered_ctx ..)

theorem State.awaiting_deferred (op : Nat) : ∃ d, (s.awaiting m q op).mbox.deferred = s.mbox.deferred ++ [d] ∧ d.opcode = op ∧
    d.aux = leAt q.payload 0 8 := by
  refine ⟨(s.entered m q op).deferral m q op (argFld q 0 32) (leAt q.payload 0 8) [], ?_, rfl, rfl⟩
  rw [State.awaiting, State.defer_deferred, State.entered_deferred]

/-- Only the command just deferred waits for its connection. -/
theorem State.awaiting_waits {op : Nat} {u : State} (hu : u.mbox.deferred = (s.awaiting m q op).mbox.deferred)
    (hfresh : ∀ d ∈ s.mbox.deferred, d.key ≠ argFld q 0 32) (hnew : ∀ d : Deferred, d.opcode = op → u.bulkDeferred b d = u) :
    ∀ d ∈ u.mbox.deferred, d.key = argFld q 0 32 → u.bulkDeferred b d = u := by
  obtain ⟨e, he, hop, -⟩ := State.awaiting_deferred (s := s) (m := m) (q := q) op
  intro d hd hkey
  rw [hu, he] at hd
  rcases List.mem_append.mp hd with hd | hd
  · exact absurd hkey (hfresh d hd)
  · exact hnew d (List.mem_singleton.mp hd ▸ hop)

/-- A load of an image waits (13 R378). -/
theorem HasBulk.imageLoad (hb : HasBulk s m q b) (hroom : Roomy s q) (hbroken : b.broken = false)
    (hfresh : ∀ d ∈ s.mbox.deferred, d.key ≠ argFld q 0 32) (hbusy : (s.ctx q.ctx).weights.busy = false)
    (hpair : (s.ctx q.ctx).halo.phase ≠ .active) (hphase : (s.ctx q.ctx).phase ≠ .destroying)
    (hload : (s.ctx q.ctx).loading = none)
    (h : Serves s m q { op := 0x40, who := .owner, ctx := true, arg := 2 ^ 32 - 1, len := fun n => n = 8 }) :
    Completes (.imageLoad m q) s (fun t => (t.ctx q.ctx).loading = some (argFld q 0 32) ∧
      ∃ d : Deferred, t.mbox.deferred = s.mbox.deferred ++ [d] ∧ d.opcode = 0x40 ∧ d.aux = leAt q.payload 0 8) := by
  obtain ⟨u, hu⟩ : ∃ u, u = (s.awaiting m q 0x40).modCtx q.ctx (fun c => { c with loading := some (argFld q 0 32) }) := ⟨_, rfl⟩
  have huctx : u.ctx q.ctx = { s.ctx q.ctx with loading := some (argFld q 0 32) } := by
    rw [hu, State.ctx_modCtx_self, State.awaiting_ctx]
  have hubulk : u.bulk (argFld q 0 32) = some b := by
    rw [hu]
    exact (State.awaiting_bulk 0x40 _).trans hb.bulk
  have hudef : u.mbox.deferred = (s.awaiting m q 0x40).mbox.deferred := by rw [hu]; rfl
  have hwaits : u.bulkEvent (argFld q 0 32) = u := by
    refine State.bulkEvent_waits hubulk hbroken (fun hb' => ?_)
      (State.awaiting_waits hudef hfresh fun d hop => State.bulkDeferred_image hop hbroken)
    rw [hb.mine, huctx] at hb'
    exact absurd (hbusy.symm.trans hb') Bool.false_ne_true
  have hpaired : ¬ ((s.entered m q 0x40).ctx q.ctx).paired = true := by
    rw [State.entered_ctx]
    simpa [Ctx.paired] using hpair
  refine h.leadsDone (u := u) (P := fun t => (t.ctx q.ctx).loading = some (argFld q 0 32) ∧
      ∃ d : Deferred, t.mbox.deferred = s.mbox.deferred ++ [d] ∧ d.opcode = 0x40 ∧ d.aux = leAt q.payload 0 8) rfl ?_ ?_
    (fun v n j r hv => by rwa [State.respond_ctx, State.respond_deferred]) (fun _ hv => hv)
  · rw [hb.needs hroom.held]
    dsimp only
    rw [if_neg (by rwa [State.entered_ctx]), if_neg hpaired, if_neg (by rw [State.entered_ctx, hload]; simp), hroom.accept, ← hwaits, hu]
    rfl
  · rw [huctx, hudef]
    exact ⟨rfl, State.awaiting_deferred 0x40⟩

/-- A load or swap of weights whose bytes have not begun to arrive (14 R400, R405). -/
theorem HasBulk.weightBegin (hb : HasBulk s m q b) (hroom : Roomy s q) (hbroken : b.broken = false) (hbytes : b.bytes = [])
    (hfresh : ∀ d ∈ s.mbox.deferred, d.key ≠ argFld q 0 32) (hlen : 0 < leAt q.payload 0 8) (hitem : (s.ctx q.ctx).item ≠ 4)
    {op : Nat} (hop : op = 0x41 ∨ op = 0x42) (swap : Bool) :
    let w := (((s.entered m q op).weightBegin m q op swap (argFld q 0 32)).1.ctx q.ctx).weights
    w.busy = true ∧ w.conn = argFld q 0 32 ∧ w.len = leAt q.payload 0 8 ∧ w.swap = swap := by
  obtain ⟨w, hw, hbusy, hconn, hwlen, hswap, hnext⟩ : ∃ w : Weights, w = { (s.ctx q.ctx).weights with
      busy := true
      swap := swap
      next := none
      conn := argFld q 0 32
      len := leAt q.payload 0 8
      ticket := (s.entered m q op).mbox.tickets + 1
      slot := m
      written := 0 } ∧ w.busy = true ∧ w.conn = argFld q 0 32 ∧ w.len = leAt q.payload 0 8 ∧ w.swap = swap ∧ w.next = none :=
    ⟨_, rfl, rfl, rfl, rfl, rfl, rfl⟩
  obtain ⟨u, hu⟩ : ∃ u, u = (s.awaiting m q op).modWeights q.ctx (fun _ => w) := ⟨_, rfl⟩
  have huctx : u.ctx q.ctx = { s.ctx q.ctx with weights := w } := by
    rw [hu, State.modWeights, State.ctx_modCtx_self, State.awaiting_ctx]
  have huweights : (u.ctx q.ctx).weights = w := congrArg Ctx.weights huctx
  have hubulk : u.bulk (argFld q 0 32) = some b := by
    rw [hu]
    exact (State.awaiting_bulk op _).trans hb.bulk
  have hudef : u.mbox.deferred = (s.awaiting m q op).mbox.deferred := by rw [hu]; rfl
  have hwaits : u.bulkEvent (argFld q 0 32) = u := by
    refine State.bulkEvent_waits hubulk hbroken (fun _ => ?_)
      (State.awaiting_waits hudef hfresh fun d hd => State.bulkDeferred_weights (by rcases hop with h | h <;> simp [hd, h]))
    rw [hb.mine]
    refine ⟨State.weightsAdvance_waits (by rw [huweights, hconn]; exact hubulk) hb.mine hbytes hbroken
      (by rw [huweights, hwlen]; exact hlen) (by rw [huweights, hnext]), ?_⟩
    rw [congrArg Ctx.item huctx]
    exact hitem
  have hbegin : ((s.entered m q op).weightBegin m q op swap (argFld q 0 32)).1 = u := by
    have hu' : u = (s.awaiting m q op).modWeights q.ctx (fun v => { v with
        busy := true
        swap := swap
        next := none
        conn := argFld q 0 32
        len := leAt q.payload 0 8
        ticket := (s.entered m q op).mbox.tickets + 1
        slot := m
        written := 0 }) := by
      rw [hu, hw, State.modWeights, State.modWeights, State.modCtx, State.modCtx, State.awaiting_ctx]
    unfold State.weightBegin
    dsimp only
    rw [hroom.accept, ← hwaits, hu']
    rfl
  rw [hbegin]
  dsimp only
  rw [huweights]
  exact ⟨hbusy, hconn, hwlen, hswap⟩

end

/-! ### Images whose bytes are there (13 R378) -/

section
variable {s : State} {x : Nat} {b : Bulk} {d : Deferred}

/-- What the links do not hold, the end of a use of a bulk connection leaves. -/
theorem State.get_bulkTake {β : Type} (get : State → β) (hlinks : ∀ (u : State) l, get { u with links := l } = get u)
    (connId : Nat) (n : Option Nat) : get (s.bulkTake connId n) = get s := by
  have hsend (u : State) (p vl : Nat) (l : List (Nat × Nat × Nat)) : get (u.sendCtl p vl l) = get u :=
    State.get_sendCtl get (fun _ _ _ _ _ _ => hlinks _ _) (fun _ _ _ => hlinks _ _) ..
  have hpay (u : State) : get (u.payBulk connId) = get u := by
    unfold State.payBulk
    split
    · rfl
    next k _ =>
      dsimp only
      split
      · exact hlinks _ _
      · exact (foldl_get_same (get := get) (fun _ _ _ => hsend ..) _).trans (hlinks _ _)
  exact (hpay _).trans (hlinks _ _)

/-- The context whose image has arrived, its bytes taken. -/
def State.imageTaken (s : State) (x : Nat) (d : Deferred) : State :=
  (s.modCtx x (fun c => { c with loading := none })).bulkTake d.key (some d.aux)

theorem State.imageTaken_ctx : (s.imageTaken x d).ctx x = { s.ctx x with loading := none } :=
  (State.get_bulkTake (State.ctx · x) (fun _ _ => rfl) ..).trans (State.ctx_modCtx_self ..)

theorem State.imageTaken_pending : (s.imageTaken x d).pending = s.pending :=
  State.get_bulkTake State.pending (fun _ _ => rfl) ..

theorem exec_imageReceived (hd : s.loadOf x = some d) (hb : s.bulk d.key = some b) (hc : (s.ctx x).phase ≠ .creating)
    (hn : (s.ctx x).phase ≠ .destroying) (hlen : d.aux ≤ b.bytes.length) :
    exec (.imageReceived x) s = done s (s.imageArrived x d b.bytes) := by
  refine congrArg (done s) ?_
  unfold State.imageGo
  rw [hd]
  dsimp only
  rw [hb]
  exact if_pos (by simp [hc, hn, hlen])

theorem State.writeBanks_ctx (l : List Nat) (i : Image) (u : State) :
    (l.foldl (fun s p => s.writeBank x p i) u).ctx x = u.ctx x :=
  foldl_get_same (get := fun u : State => u.ctx x) (put := fun u p => u.writeBank x p i) (fun _ _ _ => rfl) u

/-- Staging leaves the image on the context and every core of it marked. -/
theorem State.stageImage_ctx (dr ba : List (List Nat)) (i : Image) :
    (s.stageImage x dr ba i).ctx x = { s.ctx x with dram := dr, base := ba, staged := some i } := by
  unfold State.stageImage
  dsimp only
  rw [State.mapCores_ctx]
  rw [State.writeBanks_ctx, State.ctx_modCtx_self]
  rfl

theorem State.stageImage_staged (dr ba : List (List Nat)) (i : Image) {p : Nat} (hp : p < (s.ctx x).ncores) :
    ((s.stageImage x dr ba i).core ⟨x, p⟩).seq.staged = true := by
  unfold State.stageImage
  dsimp only
  refine State.mapCores_core (P := fun k => k.seq.staged = true) (fun _ _ => rfl) _ ?_
  rw [State.writeBanks_ctx, State.ctx_modCtx_self]
  exact hp

end

/-- Settles O54: a command waits while its connection's bytes have not come; once they have, what is staged is what the checks
gave; a replay is armed in the record that each row writes. -/
theorem imagesAndWeightsLoad : Obligations.ImagesAndWeightsLoad := by
  intro s m x q b id n
  refine ⟨fun hb hroom hbroken hfresh hbusy hpair => ⟨fun hphase hload h =>
      hb.imageLoad hroom hbroken hfresh hbusy hpair hphase hload h, fun hn hbytes hitem => ⟨fun hphase h => ?_,
      fun hactive hsusp h => ?_⟩⟩, ?_,
    fun hphase => ⟨?_, ?_⟩⟩
  case refine_1 =>
    obtain ⟨hw, hconn, hwlen, hswap⟩ := hb.weightBegin hroom hbroken hbytes hfresh hn hitem (op := 0x41) (.inl rfl) false
    have hpaired : ¬ ((s.entered m q 0x41).ctx q.ctx).paired = true := by
      rw [State.entered_ctx]
      simpa [Ctx.paired] using hpair
    refine h.leadsDone (P := fun t => (t.ctx q.ctx).weights.busy = true ∧ (t.ctx q.ctx).weights.conn = id ∧
      (t.ctx q.ctx).weights.len = n ∧ (t.ctx q.ctx).weights.swap = false) rfl ?_ ⟨hw, hconn, hwlen, hswap⟩
      (fun v n j r hv => by rwa [State.respond_ctx]) (fun _ hv => hv)
    rw [hb.needs hroom.held]
    dsimp only
    rw [if_neg (by rw [State.entered_ctx, hphase]; decide), if_neg hpaired, if_neg (by rw [State.entered_ctx, hbusy]; decide)]
  case refine_2 =>
    obtain ⟨hw, hconn, hwlen, hswap⟩ := hb.weightBegin hroom hbroken hbytes hfresh hn hitem (op := 0x42) (.inr rfl) true
    have hpaired : ¬ (((s.entered m q 0x42).ctx q.ctx).paired || ((s.entered m q 0x42).ctx q.ctx).halo.phase = .suspended) = true := by
      rw [State.entered_ctx]
      simpa [Ctx.paired] using And.intro hpair hsusp
    refine h.leadsDone (P := fun t => (t.ctx q.ctx).weights.busy = true ∧ (t.ctx q.ctx).weights.conn = id ∧
      (t.ctx q.ctx).weights.len = n ∧ (t.ctx q.ctx).weights.swap = true) rfl ?_ ⟨hw, hconn, hwlen, hswap⟩
      (fun v n j r hv => by rwa [State.respond_ctx]) (fun _ hv => hv)
    rw [hb.needs hroom.held]
    dsimp only
    rw [if_neg (by rw [State.entered_ctx, hactive]; decide), if_neg hpaired, if_neg (by rw [State.entered_ctx, hbusy]; decide)]
  case refine_3 =>
    intro d hd hb hc hdes hlen v
    refine ⟨fun st hcheck => ?_, fun dr ba i hcheck => ?_⟩
    case refine_1 =>
      have harrived : s.imageArrived x d b.bytes = v.finish d.ticket st 0 := by
        have hcheck' : (s.imageTaken x d).imageCheck x (b.bytes.take d.aux) = .inr st := hcheck
        unfold State.imageArrived
        dsimp only
        rw [← State.imageTaken, hcheck']
        rfl
      refine ⟨_, (exec_imageReceived hd hb hc hdes hlen).trans ((congrArg (done s) harrived).trans (done_eq ?_)), rfl⟩
      exact (State.get_finish State.pending (fun _ _ => rfl) (fun _ _ => rfl) ..).trans State.imageTaken_pending
    case refine_2 =>
      obtain ⟨u, hu⟩ : ∃ u, u = ((s.imageTaken x d).stageImage x dr ba i).finish d.ticket stOK 0 := ⟨_, rfl⟩
      have harrived : s.imageArrived x d b.bytes = u := by
        have hcheck' : (s.imageTaken x d).imageCheck x (b.bytes.take d.aux) = .inl (dr, ba, i) := hcheck
        unfold State.imageArrived
        dsimp only
        rw [← State.imageTaken, hcheck', hu]
      have hctx : u.ctx x = { s.ctx x with loading := none, dram := dr, base := ba, staged := some i } := by
        rw [hu, State.get_finish (State.ctx · x) (fun _ _ => rfl) (fun _ _ => rfl), State.stageImage_ctx, State.imageTaken_ctx]
      have hcore (p : Nat) (hp : p < (s.ctx x).ncores) : (u.core ⟨x, p⟩).seq.staged = true := by
        rw [hu, State.get_finish (State.core · ⟨x, p⟩) (fun _ _ => rfl) (fun _ _ => rfl)]
        exact State.stageImage_staged dr ba i (by rw [State.imageTaken_ctx]; exact hp)
      refine ⟨_, (exec_imageReceived hd hb hc hdes hlen).trans (congrArg (done s) harrived), ?_⟩
      exact ⟨(congrArg Ctx.staged hctx :), (congrArg Ctx.dram hctx :), (congrArg Ctx.base hctx :), (congrArg Ctx.loading hctx :), hcore⟩
  case refine_4 =>
    intro q' h
    have hx : (s.ctx q'.ctx).phase ≠ .free := by
      show (s.ctx q.ctx).phase ≠ .free
      rw [hphase]
      decide
    have hpayload : q'.payload = q.payload := rfl
    have hidle : (s.ctx q'.ctx).phase = .idle := hphase
    refine (h.completes (i := .replayArmSet m q) (fun u => okay (u.modReplay q'.ctx (fun r => { r with
        armed := true
        orbit := some (leAt q'.payload 0 8)
        pars := (List.range 64).map (fun n => BitVec.ofNat 64 (leAt q'.payload (8 + 8 * n) 8)) }))) rfl
      ((State.needCtx_entered hx _ _).trans (if_neg (by rw [State.entered_ctx, hidle]; decide)))
      (fun _ => rfl) (fun _ => rfl) (fun _ => rfl)).mono fun t ht => ?_
    have hreplay : (t.ctx q.ctx).replay = { (s.ctx q.ctx).replay with
        armed := true
        orbit := some n
        pars := (List.range 64).map (fun n => BitVec.ofNat 64 (leAt q.payload (8 + 8 * n) 8)) } := by
      rw [ht, State.respond_ctx]
      exact (congrArg Ctx.replay (State.ctx_modCtx_self ..)).trans (by rw [State.entered_ctx]; rfl)
    rw [hreplay]
    exact ⟨rfl, rfl, fun k hk => by simp [hk]⟩
  case refine_5 =>
    intro q' l h hkinds hroom
    have hx : (s.ctx q'.ctx).phase ≠ .free := by
      show (s.ctx q.ctx).phase ≠ .free
      rw [hphase]
      decide
    have hidle : (s.ctx q'.ctx).phase = .idle := hphase
    have hargs : ¬ (l.any (fun e => leAt e 0 1 < 2 || decide (4 < leAt e 0 1))) = true := by
      intro hany
      obtain ⟨e, he, hbad⟩ := List.any_eq_true.mp hany
      obtain ⟨hmin, hmax⟩ := hkinds e he
      simp only [Bool.or_eq_true, decide_eq_true_eq] at hbad
      omega
    refine (h.completes (i := .replayArmAppend m q) (fun u => okay (u.modReplay q'.ctx (fun r => { r with
        armed := true
        entries := r.entries ++ l }))) rfl
      ((State.needCtx_entered hx _ _).trans ((if_neg (by rw [State.entered_ctx, hidle]; decide)).trans ((if_neg hargs).trans
        (if_neg (by rw [State.entered_ctx]; exact Nat.not_lt.mpr hroom)))))
      (fun _ => rfl) (fun _ => rfl) (fun _ => rfl)).mono fun t ht => ?_
    rw [ht, State.respond_ctx]
    exact (congrArg (fun c : Ctx => c.replay.entries) (State.ctx_modCtx_self ..)).trans (by rw [State.entered_ctx]; rfl)

end Sys2Proof.Machine
end

section
/-! Circuits, tags and broken connections (10 R264, R265; 12 R339): what telling the far ends, freeing tags and breaking a
connection leave of the state. -/
namespace Sys2Proof.Machine
open Sys2Proof

/-! ### Flits, tags and circuits -/

/-- A circuit gives up the tags it holds. -/
def State.freeCircuit (s : State) (c : Circuit) : State := c.tags.foldl (fun s t => s.freeTag t.1 t.2) s

/-- The links without the circuits that a test accepts. -/
def State.lessCircuits (s : State) (test : Circuit → Bool) : State :=
  s.modLinks (fun l => { l with circuits := l.circuits.filter (fun c => !test c) })

theorem State.dropCircuits_eq (s : State) (test : Circuit → Bool) :
    s.dropCircuits test = (s.links.circuits.filter test).foldl State.freeCircuit (s.lessCircuits test) := rfl

section
variable {β : Type} (get : State → β)
  (hsends : ∀ (u : State) p fseq ftype m beat, get (u.modPort p (fun q => q.sends fseq ftype m beat)) = get u)
  (hbundle : ∀ (u : State) b v, get (u.setBundle b v) = get u)
include hbundle

theorem State.get_freeTag (s : State) (b t : Nat) : get (s.freeTag b t) = get s := hbundle _ _ _

theorem State.get_freeCircuits (l : List Circuit) (s : State) : get (l.foldl State.freeCircuit s) = get s := by
  have hone (c : Circuit) (u : State) : get (u.freeCircuit c) = get u :=
    foldl_get_same (get := get) (put := fun (u : State) (t : Nat × Nat) => u.freeTag t.1 t.2)
      (fun t _ v => State.get_freeTag get hbundle v t.1 t.2) u
  exact foldl_get_same (get := get) (fun c _ u => hone c u) s

/-- A tag taken changes its bundle's record alone. -/
theorem State.get_takeTag {s u : State} {p t : Nat} (h : s.takeTag p = some (u, t)) : get u = get s := by
  unfold State.takeTag at h
  dsimp only at h
  split at h
  · cases h
    exact hbundle _ _ _
  · cases h

/-- Circuits dropped leave all but the list of circuits and the tags of bundles. -/
theorem State.get_dropCircuits (hcircuits : ∀ (u : State) l, get (u.modLinks (fun v => { v with circuits := l })) = get u)
    (s : State) (test : Circuit → Bool) : get (s.dropCircuits test) = get s := by
  rw [State.dropCircuits_eq, State.get_freeCircuits get hbundle]
  exact hcircuits s (s.links.circuits.filter (fun c => !test c))

include hsends

/-- The far ends of a connection learn of it by flits alone. -/
theorem State.get_tellFar (s : State) (connId kind cause : Nat) (except : Option Nat) : get (s.tellFar connId kind cause except) = get s :=
  foldl_get_same (get := get) (fun _ _ _ => State.get_sendCtl get hsends hbundle ..) s

end

/-- The circuits that a test does not accept are left. -/
theorem State.circuits_dropCircuits (s : State) (test : Circuit → Bool) :
    (s.dropCircuits test).links.circuits = s.links.circuits.filter (fun c => !test c) := by
  rw [State.dropCircuits_eq]
  exact State.get_freeCircuits (fun u : State => u.links.circuits) (fun _ _ _ => rfl) _ _

theorem State.circuits_tellFar (s : State) (connId kind cause : Nat) (except : Option Nat) :
    (s.tellFar connId kind cause except).links.circuits = s.links.circuits :=
  State.get_tellFar (fun u : State => u.links.circuits) (fun _ _ _ _ _ _ => rfl) (fun _ _ _ => rfl) ..

/-! ### Breaking (10 R264) -/

theorem State.get_modBinds {γ : Type} (kc : Ctx → γ) (h : ∀ (c : Ctx) l, kc { c with binds := l } = kc c) (u : State) (x y : Nat)
    (f : List Bind → List Bind) : kc ((u.modCtx x (fun c => { c with binds := f c.binds })).ctx y) = kc (u.ctx y) :=
  State.get_modCtx kc (f := fun c => { c with binds := f c.binds }) (fun c => h c _) u x y

/-- The ends of a connection in one context break, those of the cores that stand aside excepted. -/
def State.breakCtx (connId : Nat) (keep : Nat → Nat → Bool) : State → Nat → State := fun s x =>
  let s := s.modCtx x (fun c => { c with binds := c.binds.map (fun b => if keep x b.core then b else b.breakSend connId) })
  (s.ctx x).cores.foldl (fun s p =>
    if keep x p then s else s.modCoreOf x p (fun c => c.breakEnds (fun _ _ id => id = connId))) s

/-- The openings of which some peer has acknowledged learn of the break. -/
def State.breakOpenings (connId : Nat) (keep : Nat → Nat → Bool) (s : State) : State :=
  s.modLinks (fun v => { v with openings := s.links.openings.map (fun o =>
    if o.waiting.length < o.bind.peers.length && !keep o.ctx o.bind.core then { o with bind := o.bind.breakSend connId } else o) })

theorem State.breakConn_eq (s : State) (connId : Nat) (keep : Nat → Nat → Bool) :
    s.breakConn connId keep = ((List.range 16).foldl (State.breakCtx connId keep) s).breakOpenings connId keep := by
  unfold State.breakConn State.breakCtx State.breakOpenings State.modLinks
  rfl

/-- The bulk connection of a connection is marked as broken. -/
def State.bulkBroken (s : State) (connId : Nat) : State :=
  s.modLinks (fun l => { l with bulks := l.bulks.map (fun b => if b.connId = connId then { b with broken := true } else b) })

theorem State.breakId_eq (s : State) (connId cause : Nat) (except : Option Nat) : s.breakId connId cause except =
    ((((s.tellFar connId 6 cause except).breakConn connId (fun _ _ => false)).dropCircuits
      (fun c => c.connId = connId)).bulkBroken connId) := by
  unfold State.breakId State.bulkBroken
  rfl

section
variable {β : Type} (get : State → β)

/-- What neither the ends of cores, the ends that wait to bind nor the openings hold, the break of a connection leaves. -/
theorem State.get_breakConn (hbinds : ∀ (u : State) x (f : List Bind → List Bind), get (u.modCtx x (fun c => { c with binds := f c.binds })) = get u)
    (hends : ∀ (u : State) l t, get (u.modCore l (fun k => k.breakEnds t)) = get u)
    (hopenings : ∀ (u : State) l, get (u.modLinks (fun v => { v with openings := l })) = get u) (s : State) (connId : Nat)
    (keep : Nat → Nat → Bool) : get (s.breakConn connId keep) = get s := by
  have hctx (x : Nat) (u : State) : get (u.breakCtx connId keep x) = get u := by
    unfold State.breakCtx
    dsimp only
    refine (foldl_get_same (get := get) (fun p _ v => ?_) _).trans
      (hbinds u x (fun l => l.map (fun b => if keep x b.core then b else b.breakSend connId)))
    split
    · rfl
    · exact hends v ((v.ctx x).logical p) (fun _ _ id => id = connId)
  have hall : get ((List.range 16).foldl (State.breakCtx connId keep) s) = get s :=
    foldl_get_same (get := get) (fun x _ u => hctx x u) s
  rw [State.breakConn_eq]
  exact (hopenings _ _).trans hall

variable (hsends : ∀ (u : State) p fseq ftype m beat, get (u.modPort p (fun q => q.sends fseq ftype m beat)) = get u)
  (hbundle : ∀ (u : State) b v, get (u.setBundle b v) = get u)
  (hbinds : ∀ (u : State) x (f : List Bind → List Bind), get (u.modCtx x (fun c => { c with binds := f c.binds })) = get u)
  (hends : ∀ (u : State) l t, get (u.modCore l (fun k => k.breakEnds t)) = get u)
  (hopenings : ∀ (u : State) l, get (u.modLinks (fun v => { v with openings := l })) = get u)
  (hcircuits : ∀ (u : State) l, get (u.modLinks (fun v => { v with circuits := l })) = get u)
  (hbulks : ∀ (u : State) l, get (u.modLinks (fun v => { v with bulks := l })) = get u)
include hsends hbundle hbinds hends hopenings hcircuits hbulks

theorem State.get_breakId (s : State) (connId cause : Nat) (except : Option Nat) : get (s.breakId connId cause except) = get s := by
  have hmarked (u : State) : get (u.bulkBroken connId) = get u := hbulks u _
  rw [State.breakId_eq, hmarked, State.get_dropCircuits get hbundle hcircuits, State.get_breakConn get hbinds hends hopenings,
    State.get_tellFar get hsends hbundle]

end

section
variable (s : State) (connId : Nat)

theorem State.circuits_breakConn (keep : Nat → Nat → Bool) : (s.breakConn connId keep).links.circuits = s.links.circuits :=
  State.get_breakConn (fun u : State => u.links.circuits) (fun _ _ _ => rfl) (fun _ _ _ => rfl) (fun _ _ => rfl) ..

theorem State.circuits_breakId (cause : Nat) (except : Option Nat) :
    (s.breakId connId cause except).links.circuits = s.links.circuits.filter (fun c => !decide (c.connId = connId)) := by
  have hmarked (u : State) : (u.bulkBroken connId).links.circuits = u.links.circuits := rfl
  rw [State.breakId_eq, hmarked, State.circuits_dropCircuits, State.circuits_breakConn, State.circuits_tellFar]

/-- The bulk connection of a broken connection is found broken. -/
theorem State.bulk_breakId (cause : Nat) (except : Option Nat) :
    (s.breakId connId cause except).bulk connId = (s.bulk connId).map (fun k => { k with broken := true }) := by
  have hmarked (u : State) : (u.bulkBroken connId).bulk connId = (u.bulk connId).map (fun k => { k with broken := true }) := by
    refine (State.bulk_modLinks (f := fun b => if b.connId = connId then { b with broken := true } else b)
      (fun b => by split <;> rfl) u connId).trans ?_
    cases hb : u.bulk connId with
    | none => rfl
    | some b =>
      have hb' : u.links.bulks.find? (fun k => k.connId = connId) = some b := hb
      exact congrArg some (if_pos (of_decide_eq_true (List.find?_some (p := fun k : Bulk => decide (k.connId = connId)) hb')))
  have hdrop (u : State) (t : Circuit → Bool) : (u.dropCircuits t).bulk connId = u.bulk connId :=
    State.get_dropCircuits (fun u : State => u.bulk connId) (fun _ _ _ => rfl) (fun _ _ => rfl) u t
  have hbreak (u : State) : (u.breakConn connId (fun _ _ => false)).bulk connId = u.bulk connId :=
    State.get_breakConn (fun u : State => u.bulk connId) (fun _ _ _ => rfl) (fun _ _ _ => rfl) (fun _ _ => rfl) u _ _
  have htell (u : State) : (u.tellFar connId 6 cause except).bulk connId = u.bulk connId :=
    State.get_tellFar (fun u : State => u.bulk connId) (fun _ _ _ _ _ _ => rfl) (fun _ _ _ => rfl) ..
  rw [State.breakId_eq, hmarked, hdrop, hbreak, htell]

end

/-! ### What a broken connection's bulk bytes fed (13 R378) -/

section
variable {s : State} {id : Nat} {k : Bulk}

/-- Nothing waits for the bytes of a connection: neither a read of the ledger, a deferred command nor a load of weights. -/
structure State.Unread (s : State) (id : Nat) (k : Bulk) : Prop where
  reads : s.ledger.reads = []
  deferred : ∀ d ∈ s.mbox.deferred, d.key ≠ id
  weights : (s.ctx k.ctx).weights.busy = false ∨ (s.ctx k.ctx).weights.conn ≠ id

theorem State.Unread.breakId (h : s.Unread id k) (cause : Nat) (except : Option Nat) :
    (s.breakId id cause except).Unread id { k with broken := true } := by
  obtain ⟨hreads, hdef, hw⟩ := h
  have hledger : (s.breakId id cause except).ledger = s.ledger :=
    State.get_breakId State.ledger (fun _ _ _ _ _ _ => rfl) (fun _ _ _ => rfl) (fun _ _ _ => rfl) (fun _ _ _ => rfl)
      (fun _ _ => rfl) (fun _ _ => rfl) (fun _ _ => rfl) ..
  have hmbox : (s.breakId id cause except).mbox = s.mbox :=
    State.get_breakId State.mbox (fun _ _ _ _ _ _ => rfl) (fun _ _ _ => rfl) (fun _ _ _ => rfl) (fun _ _ _ => rfl)
      (fun _ _ => rfl) (fun _ _ => rfl) (fun _ _ => rfl) ..
  have hweights : ((s.breakId id cause except).ctx k.ctx).weights = (s.ctx k.ctx).weights :=
    State.get_breakId (fun u : State => (u.ctx k.ctx).weights) (fun _ _ _ _ _ _ => rfl) (fun _ _ _ => rfl)
      (fun u x f => State.get_modBinds Ctx.weights (fun _ _ => rfl) u x k.ctx f) (fun _ _ _ => rfl)
      (fun _ _ => rfl) (fun _ _ => rfl) (fun _ _ => rfl) ..
  exact ⟨by rw [hledger]; exact hreads, by rw [hmbox]; exact hdef, by rw [hweights]; exact hw⟩

/-- The event of a broken connection for whose bytes nothing waits lets the ledger's reads go on, of which there are none. -/
theorem State.bulkEvent_broken (hk : s.bulk id = some k) (hb : k.broken = true) (h : s.Unread id k) :
    s.bulkEvent id = s.serveReads := by
  have hbusy : ¬ ((s.ctx k.ctx).weights.busy && (s.ctx k.ctx).weights.conn = id) = true := by
    rcases h.weights with h | h <;> simp [h]
  have hnone : s.mbox.deferred.filter (fun d => d.key = id && [0x40, 0x9A, 0xA0].contains d.opcode) = [] :=
    List.filter_eq_nil_iff.mpr fun d hin => by simp [h.deferred d hin]
  unfold State.bulkEvent
  rw [hk]
  dsimp only
  rw [if_neg hbusy, hnone, hb]
  rfl

/-- What neither the ledger, the flash nor the events hold, the reads of an empty list leave. -/
theorem State.get_serveReads {β : Type} (get : State → β) (hflash : ∀ (u : State) v, get { u with flash := v } = get u)
    (hledger : ∀ (u : State) v, get { u with ledger := v } = get u) (hraise : ∀ (u : State) c x n d, get (u.raise c x n d) = get u)
    (h : s.ledger.reads = []) : get s.serveReads = get s := by
  rw [State.serveReads_none h, State.get_ledgerHigh get (fun _ _ => hledger _ _) hraise]
  exact (hledger { s with flash := { s.flash with spill := s.flash.spill.filter (fun b => !s.batchDone b) } }
    { s.ledger with reads := [], held := s.ledger.held.filter (fun b => !s.batchDone b) }).trans (hflash s _)

/-- A connection for whose bytes nothing waits breaks: beside its ends, its circuits and its bulk connection, the ledger's
batches that are done with go. -/
theorem State.get_breakWith {β : Type} (get : State → β)
    (hsends : ∀ (u : State) p fseq ftype m beat, get (u.modPort p (fun q => q.sends fseq ftype m beat)) = get u)
    (hbundle : ∀ (u : State) b v, get (u.setBundle b v) = get u)
    (hbinds : ∀ (u : State) x (f : List Bind → List Bind), get (u.modCtx x (fun c => { c with binds := f c.binds })) = get u)
    (hends : ∀ (u : State) l t, get (u.modCore l (fun k => k.breakEnds t)) = get u)
    (hopenings : ∀ (u : State) l, get (u.modLinks (fun v => { v with openings := l })) = get u)
    (hcircuits : ∀ (u : State) l, get (u.modLinks (fun v => { v with circuits := l })) = get u)
    (hbulks : ∀ (u : State) l, get (u.modLinks (fun v => { v with bulks := l })) = get u)
    (hflash : ∀ (u : State) v, get { u with flash := v } = get u)
    (hledger : ∀ (u : State) v, get { u with ledger := v } = get u) (hraise : ∀ (u : State) c x n d, get (u.raise c x n d) = get u)
    (h : ∀ k, s.bulk id = some k → s.Unread id k) (cause : Nat) (except : Option Nat) :
    get (s.breakWith id cause except) = get s := by
  have hbroken : get (s.breakId id cause except) = get s :=
    State.get_breakId get hsends hbundle hbinds hends hopenings hcircuits hbulks ..
  rw [State.breakWith, ← hbroken]
  cases hk : s.bulk id with
  | none =>
    have hnone : (s.breakId id cause except).bulk id = none := by rw [State.bulk_breakId, hk]; rfl
    refine congrArg get ?_
    unfold State.bulkEvent
    rw [hnone]
  | some k =>
    have hsome : (s.breakId id cause except).bulk id = some { k with broken := true } := by rw [State.bulk_breakId, hk]; rfl
    have hunread : (s.breakId id cause except).Unread id { k with broken := true } := (h k hk).breakId cause except
    rw [State.bulkEvent_broken hsome rfl hunread, State.get_serveReads get hflash hledger hraise hunread.reads]

end

end Sys2Proof.Machine
end

section
/-! The halo partner (15 R460-R469): the mirror circuit, pairing, resumption and takeover, and the obligation O57. -/
namespace Sys2Proof.Machine
open Sys2Proof

/-! ### The mirror circuit ends -/

section
variable {s : State} {x : Nat}

theorem State.boundaryGo_none (h : (s.ctx x).item = 0) : s.boundaryGo x = s := by
  unfold State.boundaryGo State.boundaryItems
  rw [h]
  rfl

/-- A context at no boundary has none to go on with. -/
theorem State.mirrorFree_none (h : (s.ctx x).item = 0) : s.mirrorFree x = s := by
  unfold State.mirrorFree
  dsimp only
  rw [State.boundaryGo_none h, ite_self]

/-- The tags of an opening's peers are given up, and the command that waited for it fails. -/
def State.openingGone (s : State) (o : Opening) : State :=
  (o.bind.peers.foldl (fun s q => s.freeTag (s.bundleOf q.port) q.tag) s).finish o.bind.ticket stHaloState 0

section
variable {β : Type} (get : State → β)
  (hbundle : ∀ (u : State) b v, get (u.setBundle b v) = get u)
  (hcircuits : ∀ (u : State) l, get (u.modLinks (fun v => { v with circuits := l })) = get u)
  (hopenings : ∀ (u : State) l, get (u.modLinks (fun v => { v with openings := l })) = get u)
  (hbulks : ∀ (u : State) l, get (u.modLinks (fun v => { v with bulks := l })) = get u)
  (hmbox : ∀ (u : State) b, get { u with mbox := b } = get u)
  (hevents : ∀ (u : State) e, get { u with events := e } = get u)

include hbundle hmbox hevents in
theorem State.get_openingGone (s : State) (o : Opening) : get (s.openingGone o) = get s :=
  (State.get_finish get hmbox hevents ..).trans
    (foldl_get_same (get := get) (put := fun (s : State) (q : Peer) => s.freeTag (s.bundleOf q.port) q.tag)
      (fun _ _ u => State.get_freeTag get hbundle u _ _) s)

/-- The links without an opening and a bulk connection of the mirror circuit. -/
def State.mirrorLinks (s t : State) (x : Nat) : State :=
  (t.modLinks (fun l => { l with openings := t.links.openings.filter (fun o =>
    !(o.ctx = x && o.bind.core = 2047 && o.bind.connId = (s.ctx x).halo.pairId)) })).modLinks (fun l => { l with
      bulks := t.links.bulks.filter (fun b => !(b.connId = (s.ctx x).halo.pairId && b.ctx = x)) })

theorem State.dropMirror_eq (s : State) (x : Nat) : s.dropMirror x = s.mirrorLinks
    (((s.links.openings.filter (fun o => o.ctx = x && o.bind.core = 2047 && o.bind.connId = (s.ctx x).halo.pairId)).foldl
      State.openingGone s).dropCircuits (fun c => c.connId = (s.ctx x).halo.pairId && c.dest = .bulk x)) x := by
  unfold State.dropMirror State.mirrorLinks
  rfl

include hbundle hcircuits hopenings hbulks hmbox hevents

/-- The end of the mirror circuit leaves all but links, mailbox and events. -/
theorem State.get_dropMirror (s : State) (x : Nat) : get (s.dropMirror x) = get s := by
  have hlinks (t : State) : get (s.mirrorLinks t x) = get t := (hbulks _ _).trans (hopenings t _)
  rw [State.dropMirror_eq, hlinks, State.get_dropCircuits get hbundle hcircuits]
  exact foldl_get_same (get := get) (fun o _ u => State.get_openingGone get hbundle hmbox hevents u o) s

theorem State.get_endMirror (hsends : ∀ (u : State) p fseq ftype m beat, get (u.modPort p (fun q => q.sends fseq ftype m beat)) = get u)
    (s : State) (x kind : Nat) : get (s.endMirror x kind) = get s :=
  (State.get_dropMirror get hbundle hcircuits hopenings hbulks hmbox hevents _ x).trans
    (State.get_tellFar get hsends hbundle ..)

end
theorem State.dropMirror_ctx (y : Nat) : (s.dropMirror x).ctx y = s.ctx y :=
  State.get_dropMirror (State.ctx · y) (fun _ _ _ => rfl) (fun _ _ => rfl) (fun _ _ => rfl) (fun _ _ => rfl) (fun _ _ => rfl)
    (fun _ _ => rfl) s x

theorem State.endMirror_ctx (kind y : Nat) : (s.endMirror x kind).ctx y = s.ctx y :=
  State.get_endMirror (State.ctx · y) (fun _ _ _ => rfl) (fun _ _ => rfl) (fun _ _ => rfl) (fun _ _ => rfl) (fun _ _ => rfl)
    (fun _ _ => rfl) (fun _ _ _ _ _ _ => rfl) s x kind

theorem State.circuits_dropMirror {c : Circuit} (h : c ∈ (s.dropMirror x).links.circuits) : c ∈ s.links.circuits := by
  have hgone (l : List Opening) (u : State) : (l.foldl State.openingGone u).links.circuits = u.links.circuits :=
    foldl_get_same (get := fun u : State => u.links.circuits)
      (fun o _ u => State.get_openingGone (fun u : State => u.links.circuits) (fun _ _ _ => rfl) (fun _ _ => rfl) (fun _ _ => rfl) u o) u
  have hlinks (t : State) : (s.mirrorLinks t x).links.circuits = t.links.circuits := rfl
  rw [State.dropMirror_eq, hlinks, State.circuits_dropCircuits, hgone] at h
  exact (List.mem_filter.mp h).1

/-- An end of a pairing is unpaired, its context at no boundary (15 R460). -/
theorem State.unpair_ctx (h : (s.ctx x).item = 0) (y : Nat) : (s.unpair x).ctx y = (s.modHalo x (fun _ => {})).ctx y ∧
    ∀ c ∈ (s.unpair x).links.circuits, c ∈ s.links.circuits := by
  obtain ⟨u, hu⟩ : ∃ u, u = ((s.dropMirror x).modHalo x (fun _ => {})).finish (s.ctx x).halo.ticket stHaloState 0 := ⟨_, rfl⟩
  have hctx (z : Nat) : u.ctx z = (s.modHalo x (fun _ => {})).ctx z := by
    rw [hu, State.get_finish (State.ctx · z) (fun _ _ => rfl) (fun _ _ => rfl)]
    by_cases hz : z = x
    · subst hz
      rw [State.modHalo, State.ctx_modCtx_self, State.dropMirror_ctx, State.modHalo, State.ctx_modCtx_self]
    · rw [State.modHalo, State.ctx_modCtx_other _ _ hz, State.dropMirror_ctx, State.modHalo, State.ctx_modCtx_other _ _ hz]
  have hcircuits : u.links = (s.dropMirror x).links := by
    rw [hu, State.get_finish State.links (fun _ _ => rfl) (fun _ _ => rfl)]
    rfl
  have hfree : s.unpair x = u := by
    refine (congrArg (State.mirrorFree · x) hu.symm).trans (State.mirrorFree_none ?_)
    rw [hctx, State.modHalo, State.ctx_modCtx_self]
    exact h
  rw [hfree]
  exact ⟨hctx y, fun c hc => State.circuits_dropMirror (hcircuits ▸ hc)⟩

/-- An active pairing is suspended at this end, its context at no boundary. -/
theorem State.suspendHere_ctx (h : (s.ctx x).item = 0) (y : Nat) : (s.suspendHere x).ctx y =
      (s.modHalo x (fun h => { h with phase := .suspended, out := [], ckptOpen := false })).ctx y ∧
    ∀ c ∈ (s.suspendHere x).links.circuits, c ∈ s.links.circuits := by
  obtain ⟨u, hu⟩ : ∃ u, u = ((s.dropMirror x).modHalo x (fun h => { h with phase := .suspended, out := [], ckptOpen := false })).raise
    0x121 (some x) x (s.ctx x).halo.pairId := ⟨_, rfl⟩
  have hctx (z : Nat) : u.ctx z = (s.modHalo x (fun h => { h with phase := .suspended, out := [], ckptOpen := false })).ctx z := by
    rw [hu, State.ctx_raise]
    by_cases hz : z = x
    · subst hz
      rw [State.modHalo, State.ctx_modCtx_self, State.dropMirror_ctx, State.modHalo, State.ctx_modCtx_self]
    · rw [State.modHalo, State.ctx_modCtx_other _ _ hz, State.dropMirror_ctx, State.modHalo, State.ctx_modCtx_other _ _ hz]
  have hcircuits : u.links = (s.dropMirror x).links := by rw [hu]; rfl
  have hfree : s.suspendHere x = u := by
    refine (congrArg (State.mirrorFree · x) hu.symm).trans (State.mirrorFree_none ?_)
    rw [hctx, State.modHalo, State.ctx_modCtx_self]
    exact h
  rw [hfree]
  exact ⟨hctx y, fun c hc => State.circuits_dropMirror (hcircuits ▸ hc)⟩

/-! ### The mirror circuit opens (15 R460, R468) -/

theorem State.openings_sendOpen (b : Bind) (q : Peer) : (s.sendOpen b q).links.openings = s.links.openings := by
  unfold State.sendOpen
  split
  · rfl
  · exact State.get_sendCtl (fun u : State => u.links.openings) (fun _ _ _ _ _ _ => rfl) (fun _ _ _ => rfl) ..

theorem State.sendOpen_ctx (b : Bind) (q : Peer) (y : Nat) : (s.sendOpen b q).ctx y = s.ctx y := by
  unfold State.sendOpen
  split
  · rfl
  · exact State.get_sendCtl (State.ctx · y) (fun _ _ _ _ _ _ => rfl) (fun _ _ _ => rfl) ..

/-- A tag is left on the halo port's bundle. -/
def State.tagLeft (s : State) : Bool := ((List.range 20).find? (fun p => s.role p = 5)).any (fun p =>
  decide (lowestFree 1 (s.bundle (s.bundleOf p)).tags < 65536))

theorem State.tagLeft_iff : s.tagLeft = true ↔ ((List.range 20).find? (fun p => s.role p = 5)).bind (fun p => s.takeTag p) ≠ none := by
  unfold State.tagLeft State.takeTag
  cases (List.range 20).find? (fun p => s.role p = 5) with
  | none => simp
  | some p => simp

/-- With a tag left on the halo port's bundle, the opening stands and no context has changed. -/
theorem State.openMirror_opens (hleft : s.tagLeft = true)
    (ticket : Nat) : (∀ y, (s.openMirror x ticket).ctx y = s.ctx y) ∧ ∃ o ∈ (s.openMirror x ticket).links.openings,
      o.ctx = x ∧ o.bind.core = 2047 ∧ o.bind.send = true ∧ o.bind.connId = (s.ctx x).halo.pairId := by
  have h := State.tagLeft_iff.mp hleft
  unfold State.openMirror
  dsimp only
  cases hp : (List.range 20).find? (fun p => s.role p = 5) with
  | none => exact absurd (by rw [hp]; rfl) h
  | some p =>
    rw [hp, Option.bind_some] at h
    cases ht : s.takeTag p with
    | none => exact absurd ht h
    | some r =>
      obtain ⟨u, tag⟩ := r
      rw [Option.bind_some, ht]
      dsimp only [Option.map_some]
      refine ⟨fun y => ?_, ?_⟩
      · rw [State.sendOpen_ctx]
        have hu := State.get_takeTag (State.ctx · y) (fun _ _ _ => rfl) ht
        exact hu
      · rw [State.openings_sendOpen]
        exact ⟨_, List.mem_append_right _ (List.mem_singleton_self _), rfl, rfl, rfl, rfl⟩

end

/-! ### Commands that ask the partner -/

section
variable {s : State} {m : Nat} {q : Cmd} {op key aux : Nat} {data : List Byte}

/-- What neither the slots nor the lease's end hold, the start of a service leaves. -/
theorem State.get_served {β : Type} (get : State → β) (h : ∀ (u : State) l e,
    get { u with mbox := { u.mbox with slots := l, leaseEnd := e } } = get u) : get (s.entered m q op) = get s := by
  unfold State.entered State.renew
  split
  · exact h s _ _
  · exact h s _ s.mbox.leaseEnd

/-- What neither the slots, the tickets nor the deferred commands hold, deferral leaves. -/
theorem State.get_deferred {β : Type} (get : State → β) (h : ∀ (u : State) l n d,
    get { u with mbox := { u.mbox with slots := l, tickets := n, deferred := d } } = get u) :
    get (s.defer m q op key aux data).1 = get s := h s _ _ _

/-- The state in which a command has been deferred and the partner has answered for its side. -/
def State.asked (s : State) (m : Nat) (q : Cmd) (op : Nat) : State :=
  (((s.entered m q op).defer m q op q.ctx 0 []).1.askPartner 0).1

theorem State.asked_ctx (y : Nat) : (s.asked m q op).ctx y = s.ctx y := by
  have hask (u : State) : (u.askPartner 0).1.ctx y = u.ctx y := rfl
  rw [State.asked, hask, State.get_defer _ _ _ _ _ _ _ (State.ctx · y) fun _ _ => rfl, State.entered_ctx]

theorem State.asked_tagLeft : (s.asked m q op).tagLeft = s.tagLeft := by
  have hask (u : State) : (u.askPartner 0).1.tagLeft = u.tagLeft := rfl
  rw [State.asked, hask, State.get_deferred State.tagLeft (fun _ _ _ _ => rfl), State.get_served State.tagLeft (fun _ _ _ => rfl)]

theorem State.deferred_draws : ((s.entered m q op).defer m q op key aux data).1.power.draws = s.power.draws :=
  (State.get_defer _ _ _ _ _ _ _ (fun u : State => u.power.draws) fun _ _ => rfl).trans
    (State.get_entered s m q op (fun u : State => u.power.draws) fun _ _ => rfl)

theorem State.deferred_agrees {pair : Nat} : (((s.entered m q op).defer m q op key aux data).1.askPartner pair).2 =
    Config.partnerAgrees pair s.power.draws :=
  congrArg (Config.partnerAgrees pair) State.deferred_draws

/-- The record of a context's pairing, and its mirror circuit being opened. -/
def State.MirrorOpens (x : Nat) (h : Halo) (id : Nat) (t : State) : Prop :=
  (t.ctx x).halo = h ∧ ∃ o ∈ t.links.openings, o.ctx = x ∧ o.bind.core = 2047 ∧ o.bind.send = true ∧ o.bind.connId = id

theorem State.MirrorOpens.respond {x id m n : Nat} {h : Halo} {r : Reply} {u : State} (hu : u.MirrorOpens x h id) :
    (u.respond m n r).MirrorOpens x h id := by
  have hlinks : (u.respond m n r).links = u.links := State.get_respond u m n r State.links fun _ _ => rfl
  unfold State.MirrorOpens
  rwa [State.respond_ctx, hlinks]

/-- The partner has agreed and a tag is left: the record is written and the circuit is being opened. -/
theorem State.openMirror_after {u : State} {x ticket : Nat} {h : Halo} (hctx : (u.ctx x).halo = h) (hleft : u.tagLeft = true) :
    (u.openMirror x ticket).MirrorOpens x h h.pairId := by
  obtain ⟨hall, ho⟩ := State.openMirror_opens hleft ticket
  unfold State.MirrorOpens
  rw [hall, hctx]
  rw [hctx] at ho
  exact ⟨rfl, ho⟩

/-- The record of a pairing that HALO_PAIR makes. -/
def mirrorRecord (q : Cmd) : Halo where
  phase := .active
  partner := leAt q.payload 0 3
  pairId := argFld q 0 32
  regions := regionsAt q.payload 16 (leAt q.payload 3 1)
  buffers := [bufferAt q.payload 8]

/-- HALO_PAIR, the conditions here met (15 R460). -/
theorem Serves.haloPair {n code : Nat} {regions : List Region} {buffers : List (Nat × Nat)} (hroom : Roomy s q)
    (hcode : code = leAt q.payload 0 3) (hn : n = leAt q.payload 3 1) (hregions : regions = regionsAt q.payload 16 n)
    (hbuffers : buffers = [bufferAt q.payload 8])
    (h : Serves s m q { op := 0x95, who := .owner, ctx := true, arg := 2 ^ 32 - 1, len := pairLen q 16 })
    (hok : regionsOk n regions = true) (hstandby : (s.ctx q.ctx).halo.standby = false)
    (hpair : s.pairOk q.ctx code regions buffers = true) :
    (Config.partnerAgrees (argFld q 0 32) s.power.draws = true → s.tagLeft = true → Completes (.haloPair m q) s
      (State.MirrorOpens q.ctx (mirrorRecord q) (argFld q 0 32))) ∧
    (Config.partnerAgrees (argFld q 0 32) s.power.draws = false → Completes (.haloPair m q) s (fun t =>
      (t.ctx q.ctx).halo = (s.ctx q.ctx).halo)) := by
  have hpair' : (s.entered m q 0x95).pairOk q.ctx code regions buffers = true :=
    (State.get_served (State.pairOk · q.ctx code regions buffers) fun _ _ _ => rfl).trans hpair
  have hserve (go : State → Nat → State) : (s.entered m q 0x95).needCtx q.ctx (
      if !regionsOk n regions then refuse (s.entered m q 0x95) stBadArg
      else if ((s.entered m q 0x95).ctx q.ctx).halo.standby || !(s.entered m q 0x95).pairOk q.ctx code regions buffers then
        refuse (s.entered m q 0x95) stHaloState
      else (s.entered m q 0x95).accept m q 0x95 q.ctx 0 [] go) = Defers m q 0x95 q.ctx 0 [] go (s.entered m q 0x95) := by
    rw [State.needCtx_entered hroom.held, hok, hpair', State.entered_ctx, hstandby, hroom.accept]
    rfl
  subst hcode hn hregions hbuffers
  refine ⟨fun hagree hleft => ?_, fun hagree => ?_⟩
  · refine h.bringsAs _ rfl (hserve _) ?_ (fun _ _ _ _ => State.MirrorOpens.respond) (fun _ hu => hu)
    obtain ⟨u, hu⟩ : ∃ u, u = ((s.asked m q 0x95).modHalo q.ctx (fun _ => mirrorRecord q)).raise 0x120 (some q.ctx) q.ctx
      (argFld q 0 32) := ⟨_, rfl⟩
    have hctx : (u.ctx q.ctx).halo = mirrorRecord q := by rw [hu, State.ctx_raise, State.modHalo, State.ctx_modCtx_self]
    have hkept (v : State) (f : Halo → Halo) (id : Nat) : ((v.modHalo q.ctx f).raise 0x120 (some q.ctx) q.ctx id).tagLeft = v.tagLeft := rfl
    have hopens := State.openMirror_after (u := u) (ticket := (s.entered m q 0x95).mbox.tickets + 1) hctx
      (by rw [hu, hkept, State.asked_tagLeft, hleft])
    rw [hu] at hopens
    rw [Defers]
    dsimp only
    rw [if_pos (State.deferred_agrees.trans hagree)]
    exact hopens
  · refine h.bringsAs (P := fun t => (t.ctx q.ctx).halo = (s.ctx q.ctx).halo) _ rfl (hserve _) ?_
      (fun u j n r hu => by rwa [State.respond_ctx]) (fun _ hu => hu)
    rw [Defers]
    dsimp only
    rw [if_neg (by rw [State.deferred_agrees, hagree]; decide), State.get_finish (State.ctx · q.ctx) (fun _ _ => rfl) (fun _ _ => rfl)]
    exact congrArg Ctx.halo (State.asked_ctx (s := s) (m := m) (q := q) (op := 0x95) q.ctx)

/-- HALO_RESUME, the conditions here met (15 R468). -/
theorem Serves.haloResume (hroom : Roomy s q) (h : Serves s m q { op := 0x99, who := .owner, ctx := true })
    (hstandby : (s.ctx q.ctx).halo.standby = false) (hphase : (s.ctx q.ctx).halo.phase = .suspended)
    (hresume : (s.ctx q.ctx).halo.resume = false) (hready : s.haloReady q.ctx (s.ctx q.ctx).halo.partner = true) :
    (Config.partnerAgrees (s.ctx q.ctx).halo.pairId s.power.draws = true → s.tagLeft = true → Completes (.haloResume m q) s
      (State.MirrorOpens q.ctx { (s.ctx q.ctx).halo with resume := true, ticket := s.mbox.tickets + 1, slot := m, ckpts := [], items := [] }
        (s.ctx q.ctx).halo.pairId)) ∧
    (Config.partnerAgrees (s.ctx q.ctx).halo.pairId s.power.draws = false → Completes (.haloResume m q) s (fun t =>
      (t.ctx q.ctx).halo = (s.ctx q.ctx).halo)) := by
  have hready' : (s.entered m q 0x99).haloReady q.ctx (s.ctx q.ctx).halo.partner = true :=
    (State.get_served (State.haloReady · q.ctx (s.ctx q.ctx).halo.partner) fun _ _ _ => rfl).trans hready
  have htickets : (s.entered m q 0x99).mbox.tickets = s.mbox.tickets := State.entered_mail Mbox.tickets (fun _ _ _ => rfl) s m q 0x99
  have hserve (go : State → Nat → State) : (s.entered m q 0x99).needCtx q.ctx (
      if ((s.entered m q 0x99).ctx q.ctx).halo.standby || ((s.entered m q 0x99).ctx q.ctx).halo.phase ≠ .suspended ||
          ((s.entered m q 0x99).ctx q.ctx).halo.resume || !(s.entered m q 0x99).haloReady q.ctx ((s.entered m q 0x99).ctx q.ctx).halo.partner then
        refuse (s.entered m q 0x99) stHaloState
      else (s.entered m q 0x99).accept m q 0x99 q.ctx 0 [] go) = Defers m q 0x99 q.ctx 0 [] go (s.entered m q 0x99) := by
    rw [State.needCtx_entered hroom.held, State.entered_ctx, hready', hstandby, hphase, hresume, hroom.accept]
    rfl
  refine ⟨fun hagree hleft => ?_, fun hagree => ?_⟩
  · refine h.bringsAs _ rfl (hserve _) ?_ (fun _ _ _ _ => State.MirrorOpens.respond) (fun _ hu => hu)
    obtain ⟨f, hf⟩ : ∃ f : Halo → Halo, f = fun h => { h with resume := true, ticket := s.mbox.tickets + 1, slot := m, ckpts := [], items := [] } :=
      ⟨_, rfl⟩
    obtain ⟨u, hu⟩ : ∃ u, u = (s.asked m q 0x99).modHalo q.ctx f := ⟨_, rfl⟩
    have hctx : (u.ctx q.ctx).halo = f (s.ctx q.ctx).halo := by
      rw [hu, State.modHalo, State.ctx_modCtx_self, State.asked_ctx]
    have hkept (v : State) (f : Halo → Halo) : (v.modHalo q.ctx f).tagLeft = v.tagLeft := rfl
    have hopens := State.openMirror_after (u := u) (ticket := s.mbox.tickets + 1) hctx
      (by rw [hu, hkept, State.asked_tagLeft, hleft])
    rw [hu, hf] at hopens
    rw [Defers]
    dsimp only
    rw [State.entered_ctx, if_pos (State.deferred_agrees.trans hagree), State.defer_ticket, htickets]
    exact hopens
  · refine h.bringsAs (P := fun t => (t.ctx q.ctx).halo = (s.ctx q.ctx).halo) _ rfl (hserve _) ?_
      (fun u j n r hu => by rwa [State.respond_ctx]) (fun _ hu => hu)
    rw [Defers]
    dsimp only
    rw [State.entered_ctx, if_neg (by rw [State.deferred_agrees, hagree]; decide), State.get_finish (State.ctx · q.ctx) (fun _ _ => rfl) (fun _ _ => rfl)]
    exact congrArg Ctx.halo (State.asked_ctx (s := s) (m := m) (q := q) (op := 0x99) q.ctx)

/-! ### Takeover (15 R465) -/

/-- A context that leaves its run is idle. -/
theorem State.toIdle_phase {x : Nat} : ((s.toIdle x).ctx x).phase = .idle := by
  have hend (u : State) : ((u.endSelfLost x).ctx x).phase = (u.ctx x).phase := by
    unfold State.endSelfLost
    dsimp only
    rw [State.ctx_modCtx_self]
    rfl
  have hclose (u : State) : (u.closeBatch x).ctx x = u.ctx x := State.get_closeBatch (State.ctx · x) (fun _ _ => rfl) u x
  have hkeep (u : State) (op : Nat) : (u.finishAll op x stOK 0).ctx x = u.ctx x :=
    State.get_finishAll (State.ctx · x) (fun _ _ => rfl) (fun _ _ => rfl) ..
  unfold State.toIdle
  dsimp only
  rw [hkeep, apply_ite (State.ctx · x), hkeep, ite_self, apply_ite (State.ctx · x), hclose, apply_ite Ctx.phase, hend,
    ite_self, State.ctx_modCtx_self]

section
variable {β γ δ : Type} {get : State → β} {kc : Ctx → γ} {kk : Core → δ} (hv : Views get kc kk)
include hv

theorem Views.endMirror (u : State) (x kind : Nat) : get (u.endMirror x kind) = get u :=
  State.get_endMirror get (fun _ _ _ => hv.rest _ _ rfl rfl) (fun _ _ => hv.rest _ _ rfl rfl) (fun _ _ => hv.rest _ _ rfl rfl)
    (fun _ _ => hv.rest _ _ rfl rfl) (fun _ _ => hv.rest _ _ rfl rfl) (fun _ _ => hv.rest _ _ rfl rfl)
    (fun _ _ _ _ _ _ => hv.rest _ _ rfl rfl) u x kind

theorem Views.writeRegion (u : State) (x : Nat) (i : Image) (r : Region) (b : List Byte) : get (u.writeRegion x i r b) = get u :=
  foldl_get_same (get := get) (put := fun (t : State) j => { t with
    mem := Memory.write t.mem (t.regionAddr x i r j) ((b.drop (64 * j)).take 64) }) (fun _ _ t => hv.rest t _ rfl rfl) u

/-- The checkpoint of a context without settings of its own restores the patch vector and memory alone. -/
theorem Views.restoreRest (hpatch : ∀ (c : Ctx) p, kc { c with patch := p, patchNew := false } = kc c) {b : List Byte}
    (hsets : ckptSets b = 0) (u : State) (x : Nat) : get (u.restoreRest x b) = get u := by
  have hregions (i : Image) (l : List Region) (a : State × Nat) : get (l.foldl (fun (a : State × Nat) r =>
      (a.1.writeRegion x i r ((b.drop a.2).take (64 * r.lines)), a.2 + 64 * r.lines)) a).1 = get a.1 :=
    foldl_get_same (get := fun a : State × Nat => get a.1) (fun r _ a => Views.writeRegion hv a.1 x i r _) a
  unfold State.restoreRest
  dsimp only
  rw [hsets, hregions]
  exact hv.ctx _ _ _ (fun c => hpatch c _)

/-- A checkpoint without bindings, semaphores and settings restores parameters, the patch vector and memory. -/
theorem Views.restoreAll (hpatch : ∀ (c : Ctx) p, kc { c with patch := p, patchNew := false } = kc c)
    (hpar : ∀ (k : Core) p, kk { k with par := p } = kk k) {b : List Byte} (hbinds : ckptBinds b = 0) (hsems : ckptSems b = 0)
    (hsets : ckptSets b = 0) {u : State} {x : Nat} (hstaged : u.allStaged x = false) : get (u.restoreAll x b) = get u := by
  have hlist : ckptBindList b = [] := by rw [ckptBindList, hbinds]; rfl
  unfold State.restoreAll
  dsimp only
  rw [hstaged, hlist, Views.restoreRest hv hpatch hsets, State.restoreSems, hsems]
  exact Views.mapCores hv u x (f := fun p k => { k with par := (List.range 64).foldl (fun t n =>
    t.set 0 n (BitVec.ofNat 64 (leAt b (64 + 512 * p + 8 * n) 8))) k.par }) (fun _ k => hpar k _)

variable (hout : ∀ (c : Ctx) l, kc { c with halo := { c.halo with out := l } } = kc c)
include hout

theorem Views.takeoverSeal (u : State) (x : Nat) : get (u.takeoverSeal x) = get u := by
  have hclose (t : State) (n : Nat) : get (t.closeBatch n) = get t :=
    State.get_closeBatch get (fun _ _ => hv.rest _ _ rfl rfl) t n
  unfold State.takeoverSeal
  split
  · rfl
  · have hledger (t : State) (f : Ledger → Ledger) : get (t.modLedger f) = get t := hv.rest t _ rfl rfl
    dsimp only
    rw [hledger, hclose, Views.logEntry hv hout]

end

/-- What a takeover asks of a context: whether it runs, its staged image, its cores, and how far its mirror is. -/
def Ctx.takeKey (c : Ctx) : CtxPhase × Option Image × List Nat × Nat × Option Nat × Bool :=
  (c.phase, c.staged, c.sites, c.ncores, c.halo.mirrorPoint, c.halo.resume)

/-- What a takeover reads of the state. -/
theorem Views.take (x : Nat) : Views (fun u => ((u.ctx x).takeKey, u.allStaged x)) Ctx.takeKey (fun k => k.seq.staged) where
  ctx u y f hf := by
    have hkey := (Views.ofCtx Ctx.takeKey (fun k : Core => k.seq.staged) x).ctx u y f hf
    have hcore (p : Nat) := (Views.ofCore (kc := Ctx.takeKey) (fun a b h => by simp only [Ctx.takeKey, Prod.mk.injEq] at h; exact h.2.2.1)
      (fun k => k.seq.staged) ⟨x, p⟩).ctx u y f hf
    simp only [Ctx.takeKey, Prod.mk.injEq] at hkey
    obtain ⟨hphase, hstaged, hsites, hncores, hpoint, hresume⟩ := hkey
    simp only [State.allStaged, Ctx.cores, Ctx.takeKey, hphase, hstaged, hsites, hncores, hpoint, hresume, hcore]
  core u l f hf := by
    have hcore (p : Nat) := (Views.ofCore (kc := Ctx.takeKey) (fun a b h => by simp only [Ctx.takeKey, Prod.mk.injEq] at h; exact h.2.2.1)
      (fun k => k.seq.staged) ⟨x, p⟩).core u l f hf
    have hctx : (u.modCore l f).ctx x = u.ctx x := rfl
    simp only [State.allStaged, hctx, hcore]
  rest u v hctxs hcores := by
    simp only [State.allStaged, State.core, State.coreAt, State.ctx, hctxs, hcores]

/-- The replay endpoints are unbound and the context rests where its checkpoint begins, nothing being mirrored beyond it. -/
theorem State.catchUpEnd_rests {x : Nat} (hpoint : (s.ctx x).halo.mirrorPoint = none) (hresume : (s.ctx x).halo.resume = false) :
    ((s.catchUpEnd x).ctx x).halo.phase = .takenOver ∧ ((s.catchUpEnd x).ctx x).orbit = (s.ctx x).halo.ckptOrbit ∧
      ((s.catchUpEnd x).ctx x).phase = .idle := by
  unfold State.catchUpEnd
  dsimp only
  rw [hpoint, hresume, State.get_finish (State.ctx · x) (fun _ _ => rfl) (fun _ _ => rfl)]
  dsimp only [Bool.false_eq_true, if_false]
  rw [if_neg (by decide), State.ctx_raise, State.ctx_modCtx_self]
  exact ⟨rfl, rfl, State.toIdle_phase⟩

/-- A checkpoint that alone stands is restored, and no orbit is caught up. -/
theorem State.catchUpStart_rests {x : Nat} {b : List Byte} (hpoint : (s.ctx x).halo.mirrorPoint = none)
    (hresume : (s.ctx x).halo.resume = false) (hstaged : s.allStaged x = false) (hbinds : ckptBinds b = 0) (hsems : ckptSems b = 0)
    (hsets : ckptSets b = 0) : ((s.catchUpStart x b).ctx x).halo.phase = .takenOver ∧
      ((s.catchUpStart x b).ctx x).orbit = ckptOrbitOf b ∧ ((s.catchUpStart x b).ctx x).phase = .idle := by
  obtain ⟨u, hu⟩ : ∃ u, u = s.modCtx x (fun c => { c with startOrbit := some (ckptOrbitOf b), halo := { c.halo with ckptOrbit := ckptOrbitOf b } }) :=
    ⟨_, rfl⟩
  obtain ⟨v, hv⟩ : ∃ v, v = (u.restoreAll x b).modHalo x (fun h => { h with catchUp := true }) := ⟨_, rfl⟩
  have huctx : (u.ctx x).halo = { (s.ctx x).halo with ckptOrbit := ckptOrbitOf b } := by rw [hu, State.ctx_modCtx_self]
  have hustaged : u.allStaged x = false := by
    have h := (Views.take x).ctx s x (fun c => { c with startOrbit := some (ckptOrbitOf b), halo := { c.halo with ckptOrbit := ckptOrbitOf b } })
      (fun _ => rfl)
    rw [← hu] at h
    exact (congrArg Prod.snd h).trans hstaged
  have hvctx : (v.ctx x).halo = { (s.ctx x).halo with ckptOrbit := ckptOrbitOf b, catchUp := true } := by
    have h := Views.restoreAll (Views.ofCtx Ctx.halo (fun _ => ()) x) (fun _ _ => rfl) (fun _ _ => rfl) hbinds hsems hsets hustaged
    rw [hv, State.modHalo, State.ctx_modCtx_self, h, huctx]
  have hstart : s.catchUpStart x b = v.catchUpEnd x := by
    unfold State.catchUpStart
    dsimp only
    rw [← hu, ← hv, hvctx, hpoint]
    exact if_neg Bool.false_ne_true
  have hends := State.catchUpEnd_rests (s := v) (x := x) (by rw [hvctx]; exact hpoint) (by rw [hvctx]; exact hresume)
  rw [hvctx] at hends
  rwa [hstart]

/-- The standby of an idle context takes over at its newest checkpoint (15 R465). -/
theorem State.takeOver_rests {x : Nat} {c : Checkpoint} (hnewest : (s.ctx x).halo.newest = some c) (hphase : (s.ctx x).phase = .idle)
    (hpoint : (s.ctx x).halo.mirrorPoint = none) (hresume : (s.ctx x).halo.resume = false) (hstaged : s.allStaged x = false)
    (hbinds : ckptBinds c.bytes = 0) (hsems : ckptSems c.bytes = 0) (hsets : ckptSets c.bytes = 0) (ticket : Nat) :
    ((s.takeOver x ticket).ctx x).halo.phase = .takenOver ∧ ((s.takeOver x ticket).ctx x).orbit = ckptOrbitOf c.bytes ∧
      ((s.takeOver x ticket).ctx x).phase = .idle := by
  obtain ⟨f, hf⟩ : ∃ f : Halo → Halo, f = fun h => { h with phase := .takingOver, ticket } := ⟨_, rfl⟩
  obtain ⟨u, hu⟩ : ∃ u, u = ((s.modHalo x f).raise 0x123 (some x) x (s.ctx x).halo.partner).endMirror x 5 := ⟨_, rfl⟩
  have hraise (t : State) (n : Nat) : ((t.raise 0x123 (some x) x n).ctx x).takeKey = (t.ctx x).takeKey ∧
    (t.raise 0x123 (some x) x n).allStaged x = t.allStaged x := ⟨rfl, rfl⟩
  have hkey : ((u.takeoverSeal x).ctx x).takeKey = (s.ctx x).takeKey ∧ (u.takeoverSeal x).allStaged x = s.allStaged x := by
    have h := (Views.takeoverSeal (Views.take x) (fun _ _ => rfl) u x).trans
      ((congrArg (fun u : State => ((u.ctx x).takeKey, u.allStaged x)) hu).trans (Views.endMirror (Views.take x) _ x 5))
    have hmod := (Views.take x).ctx s x (fun c => { c with halo := f c.halo }) (fun c => by rw [hf]; rfl)
    rw [(hraise _ _).1, (hraise _ _).2] at h
    exact Prod.mk.inj (h.trans hmod)
  have huphase : (u.ctx x).phase = .idle := by
    rw [hu, State.endMirror_ctx, State.ctx_raise, State.modHalo, State.ctx_modCtx_self]
    exact hphase
  have htake : s.takeOver x ticket = (u.takeoverSeal x).catchUpStart x c.bytes := by
    unfold State.takeOver
    dsimp only
    rw [hnewest]
    dsimp only
    rw [← hf, ← hu, if_neg (not_not_intro huphase)]
  obtain ⟨hctx, hkept⟩ := hkey
  simp only [Ctx.takeKey, Prod.mk.injEq] at hctx
  obtain ⟨-, -, -, -, hpoint', hresume'⟩ := hctx
  rw [htake]
  exact State.catchUpStart_rests (hpoint'.trans hpoint) (hresume'.trans hresume) (hkept.trans hstaged) hbinds hsems hsets

/-- TAKEOVER by the standby of an idle context (15 R465). -/
theorem Serves.takeover {c : Checkpoint} (h : Serves s m q { op := 0x98, who := .owner, ctx := true }) (hroom : Roomy s q)
    (hstandby : (s.ctx q.ctx).halo.standby = true) (hactive : (s.ctx q.ctx).halo.phase = .active ∨ (s.ctx q.ctx).halo.phase = .suspended)
    (hnewest : (s.ctx q.ctx).halo.newest = some c) (hpoint : (s.ctx q.ctx).halo.mirrorPoint = none)
    (hresume : (s.ctx q.ctx).halo.resume = false) (hphase : (s.ctx q.ctx).phase = .idle) (hstaged : s.allStaged q.ctx = false)
    (hbinds : ckptBinds c.bytes = 0) (hsems : ckptSems c.bytes = 0) (hsets : ckptSets c.bytes = 0) :
    Completes (.takeover m q) s (fun t => (t.ctx q.ctx).halo.phase = .takenOver ∧ (t.ctx q.ctx).orbit = ckptOrbitOf c.bytes ∧
      (t.ctx q.ctx).phase = .idle) := by
  obtain ⟨u, hu⟩ : ∃ u, u = ((s.entered m q 0x98).defer m q 0x98 q.ctx 0 []).1 := ⟨_, rfl⟩
  have hctx : u.ctx q.ctx = s.ctx q.ctx := by
    rw [hu, State.get_defer _ _ _ _ _ _ _ (State.ctx · q.ctx) fun _ _ => rfl, State.entered_ctx]
  have hkept : u.allStaged q.ctx = s.allStaged q.ctx := by
    rw [hu, State.get_deferred (State.allStaged · q.ctx) (fun _ _ _ _ => rfl), State.get_served (State.allStaged · q.ctx) (fun _ _ _ => rfl)]
  have hrests := State.takeOver_rests (s := u) (x := q.ctx) (c := c) (by rwa [hctx]) (by rwa [hctx]) (by rwa [hctx]) (by rwa [hctx])
    (by rwa [hkept]) hbinds hsems hsets ((s.entered m q 0x98).mbox.tickets + 1)
  have hserve : (s.entered m q 0x98).needCtx q.ctx (
      if !((s.entered m q 0x98).ctx q.ctx).halo.standby || !(((s.entered m q 0x98).ctx q.ctx).halo.phase = .active ||
          ((s.entered m q 0x98).ctx q.ctx).halo.phase = .suspended) then refuse (s.entered m q 0x98) stHaloState
      else (s.entered m q 0x98).accept m q 0x98 q.ctx 0 [] (fun s t => s.takeOver q.ctx t)) =
      Defers m q 0x98 q.ctx 0 [] (fun s t => s.takeOver q.ctx t) (s.entered m q 0x98) := by
    rw [State.needCtx_entered hroom.held, State.entered_ctx, hstandby, hroom.accept]
    exact if_neg (by rcases hactive with hactive | hactive <;> simp [hactive])
  rw [hu] at hrests
  exact h.leadsDone (u := _) rfl (congrArg Prod.fst hserve) hrests
    (fun v n j r hv => by rwa [State.respond_ctx]) (fun _ hv => hv)

/-! ### The far end closes or breaks the mirror circuit -/

section
variable {p id cause x : Nat} {except : Option Nat} {close : Bool}

/-- What a CLOSE or BREAK of the mirror circuit does at one context. -/
def State.cutAt (p id : Nat) (close : Bool) (s : State) (x : Nat) : State :=
  let h := (s.ctx x).halo
  if h.pairId ≠ id || h.partner ≠ (s.port p).partner || h.catchUp then s
  else match h.phase with
  | .active => if close then s.unpair x else s.suspendHere x
  | .suspended => if close then s.unpair x else s
  | _ => s

theorem State.mirrorCut_eq : s.mirrorCut p id close =
    if s.role p ≠ 5 then s else (List.range 16).foldl (State.cutAt p id close) s := by
  unfold State.mirrorCut
  rfl

theorem State.cutAt_other (h : (s.ctx x).halo.pairId ≠ id) : s.cutAt p id close x = s := by
  unfold State.cutAt
  dsimp only
  rw [if_pos (by simp [h])]

/-- The one context of the pairing is cut, on the halo port. -/
theorem State.mirrorCut_one {t : State} (hx : x < 16) (hrole : s.role p = 5)
    (hothers : ∀ y, y < 16 → y ≠ x → (s.ctx y).halo.pairId ≠ id) (hkeep : ∀ y, y ≠ x → t.ctx y = s.ctx y)
    (hcut : s.cutAt p id close x = t) : s.mirrorCut p id close = t := by
  rw [State.mirrorCut_eq, if_neg (not_not_intro hrole)]
  exact foldl_once List.nodup_range (List.mem_range.mpr hx)
    (fun y hy hne => State.cutAt_other (hothers y (List.mem_range.mp hy) hne)) hcut
    (fun y hy hne => State.cutAt_other (by rw [hkeep y hne]; exact hothers y (List.mem_range.mp hy) hne))

/-- The pairing's record and the port's partner let the cut act. -/
theorem State.cutAt_hit (hid : (s.ctx x).halo.pairId = id) (hpartner : (s.port p).partner = (s.ctx x).halo.partner)
    (hcatch : (s.ctx x).halo.catchUp = false) : s.cutAt p id close x = match (s.ctx x).halo.phase with
      | .active => if close then s.unpair x else s.suspendHere x
      | .suspended => if close then s.unpair x else s
      | _ => s := by
  unfold State.cutAt
  dsimp only
  rw [if_neg (by simp [hid, hpartner, hcatch])]

section
variable (h : ∀ k, s.bulk id = some k → s.Unread id k) (cause : Nat) (except : Option Nat)
include h

/-- A connection for whose bytes nothing waits breaks without a change to a context but its ends. -/
theorem State.breakWith_ctx {γ : Type} (kc : Ctx → γ) (hkc : ∀ (c : Ctx) b, kc { c with binds := b } = kc c) (y : Nat) :
    kc ((s.breakWith id cause except).ctx y) = kc (s.ctx y) :=
  State.get_breakWith (fun u : State => kc (u.ctx y)) (fun _ _ _ _ _ _ => rfl) (fun _ _ _ => rfl)
    (fun u x f => State.get_modBinds kc (fun _ _ => hkc _ _) u x y f) (fun _ _ _ => rfl) (fun _ _ => rfl) (fun _ _ => rfl)
    (fun _ _ => rfl) (fun _ _ => rfl) (fun _ _ => rfl) (fun _ _ _ _ _ => rfl) h cause except

theorem State.breakWith_role : (s.breakWith id cause except).role p = s.role p :=
  State.get_breakWith (State.role · p) (fun _ _ _ _ _ _ => rfl) (fun _ _ _ => rfl) (fun _ _ _ => rfl) (fun _ _ _ => rfl)
    (fun _ _ => rfl) (fun _ _ => rfl) (fun _ _ => rfl) (fun _ _ => rfl) (fun _ _ => rfl) (fun _ _ _ _ _ => rfl) h cause except

theorem State.breakWith_partner : ((s.breakWith id cause except).port p).partner = (s.port p).partner :=
  State.get_breakWith (fun u : State => (u.port p).partner) (fun u n _ _ _ _ => by
      by_cases hn : p = n
      · rw [hn, State.port_modPort_self]
        rfl
      · rw [State.port_modPort_other (h := hn)]) (fun _ _ _ => rfl) (fun _ _ _ => rfl) (fun _ _ _ => rfl)
    (fun _ _ => rfl) (fun _ _ => rfl) (fun _ _ => rfl) (fun _ _ => rfl) (fun _ _ => rfl) (fun _ _ _ _ _ => rfl) h cause except

/-- No circuit of a broken connection is left. -/
theorem State.breakWith_circuits : ∀ c ∈ (s.breakWith id cause except).links.circuits, c.connId ≠ id := by
  have hlinks : (s.breakWith id cause except).links = (s.breakId id cause except).links := by
    unfold State.breakWith
    cases hk : s.bulk id with
    | none =>
      have hnone : (s.breakId id cause except).bulk id = none := by rw [State.bulk_breakId, hk]; rfl
      unfold State.bulkEvent
      rw [hnone]
    | some k =>
      have hsome : (s.breakId id cause except).bulk id = some { k with broken := true } := by rw [State.bulk_breakId, hk]; rfl
      have hunread : (s.breakId id cause except).Unread id { k with broken := true } := (h k hk).breakId cause except
      rw [State.bulkEvent_broken hsome rfl hunread]
      exact State.get_serveReads State.links (fun _ _ => rfl) (fun _ _ => rfl) (fun _ _ _ _ _ => rfl) hunread.reads
  rw [hlinks, State.circuits_breakId]
  intro c hc
  simpa using (List.mem_filter.mp hc).2

end

/-- The far end's CLOSE unpairs and its BREAK suspends (15 R450, R460). -/
theorem State.mirrorCut_broken {v : State} (hx : x < 16) (hid : (v.ctx x).halo.pairId = id) (hrole : v.role p = 5)
    (hpartner : (v.port p).partner = (v.ctx x).halo.partner) (hcatch : (v.ctx x).halo.catchUp = false) (hitem : (v.ctx x).item = 0)
    (hothers : ∀ y, y < 16 → y ≠ x → (v.ctx y).halo.pairId ≠ id) (hcircuits : ∀ c ∈ v.links.circuits, c.connId ≠ id) :
    ((v.ctx x).halo.phase = .active ∨ (v.ctx x).halo.phase = .suspended →
      ((v.mirrorCut p id true).ctx x).halo = {} ∧ ∀ c ∈ (v.mirrorCut p id true).links.circuits, c.connId ≠ id) ∧
    ((v.ctx x).halo.phase = .suspended → v.mirrorCut p id false = v) ∧
    ((v.ctx x).halo.phase = .active →
      ((v.mirrorCut p id false).ctx x).halo = { (v.ctx x).halo with phase := .suspended, out := [], ckptOpen := false } ∧
      ∀ c ∈ (v.mirrorCut p id false).links.circuits, c.connId ≠ id) := by
  have hother (f : Halo → Halo) {y : Nat} (hy : y ≠ x) : (v.modHalo x f).ctx y = v.ctx y := State.ctx_modCtx_other _ _ hy
  have hself (f : Halo → Halo) : ((v.modHalo x f).ctx x).halo = f (v.ctx x).halo := by
    rw [State.modHalo, State.ctx_modCtx_self]
  refine ⟨fun hphase => ?_, fun hphase => ?_, fun hphase => ?_⟩
  · have hunpair := State.unpair_ctx hitem
    have hcut : v.mirrorCut p id true = v.unpair x := by
      refine State.mirrorCut_one hx hrole hothers (fun y hy => (hunpair y).1.trans (hother _ hy)) ?_
      rw [State.cutAt_hit hid hpartner hcatch]
      rcases hphase with hphase | hphase <;> rw [hphase] <;> rfl
    rw [hcut]
    exact ⟨by rw [(hunpair x).1, hself], fun c hc => hcircuits c ((hunpair x).2 c hc)⟩
  · refine State.mirrorCut_one hx hrole hothers (fun _ _ => rfl) ?_
    rw [State.cutAt_hit hid hpartner hcatch, hphase]
    rfl
  · have hsuspend := State.suspendHere_ctx hitem
    have hcut : v.mirrorCut p id false = v.suspendHere x := by
      refine State.mirrorCut_one hx hrole hothers (fun y hy => (hsuspend y).1.trans (hother _ hy)) ?_
      rw [State.cutAt_hit hid hpartner hcatch, hphase]
      rfl
    rw [hcut]
    exact ⟨by rw [(hsuspend x).1, hself], fun c hc => hcircuits c ((hsuspend x).2 c hc)⟩

/-- CLOSE and BREAK of the mirror circuit, no command waiting for its bytes. -/
theorem completes_mirrorCut {f : Flit} (hx : x < 16) (hid : flitAt f 1 4 = (s.ctx x).halo.pairId) (hrole : s.role p = 5)
    (hpartner : (s.port p).partner = (s.ctx x).halo.partner) (hcatch : (s.ctx x).halo.catchUp = false)
    (hphase : (s.ctx x).halo.phase = .active ∨ (s.ctx x).halo.phase = .suspended) (hitem : (s.ctx x).item = 0)
    (hothers : ∀ y, y < 16 → y ≠ x → (s.ctx y).halo.pairId ≠ (s.ctx x).halo.pairId)
    (hunread : ∀ k, s.bulk (s.ctx x).halo.pairId = some k → s.Unread (s.ctx x).halo.pairId k) :
    Completes (.closeFlit p f) s (fun t => (t.ctx x).halo = {} ∧ ∀ c ∈ t.links.circuits, c.connId ≠ (s.ctx x).halo.pairId) ∧
    Completes (.breakFlit p f) s (fun t => (∀ c ∈ t.links.circuits, c.connId ≠ (s.ctx x).halo.pairId) ∧
      ((s.ctx x).halo.phase = .suspended → (t.ctx x).halo = (s.ctx x).halo) ∧
      ((s.ctx x).halo.phase = .active →
        (t.ctx x).halo = { (s.ctx x).halo with phase := .suspended, out := [], ckptOpen := false })) := by
  have hcut (cause : Nat) := State.mirrorCut_broken (p := p) (id := (s.ctx x).halo.pairId)
    (v := s.breakWith (s.ctx x).halo.pairId cause (some (s.bundleOf p))) hx
  have hhalo (cause y : Nat) : ((s.breakWith (s.ctx x).halo.pairId cause (some (s.bundleOf p))).ctx y).halo = (s.ctx y).halo :=
    State.breakWith_ctx hunread cause _ Ctx.halo (fun _ _ => rfl) y
  have hgo (cause : Nat) := hcut cause (by rw [hhalo]) (by rw [State.breakWith_role hunread]; exact hrole)
    (by rw [State.breakWith_partner hunread, hhalo]; exact hpartner) (by rw [hhalo]; exact hcatch)
    ((State.breakWith_ctx hunread cause _ Ctx.item (fun _ _ => rfl) x).trans hitem)
    (fun y hy hne => by rw [hhalo]; exact hothers y hy hne) (State.breakWith_circuits hunread cause _)
  simp only [hhalo] at hgo
  refine ⟨?_, ?_⟩
  · obtain ⟨hclosed, -, -⟩ := hgo 0
    have hexec : exec (.closeFlit p f) s = Machine.done s ((s.breakWith (s.ctx x).halo.pairId 0 (some (s.bundleOf p))).mirrorCut p
        (s.ctx x).halo.pairId true) := by rw [← hid]; rfl
    generalize (s.breakWith (s.ctx x).halo.pairId 0 (some (s.bundleOf p))) = v at hclosed hexec
    exact ⟨_, hexec, hclosed hphase⟩
  · have hb := State.breakWith_circuits hunread (flitAt f 5 1) (some (s.bundleOf p))
    obtain ⟨-, hsuspended, hactive⟩ := hgo (flitAt f 5 1)
    have hx' := hhalo (flitAt f 5 1) x
    have hexec : exec (.breakFlit p f) s = Machine.done s ((s.breakWith (s.ctx x).halo.pairId (flitAt f 5 1) (some (s.bundleOf p))).mirrorCut p
        (s.ctx x).halo.pairId false) := by rw [← hid]; rfl
    generalize (s.breakWith (s.ctx x).halo.pairId (flitAt f 5 1) (some (s.bundleOf p))) = v at hb hsuspended hactive hx' hexec
    refine ⟨_, hexec, ?_⟩
    rcases hphase with hphase | hphase
    · obtain ⟨hrecord, hgone⟩ := hactive hphase
      exact ⟨hgone, fun h => absurd (hphase.symm.trans h) (by decide), fun _ => hrecord⟩
    · rw [hsuspended hphase]
      exact ⟨hb, fun _ => hx', fun h => absurd (hphase.symm.trans h) (by decide)⟩

end

/-! ### Unpairing and the standby's record (15 R460) -/

/-- HALO_STANDBY writes the record of a standby. -/
theorem Serves.haloStandby {n code : Nat} {regions : List Region} {buffers : List (Nat × Nat)} (hx : (s.ctx q.ctx).phase ≠ .free)
    (hcode : code = leAt q.payload 0 3) (hn : n = leAt q.payload 3 1) (hregions : regions = regionsAt q.payload 32 n)
    (hbuffers : buffers = [8, 16, 24].map (bufferAt q.payload))
    (h : Serves s m q { op := 0x96, who := .owner, ctx := true, arg := 2 ^ 32 - 1, len := pairLen q 32 })
    (hok : regionsOk n regions = true) (hpair : s.pairOk q.ctx code regions buffers = true) :
    Completes (.haloStandby m q) s (fun t => (t.ctx q.ctx).halo =
      { standby := true, partner := code, pairId := argFld q 0 32, regions, buffers }) := by
  have hpair' : (s.entered m q 0x96).pairOk q.ctx code regions buffers = true :=
    (State.get_served (State.pairOk · q.ctx code regions buffers) fun _ _ _ => rfl).trans hpair
  subst hcode hn hregions hbuffers
  refine h.brings rfl ?_ (fun v n j r hv => by rwa [State.respond_ctx]) (fun _ hv => hv)
  dsimp only
  rw [State.needCtx_entered hx, hok, hpair', if_neg (by decide), if_neg (by decide), okay, State.modHalo, State.ctx_modCtx_self]

/-- HALO_UNPAIR of a context at no boundary clears its record. -/
theorem Serves.haloUnpair (hx : (s.ctx q.ctx).phase ≠ .free) (h : Serves s m q { op := 0x97, who := .owner, ctx := true })
    (hpaired : (s.ctx q.ctx).halo.phase ≠ .unpaired ∨ (s.ctx q.ctx).halo.standby = true)
    (hcatch : (s.ctx q.ctx).halo.catchUp = false) (hitem : (s.ctx q.ctx).item = 0) :
    Completes (.haloUnpair m q) s (fun t => (t.ctx q.ctx).halo = {}) := by
  have hentered : ((s.entered m q 0x97).endMirror q.ctx 5).ctx q.ctx = s.ctx q.ctx := by
    rw [State.endMirror_ctx, State.entered_ctx]
  have hunpair := (State.unpair_ctx (s := (s.entered m q 0x97).endMirror q.ctx 5) (x := q.ctx) (by rw [hentered]; exact hitem) q.ctx).1
  have hserve : (s.entered m q 0x97).needCtx q.ctx (
      if (((s.entered m q 0x97).ctx q.ctx).halo.phase = .unpaired && !((s.entered m q 0x97).ctx q.ctx).halo.standby) ||
          ((s.entered m q 0x97).ctx q.ctx).halo.catchUp then refuse (s.entered m q 0x97) stHaloState
      else okay (((s.entered m q 0x97).endMirror q.ctx 5).unpair q.ctx)) =
      okay (((s.entered m q 0x97).endMirror q.ctx 5).unpair q.ctx) := by
    rw [State.needCtx_entered hx, State.entered_ctx, hcatch, Bool.or_false]
    refine if_neg ?_
    rcases hpaired with hpaired | hpaired <;> simp [hpaired]
  obtain ⟨u, hu⟩ : ∃ u, u = ((s.entered m q 0x97).endMirror q.ctx 5).unpair q.ctx := ⟨_, rfl⟩
  replace hserve := hserve.trans (congrArg okay hu.symm)
  rw [← hu] at hunpair
  have hcleared : (u.ctx q.ctx).halo = {} := by rw [hunpair, State.modHalo, State.ctx_modCtx_self]
  have hi : exec (.haloUnpair m q) s = execHaloUnpair m q s := rfl
  unfold execHaloUnpair at hi
  exact h.leadsDone (u := u) (P := fun t => (t.ctx q.ctx).halo = {}) hi (congrArg Prod.fst hserve) hcleared
    (fun v n j r hv => by rwa [State.respond_ctx]) (fun _ hv => hv)

/-! ### Checkpoints over the mailbox (15 R469) -/

theorem State.bulkDeferred_ckpt {b : Bulk} {d : Deferred} (hop : d.opcode = 0x9A) (hbytes : b.bytes = []) (hbroken : b.broken = false) :
    s.bulkDeferred b d = s := by
  unfold State.bulkDeferred
  rw [hop, hbytes, hbroken]
  rfl

/-- CHECKPOINT_RESTORE waits for its bytes. -/
theorem HasBulk.checkpointRestore {b : Bulk} (hb : HasBulk s m q b) (hroom : Roomy s q) (hbroken : b.broken = false)
    (hbytes : b.bytes = []) (hbusy : (s.ctx q.ctx).weights.busy = false) (hfresh : ∀ d ∈ s.mbox.deferred, d.key ≠ argFld q 0 32)
    (hphase : (s.ctx q.ctx).phase = .idle) (himage : (s.ctx q.ctx).image ≠ none)
    (h : Serves s m q { op := 0x9A, who := .owner, ctx := true, arg := 2 ^ 32 - 1, len := fun n => n = 32 }) :
    Completes (.checkpointRestore m q) s (Answered s m q 0x9A (Defers m q 0x9A (argFld q 0 32) 0 q.payload (fun u _ => u))) := by
  obtain ⟨u, hu⟩ : ∃ u, u = ((s.entered m q 0x9A).defer m q 0x9A (argFld q 0 32) 0 q.payload).1 := ⟨_, rfl⟩
  have hbulk : u.bulk (argFld q 0 32) = some b := by
    rw [hu, State.get_defer _ _ _ _ _ _ _ (State.bulk · (argFld q 0 32)) fun _ _ => rfl]
    exact (State.get_entered s m q 0x9A (State.bulk · (argFld q 0 32)) fun _ _ => rfl).trans hb.bulk
  have hctx : u.ctx b.ctx = s.ctx q.ctx := by
    rw [hu, State.get_defer _ _ _ _ _ _ _ (State.ctx · b.ctx) fun _ _ => rfl, State.entered_ctx, hb.mine]
  have hdeferred : u.mbox.deferred = s.mbox.deferred ++ [(s.entered m q 0x9A).deferral m q 0x9A (argFld q 0 32) 0 q.payload] := by
    rw [hu, State.defer_deferred, State.entered_deferred]
  have hwaits : u.bulkEvent (argFld q 0 32) = u := by
    refine State.bulkEvent_waits hbulk hbroken (fun hw => absurd (hbusy.symm.trans (hctx ▸ hw)) Bool.false_ne_true) fun d hd hkey => ?_
    rw [hdeferred] at hd
    rcases List.mem_append.mp hd with hd | hd
    · exact absurd hkey (hfresh d hd)
    · exact State.bulkDeferred_ckpt (List.mem_singleton.mp hd ▸ rfl) hbytes hbroken
  refine h.answersDone (Defers m q 0x9A (argFld q 0 32) 0 q.payload (fun u _ => u)) rfl ?_ ?_ ?_ ?_
  · rw [hb.needs hroom.held, State.entered_ctx, if_neg (not_not_intro hphase), if_neg (by simpa using himage), hroom.accept, Defers,
      Defers]
    dsimp only
    rw [← hu, hwaits]
  · exact State.defer_slot _ m _ 0x9A _ _ _ Slot.agent (fun _ => rfl) m
  · exact State.defer_slot _ m _ 0x9A _ _ _ Slot.bound (fun _ => rfl) m
  · exact (State.get_defer _ _ _ _ _ _ _ State.pending fun _ _ => rfl).trans (State.entered_pending ..)

/-- CHECKPOINT_READ sends what is held on the bulk connection. -/
theorem Serves.checkpointRead {b : List Byte} (h : Serves s m q { op := 0x9B, who := .all, ctx := true, arg := 2 ^ 32 - 1 })
    (hroom : Roomy s q) (hm : m ≠ 0) (hopen : s.bulkOpen (argFld q 0 32) = true) (hheld : s.heldCkpt q.ctx = some b) :
    Completes (.checkpointRead m q) s (Answered s m q 0x9B (Defers m q 0x9B (argFld q 0 32) 0 []
      (fun u t => (u.sendBulk (argFld q 0 32) b).finish t stOK 0))) := by
  have hopen' : (s.entered m q 0x9B).bulkOpen (argFld q 0 32) = true :=
    (State.get_entered s m q 0x9B (State.bulkOpen · (argFld q 0 32)) fun _ _ => rfl).trans hopen
  have hheld' : (s.entered m q 0x9B).heldCkpt q.ctx = some b :=
    (State.get_served (State.heldCkpt · q.ctx) fun _ _ _ => rfl).trans hheld
  have hslot {β : Type} (p : Slot → β) (hp : ∀ (v : Slot) n, p { v with outstanding := n } = p v) :
      p ((Defers m q 0x9B (argFld q 0 32) 0 [] (fun u t => (u.sendBulk (argFld q 0 32) b).finish t stOK 0)
        (s.entered m q 0x9B)).1.slot m) = p ((s.entered m q 0x9B).slot m) :=
    (State.finish_slot p hp ..).trans ((State.get_sendBulk (fun u : State => p (u.slot m)) (fun _ _ => rfl) ..).trans
      (State.defer_slot (s.entered m q 0x9B) m q 0x9B (argFld q 0 32) 0 [] p (fun v => hp v _) m))
  have hrest {β : Type} (get : State → β) (hmbox : ∀ (u : State) b, get { u with mbox := b } = get u)
      (hevents : ∀ (u : State) e, get { u with events := e } = get u) (hlinks : ∀ (u : State) l, get { u with links := l } = get u) :
      get (Defers m q 0x9B (argFld q 0 32) 0 [] (fun u t => (u.sendBulk (argFld q 0 32) b).finish t stOK 0) (s.entered m q 0x9B)).1 =
        get (s.entered m q 0x9B) :=
    (State.get_finish get hmbox hevents ..).trans ((State.get_sendBulk get hlinks ..).trans
      (State.get_defer _ _ _ _ _ _ _ get hmbox))
  refine h.answersQuiet (Defers m q 0x9B (argFld q 0 32) 0 [] (fun u t => (u.sendBulk (argFld q 0 32) b).finish t stOK 0)) rfl ?_
    (hslot Slot.agent (fun _ _ => rfl)) (hslot Slot.bound (fun _ _ => rfl))
    ((hrest State.pending (fun _ _ => rfl) (fun _ _ => rfl) (fun _ _ => rfl)).trans (State.entered_pending ..))
    ((hrest State.mem (fun _ _ => rfl) (fun _ _ => rfl) (fun _ _ => rfl)).trans (State.entered_mem ..))
  dsimp only
  rw [if_neg hm, State.needCtx_entered hroom.held, hopen', hheld', if_neg (by decide)]
  exact hroom.accept ..

/-! ### The mirror stream (15 R463, R464) -/

/-- An item reaches the active standby that takes it. -/
theorem completes_mirrorItem {id : BitVec 32} {y : Nat} (hfind : (List.range 16).find? (fun x => s.takesItems x id.toNat) = some y)
    (hstandby : (s.ctx y).halo.standby = true) (hphase : (s.ctx y).halo.phase = .active) {i : MirrorItem} {f : Halo → Halo} (htake : ∀ u : State, u.takeItem y i = u.modHalo y f)
    (hkeep : (f (s.ctx y).halo).resume = false) :
    Completes (.mirrorItem id i) s (fun t => (t.ctx y).halo = f (s.ctx y).halo) := by
  have hactive : ((s.modHalo y (fun h => { h with phase := .active })).ctx y).halo = (s.ctx y).halo := by
    rw [State.modHalo, State.ctx_modCtx_self]
    dsimp only
    rw [← hphase]
  obtain ⟨u, hu⟩ : ∃ u, u = (s.modHalo y (fun h => { h with phase := .active })).modHalo y f := ⟨_, rfl⟩
  have hctx : (u.ctx y).halo = f (s.ctx y).halo := by
    rw [hu, State.modHalo, State.ctx_modCtx_self, hactive]
  have hi : exec (.mirrorItem id i) s = execMirrorItem id i s := rfl
  unfold execMirrorItem at hi
  dsimp only at hi
  rw [hfind] at hi
  dsimp only at hi
  rw [hstandby, hphase, if_pos rfl, if_neg (show ¬(true && decide (HaloPhase.active = HaloPhase.unpaired)) = true by decide), htake, ← hu, hctx, hkeep] at hi
  exact ⟨_, hi, hctx⟩

/-- What neither links, flash, ledger, mailbox nor events hold, the delivery of the ledger's reads leaves. -/
theorem State.get_serveReadsAll {β : Type} (get : State → β) (hlinks : ∀ (u : State) l, get { u with links := l } = get u)
    (hflash : ∀ (u : State) v, get { u with flash := v } = get u) (hledger : ∀ (u : State) v, get { u with ledger := v } = get u)
    (hmbox : ∀ (u : State) b, get { u with mbox := b } = get u) (hevents : ∀ (u : State) e, get { u with events := e } = get u)
    (hraise : ∀ (u : State) c x n d, get (u.raise c x n d) = get u) (s : State) : get s.serveReads = get s := by
  have hstore (u : State) (v : Flash) (l : Ledger) : get { u with flash := v, ledger := l } = get u :=
    (hledger { u with flash := v } l).trans (hflash u v)
  have hread (u : State) (r : LRead) : get (u.serveRead r).1 = get u := by
    unfold State.serveRead
    dsimp only
    rw [apply_ite Prod.fst, ite_self]
    exact foldl_get_same (get := fun a : State × LRead => get a.1) (fun b _ a => State.get_sendBulk get hlinks r.conn b.bytes) (u, r)
  unfold State.serveReads
  dsimp only
  rw [State.get_ledgerHigh get (fun _ _ => hledger _ _) hraise]
  refine (hstore _ _ _).trans ?_
  refine foldl_get_same (get := fun a : State × List LRead => get a.1) (fun r _ a => ?_) (s, [])
  split
  · exact State.get_finish get hmbox hevents ..
  · split
    · exact (hstore _ _ _).trans (hread a.1 r)
    · exact (State.get_finish get hmbox hevents ..).trans ((hstore _ _ _).trans (hread a.1 r))

theorem State.markMirrored_ctx (s : State) (x y : Nat) (was left : List MirrorItem) : (s.markMirrored x was left).ctx y = s.ctx y :=
  State.get_serveReadsAll (State.ctx · y) (fun _ _ => rfl) (fun _ _ => rfl) (fun _ _ => rfl) (fun _ _ => rfl) (fun _ _ => rfl)
    (fun _ _ _ _ _ => rfl) _

/-- The one orbit sent is acknowledged. -/
theorem completes_mirrorAck {id : BitVec 32} {y o : Nat} {r : List Byte}
    (hfind : (List.range 16).find? (fun x => s.mirrored x && (s.ctx x).halo.pairId = id.toNat) = some y)
    (hout : (s.ctx y).halo.out = [.orbitEnd o r]) (hitem : (s.ctx y).item = 0) :
    Completes (.mirrorAck id o none) s (fun t => (t.ctx y).halo.out = [] ∧
      (t.ctx y).halo.mirrorPoint = some (Nat.max o ((s.ctx y).halo.mirrorPoint.getD 0))) := by
  have hleft : ackItems o [.orbitEnd o r] = [] := by simp [ackItems]
  have hi : exec (.mirrorAck id o none) s = execMirrorAck id o none s := rfl
  unfold execMirrorAck at hi
  dsimp only at hi
  rw [hfind] at hi
  dsimp only at hi
  rw [hout, hleft, State.markMirrored_ctx] at hi
  have hrested (f : Halo → Halo) : ((s.modHalo y f).ctx y).item = 0 := by
    rw [State.modHalo, State.ctx_modCtx_self]
    exact hitem
  have hgo (f : Halo → Halo) (l l' : List MirrorItem)
      (h : exec (.mirrorAck id o none) s = Machine.done s ((s.modHalo y f).markMirrored y l l')) :
      Completes (.mirrorAck id o none) s (fun t => (t.ctx y).halo = f (s.ctx y).halo) := by
    have hctx : (((s.modHalo y f).markMirrored y l l').ctx y).halo = f (s.ctx y).halo := by
      rw [State.markMirrored_ctx, State.modHalo, State.ctx_modCtx_self]
    exact ⟨_, h, hctx⟩
  rw [if_pos (hrested _)] at hi
  exact (hgo _ _ _ hi).mono fun t ht => by
    rw [ht]
    exact ⟨rfl, if_pos (by simp)⟩

end

/-- Settles O57: the pairing's record is written as the partner answers, its circuit opens or ends apart from it, and the items and
checkpoints that arrive change the record alone. -/
theorem haloPartners : Obligations.HaloPartners := by
  intro s m q hx
  refine ⟨fun h hok hpair => h.haloStandby hx rfl rfl rfl rfl hok hpair, fun h hroom hok hstandby hpair => ?_,
    fun h hpaired hcatch hitem => h.haloUnpair hx hpaired hcatch hitem,
    fun c h hroom hstandby hactive hnewest hpoint hresume hphase hstaged hbinds hsems hsets =>
      h.takeover hroom hstandby hactive hnewest hpoint hresume hphase hstaged hbinds hsems hsets,
    fun h hroom hstandby hphase hresume hready => ?_,
    fun p f hlt hid hrole hpartner hcatch hphase hitem hothers hunread => ?_,
    fun b hb hroom hbroken hbytes hbusy hfresh hphase himage h => hb.checkpointRestore hroom hbroken hbytes hbusy hfresh hphase himage h,
    fun b h hroom hm hopen hheld => h.checkpointRead hroom hm hopen hheld,
    fun id y hfind hstandby hphase hresume => ⟨fun o p => ?_, fun o r => ?_⟩,
    fun id y o r hfind hout hitem => completes_mirrorAck hfind hout hitem⟩
  · obtain ⟨hagrees, hrefuses⟩ := h.haloPair hroom rfl rfl rfl rfl hok hstandby hpair
    exact ⟨fun hagree hleft => hagrees hagree (State.tagLeft_iff.mpr hleft), hrefuses⟩
  · obtain ⟨hagrees, hrefuses⟩ := h.haloResume hroom hstandby hphase hresume hready
    exact ⟨fun hagree hleft => hagrees hagree (State.tagLeft_iff.mpr hleft), hrefuses⟩
  · exact completes_mirrorCut hlt hid hrole hpartner hcatch hphase hitem hothers (fun k hk =>
      let ⟨hreads, hdeferred, hweights⟩ := hunread k hk
      ⟨hreads, hdeferred, hweights⟩)
  · exact (completes_mirrorItem hfind hstandby hphase (f := fun h => { h with items := h.items ++ [.boundary o p] }) (fun _ => rfl)
      hresume).mono fun t ht => by rw [ht]
  · exact (completes_mirrorItem hfind hstandby hphase (f := fun h => { h with
      items := h.items ++ [.orbitEnd o r], mirrorPoint := some (Nat.max o (h.mirrorPoint.getD 0)) }) (fun _ => rfl)
      hresume).mono fun t ht => by rw [ht]

end Sys2Proof.Machine
end

section
/-! Elastic connections open and break (10 R264-R267; 12 R339; 13 R378; 15 R460), and the obligation O49. -/
namespace Sys2Proof.Machine
open Sys2Proof

/-! ### Folds that reach a place -/

/-- A fold that keeps `P` until it reaches a place, and `Q` from there on. -/
theorem foldl_reaches {σ α : Type} {P Q : σ → Prop} {put : σ → α → σ} (hbefore : ∀ t a, P t → P (put t a))
    (hafter : ∀ t a, Q t → Q (put t a)) {r : α} (hhit : ∀ t, P t → Q (put t r)) {l : List α} (hr : r ∈ l) {s : σ} (hs : P s) :
    Q (l.foldl put s) := by
  have hkeeps {R : σ → Prop} (hR : ∀ t a, R t → R (put t a)) (l : List α) {s : σ} (hs : R s) : R (l.foldl put s) := by
    induction l generalizing s with
    | nil => exact hs
    | cons a l ih => exact ih (hR s a hs)
  obtain ⟨before, after, rfl⟩ := List.append_of_mem hr
  rw [List.foldl_append, List.foldl_cons]
  exact hkeeps hafter after (hhit _ (hkeeps hbefore before hs))

/-- What each step of a fold keeps, the fold keeps. -/
theorem foldl_keeps {σ α : Type} {P : σ → Prop} {put : σ → α → σ} (h : ∀ t a, P t → P (put t a)) (l : List α) {s : σ} (hs : P s) :
    P (l.foldl put s) := by
  induction l generalizing s with
  | nil => exact hs
  | cons a l ih => exact ih (h s a hs)

/-- A listed key that reads as other than the default is in the table with what it reads as. -/
theorem Tab.mem_of_get {α : Type} {d x : α} {t : Tab α} {i : Nat} (h : Tab.get d t i = x) (hx : x ≠ d) : (i, x) ∈ t := by
  induction t with
  | nil => exact absurd h.symm hx
  | cons p t ih =>
    obtain ⟨k, v⟩ := p
    rw [Tab.get] at h
    split at h
    next hk => rw [hk, h]; exact List.mem_cons_self
    next => exact List.mem_cons_of_mem _ (ih h)

/-! ### Ends of a core break (10 R264, R265) -/

section
variable {k : Core} {ep a n id : Nat}

/-- A semaphore's BRK. -/
def Core.brk (k : Core) (n : Nat) : Bool := (k.sems.get {} n).brk

theorem Core.brk_modify (h : k.brk n = true) : ((k.sems.modify {} a (fun q => { q with brk := true })).get {} n).brk = true := by
  by_cases hn : n = a
  · rw [hn, Tab.get_modify_self]
  · rw [Tab.get_modify_other _ _ _ hn]
    exact h

theorem Core.brk_breakSend (h : k.brk n = true) : (k.breakSend a).brk n = true := by
  unfold Core.breakSend
  dsimp only
  split
  · exact h
  · exact Core.brk_modify h

theorem Core.brk_breakRecv (h : k.brk n = true) : (k.breakRecv a).brk n = true := by
  unfold Core.breakRecv
  dsimp only
  split
  · exact h
  · exact Core.brk_modify h

theorem Core.breakRecv_sendEps : (k.breakRecv a).sendEps = k.sendEps := by
  unfold Core.breakRecv
  dsimp only
  split <;> rfl

theorem Core.breakSend_recvEps : (k.breakSend a).recvEps = k.recvEps := by
  unfold Core.breakSend
  dsimp only
  split <;> rfl

/-- A send end is broken, and its semaphore says so. -/
def Core.SendBroken (ep n : Nat) (k : Core) : Prop := (k.sendEps.get {} ep).state = .broken ∧ k.brk n = true

/-- A receive end is broken, and its semaphore says so. -/
def Core.RecvBroken (ep n : Nat) (k : Core) : Prop := (k.recvEps.get {} ep).state = .broken ∧ k.brk n = true

theorem Core.breakSend_other (h : ep ≠ a) : (k.breakSend a).sendEps.get {} ep = k.sendEps.get {} ep := by
  unfold Core.breakSend
  dsimp only
  split
  · rfl
  · dsimp only
    rw [Tab.get_set_other _ _ _ h]

theorem Core.breakRecv_other (h : ep ≠ a) : (k.breakRecv a).recvEps.get {} ep = k.recvEps.get {} ep := by
  unfold Core.breakRecv
  dsimp only
  split
  · rfl
  · dsimp only
    rw [Tab.get_set_other _ _ _ h]

theorem Core.breakSend_self (hstate : (k.sendEps.get {} ep).state = .bound) (helastic : (k.sendEps.get {} ep).elastic = true) :
    (k.breakSend ep).SendBroken ep (k.sendEps.get {} ep).csem := by
  unfold Core.breakSend
  dsimp only
  rw [if_neg (by simp [hstate, helastic])]
  unfold Core.SendBroken Core.brk
  rw [Tab.get_set_self, Tab.get_modify_self]
  exact ⟨rfl, rfl⟩

theorem Core.breakRecv_self (hstate : (k.recvEps.get {} ep).state = .bound) (helastic : (k.recvEps.get {} ep).elastic = true) :
    (k.breakRecv ep).RecvBroken ep (k.recvEps.get {} ep).asem := by
  unfold Core.breakRecv
  dsimp only
  rw [if_neg (by simp [hstate, helastic])]
  unfold Core.RecvBroken Core.brk
  rw [Tab.get_set_self, Tab.get_modify_self]
  exact ⟨rfl, rfl⟩

theorem Core.SendBroken.breakSend (h : k.SendBroken ep n) (a : Nat) : (k.breakSend a).SendBroken ep n := by
  obtain ⟨hstate, hbrk⟩ := h
  refine ⟨?_, Core.brk_breakSend hbrk⟩
  by_cases ha : ep = a
  · subst ha
    unfold Core.breakSend
    dsimp only
    rw [if_pos (by simp [hstate])]
    exact hstate
  · rw [Core.breakSend_other ha, hstate]

theorem Core.RecvBroken.breakRecv (h : k.RecvBroken ep n) (a : Nat) : (k.breakRecv a).RecvBroken ep n := by
  obtain ⟨hstate, hbrk⟩ := h
  refine ⟨?_, Core.brk_breakRecv hbrk⟩
  by_cases ha : ep = a
  · subst ha
    unfold Core.breakRecv
    dsimp only
    rw [if_pos (by simp [hstate])]
    exact hstate
  · rw [Core.breakRecv_other ha, hstate]

/-- The send ends of a connection break first. -/
def Core.breakSends (id : Nat) (k : Core) : Core :=
  (k.sendEps.filter (fun e => e.2.elastic && decide (e.2.connId = id))).foldl (fun c e => c.breakSend e.1) k

theorem Core.breakEnds_eq : k.breakEnds (fun _ _ i => i = id) =
    ((k.breakSends id).recvEps.filter (fun e => e.2.elastic && decide (e.2.connId = id))).foldl (fun c e => c.breakRecv e.1)
      (k.breakSends id) := rfl

/-- A bound send end of the connection, or one broken already, is broken. -/
theorem Core.breakEnds_send {e : SendEp} (hstate : e.state = .bound) (helastic : e.elastic = true) (hid : e.connId = id)
    (h : k.sendEps.get {} ep = e ∨ k.SendBroken ep e.csem) : (k.breakEnds (fun _ _ i => i = id)).SendBroken ep e.csem := by
  have hself {c : Core} (hc : c.sendEps.get {} ep = e) : (c.breakSend ep).SendBroken ep e.csem := by
    have h := Core.breakSend_self (k := c) (ep := ep) (by rw [hc, hstate]) (by rw [hc, helastic])
    rwa [hc] at h
  have hafter (c : Core) (a : Nat × SendEp) (hc : c.SendBroken ep e.csem) : (c.breakSend a.1).SendBroken ep e.csem := hc.breakSend a.1
  have hsends : (k.breakSends id).SendBroken ep e.csem := by
    rcases h with h | h
    · refine foldl_reaches (P := fun c : Core => c.sendEps.get {} ep = e ∨ c.SendBroken ep e.csem) (fun c a hc => ?_) hafter
        (fun c hc => hc.elim hself (fun hc => hc.breakSend ep))
        (List.mem_filter.mpr ⟨Tab.mem_of_get h (fun hd => absurd (hd ▸ hstate) (by decide)), by simp [helastic, hid]⟩) (.inl h)
      rcases hc with hc | hc
      · by_cases ha : ep = a.1
        · exact .inr (ha ▸ hself hc)
        · exact .inl ((Core.breakSend_other ha).trans hc)
      · exact .inr (hc.breakSend a.1)
    · exact foldl_keeps (P := Core.SendBroken ep e.csem) hafter _ h
  rw [Core.breakEnds_eq]
  refine foldl_keeps (P := Core.SendBroken ep e.csem) (fun c a hc => ?_) _ hsends
  obtain ⟨hbroken, hbrk⟩ := hc
  exact ⟨by rw [Core.breakRecv_sendEps, hbroken], Core.brk_breakRecv hbrk⟩

/-- A bound receive end of the connection, or one broken already, is broken. -/
theorem Core.breakEnds_recv {e : RecvEp} (hstate : e.state = .bound) (helastic : e.elastic = true) (hid : e.connId = id)
    (h : k.recvEps.get {} ep = e ∨ k.RecvBroken ep e.asem) : (k.breakEnds (fun _ _ i => i = id)).RecvBroken ep e.asem := by
  have hsends : (k.breakSends id).recvEps.get {} ep = e ∨ (k.breakSends id).RecvBroken ep e.asem := by
    refine foldl_keeps (P := fun c : Core => c.recvEps.get {} ep = e ∨ c.RecvBroken ep e.asem) (fun c a hc => ?_) _ h
    unfold Core.RecvBroken at hc ⊢
    rw [Core.breakSend_recvEps]
    exact hc.imp_right (fun ⟨hbroken, hbrk⟩ => ⟨hbroken, Core.brk_breakSend hbrk⟩)
  have hself {c : Core} (hc : c.recvEps.get {} ep = e) : (c.breakRecv ep).RecvBroken ep e.asem := by
    have h := Core.breakRecv_self (k := c) (ep := ep) (by rw [hc, hstate]) (by rw [hc, helastic])
    rwa [hc] at h
  have hafter (c : Core) (a : Nat × RecvEp) (hc : c.RecvBroken ep e.asem) : (c.breakRecv a.1).RecvBroken ep e.asem := hc.breakRecv a.1
  rw [Core.breakEnds_eq]
  rcases hsends with h | h
  · refine foldl_reaches (P := fun c : Core => c.recvEps.get {} ep = e ∨ c.RecvBroken ep e.asem) (fun c a hc => ?_) hafter
      (fun c hc => hc.elim hself (fun hc => hc.breakRecv ep))
      (List.mem_filter.mpr ⟨Tab.mem_of_get h (fun hd => absurd (hd ▸ hstate) (by decide)), by simp [helastic, hid]⟩) (.inl h)
    rcases hc with hc | hc
    · by_cases ha : ep = a.1
      · exact .inr (ha ▸ hself hc)
      · exact .inl ((Core.breakRecv_other ha).trans hc)
    · exact .inr (hc.breakRecv a.1)
  · exact foldl_keeps (P := Core.RecvBroken ep e.asem) hafter _ h

end

/-! ### A connection breaks in every context -/

section
variable {s : State} {id x core : Nat}

theorem State.breakCtx_binds (hx : x < 16) :
    ((s.breakConn id (fun _ _ => false)).ctx x).binds = (s.ctx x).binds.map (fun v => v.breakSend id) := by
  have hcores (l : List Nat) (u : State) (y : Nat) : (l.foldl (fun s p => s.modCoreOf y p (fun c => c.breakEnds (fun _ _ i => i = id))) u).ctx x =
      u.ctx x := foldl_get_same (get := fun u : State => u.ctx x) (put := fun (s : State) p => s.modCoreOf y p (fun c => c.breakEnds (fun _ _ i => i = id)))
        (fun _ _ _ => rfl) u
  have hopenings (u : State) : (u.breakOpenings id (fun _ _ => false)).ctx x = u.ctx x := rfl
  rw [State.breakConn_eq, hopenings]
  refine foldl_get_of_nodup (get := fun u : State => (u.ctx x).binds) (upd := fun l => l.map (fun v => v.breakSend id)) (r := x) (fun t => ?_)
    (fun t a ha => ?_) List.nodup_range (List.mem_range.mpr hx) s
  all_goals
    unfold State.breakCtx
    simp only [Bool.false_eq_true, if_false]
    rw [hcores]
  · rw [State.ctx_modCtx_self]
  · rw [State.ctx_modCtx_other _ _ (Ne.symm ha)]

/-- A core is found where `s` has it, in a state of which `R` holds. -/
structure State.AsPlaced (s : State) (x core : Nat) (R : Core → Prop) (u : State) : Prop where
  sites : (u.ctx x).sites = (s.ctx x).sites
  ncores : (u.ctx x).ncores = (s.ctx x).ncores
  core : R (u.core ⟨x, core⟩)

/-- Every core of every context is broken at: what it was before at least, what breaking it makes at last. -/
theorem State.core_breakConn {P Q : Core → Prop} (hPQ : ∀ k, P k → Q (k.breakEnds (fun _ _ i => i = id))) (hQP : ∀ k, Q k → P k)
    (hx : x < 16) (hcore : core < (s.ctx x).ncores) (h : P (s.core ⟨x, core⟩)) : Q ((s.breakConn id (fun _ _ => false)).core ⟨x, core⟩) := by
  have hmod {R : Core → Prop} (hR : ∀ k, R k → R (k.breakEnds (fun _ _ i => i = id))) (y : Nat) (u : State) (p : Nat)
      (hu : s.AsPlaced x core R u) : s.AsPlaced x core R (u.modCoreOf y p (fun k => k.breakEnds (fun _ _ i => i = id))) := by
    obtain ⟨hsites, hncores, hk⟩ := hu
    refine ⟨hsites, hncores, ?_⟩
    have hk' : R (u.coreAt ((u.ctx x).logical core)) := hk
    show R ((u.modCore ((u.ctx y).logical p) (fun k => k.breakEnds (fun _ _ i => i = id))).coreAt ((u.ctx x).logical core))
    by_cases hn : (u.ctx x).logical core = (u.ctx y).logical p
    · rw [← hn, State.coreAt_modCore_self]
      exact hR _ hk'
    · rwa [State.coreAt_modCore_other _ _ hn]
  have hbinds {R : Core → Prop} (y : Nat) (u : State) (hu : s.AsPlaced x core R u) : s.AsPlaced x core R (u.modCtx y (fun c => { c with
      binds := c.binds.map (fun b => b.breakSend id) })) := by
    obtain ⟨hsites, hncores, hk⟩ := hu
    have hctx {γ : Type} (kc : Ctx → γ) (hkc : ∀ (c : Ctx) l, kc { c with binds := l } = kc c) :=
      State.get_modBinds kc hkc u y x (fun l => l.map (fun b => b.breakSend id))
    refine ⟨(hctx Ctx.sites fun _ _ => rfl).trans hsites, (hctx Ctx.ncores fun _ _ => rfl).trans hncores, ?_⟩
    have hcore : (u.modCtx y (fun c => { c with binds := c.binds.map (fun b => b.breakSend id) })).core ⟨x, core⟩ = u.core ⟨x, core⟩ := by
      unfold State.core
      rw [logical_of_sites (hctx Ctx.sites fun _ _ => rfl)]
      rfl
    rwa [hcore]
  have hctx {R : Core → Prop} (hR : ∀ k, R k → R (k.breakEnds (fun _ _ i => i = id))) (u : State) (y : Nat)
      (hu : s.AsPlaced x core R u) : s.AsPlaced x core R (State.breakCtx id (fun _ _ => false) u y) := by
    unfold State.breakCtx
    simp only [Bool.false_eq_true, if_false]
    exact foldl_keeps (hmod hR y) _ (hbinds y u hu)
  have hhit (u : State) (hu : s.AsPlaced x core P u) : s.AsPlaced x core Q (State.breakCtx id (fun _ _ => false) u x) := by
    unfold State.breakCtx
    simp only [Bool.false_eq_true, if_false]
    have hstart := hbinds x u hu
    refine foldl_reaches (hmod (fun k hk => hQP _ (hPQ k hk)) x) (hmod (fun k hk => hPQ k (hQP k hk)) x) (r := core) (fun v hv => ?_) ?_ hstart
    · obtain ⟨hsites, hncores, hk⟩ := hv
      refine ⟨hsites, hncores, ?_⟩
      have hself := State.core_modCoreOf v ⟨x, core⟩ (fun k => k.breakEnds (fun _ _ i => i = id))
      exact hself ▸ hPQ _ hk
    · rw [Ctx.cores, hstart.ncores]
      exact List.mem_range.mpr hcore
  have hopenings (u : State) : (u.breakOpenings id (fun _ _ => false)).core ⟨x, core⟩ = u.core ⟨x, core⟩ := rfl
  rw [State.breakConn_eq, hopenings]
  exact (foldl_reaches (hctx fun k hk => hQP _ (hPQ k hk)) (hctx fun k hk => hPQ k (hQP k hk)) hhit (List.mem_range.mpr hx)
    ⟨rfl, rfl, h⟩).core

/-- What neither ports, circuits, tags nor bulk connections hold, nor the stores of the ledger, is after a break as the ends of the
connection have broken. -/
theorem State.get_breakTail {β : Type} (get : State → β)
    (hbundle : ∀ (u : State) b v, get (u.setBundle b v) = get u)
    (hcircuits : ∀ (u : State) l, get (u.modLinks (fun v => { v with circuits := l })) = get u)
    (hbulks : ∀ (u : State) l, get (u.modLinks (fun v => { v with bulks := l })) = get u)
    (hflash : ∀ (u : State) v, get { u with flash := v } = get u) (hledger : ∀ (u : State) v, get { u with ledger := v } = get u)
    (hraise : ∀ (u : State) c x n d, get (u.raise c x n d) = get u) (h : ∀ k, s.bulk id = some k → s.Unread id k) (cause : Nat)
    (except : Option Nat) : get (s.breakWith id cause except) =
      get ((s.tellFar id 6 cause except).breakConn id (fun _ _ => false)) := by
  have hid : get (s.breakId id cause except) = get ((s.tellFar id 6 cause except).breakConn id (fun _ _ => false)) := by
    have hmarked (u : State) : get (u.bulkBroken id) = get u := hbulks u _
    rw [State.breakId_eq, hmarked, State.get_dropCircuits get hbundle hcircuits]
  rw [← hid]
  unfold State.breakWith
  cases hk : s.bulk id with
  | none =>
    have hnone : (s.breakId id cause except).bulk id = none := by rw [State.bulk_breakId, hk]; rfl
    unfold State.bulkEvent
    rw [hnone]
  | some k =>
    have hsome : (s.breakId id cause except).bulk id = some { k with broken := true } := by rw [State.bulk_breakId, hk]; rfl
    have hunread : (s.breakId id cause except).Unread id { k with broken := true } := (h k hk).breakId cause except
    rw [State.bulkEvent_broken hsome rfl hunread, State.get_serveReads get hflash hledger hraise hunread.reads]

/-- Nothing of the pairings hears of a connection that is none of theirs. -/
theorem State.mirrorCut_none {p : Nat} {close : Bool} (h : s.role p ≠ 5 ∨ ∀ x, x < 16 → (s.ctx x).halo.pairId ≠ id) :
    s.mirrorCut p id close = s := by
  rw [State.mirrorCut_eq]
  rcases h with h | h
  · exact if_pos h
  · rw [foldl_stays (fun x hx => State.cutAt_other (h x (List.mem_range.mp hx))), ite_self]

/-- A connection that is no pairing's is broken here. -/
structure State.Parted (s : State) (id : Nat) (t : State) : Prop where
  circuits : ∀ c ∈ t.links.circuits, c.connId ≠ id
  bulk : ∀ k, s.bulk id = some k → t.bulk id = some { k with broken := true }
  binds : ∀ x, x < 16 → (t.ctx x).binds = (s.ctx x).binds.map (fun v => v.breakSend id)
  recv : ∀ x core ep, x < 16 → core < (s.ctx x).ncores → ((s.core ⟨x, core⟩).recvEps.get {} ep).state = .bound →
    ((s.core ⟨x, core⟩).recvEps.get {} ep).elastic = true → ((s.core ⟨x, core⟩).recvEps.get {} ep).connId = id →
    (t.core ⟨x, core⟩).RecvBroken ep ((s.core ⟨x, core⟩).recvEps.get {} ep).asem
  send : ∀ x core ep, x < 16 → core < (s.ctx x).ncores → ((s.core ⟨x, core⟩).sendEps.get {} ep).state = .bound →
    ((s.core ⟨x, core⟩).sendEps.get {} ep).elastic = true → ((s.core ⟨x, core⟩).sendEps.get {} ep).connId = id →
    (t.core ⟨x, core⟩).SendBroken ep ((s.core ⟨x, core⟩).sendEps.get {} ep).csem

theorem State.breakWith_parts (h : ∀ k, s.bulk id = some k → s.Unread id k) (cause : Nat) (except : Option Nat) :
    s.Parted id (s.breakWith id cause except) := by
  have htell {β : Type} (get : State → β)
      (hsends : ∀ (u : State) p fseq ftype m beat, get (u.modPort p (fun q => q.sends fseq ftype m beat)) = get u)
      (hbundle : ∀ (u : State) b v, get (u.setBundle b v) = get u) : get (s.tellFar id 6 cause except) = get s :=
    State.get_tellFar get hsends hbundle ..
  have hctx (x : Nat) : (s.tellFar id 6 cause except).ctx x = s.ctx x := htell (State.ctx · x) (fun _ _ _ _ _ _ => rfl) (fun _ _ _ => rfl)
  have hcore (x core : Nat) : (s.tellFar id 6 cause except).core ⟨x, core⟩ = s.core ⟨x, core⟩ :=
    htell (State.core · ⟨x, core⟩) (fun _ _ _ _ _ _ => rfl) (fun _ _ _ => rfl)
  have hlast (x core : Nat) : (s.breakWith id cause except).core ⟨x, core⟩ =
      ((s.tellFar id 6 cause except).breakConn id (fun _ _ => false)).core ⟨x, core⟩ :=
    State.get_breakTail (State.core · ⟨x, core⟩) (fun _ _ _ => rfl) (fun _ _ => rfl) (fun _ _ => rfl)
      (fun _ _ => rfl) (fun _ _ => rfl) (fun _ _ _ _ _ => rfl) h cause except
  refine ⟨State.breakWith_circuits h cause except, fun k hk => ?_, fun x hx => ?_, fun x core ep hx hin hstate helastic hid => ?_,
    fun x core ep hx hin hstate helastic hid => ?_⟩
  · have hsome : (s.breakId id cause except).bulk id = some { k with broken := true } := by rw [State.bulk_breakId, hk]; rfl
    have hunread : (s.breakId id cause except).Unread id { k with broken := true } := (h k hk).breakId cause except
    rw [State.breakWith, State.bulkEvent_broken hsome rfl hunread, ← hsome]
    exact State.get_serveReads (State.bulk · id) (fun _ _ => rfl) (fun _ _ => rfl) (fun _ _ _ _ _ => rfl) hunread.reads
  · have hbinds : ((s.breakWith id cause except).ctx x).binds =
        (((s.tellFar id 6 cause except).breakConn id (fun _ _ => false)).ctx x).binds :=
      State.get_breakTail (fun u : State => (u.ctx x).binds) (fun _ _ _ => rfl) (fun _ _ => rfl) (fun _ _ => rfl)
        (fun _ _ => rfl) (fun _ _ => rfl) (fun _ _ _ _ _ => rfl) h cause except
    rw [hbinds, State.breakCtx_binds hx, hctx]
  · rw [hlast]
    exact State.core_breakConn (fun k hk => Core.breakEnds_recv hstate helastic hid hk) (fun _ => .inr) hx (by rwa [hctx])
      (.inl (by rw [hcore]))
  · rw [hlast]
    exact State.core_breakConn (fun k hk => Core.breakEnds_send hstate helastic hid hk) (fun _ => .inr) hx (by rwa [hctx])
      (.inl (by rw [hcore]))

/-- CLOSE and BREAK of a connection that is no pairing's, no command waiting for its bytes. -/
theorem completes_partedHere {p : Nat} {f : Flit} {row : Instr} (hrow : row = .closeFlit p f ∨ row = .breakFlit p f)
    (hpair : s.role p ≠ 5 ∨ ∀ x, x < 16 → (s.ctx x).halo.pairId ≠ flitAt f 1 4)
    (h : ∀ k, s.bulk (flitAt f 1 4) = some k → s.Unread (flitAt f 1 4) k) : Completes row s (s.Parted (flitAt f 1 4)) := by
  have hparts (cause : Nat) := State.breakWith_parts h cause (some (s.bundleOf p))
  have hcut (cause : Nat) (close : Bool) :
      (s.breakWith (flitAt f 1 4) cause (some (s.bundleOf p))).mirrorCut p (flitAt f 1 4) close =
        s.breakWith (flitAt f 1 4) cause (some (s.bundleOf p)) := by
    refine State.mirrorCut_none ?_
    rw [State.breakWith_role h]
    exact hpair.imp_right fun hpair x hx => by
      rw [State.breakWith_ctx h cause _ (fun c => c.halo.pairId) (fun _ _ => rfl)]
      exact hpair x hx
  have hdone {u : State} (hu : s.Parted (flitAt f 1 4) u) (hi : exec row s = Machine.done s u) :
      Completes row s (s.Parted (flitAt f 1 4)) := by
    obtain ⟨hcircuits, hbulk, hbinds, hrecv, hsend⟩ := hu
    exact ⟨_, hi, hcircuits, hbulk, hbinds, hrecv, hsend⟩
  rcases hrow with rfl | rfl
  · exact hdone (hparts 0) (congrArg (Machine.done s) (hcut 0 true))
  · exact hdone (hparts (flitAt f 5 1)) (congrArg (Machine.done s) (hcut (flitAt f 5 1) false))

end

/-! ### An opening ends (10 R267; 12 R339) -/

section
variable {s : State}

/-- No opening of a ticket is left. -/
def State.OpeningGone (o : Opening) (t : State) : Prop := ∀ v ∈ t.links.openings, v.bind.ticket ≠ o.bind.ticket

/-- An opening is off the list. -/
def State.lessOpening (s : State) (o : Opening) : State :=
  s.modLinks (fun l => { l with openings := l.openings.filter (fun v => v.bind.ticket ≠ o.bind.ticket) })

theorem State.lessOpening_gone (o : Opening) : (s.lessOpening o).OpeningGone o := fun v hv => by
  simpa using (List.mem_filter.mp hv).2

/-- A circuit of a peer that has acknowledged an opening. -/
def Opening.circuit (o : Opening) (c : Circuit) : Bool :=
  match c.dest with
  | .send x p ep _ => c.connId = o.bind.connId && x = o.ctx && p = o.bind.core && ep = o.bind.ep
  | _ => false

/-- The tag that an opening holds for a peer is given up. -/
def freePeer (s : State) (q : Peer) : State := if q.port = localPort then s else s.freeTag (s.bundleOf q.port) q.tag

/-- What an opening holds is freed and it is off the list. -/
def State.openingFreed (s : State) (o : Opening) : State :=
  (o.bind.peers.foldl freePeer (s.dropCircuits o.circuit)).lessOpening o

theorem State.openFails_eq (o : Opening) (st : Nat) : s.openFails o st =
    if (s.openingFreed o).opensMirror o then (s.openingFreed o).mirrorFails o.ctx o.bind.ticket
    else (s.openingFreed o).finish o.bind.ticket st 0 := by
  unfold State.openFails State.openingFreed State.lessOpening freePeer
  rfl

theorem State.openingFreed_ctx (o : Opening) (y : Nat) : (s.openingFreed o).ctx y = s.ctx y := by
  have hless (u : State) : (u.lessOpening o).ctx y = u.ctx y := rfl
  have hpeers (l : List Peer) (u : State) : (l.foldl freePeer u).ctx y = u.ctx y :=
    foldl_get_same (get := (State.ctx · y)) (fun q _ u => by unfold freePeer; split <;> rfl) u
  rw [State.openingFreed, hless, hpeers]
  exact State.get_dropCircuits (State.ctx · y) (fun _ _ _ => rfl) (fun _ _ => rfl) s _

theorem State.opensMirror_openingFreed (o : Opening) : (s.openingFreed o).opensMirror o = s.opensMirror o := by
  unfold State.opensMirror
  rw [State.openingFreed_ctx]

/-- A failed opening is gone; that of a mirror circuit takes the pairing, or its resumption, with it. -/
structure State.Failed (s : State) (o : Opening) (t : State) : Prop where
  plain : s.opensMirror o = false → t.OpeningGone o ∧ t.ctx o.ctx = s.ctx o.ctx
  mirror : s.opensMirror o = true → (s.ctx o.ctx).holds.checkpoint = false → (s.ctx o.ctx).holds.mirrorLag = false →
    t.OpeningGone o ∧ (t.ctx o.ctx).halo = if (s.ctx o.ctx).halo.resume then { (s.ctx o.ctx).halo with resume := false, ticket := 0 }
      else {}

/-- The pairing of a mirror circuit that does not open, the boundary not waiting for the standby. -/
theorem State.mirrorFails_halo {x : Nat} (ticket : Nat) (hckpt : (s.ctx x).holds.checkpoint = false)
    (hlag : (s.ctx x).holds.mirrorLag = false) : (s.mirrorFails x ticket).links = s.links ∧
    ((s.mirrorFails x ticket).ctx x).halo = if (s.ctx x).halo.resume then { (s.ctx x).halo with resume := false, ticket := 0 } else {} := by
  obtain ⟨f, hf⟩ : ∃ f : Halo → Halo, f = fun h => if (s.ctx x).halo.resume then { h with resume := false, ticket := 0 } else {} := ⟨_, rfl⟩
  have hmod : (if (s.ctx x).halo.resume then s.modHalo x (fun h => { h with resume := false, ticket := 0 }) else s.modHalo x (fun _ => {})) =
      s.modHalo x f := by
    rw [hf]
    split <;> rfl
  have hctx (t : Nat) : ((s.modHalo x f).finish t stHaloState 0).ctx x = { s.ctx x with halo := f (s.ctx x).halo } := by
    rw [State.get_finish (State.ctx · x) (fun _ _ => rfl) (fun _ _ => rfl), State.modHalo, State.ctx_modCtx_self]
  have hlinks (t : Nat) : ((s.modHalo x f).finish t stHaloState 0).links = s.links :=
    State.get_finish State.links (fun _ _ => rfl) (fun _ _ => rfl) ..
  have hfree (u : State) (hu : (u.ctx x).holds.checkpoint = false) (hu' : (u.ctx x).holds.mirrorLag = false) : u.mirrorFree x = u := by
    unfold State.mirrorFree
    dsimp only
    rw [hu, hu']
    rfl
  unfold State.mirrorFails
  dsimp only
  rw [hmod, hfree _ (by rw [hctx]; exact hckpt) (by rw [hctx]; exact hlag), hctx, hlinks, hf]
  exact ⟨rfl, rfl⟩

theorem State.openFails_failed (o : Opening) (st : Nat) : s.Failed o (s.openFails o st) := by
  have hgone : (s.openingFreed o).OpeningGone o := State.lessOpening_gone o
  rw [State.openFails_eq, State.opensMirror_openingFreed]
  refine ⟨fun hplain => ?_, fun hmirror hckpt hlag => ?_⟩
  · have hlinks : ((s.openingFreed o).finish o.bind.ticket st 0).links = (s.openingFreed o).links :=
      State.get_finish State.links (fun _ _ => rfl) (fun _ _ => rfl) ..
    rw [hplain, if_neg Bool.false_ne_true, State.OpeningGone, hlinks,
      State.get_finish (State.ctx · o.ctx) (fun _ _ => rfl) (fun _ _ => rfl), State.openingFreed_ctx]
    exact ⟨hgone, rfl⟩
  · obtain ⟨hlinks, hhalo⟩ := State.mirrorFails_halo (s := s.openingFreed o) (x := o.ctx) o.bind.ticket
      (by rw [State.openingFreed_ctx]; exact hckpt) (by rw [State.openingFreed_ctx]; exact hlag)
    rw [State.openingFreed_ctx] at hhalo
    rw [hmirror, if_pos rfl, State.OpeningGone, hlinks]
    exact ⟨hgone, hhalo⟩

/-! ### A peer acknowledges -/

/-- What an acknowledgement on bundle `b` with tag `rev` gives, of the peer `i` of an opening. -/
structure State.Acked (s : State) (o : Opening) (b rev i : Nat) (t : State) : Prop where
  circuit : ∃ c : Circuit, t.links.circuits = s.links.circuits ++ [c] ∧ c.port = b ∧ c.tag = rev ∧ c.connId = o.bind.connId ∧
    c.dest = if o.bind.core = 2047 then .bulk o.ctx else .send o.ctx o.bind.core o.bind.ep i
  waits : (∃ j ∈ o.waiting, j ≠ i) → (t.ctx o.ctx).binds = (s.ctx o.ctx).binds ∧
    ∀ v ∈ s.links.openings, v.bind.ticket = o.bind.ticket → { o with waiting := o.waiting.filter (· ≠ i) } ∈ t.links.openings
  last : (∀ j ∈ o.waiting, j = i) → t.OpeningGone o ∧
    (o.bind.core ≠ 2047 → (t.ctx o.ctx).binds = (s.ctx o.ctx).binds ++ [o.bind]) ∧
    (o.bind.core = 2047 → ∃ k, t.bulk o.bind.connId = some k ∧ k.ctx = o.ctx ∧ k.broken = false ∧ k.bytes = [])

/-- What the last acknowledgement makes stand: the bulk connection or the waiting end. -/
def State.endStands (s : State) (o : Opening) : State :=
  if o.bind.core = 2047 then
    s.addBulk { connId := o.bind.connId, ctx := o.ctx, port := s.bundleOf (o.bind.peers.headD ⟨0, 0, 0, 0, 0, 0⟩).port,
                tag := (o.bind.peers.headD ⟨0, 0, 0, 0, 0, 0⟩).tag }
  else s.modCtx o.ctx (fun c => { c with binds := c.binds ++ [o.bind] })

theorem State.openDone_eq (o : Opening) : s.openDone o =
    if ((s.lessOpening o).endStands o).opensMirror o && (((s.lessOpening o).endStands o).ctx o.ctx).halo.resume then
      (s.lessOpening o).endStands o
    else ((s.lessOpening o).endStands o).finish o.bind.ticket stOK 0 := by
  unfold State.openDone State.endStands State.lessOpening
  rfl

theorem State.bulk_addBulk (k : Bulk) : (s.addBulk k).bulk k.connId = some k := by
  show (s.links.bulks.filter (fun v => v.connId ≠ k.connId) ++ [k]).find? (fun b => b.connId = k.connId) = some k
  rw [List.find?_append, List.find?_eq_none.mpr (fun v hv => by simpa using (List.mem_filter.mp hv).2)]
  simp

theorem State.openDone_done (o : Opening) : (s.openDone o).links.circuits = s.links.circuits ∧ (s.openDone o).OpeningGone o ∧
    (o.bind.core ≠ 2047 → ((s.openDone o).ctx o.ctx).binds = (s.ctx o.ctx).binds ++ [o.bind]) ∧
    (o.bind.core = 2047 → ∃ k, (s.openDone o).bulk o.bind.connId = some k ∧ k.ctx = o.ctx ∧ k.broken = false ∧ k.bytes = []) := by
  have hkept {β : Type} (get : State → β) (hmbox : ∀ (u : State) b, get { u with mbox := b } = get u)
      (hevents : ∀ (u : State) e, get { u with events := e } = get u) : get (s.openDone o) = get ((s.lessOpening o).endStands o) := by
    rw [State.openDone_eq, apply_ite get, State.get_finish get hmbox hevents, ite_self]
  have hlinks := hkept State.links (fun _ _ => rfl) (fun _ _ => rfl)
  have hcircuits (u : State) : (u.endStands o).links.circuits = u.links.circuits := by unfold State.endStands; split <;> rfl
  have hopenings (u : State) : (u.endStands o).links.openings = u.links.openings := by unfold State.endStands; split <;> rfl
  refine ⟨by rw [hlinks, hcircuits]; rfl, ?_, fun hcore => ?_, fun hcore => ?_⟩
  · unfold State.OpeningGone
    rw [hlinks, hopenings]
    exact State.lessOpening_gone o
  · rw [hkept (State.ctx · o.ctx) (fun _ _ => rfl) (fun _ _ => rfl), State.endStands, if_neg hcore, State.ctx_modCtx_self]
    rfl
  · rw [hkept (State.bulk · o.bind.connId) (fun _ _ => rfl) (fun _ _ => rfl), State.endStands, if_pos hcore, State.bulk_addBulk]
    exact ⟨_, rfl, rfl, rfl, rfl⟩

/-- The peer that an acknowledgement on bundle `b` comes from. -/
def State.acks (s : State) (o : Opening) (b i : Nat) : Bool :=
  match o.bind.peers[i]? with | some q => s.bundleOf q.port = b | none => false

/-- An opening of which peer `i` has acknowledged. -/
def Opening.answered (o : Opening) (i : Nat) : Opening := { o with waiting := o.waiting.filter (· ≠ i) }

/-- The circuit of peer `i` of an opening. -/
def State.peerCircuit (s : State) (o : Opening) (b rev i : Nat) : Circuit :=
  { port := b, tag := rev, dest := if o.bind.core = 2047 then .bulk o.ctx else .send o.ctx o.bind.core o.bind.ep i, connId := o.bind.connId
    cls := o.bind.cls, src := s.code, dst := (o.bind.peers.map (·.code)).getD i 0, rev := (o.bind.peers.map (·.tag)).getD i 0 }

/-- Peer `i` of an opening has its circuit. -/
def State.peerAcked (s : State) (o : Opening) (b rev i : Nat) : State :=
  s.modLinks (fun l => { l with
    circuits := l.circuits ++ [s.peerCircuit o b rev i]
    openings := l.openings.map (fun v => if v.bind.ticket = o.bind.ticket then o.answered i else v) })

theorem State.openAcked_eq (o : Opening) (b rev : Nat) : s.openAcked o b rev = match o.waiting.find? (s.acks o b) with
    | none => s
    | some i => if (o.answered i).waiting.isEmpty then (s.peerAcked o b rev i).openDone (o.answered i) else s.peerAcked o b rev i := by
  unfold State.openAcked
  rfl

theorem State.openAcked_acked {o : Opening} {b rev i : Nat} (hi : o.waiting.find? (s.acks o b) = some i) :
    s.Acked o b rev i (s.openAcked o b rev) := by
  have hwaiting : (o.answered i).waiting.isEmpty = true ↔ ∀ j ∈ o.waiting, j = i := by
    simp [Opening.answered]
  have hctx : (s.peerAcked o b rev i).ctx o.ctx = s.ctx o.ctx := rfl
  rw [State.openAcked_eq, hi]
  dsimp only
  by_cases hlast : ∀ j ∈ o.waiting, j = i
  · rw [if_pos (hwaiting.mpr hlast)]
    obtain ⟨hcircuits, hgone, hbinds, hbulk⟩ := State.openDone_done (s := s.peerAcked o b rev i) (o.answered i)
    exact ⟨⟨s.peerCircuit o b rev i, hcircuits, rfl, rfl, rfl, rfl⟩, fun ⟨j, hj, hne⟩ => absurd (hlast j hj) hne,
      fun _ => ⟨hgone, hbinds, hbulk⟩⟩
  · rw [if_neg (fun h => hlast (hwaiting.mp h))]
    exact ⟨⟨s.peerCircuit o b rev i, rfl, rfl, rfl, rfl, rfl⟩, fun _ => ⟨by rw [hctx], fun v hv hticket =>
      List.mem_map.mpr ⟨v, hv, if_pos hticket⟩⟩, fun h => absurd h hlast⟩

end

/-! ### OPEN (10 R267; 12 R339) -/

section
variable {s : State} {p : Nat} {f : Flit}

/-- An answer to OPEN leaves all but ports and bundles. -/
theorem State.get_openAckOn {β : Type} (get : State → β)
    (hsends : ∀ (u : State) p fseq ftype m beat, get (u.modPort p (fun q => q.sends fseq ftype m beat)) = get u)
    (hbundle : ∀ (u : State) b v, get (u.setBundle b v) = get u) (s : State) (b id st rev : Nat) :
    get (s.openAckOn b id st rev) = get s := State.get_sendCtl get hsends hbundle ..

/-- A command that answers an OPEN, from a state with the queue and memory of the one before. -/
theorem completes_openAckOn {i : Instr} {u : State} {b id st rev : Nat} (hi : exec i s = Machine.quiet s (u.openAckOn b id st rev))
    (hpending : u.pending = s.pending) (hmem : u.mem = s.mem) : Completes i s (fun t => t = u.openAckOn b id st rev) :=
  completes_sendFlit b 3 hi hpending hmem rfl

theorem openFlit_here (h : flitAt f 8 3 = s.code) : exec (.openFlit p f) s = Machine.quiet s (s.openHere p f) :=
  congrArg (Machine.quiet s) (if_pos h)

theorem openFlit_through (h : flitAt f 8 3 ≠ s.code) : exec (.openFlit p f) s = Machine.quiet s (s.openThrough p f) :=
  congrArg (Machine.quiet s) (if_neg h)

/-- The context that an OPEN for a management endpoint reaches. -/
def State.openCtx (s : State) (p : Nat) (f : Flit) : Nat := (s.mirrorFor p f).getD (fld (flitAt f 24 8) 24 4)

/-- The circuit that an OPEN accepted gives. -/
def openedCircuit (b : Nat) (f : Flit) (rev : Nat) (dest : CircuitEnd) : Circuit :=
  { port := b, tag := flitAt f 12 2, dest, connId := flitAt f 1 4, cls := bit (flitAt f 11 1) 2, src := flitAt f 5 3
    dst := flitAt f 8 3, rev }

/-- A circuit joins the list. -/
def State.moreCircuit (s : State) (c : Circuit) : State := s.modLinks (fun l => { l with circuits := l.circuits ++ [c] })

/-- The bulk connection of an OPEN accepted stands, and the standby of its mirror circuit knows. -/
def State.bulkOpens (s u : State) (p : Nat) (f : Flit) (rev : Nat) : State :=
  let t := u.addBulk { connId := flitAt f 1 4, ctx := s.openCtx p f, port := s.bundleOf p, tag := rev }
  if (s.mirrorFor p f).isSome then t.mirrorOpened (s.openCtx p f) else t

theorem State.openHere_core {v : State} {rev : Nat} (hcheck : s.openCheck p f = 0) (ht : s.takeTag (s.bundleOf p) = some (v, rev))
    (hcore : fld (flitAt f 24 8) 28 11 ≠ 2047) : s.openHere p f = (v.moreCircuit (openedCircuit (s.bundleOf p) f rev
      (.recv (fld (flitAt f 24 8) 24 4) (fld (flitAt f 24 8) 28 11) (fld (flitAt f 24 8) 39 4)
        (if fld (flitAt f 11 1) 0 2 = 2 then flitAt f 17 1 else 0)))).openAckOn (s.bundleOf p) (flitAt f 1 4) 0 rev := by
  unfold State.openHere
  dsimp only
  rw [hcheck, if_neg (not_not_intro rfl), ht]
  dsimp only
  rw [if_neg hcore, if_neg hcore, if_neg hcore]
  rfl

theorem State.openHere_bulk {v : State} {rev : Nat} (hcheck : s.openCheck p f = 0) (ht : s.takeTag (s.bundleOf p) = some (v, rev))
    (hcore : fld (flitAt f 24 8) 28 11 = 2047) : s.openHere p f = (s.bulkOpens (v.moreCircuit (openedCircuit (s.bundleOf p) f rev
      (.bulk (s.openCtx p f)))) p f rev).openAckOn (s.bundleOf p) (flitAt f 1 4) 0 rev := by
  unfold State.openHere
  dsimp only
  rw [hcheck, if_neg (not_not_intro rfl), ht]
  dsimp only
  have hmirror : v.mirrorFor p f = s.mirrorFor p f := State.get_takeTag (State.mirrorFor · p f) (fun _ _ _ => rfl) ht
  rw [if_pos hcore, if_pos hcore, if_pos hcore, hmirror]
  rfl

/-- What an OPEN accepted for a core gives. -/
theorem completes_openCore {v : State} {rev : Nat} (hcode : flitAt f 8 3 = s.code) (hcheck : s.openCheck p f = 0)
    (ht : s.takeTag (s.bundleOf p) = some (v, rev)) (hcore : fld (flitAt f 24 8) 28 11 ≠ 2047) :
    Completes (.openFlit p f) s (fun t => t.links.bulks = s.links.bulks ∧
      ∃ c : Circuit, t.links.circuits = s.links.circuits ++ [c] ∧ c.port = s.bundleOf p ∧ c.tag = flitAt f 12 2 ∧ c.rev = rev ∧
        c.connId = flitAt f 1 4 ∧ c.dest = .recv (fld (flitAt f 24 8) 24 4) (fld (flitAt f 24 8) 28 11) (fld (flitAt f 24 8) 39 4)
          (if fld (flitAt f 11 1) 0 2 = 2 then flitAt f 17 1 else 0)) := by
  have hi := (openFlit_here hcode).trans (congrArg (Machine.quiet s) (State.openHere_core hcheck ht hcore))
  have hlist {β : Type} (get : Links → β) (hports : ∀ (l : Links) a, get { l with ports := a } = get l)
      (hbundles : ∀ (l : Links) a, get { l with bundles := a } = get l) (c : Circuit) :
      get ((v.moreCircuit c).openAckOn (s.bundleOf p) (flitAt f 1 4) 0 rev).links = get (v.moreCircuit c).links :=
    State.get_openAckOn (fun u : State => get u.links) (fun _ _ _ _ _ _ => hports _ _) (fun _ _ _ => hbundles _ _) ..
  have hbulks : v.links.bulks = s.links.bulks := State.get_takeTag (fun u : State => u.links.bulks) (fun _ _ _ => rfl) ht
  have hcircuits : v.links.circuits = s.links.circuits := State.get_takeTag (fun u : State => u.links.circuits) (fun _ _ _ => rfl) ht
  refine ⟨_, hi, (hlist Links.bulks (fun _ _ => rfl) (fun _ _ => rfl) _).trans hbulks, openedCircuit (s.bundleOf p) f rev
    (.recv (fld (flitAt f 24 8) 24 4) (fld (flitAt f 24 8) 28 11) (fld (flitAt f 24 8) 39 4)
      (if fld (flitAt f 11 1) 0 2 = 2 then flitAt f 17 1 else 0)),
    (hlist Links.circuits (fun _ _ => rfl) (fun _ _ => rfl) _).trans ?_, rfl, rfl, rfl, rfl, rfl⟩
  rw [State.moreCircuit, ← hcircuits]
  rfl

/-- What an OPEN accepted for a management endpoint gives. -/
theorem completes_openBulk {v : State} {rev : Nat} (hcode : flitAt f 8 3 = s.code) (hcheck : s.openCheck p f = 0)
    (ht : s.takeTag (s.bundleOf p) = some (v, rev)) (hcore : fld (flitAt f 24 8) 28 11 = 2047) :
    Completes (.openFlit p f) s (fun t =>
      t.bulk (flitAt f 1 4) = some { connId := flitAt f 1 4, ctx := s.openCtx p f, port := s.bundleOf p, tag := rev } ∧
      ∃ c : Circuit, t.links.circuits = s.links.circuits ++ [c] ∧ c.port = s.bundleOf p ∧ c.tag = flitAt f 12 2 ∧ c.rev = rev ∧
        c.connId = flitAt f 1 4 ∧ c.dest = .bulk (s.openCtx p f)) := by
  have hi := (openFlit_here hcode).trans (congrArg (Machine.quiet s) (State.openHere_bulk hcheck ht hcore))
  have hopened (u : State) (x : Nat) : (u.mirrorOpened x).links = u.links := by
    unfold State.mirrorOpened
    split <;> rfl
  have hlist (u : State) : (s.bulkOpens u p f rev).links =
      (u.addBulk { connId := flitAt f 1 4, ctx := s.openCtx p f, port := s.bundleOf p, tag := rev }).links := by
    unfold State.bulkOpens
    dsimp only
    split
    · exact hopened ..
    · rfl
  have hcircuits : v.links.circuits = s.links.circuits := State.get_takeTag (fun u : State => u.links.circuits) (fun _ _ _ => rfl) ht
  have hack (u : State) : (u.openAckOn (s.bundleOf p) (flitAt f 1 4) 0 rev).links.bulks = u.links.bulks ∧
      (u.openAckOn (s.bundleOf p) (flitAt f 1 4) 0 rev).links.circuits = u.links.circuits :=
    ⟨State.get_openAckOn (fun u : State => u.links.bulks) (fun _ _ _ _ _ _ => rfl) (fun _ _ _ => rfl) ..,
      State.get_openAckOn (fun u : State => u.links.circuits) (fun _ _ _ _ _ _ => rfl) (fun _ _ _ => rfl) ..⟩
  obtain ⟨hbulks, hcirc⟩ := hack (s.bulkOpens (v.moreCircuit (openedCircuit (s.bundleOf p) f rev (.bulk (s.openCtx p f)))) p f rev)
  rw [hlist] at hbulks hcirc
  generalize (s.bulkOpens (v.moreCircuit (openedCircuit (s.bundleOf p) f rev (.bulk (s.openCtx p f)))) p f rev).openAckOn
    (s.bundleOf p) (flitAt f 1 4) 0 rev = t at hi hbulks hcirc
  refine ⟨_, hi, ?_, openedCircuit (s.bundleOf p) f rev (.bulk (s.openCtx p f)), ?_, rfl, rfl, rfl, rfl, rfl⟩
  · show t.links.bulks.find? (fun b => b.connId = flitAt f 1 4) = _
    rw [hbulks]
    exact State.bulk_addBulk (s := v.moreCircuit _) { connId := flitAt f 1 4, ctx := s.openCtx p f, port := s.bundleOf p, tag := rev }
  · show t.links.circuits = _
    rw [hcirc, ← hcircuits]
    rfl

/-- An OPEN for this module that is refused, or that finds no tag. -/
theorem completes_openRefused (hcode : flitAt f 8 3 = s.code) :
    (s.openCheck p f ≠ 0 → Completes (.openFlit p f) s (fun t =>
      t = s.openAckOn (s.bundleOf p) (flitAt f 1 4) (s.openCheck p f) 0)) ∧
    (s.openCheck p f = 0 → s.takeTag (s.bundleOf p) = none → Completes (.openFlit p f) s (fun t =>
      t = s.openAckOn (s.bundleOf p) (flitAt f 1 4) 2 0)) := by
  refine ⟨fun hcheck => completes_openAckOn ((openFlit_here hcode).trans (congrArg (Machine.quiet s) ?_)) rfl rfl,
    fun hcheck ht => completes_openAckOn ((openFlit_here hcode).trans (congrArg (Machine.quiet s) ?_)) rfl rfl⟩
  · unfold State.openHere
    exact if_pos hcheck
  · unfold State.openHere
    dsimp only
    rw [hcheck, if_neg (not_not_intro rfl), ht]

/-- An OPEN for another module: no way, no tag, or a through circuit. -/
theorem completes_openThrough (hcode : flitAt f 8 3 ≠ s.code) :
    (s.route (flitAt f 8 3) (flitAt f 1 4) = none → Completes (.openFlit p f) s (fun t =>
      t = s.openAckOn (s.bundleOf p) (flitAt f 1 4) 2 0)) ∧
    (∀ q, s.route (flitAt f 8 3) (flitAt f 1 4) = some q →
      (s.takeTag q = none → Completes (.openFlit p f) s (fun t => t = s.openAckOn (s.bundleOf p) (flitAt f 1 4) 2 0)) ∧
      (∀ v out, s.takeTag q = some (v, out) → Completes (.openFlit p f) s (fun t =>
        ∃ c : Circuit, t.links.circuits = s.links.circuits ++ [c] ∧ c.port = s.bundleOf p ∧ c.tag = flitAt f 12 2 ∧
          c.connId = flitAt f 1 4 ∧ c.dest = .through (s.bundleOf q) out))) := by
  have hi := openFlit_through (p := p) hcode
  unfold State.openThrough at hi
  dsimp only at hi
  refine ⟨fun hroute => ?_, fun q hroute => ⟨fun ht => ?_, fun v out ht => ?_⟩⟩ <;> rw [hroute] at hi
  · exact completes_openAckOn hi rfl rfl
  · dsimp only at hi
    rw [ht] at hi
    exact completes_openAckOn hi rfl rfl
  · dsimp only at hi
    rw [ht] at hi
    have hcircuits : v.links.circuits = s.links.circuits := State.get_takeTag (fun u : State => u.links.circuits) (fun _ _ _ => rfl) ht
    have hsent (c : Circuit) (g : Flit) : ((v.modLinks (fun l => { l with circuits := l.circuits ++ [c] })).sendFlit q 3 true 0 g).links.circuits =
        s.links.circuits ++ [c] := by
      rw [State.get_sendFlit (fun u : State => u.links.circuits) (fun _ _ _ _ _ _ => rfl) (fun _ _ _ => rfl), ← hcircuits]
      rfl
    exact ⟨_, hi, _, hsent _ _, rfl, rfl, rfl, rfl⟩

/-! ### OPEN_ACK of through traffic and its deadline -/

/-- OPEN_ACK that no opening here waits for. -/
theorem completes_openAckThrough (h : s.links.openings.find? (fun o => o.bind.connId = flitAt f 1 4) = none) :
    (s.throughOf (s.bundleOf p) (flitAt f 1 4) = none → Completes (.openAck p f) s (fun t => t = s)) ∧
    (∀ c n, s.throughOf (s.bundleOf p) (flitAt f 1 4) = some (c, n) →
      (flitAt f 5 1 ≠ 0 → Completes (.openAck p f) s (fun t =>
        t = (s.dropCircuits (fun k => k.port = c.port && k.tag = c.tag)).sendFlit c.port 3 true 0 f)) ∧
      (flitAt f 5 1 = 0 → s.takeTag c.port = none → Completes (.openAck p f) s (fun t =>
        t = (s.dropCircuits (fun k => k.port = c.port && k.tag = c.tag)).openAckOn c.port (flitAt f 1 4) 2 0)) ∧
      (∀ v out, flitAt f 5 1 = 0 → s.takeTag c.port = some (v, out) → Completes (.openAck p f) s (fun t =>
        ∃ r : Circuit, t.links.circuits = s.links.circuits ++ [r] ∧ r.port = s.bundleOf p ∧ r.tag = flitAt f 12 2 ∧
          r.connId = flitAt f 1 4 ∧ r.dest = .through c.port out))) := by
  have hi : exec (.openAck p f) s = Machine.quiet s (s.openAckArrives p f) := rfl
  unfold State.openAckArrives at hi
  dsimp only at hi
  rw [h] at hi
  dsimp only at hi
  have hdrop {β : Type} (get : State → β) (hlinks : ∀ (u : State) l, get { u with links := l } = get u) (test : Circuit → Bool) :
      get (s.dropCircuits test) = get s := State.get_dropCircuits get (fun _ _ _ => hlinks _ _) (fun _ _ => hlinks _ _) s test
  refine ⟨fun hnone => ?_, fun c n hsome => ⟨fun hst => ?_, fun hst ht => ?_, fun v out hst ht => ?_⟩⟩
  · rw [hnone] at hi
    exact ⟨_, hi.trans (quiet_eq rfl rfl), rfl⟩
  · rw [hsome] at hi
    dsimp only at hi
    rw [if_pos hst] at hi
    exact completes_sendFlit c.port 3 hi (hdrop State.pending (fun _ _ => rfl) _) (hdrop State.mem (fun _ _ => rfl) _) rfl
  · rw [hsome] at hi
    dsimp only at hi
    rw [if_neg (not_not_intro hst), ht] at hi
    exact completes_openAckOn hi (hdrop State.pending (fun _ _ => rfl) _) (hdrop State.mem (fun _ _ => rfl) _)
  · rw [hsome] at hi
    dsimp only at hi
    rw [if_neg (not_not_intro hst), ht] at hi
    dsimp only at hi
    have hcircuits : v.links.circuits = s.links.circuits := State.get_takeTag (fun u : State => u.links.circuits) (fun _ _ _ => rfl) ht
    have hsent (r : Circuit) (g : Flit) : ((v.modLinks (fun l => { l with circuits := l.circuits ++ [r] })).sendFlit c.port 3 true 0 g).links.circuits =
        s.links.circuits ++ [r] := by
      rw [State.get_sendFlit (fun u : State => u.links.circuits) (fun _ _ _ _ _ _ => rfl) (fun _ _ _ => rfl), ← hcircuits]
      rfl
    exact ⟨_, hi, _, hsent _ _, rfl, rfl, rfl, rfl⟩

/-- A row after which an opening has failed. -/
theorem completes_failed {i : Instr} {o : Opening} {u : State} (hi : exec i s = Machine.quiet s u) (hu : s.Failed o u) :
    Completes i s (s.Failed o) := by
  obtain ⟨hplain, hmirror⟩ := hu
  exact ⟨_, hi, hplain, hmirror⟩

/-- At the deadline of an opening it fails, and not before (10 R267). -/
theorem completes_connOpenTimeout (id : BitVec 32) (t0 : Nat) :
    (s.links.openings.find? (fun o => o.bind.connId = id.toNat) = none →
      Completes (.connOpenTimeout id t0) s (fun t => t = s.atTick t0)) ∧
    (∀ o, s.links.openings.find? (fun o => o.bind.connId = id.toNat) = some o →
      (o.deadline ≤ (s.atTick t0).now → Completes (.connOpenTimeout id t0) s (s.Failed o)) ∧
      ((s.atTick t0).now < o.deadline → Completes (.connOpenTimeout id t0) s (fun t => t = s.atTick t0))) := by
  have hi : exec (.connOpenTimeout id t0) s = execConnOpenTimeout id t0 s := rfl
  have hlinks : (s.atTick t0).links = s.links := rfl
  unfold execConnOpenTimeout at hi
  dsimp only at hi
  rw [hlinks] at hi
  refine ⟨fun hnone => ?_, fun o hsome => ⟨fun hdue => ?_, fun hearly => ?_⟩⟩
  · rw [hnone] at hi
    exact completes_atTick hi rfl
  · rw [hsome] at hi
    dsimp only at hi
    rw [if_pos hdue] at hi
    obtain ⟨hplain, hmirror⟩ := State.openFails_failed (s := s.atTick t0) o stNoPeer
    exact completes_failed hi ⟨hplain, hmirror⟩
  · rw [hsome] at hi
    exact completes_atTick hi (if_neg (Nat.not_le.mpr hearly))

/-- OPEN_ACK of an opening under way. -/
theorem completes_openAck {o : Opening} (h : s.links.openings.find? (fun o => o.bind.connId = flitAt f 1 4) = some o) :
    (flitAt f 5 1 = 0 →
      (o.waiting.find? (s.acks o (s.bundleOf p)) = none → Completes (.openAck p f) s (fun t => t = s)) ∧
      (∀ i, o.waiting.find? (s.acks o (s.bundleOf p)) = some i →
        Completes (.openAck p f) s (s.Acked o (s.bundleOf p) (flitAt f 12 2) i))) ∧
    (flitAt f 5 1 ≠ 0 → Completes (.openAck p f) s (s.Failed o)) := by
  have hi : exec (.openAck p f) s = Machine.quiet s (s.openAckArrives p f) := rfl
  unfold State.openAckArrives at hi
  dsimp only at hi
  rw [h] at hi
  dsimp only at hi
  refine ⟨fun hst => ?_, fun hst => ?_⟩
  · rw [if_pos hst] at hi
    refine ⟨fun hnone => ?_, fun i hsome => ?_⟩
    · rw [State.openAcked_eq, hnone] at hi
      exact ⟨_, hi.trans (quiet_eq rfl rfl), rfl⟩
    · obtain ⟨hcircuit, hwaits, hlast⟩ := State.openAcked_acked (rev := flitAt f 12 2) hsome
      exact ⟨_, hi, hcircuit, hwaits, hlast⟩
  · rw [if_neg hst] at hi
    exact completes_failed hi (State.openFails_failed o _)

end

/-- Settles O49: openings, their circuits and their ends change as each flit says, and a break reaches every end of its
connection. -/
theorem connectionsOpenAndBreak : Obligations.ConnectionsOpenAndBreak := by
  intro s p t0 f
  refine ⟨fun hcode => ?_, fun hcode => completes_openThrough hcode, fun o ho => ?_, fun hnone => completes_openAckThrough hnone,
    fun id => ?_, fun hpair hunread row hrow => ?_⟩
  · obtain ⟨hrefused, hfull⟩ := completes_openRefused (p := p) hcode
    exact ⟨hrefused, hfull, fun v rev hcheck ht => ⟨completes_openCore hcode hcheck ht, completes_openBulk hcode hcheck ht⟩⟩
  · obtain ⟨hacked, hfailed⟩ := completes_openAck (p := p) ho
    refine ⟨fun hst => ?_, fun hst => (hfailed hst).mono fun t ht => ⟨ht.plain, ht.mirror⟩⟩
    obtain ⟨hnone, hsome⟩ := hacked hst
    exact ⟨hnone, fun i hi => (hsome i hi).mono fun t ht => ⟨ht.circuit, ht.waits, ht.last⟩⟩
  · obtain ⟨hnone, hsome⟩ := completes_connOpenTimeout (s := s) id t0
    refine ⟨hnone, fun o ho => ?_⟩
    obtain ⟨hdue, hearly⟩ := hsome o ho
    exact ⟨fun h => (hdue h).mono fun t ht => ⟨ht.plain, ht.mirror⟩, hearly⟩
  · refine (completes_partedHere hrow hpair fun k hk => ?_).mono fun t ht => ⟨ht.circuits, ht.bulk, ht.binds, fun x core ep hx hin =>
      ⟨ht.recv x core ep hx hin, ht.send x core ep hx hin⟩⟩
    obtain ⟨hreads, hdeferred, hweights⟩ := hunread k hk
    exact ⟨hreads, hdeferred, hweights⟩

end Sys2Proof.Machine
end

section
/-! Faults, resets and recoveries (15 R446-R459), and the obligation O58. -/
namespace Sys2Proof.Machine
open Sys2Proof

section
variable {s : State}

/-! ### A recovery begins (15 R448) -/

theorem State.eclipse_holds {u : Nat × Nat} {x : Nat} (hx : x ∈ s.affected u) : ((s.eclipse u).ctx x).holds.eclipse = true :=
  foldl_settles (get := fun t : State => (t.ctx x).holds.eclipse)
    (put := fun (t : State) y => t.modCtx y (fun c => { c with holds := { c.holds with eclipse := true } }))
    (fun t y ht => by
      by_cases hy : x = y
      · rw [← hy, State.ctx_modCtx_self]
      · rw [State.ctx_modCtx_other _ _ hy]
        exact ht)
    (fun t => by rw [State.ctx_modCtx_self]) hx s

theorem State.eclipse_recovery (u : Nat × Nat) : (s.eclipse u).recovery = s.recovery :=
  foldl_get_same (get := State.recovery)
    (put := fun (t : State) y => t.modCtx y (fun c => { c with holds := { c.holds with eclipse := true } })) (fun _ _ _ => rfl) s

/-- The recovery runs at step 2 and every affected context is held. -/
theorem State.beginRecovery_runs (r : Recovery) : (s.beginRecovery r).recovery.running = some { r with step := 2, since := s.now } ∧
    ∀ x ∈ s.affected r.area, ((s.beginRecovery r).ctx x).holds.eclipse = true := by
  obtain ⟨u, hu⟩ : ∃ u, u = (s.setRunning (some { r with step := 2, since := s.now })).raise 0x111 none r.target
    (eclipseData r.scope (maskOf ((s.setRunning (some { r with step := 2, since := s.now })).affected r.area))) := ⟨_, rfl⟩
  have hbegin : s.beginRecovery r = u.eclipse r.area := by
    rw [hu]
    rfl
  have hrunning : u.recovery.running = some { r with step := 2, since := s.now } := by rw [hu]; rfl
  have haffected : u.affected r.area = s.affected r.area := by rw [hu]; rfl
  rw [hbegin]
  exact ⟨by rw [State.eclipse_recovery, hrunning], fun x hx => State.eclipse_holds (haffected ▸ hx)⟩

/-- With no recovery running every fault starts its own (15 R456). -/
theorem State.orderFault_starts (h : s.recovery.running = none) (r : Recovery) : s.orderFault r = s.beginRecovery r := by
  have hverdict : s.verdict r.area = .start := by
    unfold State.verdict
    rw [h]
  unfold State.orderFault
  dsimp only
  rw [hverdict]

/-! ### RESET (15 R453) -/

theorem State.resetGo_starts (hrom : s.boot.rom = false) (h : s.recovery.running = none) (r : Recovery) :
    s.resetGo r = s.beginRecovery r := by
  have hverdict : s.verdict r.area = .start := by
    unfold State.verdict
    rw [h]
  unfold State.resetGo
  rw [hrom, hverdict]
  rfl

/-- The record of a RESET. -/
def resetRecord (a : Nat × Nat) (forced : Bool) (now ticket slot : Nat) : Recovery :=
  { kind := 0, scope := a.1, target := a.2, forced, tick := now, ticket, slot }

theorem Serves.resetCmd {m : Nat} {q : Cmd} {a : Nat × Nat} (ha : a = (argFld q 0 3, argFld q 4 12))
    (h : Serves s m q { op := 0x90, who := .owner, rom := true, arg := 0x1FFF7 }) (hrom : s.boot.rom = false)
    (hnone : s.recovery.running = none) (htarget : s.resetTarget a = true) (hscope : a.1 ≠ 2) :
    Completes (.resetCmd m q) s (fun t => ∃ r, t.recovery.running = some r ∧ r.scope = a.1 ∧ r.target = a.2 ∧ r.step = 2 ∧ r.kind = 0 ∧
      ∀ x ∈ s.affected a, (t.ctx x).holds.eclipse = true) := by
  have hkept {β : Type} (get : State → β) (hget : ∀ (u : State) l e, get { u with mbox := { u.mbox with slots := l, leaseEnd := e } } = get u) :
      get (s.entered m q 0x90) = get s := State.get_served get hget
  have hverdict (u : State) (hu : u.recovery.running = none) : u.verdict a = .start := by
    unfold State.verdict
    rw [hu]
  have hcheck (force : Bool) : (s.entered m q 0x90).resetCheck a force = (stOK, 0) := by
    rw [hkept (State.resetCheck · a force) fun _ _ _ => rfl]
    unfold State.resetCheck
    rw [hrom, htarget, hverdict s hnone]
    dsimp only
    rw [if_neg Bool.false_ne_true, if_neg (by decide), if_neg (by simp [hscope]), if_neg (by simp [hscope])]
  obtain ⟨v, hv⟩ : ∃ v, v = ((s.entered m q 0x90).defer m (noCtx q) 0x90 0
    (b2n (!(s.entered m q 0x90).boot.rom && (s.entered m q 0x90).verdict a = .absorb)) []).1 := ⟨_, rfl⟩
  have hdeferred {β : Type} (get : State → β) (h : ∀ (u : State) l n d e, get { u with mbox := { u.mbox with slots := l, tickets := n, deferred := d, leaseEnd := e } } = get u) :
      get v = get s := by
    rw [hv, State.get_deferred get (fun u l n d => h u l n d u.mbox.leaseEnd)]
    exact hkept get (fun u l e => h u l u.mbox.tickets u.mbox.deferred e)
  obtain ⟨r, hr⟩ : ∃ r, r = resetRecord a (bit q.arg.toNat 16) v.now ((s.entered m q 0x90).mbox.tickets + 1) m := ⟨_, rfl⟩
  have harea : r.area = a := by rw [hr]; rfl
  obtain ⟨hrunning, heclipse⟩ := State.beginRecovery_runs (s := v) r
  rw [harea, hdeferred (State.affected · a) (fun _ _ _ _ _ => rfl)] at heclipse
  have hgo : v.resetGo r = v.beginRecovery r :=
    State.resetGo_starts ((hdeferred (fun u => u.boot.rom) (fun _ _ _ _ _ => rfl)).trans hrom)
      ((hdeferred (fun u => u.recovery.running) (fun _ _ _ _ _ => rfl)).trans hnone) r
  have hserve : (if ((s.entered m q 0x90).resetCheck a (bit q.arg.toNat 16)).1 ≠ stOK then
      refuse (s.entered m q 0x90) ((s.entered m q 0x90).resetCheck a (bit q.arg.toNat 16)).1
        ((s.entered m q 0x90).resetCheck a (bit q.arg.toNat 16)).2
    else (s.entered m q 0x90).accept m (noCtx q) 0x90 0
      (b2n (!(s.entered m q 0x90).boot.rom && (s.entered m q 0x90).verdict a = .absorb)) [] (fun s t =>
        s.resetGo { kind := 0, scope := a.1, target := a.2, forced := bit q.arg.toNat 16, tick := s.now, ticket := t, slot := m })).1 =
      v.beginRecovery r := by
    rw [hcheck, if_neg (by decide), State.accept_noCtx, Defers]
    dsimp only
    rw [← hgo, hr, hv]
    rfl
  have hi : exec (.resetCmd m q) s = execResetCmd m q s := rfl
  unfold execResetCmd at hi
  dsimp only at hi
  rw [← ha, show argFld q 0 3 = a.1 by rw [ha], show argFld q 4 12 = a.2 by rw [ha]] at hi
  refine h.leadsDone (P := fun t => ∃ r, t.recovery.running = some r ∧ r.scope = a.1 ∧ r.target = a.2 ∧ r.step = 2 ∧ r.kind = 0 ∧
    ∀ x ∈ s.affected a, (t.ctx x).holds.eclipse = true) hi hserve ⟨_, hrunning, by rw [hr]; rfl, by rw [hr]; rfl, rfl, by rw [hr]; rfl, heclipse⟩
    (fun w j n p hw => ?_) (fun _ hw => hw)
  have hrecovery : (w.respond j n p).recovery = w.recovery := State.get_respond w j n p State.recovery fun _ _ => rfl
  simpa only [hrecovery, State.respond_ctx] using hw

/-! ### Faults (15 R454) -/

section
variable {t0 kind scope target : Nat} {cores : List Nat}

/-- Without AUTO_RECOVER a fault is reported and nothing more. -/
theorem State.fault_reported (h : s.setting 0x71 0 = 0) :
    s.fault kind scope target cores = s.raise 0x110 none target (pack [(4, kind), (2, scope)]) := by
  have hset (u : State) (n d : Nat) : (u.raise 0x110 none n d).setting 0x71 0 = u.setting 0x71 0 := rfl
  unfold State.fault
  dsimp only
  rw [hset, h]
  rfl

/-- With AUTO_RECOVER the recovery of a lone fault begins. -/
theorem State.fault_recovers (h : s.setting 0x71 0 = 1) (hfirmware : s.firmwareRuns = true) (hnone : s.recovery.running = none) :
    ∃ r, (s.fault kind scope target cores).recovery.running = some r ∧ r.kind = kind ∧ r.scope = scope ∧ r.target = target ∧ r.step = 2 := by
  obtain ⟨u, hu⟩ : ∃ u, u = s.raise 0x110 none target (pack [(4, kind), (2, scope)]) := ⟨_, rfl⟩
  have hset : u.setting 0x71 0 = 1 := by rw [hu]; exact h
  have hruns : u.firmwareRuns = true := by rw [hu]; exact hfirmware
  have hrunning : u.recovery.running = none := by rw [hu]; exact hnone
  unfold State.fault
  dsimp only
  rw [← hu, hset, hruns, if_pos (show (decide (1 = 1) && true) = true from rfl), State.orderFault_starts hrunning]
  obtain ⟨hbegun, -⟩ := State.beginRecovery_runs (s := u) { kind, scope, target, forced := true, tick := u.now, cores }
  exact ⟨_, hbegun, rfl, rfl, rfl, rfl⟩

end

/-! ### The eclipse (15 R448, R449) -/

theorem State.settleAll_settled {l : List Nat} (h : ∀ x ∈ l, ∀ z, (s.ctx x).freeze = some z → z.settled = true) : s.settleAll l = s := by
  refine foldl_stays fun x hx => ?_
  unfold State.settleFreeze
  cases hz : (s.ctx x).freeze with
  | none => rfl
  | some z => exact if_pos (h x hx z hz)

theorem Ctx.cut_stands (c : Ctx) (now : Nat) : (c.cut now).stands = true := by
  unfold Ctx.cut
  split
  next h => exact h
  next => simp [Ctx.stands]

theorem State.cutCtx_ctx (x y : Nat) : (s.cutCtx x).ctx y = if y = x then (s.ctx x).cut s.now else s.ctx y := by
  unfold State.cutCtx
  rw [State.mapCores_ctx]
  split
  next h => rw [h, State.ctx_modCtx_self]
  next h => rw [State.ctx_modCtx_other _ _ h]

/-- A cut of contexts lets what stood stand, and what it names. -/
theorem State.cutAll_stands {l : List Nat} {x : Nat} (h : x ∈ l ∨ (s.ctx x).stands = true) :
    ((l.foldl State.cutCtx s).ctx x).stands = true := by
  have hkeep (u : State) (y : Nat) (hu : (u.ctx x).stands = true) : ((u.cutCtx y).ctx x).stands = true := by
    rw [State.cutCtx_ctx]
    split
    · exact Ctx.cut_stands ..
    · exact hu
  rcases h with h | h
  · exact foldl_settles (get := fun u : State => (u.ctx x).stands) hkeep (fun u => by rw [State.cutCtx_ctx, if_pos rfl]; exact Ctx.cut_stands ..) h s
  · exact foldl_keeps (P := fun u : State => (u.ctx x).stands = true) hkeep l h

theorem State.cutAll_recovery (l : List Nat) : (l.foldl State.cutCtx s).recovery = s.recovery := by
  refine foldl_get_same (get := State.recovery) (fun x _ u => ?_) s
  exact foldl_get_same (get := State.recovery) (put := fun (v : State) p => v.modCoreOf x p (fun k =>
    { k with pipe := [], vpipe := [], opland := [], drainIn := [] })) (fun _ _ _ => rfl) (u.modCtx x (fun c => c.cut u.now))

/-- Out of time a forced recovery cuts every context that does not stand. -/
theorem State.budgetOut_cuts {r : Recovery} (hr : s.recovery.running = some r) (hforced : r.forced = true)
    (hsettled : ∀ x ∈ s.affected r.area, ∀ z, (s.ctx x).freeze = some z → z.settled = true)
    (hmoves : ∃ x ∈ s.affected r.area, (s.ctx x).stands = false) :
    (∀ x ∈ s.affected r.area, ((s.budgetOut r).ctx x).stands = true) ∧
      ∃ k, (s.budgetOut r).recovery.running = some { r with cutMask := k } := by
  have heclipsed : s.eclipsed r.area = false := by
    obtain ⟨x, hx, hstands⟩ := hmoves
    refine List.all_eq_false.mpr ⟨x, hx, by simp [hstands]⟩
  obtain ⟨l, hl⟩ : ∃ l, l = (s.affected r.area).filter (fun x => !(s.ctx x).stands) := ⟨_, rfl⟩
  have hbudget : s.budgetOut r = (l.foldl State.cutCtx s).modRunning (fun r => { r with cutMask := r.cutMask ||| maskOf l }) := by
    unfold State.budgetOut
    dsimp only
    rw [State.settleAll_settled hsettled, heclipsed, hforced, if_neg Bool.false_ne_true, hl]
    exact if_neg (by simp)
  rw [hbudget]
  refine ⟨fun x hx => State.cutAll_stands ?_, r.cutMask ||| maskOf l, ?_⟩
  · cases hstands : (s.ctx x).stands with
    | true => exact .inr rfl
    | false => exact .inl (hl ▸ List.mem_filter.mpr ⟨hx, by rw [hstands]; rfl⟩)
  · show ((l.foldl State.cutCtx s).recovery.running.map (fun r => { r with cutMask := r.cutMask ||| maskOf l })) = _
    rw [State.cutAll_recovery, hr]
    rfl

/-! ### The reset point of a core (15 R450) -/

/-- With nothing queued the list of those that wait stays as it is. -/
theorem State.dropQueued_none (h : s.recovery.queue = []) (u : Nat × Nat) : (s.dropQueued u).recovery.running = s.recovery.running ∧
    (s.dropQueued u).cores = s.cores ∧ (s.dropQueued u).mem = s.mem := by
  refine ⟨?_, rfl, rfl⟩
  show s.recovery.running.map (fun r => r.also ((s.recovery.queue.filter (fun v => within v.area u)).flatMap (·.cores))) = _
  rw [h]
  cases s.recovery.running <;> rfl

/-- The state in which the reset of a core has cleared it. -/
def State.coreCleared (s : State) (r : Recovery) : State := (s.idleCore r.target).clearCoreMem r.target

theorem State.resetPoint_core {r : Recovery} (hscope : r.scope = 0) (hnone : s.affected r.area = []) : s.resetPoint r =
    ((s.coreCleared r).dropQueued r.area).modRunning (fun r => { r with step := 5 }) := by
  have hcores : unitCores r.area = [r.target] := by
    unfold unitCores Recovery.area
    rw [hscope]
    rfl
  unfold State.resetPoint
  dsimp only
  rw [hnone, hcores, hscope, if_neg (by decide)]
  rfl

/-- A core that no context uses is reset to its first state. -/
theorem State.resetPoint_clears {r : Recovery} (hscope : r.scope = 0) (hnone : s.affected r.area = []) (hqueue : s.recovery.queue = []) :
    (s.resetPoint r).recovery.running = s.recovery.running.map (fun r => { r with step := 5 }) ∧
    (s.resetPoint r).coreAt r.target = {} ∧
    ∀ a, a < 524288 → Memory.byte (s.resetPoint r).mem (coreAddr r.target 0 + a) = 0 := by
  obtain ⟨hrunning, hcores, hmem⟩ := State.dropQueued_none (s := s.coreCleared r) hqueue r.area
  rw [State.resetPoint_core hscope hnone]
  refine ⟨?_, ?_, fun a ha => ?_⟩
  · show ((s.coreCleared r).dropQueued r.area).recovery.running.map _ = _
    rw [hrunning]
    rfl
  · show Tab.get {} ((s.coreCleared r).dropQueued r.area).cores r.target = {}
    rw [hcores]
    show Tab.get {} (s.cores.set {} r.target {}) r.target = {}
    exact Tab.get_set_self ..
  · have hlast (u : State) (f : Recovery → Recovery) : (u.modRunning f).mem = u.mem := rfl
    rw [hlast, hmem, State.coreCleared]
    unfold State.clearCoreMem
    rw [Memory.byte_clear, if_pos (by omega)]

/-- ECLIPSE_FROZEN of a core that no context uses. -/
theorem completes_eclipseFrozen {r : Recovery} (hr : s.recovery.running = some r) (hstep : r.step = 2) (hscope : r.scope = 0)
    (hnone : s.affected r.area = []) (hqueue : s.recovery.queue = []) : Completes (.eclipseFrozen) s (fun t =>
      t.recovery.running = some { r with step := 5 } ∧ t.coreAt r.target = {} ∧
      ∀ a, a < 524288 → Memory.byte t.mem (coreAddr r.target 0 + a) = 0) := by
  obtain ⟨w, hw⟩ : ∃ w, w = if r.cutMask = 0 then s else s.raise 0x112 none 0 r.cutMask := ⟨_, rfl⟩
  have hkept {β : Type} (get : State → β) (hraise : ∀ (u : State) c x n d, get (u.raise c x n d) = get u) : get w = get s := by
    rw [hw, apply_ite get, hraise, ite_self]
  have hnotice : w.resetNotice r = w := by
    have hports : portsOf r.area = [] := by
      unfold portsOf Recovery.area
      rw [hscope]
      rfl
    unfold State.resetNotice
    dsimp only
    rw [hports, hscope, if_neg (by decide)]
    rfl
  have hi : exec (.eclipseFrozen) s = execEclipseFrozen s := rfl
  unfold execEclipseFrozen at hi
  rw [hr] at hi
  dsimp only at hi
  have hsettle : s.settleAll [] = s := rfl
  have heclipsed : s.eclipsed r.area = true := by unfold State.eclipsed; rw [hnone]; rfl
  rw [if_pos hstep, hnone, hsettle, heclipsed, if_pos rfl, ← hw, hnotice, if_neg (by simp [hscope])] at hi
  obtain ⟨hrunning, hcore, hmem⟩ := State.resetPoint_clears (s := w.modRunning (fun r => { r with step := 3 })) hscope
    ((hkept (State.affected · r.area) (fun _ _ _ _ _ => rfl)).trans hnone)
    ((hkept (fun u => u.recovery.queue) (fun _ _ _ _ _ => rfl)).trans hqueue)
  refine ⟨_, hi, hrunning.trans ?_, hcore, hmem⟩
  show (w.recovery.running.map _).map _ = _
  rw [hkept State.recovery (fun _ _ _ _ _ => rfl), hr]
  rfl

/-! ### Restoring ends (15 R448, R458) -/

theorem State.nextSeq_finish (ticket st detail : Nat) : s.events.nextSeq ≤ (s.finish ticket st detail).events.nextSeq := by
  unfold State.finish
  split
  · exact Nat.le_refl _
  · exact Nat.le_succ _

theorem State.get_endResets {β : Type} (get : State → β) (hmbox : ∀ (u : State) b, get { u with mbox := b } = get u)
    (hevents : ∀ (u : State) e, get { u with events := e } = get u) (ticket st : Nat) : get (s.endResets ticket st) = get s :=
  foldl_get_same (get := get) (fun _ _ _ => State.get_finish get hmbox hevents ..) s

theorem State.nextSeq_endResets (ticket st : Nat) : s.events.nextSeq ≤ (s.endResets ticket st).events.nextSeq :=
  foldl_keeps (P := fun u : State => s.events.nextSeq ≤ u.events.nextSeq) (fun _ _ h => Nat.le_trans h (State.nextSeq_finish ..)) _ (Nat.le_refl _)

theorem State.liftEclipse_none (h : ∀ x, (s.ctx x).holds.eclipse = false) : s.liftEclipse = s := by
  refine foldl_stays fun x _ => ?_
  rw [h x]
  rfl

/-- RESET_RESTORE_DONE where no context is affected and nothing waits. -/
theorem completes_restoreDone {r : Recovery} (hr : s.recovery.running = some r) (hstep : r.step = 5) (hscope : r.scope ≠ 2)
    (hready : r.scope = 3 → s.boot.phase = 1) (hnone : r.scope ≠ 3 → s.affected r.area = []) (hqueue : s.recovery.queue = [])
    (hholds : ∀ x, (s.ctx x).holds.eclipse = false) : Completes (.resetRestoreDone) s (fun t =>
      t.recovery.running = none ∧ s.events.nextSeq < t.events.nextSeq) := by
  have hdone : (if r.scope = 3 then s else s.restoreDone r) = s := by
    split
    · rfl
    next h =>
      unfold State.restoreDone
      rw [hnone h, if_neg hscope]
      rfl
  obtain ⟨w, hw⟩ : ∃ w, w = ((s.stampCores r).setRunning none).raise 0x113 none r.target r.scope := ⟨_, rfl⟩
  have hrecovery : w.recovery.running = none ∧ w.recovery.queue = [] := by rw [hw]; exact ⟨rfl, hqueue⟩
  have hseq : w.events.nextSeq = s.events.nextSeq + 1 := by rw [hw, State.nextSeq_raise]; rfl
  have hctx (x : Nat) : w.ctx x = s.ctx x := by rw [hw]; rfl
  obtain ⟨v, hv⟩ : ∃ v, v = w.endResets r.ticket stOK := ⟨_, rfl⟩
  have hvrecovery : v.recovery = w.recovery := by rw [hv]; exact State.get_endResets State.recovery (fun _ _ => rfl) (fun _ _ => rfl) ..
  have hvctx (x : Nat) : v.ctx x = w.ctx x := by
    rw [hv]
    exact State.get_endResets (State.ctx · x) (fun _ _ => rfl) (fun _ _ => rfl) ..
  have hvseq : w.events.nextSeq ≤ v.events.nextSeq := hv ▸ State.nextSeq_endResets ..
  have hnext : v.startNext = v := by
    unfold State.startNext
    rw [hvrecovery, hrecovery.2]
  have hlift : v.liftIdle = v := by
    unfold State.liftIdle
    rw [State.liftEclipse_none (fun x => by rw [hvctx, hctx, hholds]), ite_self]
  have hi : exec (.resetRestoreDone) s = execResetRestoreDone s := rfl
  unfold execResetRestoreDone at hi
  rw [hr] at hi
  dsimp only at hi
  rw [if_neg (by simpa [hstep] using hready), hdone, ← hw, ← hv, hnext, hlift] at hi
  exact ⟨_, hi, by rw [hvrecovery]; exact hrecovery.1, show s.events.nextSeq < v.events.nextSeq by omega⟩

/-! ### Stages repeated for a scoped reset (15 R448) -/

section
variable {β : Type} (get : State → β) (hboot : ∀ (u : State) b, get { u with boot := b } = get u)
  (hraise : ∀ (u : State) c x n d, get (u.raise c x n d) = get u) (hflash : ∀ (u : State) v, get { u with flash := v } = get u)
include hboot hraise

theorem State.get_siteFails (s : State) (site typ : Nat) : get (s.siteFails site typ) = get s := by
  unfold State.siteFails
  split
  · rfl
  · exact (hraise ..).trans (hboot s _)

theorem State.get_stackFails (s : State) (d typ : Nat) : get (s.stackFails d typ) = get s := by
  unfold State.stackFails
  split
  · rfl
  · exact (hraise ..).trans (hboot s _)

theorem State.get_baseFails (s : State) (q : Nat) : get (s.baseFails q) = get s := by
  unfold State.baseFails
  split
  · rfl
  · exact (hraise ..).trans (hboot s _)

theorem State.get_coreDefect (s : State) (e : BitVec 64) : get (s.coreDefect e) = get s := by
  have hmerged : get (s.modBoot (fun o => { o with merged := s.boot.merged ++ [e] })) = get s := hboot s _
  unfold State.coreDefect
  dsimp only
  rw [apply_ite get, apply_ite get, apply_ite get, hmerged, State.get_siteFails get hboot hraise, ite_self, ite_self, ite_self]

theorem State.get_absorbDefect (s : State) (e : BitVec 64) : get (s.absorbDefect e) = get s := by
  have hmerged : get (s.modBoot (fun o => { o with merged := s.boot.merged ++ [e] })) = get s := hboot s _
  unfold State.absorbDefect
  dsimp only
  split <;> simp only [apply_ite get, hmerged, State.get_siteFails get hboot hraise, State.get_stackFails get hboot hraise,
    State.get_baseFails get hboot hraise, State.get_coreDefect get hboot hraise, ite_self]

include hflash

/-- What neither the boot record, the flash nor an event changes, defects found leave (15 R443). -/
theorem State.get_foundDefects (s : State) (l : List (BitVec 64)) (cause : Nat) : get (s.foundDefects l cause) = get s := by
  have hadd (u : State) (l : List (BitVec 64)) : get (u.addRepairs l) = get u := by
    unfold State.addRepairs
    dsimp only
    split
    · rfl
    · exact hflash u _
  have hmod (u : State) (n : Nat) : get (u.modBoot (fun o => { o with added := o.added + n })) = get u := hboot u _
  unfold State.foundDefects
  dsimp only
  rw [hadd, hmod]
  exact foldl_get_same (get := get) (fun e _ u => State.get_absorbDefect get hboot hraise u e) s

theorem State.get_selfTestFail (s : State) (n : Nat) : get (s.selfTestFail n) = get s := by
  have hfails (u : State) : get (u.modBoot (fun o => { o with fails := o.fails + 1 })) = get u := hboot u _
  unfold State.selfTestFail
  dsimp only
  rw [apply_ite get, State.get_foundDefects get hboot hraise hflash, hraise, hfails, ite_self]

theorem State.get_restoreFound (s : State) (u : Nat × Nat) (r : StageReport) : get (s.restoreFound u r) = get s :=
  (State.get_foundDefects get hboot hraise hflash _ _ _).trans
    (foldl_get_same (get := get) (fun n _ v => State.get_selfTestFail get hboot hraise hflash v n) s)

end

/-- BRINGUP_STAGE_END while a scoped reset restores. -/
theorem completes_restoring {r : Recovery} (hr : s.recovery.running = some r) (hstep : r.step = 5) (hscope : r.scope ≠ 3)
    (hphase : s.boot.phase = 1) (found : StageReport) : Completes (.bringupStageEnd found) s (fun t =>
      t.recovery.running = some r ∧ (found.failed = [] → found.defects = [] → t.repairs = s.repairs ∧ t.boot = s.boot)) := by
  have hnot : s.bringingUp = false := by
    unfold State.bringingUp
    rw [hphase]
    simp
  have hrestoring : s.restoring = some r.area := by
    unfold State.restoring
    rw [hr]
    exact congrArg (Option.map Recovery.area) (if_pos (by simp [hstep, hscope]))
  have hi : exec (.bringupStageEnd found) s = execBringupStageEnd found s := rfl
  unfold execBringupStageEnd at hi
  rw [hnot, hrestoring, if_neg Bool.false_ne_true] at hi
  dsimp only at hi
  have hrecovery : (s.restoreFound r.area found).recovery = s.recovery :=
    State.get_restoreFound State.recovery (fun _ _ => rfl) (fun _ _ _ _ _ => rfl) (fun _ _ => rfl) ..
  refine ⟨_, hi, (congrArg Recoveries.running hrecovery).trans hr, fun hfailed hdefects => ?_⟩
  have hsame : s.restoreFound r.area found = s := by
    unfold State.restoreFound
    rw [hfailed, hdefects]
    exact State.foundDefects_nil 3
  rw [hsame]
  exact ⟨rfl, rfl⟩

end

/-! ### Rows of faults -/

section
variable {s : State} {t0 : Nat}

/-- A fault that is seen. -/
theorem State.faultIf_seen {kind scope target : Nat} (hruns : s.mcRuns = true) (hpower : s.power.compute = true) :
    s.faultIf true kind scope target = s.fault kind scope target [] := by
  unfold State.faultIf
  rw [hruns, hpower]
  rfl

/-- A fault that is reported alone. -/
theorem completes_reported {i : Instr} {kind scope target : Nat} {cores : List Nat} (hset : s.setting 0x71 0 = 0)
    (hi : exec i s = Machine.done s ((s.atTick t0).fault kind scope target cores)) :
    Completes i s (fun t => t = (s.atTick t0).raise 0x110 none target (pack [(4, kind), (2, scope)])) := by
  rw [State.fault_reported (s := s.atTick t0) hset] at hi
  exact ⟨_, hi.trans (done_eq rfl), rfl⟩

/-- A fault that the firmware recovers from. -/
theorem completes_recovers {i : Instr} {kind scope target : Nat} {cores : List Nat} (hset : s.setting 0x71 0 = 1)
    (hfirmware : s.firmwareRuns = true) (hnone : s.recovery.running = none)
    (hi : exec i s = Machine.done s ((s.atTick t0).fault kind scope target cores)) : Completes i s (fun t => ∃ r,
      t.recovery.running = some r ∧ r.kind = kind ∧ r.scope = scope ∧ r.target = target ∧ r.step = 2) := by
  have hfault := State.fault_recovers (s := s.atTick t0) (kind := kind) (scope := scope) (target := target) (cores := cores)
    hset hfirmware hnone
  generalize (s.atTick t0).fault kind scope target cores = u at hi hfault
  exact ⟨_, hi, hfault⟩

section
variable (hruns : s.mcRuns = true) (hpower : s.power.compute = true)
include hruns hpower

/-- A core's fault, where the core does not fail again within a second. -/
theorem coreFault_faults {c : Nat} (hc : c < 1152) (hagain : (s.atTick t0).faultsAgain c = false ∨ s.setting 0x71 0 ≠ 1) :
    exec (.coreFault c t0) s = Machine.done s ((s.atTick t0).fault 1 0 c [c / 72 * 80 + (s.atTick t0).physical c]) := by
  have hi : exec (.coreFault c t0) s = execCoreFault c t0 s := rfl
  have hseen : ((s.atTick t0).mcRuns && (s.atTick t0).power.compute) = true := by
    have h : ((s.atTick t0).mcRuns && (s.atTick t0).power.compute) = (s.mcRuns && s.power.compute) := rfl
    rw [h, hruns, hpower]
    rfl
  have hset : (s.atTick t0).setting 0x71 0 = s.setting 0x71 0 := rfl
  have hnot : ¬((s.atTick t0).faultsAgain c && (s.atTick t0).setting 0x71 0 = 1) = true := by
    rw [hset]
    rcases hagain with h | h <;> simp [h]
  unfold execCoreFault at hi
  dsimp only at hi
  rw [hseen, if_neg (by simp [hc]), if_neg hnot] at hi
  exact hi

theorem faultIf_faults {ok : Bool} (kind scope target : Nat) (hok : ok = true) :
    (s.atTick t0).faultIf ok kind scope target = (s.atTick t0).fault kind scope target [] := by
  rw [hok]
  exact State.faultIf_seen (s := s.atTick t0) hruns hpower

theorem clusterFault_faults {d k : Nat} (hd : d < 16) (hk : k < 9) :
    exec (.clusterFault d k t0) s = Machine.done s ((s.atTick t0).fault 2 1 (9 * d + k) []) :=
  congrArg (Machine.done s) (faultIf_faults hruns hpower 2 1 (9 * d + k) (by simp [hd, hk]))

theorem seamFault_faults : exec (.seamFault t0) s = Machine.done s ((s.atTick t0).fault 6 3 0 []) :=
  congrArg (Machine.done s) (faultIf_faults hruns hpower 6 3 0 rfl)

end

/-- MC_WATCHDOG resets the module, its event the first of the new ring. -/
theorem completes_mcWatchdog (hruns : s.mcRuns = true) : Completes (.mcWatchdog t0) s (fun t => t.ctxs = [] ∧ t.cores = [] ∧ t.mem = [] ∧
    t.boot = {} ∧ t.events.nextSeq = 2 ∧ t.fuses = s.fuses ∧ t.ledger.held = s.ledger.held) := by
  have hi : exec (.mcWatchdog t0) s = execMcWatchdog t0 s := rfl
  have hruns' : (s.atTick t0).mcRuns = true := hruns
  unfold execMcWatchdog at hi
  rw [hruns', if_pos rfl] at hi
  exact ⟨_, hi, rfl, rfl, rfl, rfl, rfl, rfl, rfl⟩

/-- ECLIPSE_BUDGET_EXPIRY of a forced recovery. -/
theorem completes_eclipseBudget {r : Recovery} (hr : s.recovery.running = some r) (hstep : r.step = 2) (hforced : r.forced = true)
    (hsettled : ∀ x ∈ s.affected r.area, ∀ z, (s.ctx x).freeze = some z → z.settled = true)
    (hmoves : ∃ x ∈ s.affected r.area, (s.ctx x).stands = false) :
    (r.since + s.setting 0x70 0 ≤ (s.atTick t0).now → Completes (.eclipseBudgetExpiry t0) s (fun t =>
      (∀ x ∈ s.affected r.area, (t.ctx x).stands = true) ∧ ∃ k, t.recovery.running = some { r with cutMask := k })) ∧
    ((s.atTick t0).now < r.since + s.setting 0x70 0 → Completes (.eclipseBudgetExpiry t0) s (fun t => t = s.atTick t0)) := by
  have hi : exec (.eclipseBudgetExpiry t0) s = execEclipseBudgetExpiry t0 s := rfl
  have hrunning : (s.atTick t0).recovery.running = some r := hr
  have hset : (s.atTick t0).setting 0x70 0 = s.setting 0x70 0 := rfl
  unfold execEclipseBudgetExpiry at hi
  dsimp only at hi
  rw [hrunning] at hi
  dsimp only at hi
  rw [hset] at hi
  refine ⟨fun hdue => ?_, fun hearly => ?_⟩
  · rw [if_pos (by simp [hstep, hdue])] at hi
    have hcuts := State.budgetOut_cuts (s := s.atTick t0) hrunning hforced hsettled hmoves
    have haffected : (s.atTick t0).affected r.area = s.affected r.area := rfl
    rw [haffected] at hcuts
    generalize (s.atTick t0).budgetOut r = u at hi hcuts
    exact ⟨_, hi, hcuts⟩
  · rw [if_neg (by simp [hearly])] at hi
    exact ⟨_, hi.trans (done_eq rfl), rfl⟩

end

/-- Settles O58: with no recovery running a fault starts its own; the stages of one that runs end as what they find allows. -/
theorem recoveriesRun : Obligations.RecoveriesRun := by
  intro s m t0 q r
  refine ⟨fun h hrom hnone htarget hscope => h.resetCmd rfl hrom hnone htarget hscope, fun hruns hpower hset => ?_,
    fun hruns hpower hset hfirmware hnone => ?_, completes_mcWatchdog, fun hr => ?_⟩
  · have hseen (kind scope target : Nat) {ok : Bool} (hok : ok = true) :=
      congrArg (Machine.done s) (faultIf_faults (t0 := t0) hruns hpower kind scope target hok)
    refine ⟨fun c hc => completes_reported hset (coreFault_faults hruns hpower hc (.inr (by omega))),
      fun d k hd hk => completes_reported hset (clusterFault_faults hruns hpower hd hk),
      fun d hd => completes_reported hset (hseen 3 2 _ (decide_eq_true hd)), fun d hd => completes_reported hset (hseen 4 2 _ (decide_eq_true hd)),
      fun d hd => completes_reported hset (hseen 5 2 _ (decide_eq_true hd)), completes_reported hset (seamFault_faults hruns hpower)⟩
  · refine ⟨fun c hc hagain => completes_recovers hset hfirmware hnone (coreFault_faults hruns hpower hc (.inl hagain)),
      fun d k hd hk => completes_recovers hset hfirmware hnone (clusterFault_faults hruns hpower hd hk),
      (completes_recovers hset hfirmware hnone (seamFault_faults hruns hpower)).mono ?_⟩
    rintro t ⟨r, hrun, hkind, hscope, -, hstep⟩
    exact ⟨r, hrun, hkind, hscope, hstep⟩
  · exact ⟨fun hstep hscope hnone hqueue => completes_eclipseFrozen hr hstep hscope hnone hqueue,
      fun hstep hforced hsettled hmoves => completes_eclipseBudget hr hstep hforced hsettled hmoves,
      fun hstep hscope hready hnone hqueue hholds => completes_restoreDone hr hstep hscope hready hnone hqueue hholds,
      fun hstep hscope hphase found => completes_restoring hr hstep hscope hphase found⟩

end Sys2Proof.Machine
end
